-- ==== Sys2Proof/Word.lean ====
section
/-! DEFINITION. The word types of the model: bytes and 32-bit words (R8, R112, R120). -/

namespace Sys2Proof

/-- One byte. -/
abbrev Byte := BitVec 8

/-- A 32-bit word: a Marble scalar register, a register of BAR0, an instruction word. -/
abbrev Word := BitVec 32

/-- A 64-bit word: a Marble vector register, a 64-bit counter. -/
abbrev DWord := BitVec 64

end Sys2Proof
end

