-- ==== Sys2Proof/Syntax.lean ====
section
/-! DEFINITION. The commands the block takes: one constructor of Instr per row of spec/opcode_table.json, and the types
of their operands. A Marble instruction carries the Marble's global index and the fields of its encoding (R120), reserved
and unused fields included. A command-window row carries the window and the packet the host wrote (R220). A descriptor
row starts the oldest fetched descriptor of its queue (R209). An event row carries what its outside party supplies. -/

namespace Sys2Proof

/-- A Marble's global index, which is also the index of its scratch bank (R110). -/
abbrev MarbleId := BitVec 20
/-- A Cluster's global index: 128 × Bag + Cluster (R110). -/
abbrev ClusterId := BitVec 14
/-- A Zoetrope, and the Quad of the same index (R12). -/
abbrev ZoeId := Fin 32
/-- A partition (R238). -/
abbrev Part := Fin 12
/-- A hardware queue pair, and a doorbell page of BAR2 (R10, R196). -/
abbrev QueueId := Fin 4096
/-- A physical HBM pseudo-channel (R12). -/
abbrev PchId := Fin 192
/-- A PCIe request tag of the module (R194). -/
abbrev HostTag := Fin 1024
/-- A wavelength position: 128 × chiplet + 16 × fibre pair + grid line (R269, R312). -/
abbrev LaneId := Fin 1024
/-- A module of the group (R260). -/
abbrev ModuleId := Fin 64

/-- The two halves (R12). -/
inductive Half where
  | east | west
  deriving DecidableEq, Repr

/-- The two descriptor queues of a Zoetrope; in Twin mode queue 0 runs tile A and queue 1 tile B (R34, R47). -/
inductive Stream where
  | s0 | s1
  deriving DecidableEq, Repr

/-- The two Marionettes (R12). -/
inductive Mrt where
  | m0 | m1
  deriving DecidableEq, Repr

/-- The two guest-die sites (R12). -/
inductive Site where
  | g0 | g1
  deriving DecidableEq, Repr

/-- The two interlock channels (R307). -/
inductive Channel where
  | a | b
  deriving DecidableEq, Repr

/-- A PCIe function and its command window: the PF, or the VF that serves partition p (R191, R219). -/
inductive Fn where
  | pf
  | vf (p : Part)
  deriving DecidableEq, Repr

/-- The kind of an access to a register or a port. -/
inductive Access where
  | read | write
  deriving DecidableEq, Repr

/-- Instruction format R of R120. -/
structure FmtR where
  p : BitVec 2
  d : BitVec 5
  a : BitVec 5
  b : BitVec 5
  deriving DecidableEq, Repr

/-- Instruction format I of R120. -/
structure FmtI where
  p : BitVec 2
  d : BitVec 5
  a : BitVec 5
  imm : BitVec 14
  deriving DecidableEq, Repr

/-- Instruction format U of R120. -/
structure FmtU where
  p : BitVec 2
  d : BitVec 5
  imm : BitVec 19
  deriving DecidableEq, Repr

/-- Instruction format B of R120. -/
structure FmtB where
  p : BitVec 2
  a : BitVec 5
  b : BitVec 5
  off : BitVec 14
  deriving DecidableEq, Repr

/-- Instruction format J of R120. -/
structure FmtJ where
  p : BitVec 2
  off : BitVec 24
  deriving DecidableEq, Repr

/-- Instruction format C of R120; `imm` holds bits [13:0], in which CMP names b in bits [13:9]. -/
structure FmtC where
  p : BitVec 2
  pd : BitVec 2
  cond : BitVec 3
  a : BitVec 5
  imm : BitVec 14
  deriving DecidableEq, Repr

/-- Instruction format V of R120. -/
structure FmtV where
  p : BitVec 2
  vd : BitVec 3
  va : BitVec 3
  vb : BitVec 3
  m : BitVec 5
  deriving DecidableEq, Repr

/-- The packet a host writes into a command window before CMD_GO (R219, R220). -/
structure Packet where
  flags : Byte
  plen : BitVec 12
  tag : Word
  params : List Byte
  deriving DecidableEq, Repr

/-- What a PCIe completion for a module read says (R212, R214). -/
inductive CplStatus where
  | ok | ur | ca | poisoned
  deriving DecidableEq, Repr

/-- What the detectors and taps measure in a pilot window (R94 to R96): the residuals of the pass, the coupler farthest from
its set point with its error in units of 0.1 %, and the power at the mode-coupler taps of the 388 channels (0 to 259 weight,
260 to 387 activation). -/
structure PilotResult where
  phRms : Byte
  phMax : Byte
  balRms : Byte
  balMax : Byte
  worst : BitVec 10
  worstErr : Byte
  taps : List Nat
  deriving DecidableEq, Repr

/-- What a full calibration or a reconfiguration finds on a Zoetrope (R102, R104): the verification pass, whether the test-set
error keeps R68, the dead cells (row, column), the channels that failed, the channels that fail although their spare is mapped
in, the reference rows that work, the measured codes per π, whether steps D and E were run again for the convergence check. -/
structure CalResult where
  pass : PilotResult
  errorOk : Bool
  dead : List (Nat × Nat)
  failed : List Nat
  spareFailed : Bool
  refRows : BitVec 4
  hpiPh : BitVec 12
  hpiBal : BitVec 12
  again : Bool
  deriving DecidableEq, Repr

/-- A block that can be reset alone: the kinds of BLOCK_RESET (R228, R369). -/
inductive BlockKind where
  | zoetrope | bag | kaleidoscope | hbm | guest | interhub | marionette
  deriving DecidableEq, Repr

/-- The algorithms a requester offers in NEGOTIATE_ALGORITHMS that R254 lists. -/
structure SpdmAlgs where
  ecdsaP384 : Bool
  sha384 : Bool
  secp384r1 : Bool
  aes256Gcm : Bool
  deriving DecidableEq, Repr

/-- The header fields of an HGDI packet that the hub reads (R256). -/
structure GuestHdr where
  status : Byte
  tag : BitVec 10
  len : Nat
  win : BitVec 3
  off : BitVec 40
  deriving DecidableEq, Repr

/-- The content of a PROBE (R265). -/
structure ProbeMsg where
  serial : DWord
  modId : Nat
  gn : Nat
  plan : Nat
  epoch : Word
  deriving DecidableEq, Repr

/-- One codeword as received: 136 bytes, before decoding (R273). -/
structure Codeword where
  raw : List Byte
  deriving DecidableEq, Repr

/-- The sender's counts carried by a MARK for one virtual channel (R278). -/
structure Ledger where
  sent : Word
  credits : Word
  deriving DecidableEq, Repr

/-- A lane-health or lane-change message of a LINK codeword (R302, R295). -/
inductive LinkMsg where
  | none
  | limit (l : LaneId) (cause : BitVec 4)
  | drain (l : LaneId)
  deriving DecidableEq, Repr

/-- What the elastic buffer asks of a SKIP slot (R276). -/
inductive SkipAdj where
  | keep | delete | insert
  deriving DecidableEq, Repr

/-- The 32-byte Parcel header of a FIRST payload (R279). -/
structure ParcelHdr where
  xid : BitVec 16
  step : BitVec 16
  len : Nat
  daddr : Word
  dest : BitVec 7
  src : ModuleId
  payloads : Nat
  origin : Word
  deriving DecidableEq, Repr

/-- How a UCIe module trained (R318): the redundant lanes in use, whether the rate of 32 GT/s was reached, whether the die
type and stepping match, and whether the Molrun bridge was negotiated. -/
structure UcieReport where
  repaired : BitVec 3
  rateOk : Bool
  dieOk : Bool
  bridge : Bool
  deriving DecidableEq, Repr

/-- A core domain (R348). -/
inductive Domain where
  | quad (z : ZoeId)
  | uncore (h : Half)
  | lightAnalogue (h : Half)
  | lightDigital (h : Half)
  | hubCore (h : Half)
  | kaleidoscope (c : Fin 8)
  | hbm (s : Fin 6)
  | guest (g : Site)
  deriving DecidableEq, Repr

/-- The source of a fault: SRC_KIND and SRC_INDEX of R375 and R376. -/
structure FaultSource where
  kind : BitVec 8
  index : BitVec 16
  deriving DecidableEq, Repr

/-- What the SECDED check of a Toybox word finds (R373). -/
inductive EccResult where
  | clean | corrected | uncorrectable
  deriving DecidableEq, Repr

/-- The commands of the block, in the order of spec/opcode_table.json. -/
inductive Instr where
  /-- ADD: Marble scalar add of two registers, wrapping modulo 2^32 and setting OVF on wrap (R121) -/
  | add (n : MarbleId) (f : FmtR)
  /-- SUB: Marble scalar subtract of two registers, wrapping modulo 2^32 and setting OVF on wrap (R121) -/
  | sub (n : MarbleId) (f : FmtR)
  /-- AND: Marble scalar bitwise AND of two registers (R121) -/
  | and (n : MarbleId) (f : FmtR)
  /-- OR: Marble scalar bitwise OR of two registers (R121) -/
  | or (n : MarbleId) (f : FmtR)
  /-- XOR: Marble scalar bitwise XOR of two registers (R121) -/
  | xor (n : MarbleId) (f : FmtR)
  /-- SLL: Marble scalar shift left logical by b[4:0] (R121) -/
  | sll (n : MarbleId) (f : FmtR)
  /-- SRL: Marble scalar shift right logical by b[4:0] (R121) -/
  | srl (n : MarbleId) (f : FmtR)
  /-- SRA: Marble scalar shift right arithmetic by b[4:0] (R121) -/
  | sra (n : MarbleId) (f : FmtR)
  /-- MUL: Marble scalar multiply giving the low 32 bits (R121) -/
  | mul (n : MarbleId) (f : FmtR)
  /-- MULH: Marble scalar multiply giving the signed high 32 bits (R121) -/
  | mulh (n : MarbleId) (f : FmtR)
  /-- MIN: Marble signed minimum of two registers (R121) -/
  | min (n : MarbleId) (f : FmtR)
  /-- MAX: Marble signed maximum of two registers (R121) -/
  | max (n : MarbleId) (f : FmtR)
  /-- MINU: Marble unsigned minimum of two registers (R121) -/
  | minu (n : MarbleId) (f : FmtR)
  /-- MAXU: Marble unsigned maximum of two registers (R121) -/
  | maxu (n : MarbleId) (f : FmtR)
  /-- CLZ: Marble count of leading zeros of a register (R121) -/
  | clz (n : MarbleId) (f : FmtR)
  /-- POPC: Marble count of set bits of a register (R121) -/
  | popc (n : MarbleId) (f : FmtR)
  /-- ADDI: Marble add of a sign-extended 14-bit immediate (R121) -/
  | addi (n : MarbleId) (f : FmtI)
  /-- ANDI: Marble AND with a zero-extended immediate (R121) -/
  | andi (n : MarbleId) (f : FmtI)
  /-- ORI: Marble OR with a zero-extended immediate (R121) -/
  | ori (n : MarbleId) (f : FmtI)
  /-- XORI: Marble XOR with a zero-extended immediate (R121) -/
  | xori (n : MarbleId) (f : FmtI)
  /-- SHI: Marble shift by immediate, kind chosen by imm[13:12] (R121) -/
  | shi (n : MarbleId) (f : FmtI)
  /-- LUI: Marble load of a 19-bit immediate shifted left by 13 (R121) -/
  | lui (n : MarbleId) (f : FmtU)
  /-- CMP: Marble compare of two registers into a predicate (R121) -/
  | cmp (n : MarbleId) (f : FmtC)
  /-- CMPI: Marble compare of a register with an immediate into a predicate (R121) -/
  | cmpi (n : MarbleId) (f : FmtC)
  /-- BEQ: Marble branch if equal (R121) -/
  | beq (n : MarbleId) (f : FmtB)
  /-- BNE: Marble branch if not equal (R121) -/
  | bne (n : MarbleId) (f : FmtB)
  /-- BLT: Marble branch if signed less than (R121) -/
  | blt (n : MarbleId) (f : FmtB)
  /-- BGE: Marble branch if signed greater or equal (R121) -/
  | bge (n : MarbleId) (f : FmtB)
  /-- BLTU: Marble branch if unsigned less than (R121) -/
  | bltu (n : MarbleId) (f : FmtB)
  /-- BGEU: Marble branch if unsigned greater or equal (R121) -/
  | bgeu (n : MarbleId) (f : FmtB)
  /-- BP: Marble branch on a predicate bit matching a sense (R121) -/
  | bp (n : MarbleId) (f : FmtB)
  /-- JAL: Marble jump and link into m31 (R121) -/
  | jal (n : MarbleId) (f : FmtJ)
  /-- JR: Marble jump to a register address, linking into d (R121) -/
  | jr (n : MarbleId) (f : FmtR)
  /-- LOOP: Marble starts a level-0 or level-1 hardware loop, stopping with cause 2 when the level rule is broken (R121) -/
  | loop (n : MarbleId) (f : FmtI)
  /-- LDB: Marble local load of a sign-extended byte (R126) -/
  | ldb (n : MarbleId) (f : FmtI)
  /-- LDBU: Marble local load of a zero-extended byte (R126) -/
  | ldbu (n : MarbleId) (f : FmtI)
  /-- LDH: Marble local load of a sign-extended halfword (R126) -/
  | ldh (n : MarbleId) (f : FmtI)
  /-- LDHU: Marble local load of a zero-extended halfword (R126) -/
  | ldhu (n : MarbleId) (f : FmtI)
  /-- LDW: Marble local load of a word (R126) -/
  | ldw (n : MarbleId) (f : FmtI)
  /-- STB: Marble local store of a byte (R126) -/
  | stb (n : MarbleId) (f : FmtI)
  /-- STH: Marble local store of a halfword (R126) -/
  | sth (n : MarbleId) (f : FmtI)
  /-- STW: Marble local store of a word (R126) -/
  | stw (n : MarbleId) (f : FmtI)
  /-- VLD: Marble local load of 8 bytes into a vector register (R126) -/
  | vld (n : MarbleId) (f : FmtI)
  /-- VLD2: Marble local load of 16 bytes into an even vector pair (R126) -/
  | vld2 (n : MarbleId) (f : FmtI)
  /-- VST: Marble local store of 8 predicated bytes from a vector register (R126) -/
  | vst (n : MarbleId) (f : FmtI)
  /-- VST2: Marble local store of 16 predicated bytes from an even vector pair (R126) -/
  | vst2 (n : MarbleId) (f : FmtI)
  /-- VADD: Marble lane-wise wrapping add (R122) -/
  | vadd (n : MarbleId) (f : FmtV)
  /-- VSUB: Marble lane-wise wrapping subtract (R122) -/
  | vsub (n : MarbleId) (f : FmtV)
  /-- VADDS: Marble lane-wise saturating add (R122) -/
  | vadds (n : MarbleId) (f : FmtV)
  /-- VSUBS: Marble lane-wise saturating subtract (R122) -/
  | vsubs (n : MarbleId) (f : FmtV)
  /-- VMIN: Marble lane-wise signed minimum (R122) -/
  | vmin (n : MarbleId) (f : FmtV)
  /-- VMAX: Marble lane-wise signed maximum (R122) -/
  | vmax (n : MarbleId) (f : FmtV)
  /-- VMINU: Marble lane-wise unsigned minimum (R122) -/
  | vminu (n : MarbleId) (f : FmtV)
  /-- VMAXU: Marble lane-wise unsigned maximum (R122) -/
  | vmaxu (n : MarbleId) (f : FmtV)
  /-- VAND: Marble lane-wise AND (R122) -/
  | vand (n : MarbleId) (f : FmtV)
  /-- VOR: Marble lane-wise OR (R122) -/
  | vor (n : MarbleId) (f : FmtV)
  /-- VXOR: Marble lane-wise XOR (R122) -/
  | vxor (n : MarbleId) (f : FmtV)
  /-- VSHL: Marble lane shift left by m[m][2:0] (R122) -/
  | vshl (n : MarbleId) (f : FmtV)
  /-- VSHR: Marble lane logical shift right (R122) -/
  | vshr (n : MarbleId) (f : FmtV)
  /-- VSAR: Marble lane arithmetic shift right (R122) -/
  | vsar (n : MarbleId) (f : FmtV)
  /-- VMULL: Marble lane product, low 8 bits (R122) -/
  | vmull (n : MarbleId) (f : FmtV)
  /-- VMULH: Marble lane product, signed high 8 bits (R122) -/
  | vmulh (n : MarbleId) (f : FmtV)
  /-- VABS: Marble lane absolute value with saturation (R122) -/
  | vabs (n : MarbleId) (f : FmtV)
  /-- VSEL: Marble lane select by a named predicate (R122) -/
  | vsel (n : MarbleId) (f : FmtV)
  /-- VBC: Marble broadcast of a scalar byte to every lane (R122) -/
  | vbc (n : MarbleId) (f : FmtV)
  /-- VPERM: Marble lane permutation (R122) -/
  | vperm (n : MarbleId) (f : FmtV)
  /-- VMVL: Marble move of scalar bytes into lanes 0 to 3 (R122) -/
  | vmvl (n : MarbleId) (f : FmtV)
  /-- VMVH: Marble move of scalar bytes into lanes 4 to 7 (R122) -/
  | vmvh (n : MarbleId) (f : FmtV)
  /-- VTOL: Marble move of lanes 0 to 3 into a scalar register, per predicate (R122) -/
  | vtol (n : MarbleId) (f : FmtV)
  /-- VTOH: Marble move of lanes 4 to 7 into a scalar register, per predicate (R122) -/
  | vtoh (n : MarbleId) (f : FmtV)
  /-- VRSUM: Marble reduction sum of lanes added to a scalar register (R122) -/
  | vrsum (n : MarbleId) (f : FmtV)
  /-- VSARN: Marble lane arithmetic shift right with round to nearest even (R122) -/
  | vsarn (n : MarbleId) (f : FmtV)
  /-- VCMP: Marble lane compare into a predicate (R122) -/
  | vcmp (n : MarbleId) (cond : BitVec 3) (f : FmtV)
  /-- VDOT8: Marble 8-lane int8 dot product accumulated into a register (R122) -/
  | vdot8 (n : MarbleId) (f : FmtV)
  /-- VDOT4: Marble 16-pair int4 dot product accumulated into a register (R122) -/
  | vdot4 (n : MarbleId) (f : FmtV)
  /-- VDOT84: Marble int8 by int4 dot product accumulated into a register (R122) -/
  | vdot84 (n : MarbleId) (f : FmtV)
  /-- F8DOT: Marble fp8 dot product accumulated into BA (R118) -/
  | f8dot (n : MarbleId) (f : FmtV)
  /-- BDOT: Marble bf16 dot product accumulated into BA (R118) -/
  | bdot (n : MarbleId) (f : FmtV)
  /-- MXDOT: Marble scaled int8 dot product accumulated into BA (R118) -/
  | mxdot (n : MarbleId) (f : FmtV)
  /-- BCLR: Marble clear of the block accumulator (R122) -/
  | bclr (n : MarbleId) (f : FmtV)
  /-- BRD: Marble read of BA as bf16 (R122) -/
  | brd (n : MarbleId) (f : FmtV)
  /-- BRDQ: Marble read of BA as scaled saturating int32 (R122) -/
  | brdq (n : MarbleId) (f : FmtV)
  /-- BLD: Marble load of BA from a bf16 value (R122) -/
  | bld (n : MarbleId) (f : FmtV)
  /-- VUNP4L: Marble unpack of int4 elements 0 to 7 to int8 lanes (R122) -/
  | vunp4l (n : MarbleId) (f : FmtV)
  /-- VUNP4H: Marble unpack of int4 elements 8 to 15 to int8 lanes (R122) -/
  | vunp4h (n : MarbleId) (f : FmtV)
  /-- VUNP5: Marble unpack of Q5 elements to int8 lanes (R122) -/
  | vunp5 (n : MarbleId) (f : FmtV)
  /-- VUNP6: Marble unpack of Q6 elements to int8 lanes (R122) -/
  | vunp6 (n : MarbleId) (f : FmtV)
  /-- VPK4: Marble saturating pack of lanes to int4 (R122) -/
  | vpk4 (n : MarbleId) (f : FmtV)
  /-- VPK5: Marble saturating pack of lanes to Q5 (R122) -/
  | vpk5 (n : MarbleId) (f : FmtV)
  /-- VPK6: Marble saturating pack of lanes to Q6 (R122) -/
  | vpk6 (n : MarbleId) (f : FmtV)
  /-- VUNPF6A: Marble exact conversion of MXFP6 E2M3 to fp8 E4M3 (R122) -/
  | vunpf6a (n : MarbleId) (f : FmtV)
  /-- VUNPF6B: Marble exact conversion of MXFP6 E3M2 to fp8 E5M2 (R122) -/
  | vunpf6b (n : MarbleId) (f : FmtV)
  /-- VF8BF: Marble conversion of fp8 lanes 0 to 3 to bf16 (R122) -/
  | vf8bf (n : MarbleId) (f : FmtV)
  /-- VF8BFH: Marble conversion of fp8 lanes 4 to 7 to bf16 (R122) -/
  | vf8bfh (n : MarbleId) (f : FmtV)
  /-- VBFF8: Marble rounding saturating conversion of bf16 lanes to fp8 (R122) -/
  | vbff8 (n : MarbleId) (f : FmtV)
  /-- FADD: Marble bf16 add (R122) -/
  | fadd (n : MarbleId) (f : FmtR)
  /-- FSUB: Marble bf16 subtract (R122) -/
  | fsub (n : MarbleId) (f : FmtR)
  /-- FMUL: Marble bf16 multiply (R122) -/
  | fmul (n : MarbleId) (f : FmtR)
  /-- FMIN: Marble bf16 minimum (R122) -/
  | fmin (n : MarbleId) (f : FmtR)
  /-- FMAX: Marble bf16 maximum (R122) -/
  | fmax (n : MarbleId) (f : FmtR)
  /-- FSCALE: Marble bf16 scale by a power of two (R122) -/
  | fscale (n : MarbleId) (f : FmtR)
  /-- FCVTF: Marble conversion of int32 to bf16 (R122) -/
  | fcvtf (n : MarbleId) (f : FmtR)
  /-- FCVTI: Marble saturating conversion of bf16 to int32 (R122) -/
  | fcvti (n : MarbleId) (f : FmtR)
  /-- FRCP: Marble table-based bf16 reciprocal (R119) -/
  | frcp (n : MarbleId) (f : FmtR)
  /-- FRSQ: Marble table-based bf16 reciprocal square root (R119) -/
  | frsq (n : MarbleId) (f : FmtR)
  /-- FEXP2: Marble table-based bf16 power of two (R119) -/
  | fexp2 (n : MarbleId) (f : FmtR)
  /-- FLOG2: Marble table-based bf16 base-2 logarithm (R119) -/
  | flog2 (n : MarbleId) (f : FmtR)
  /-- FCMP: Marble bf16 compare (EQ, LT, LE or UN) into a predicate (R122) -/
  | fcmp (n : MarbleId) (rel : BitVec 2) (f : FmtR)
  /-- RLDW: Marble remote load of 4 bytes through the Cluster router (R123) -/
  | rldw (n : MarbleId) (urgent : Bool) (f : FmtR)
  /-- RLDV: Marble remote load of 8 bytes into a vector register (R123) -/
  | rldv (n : MarbleId) (urgent : Bool) (f : FmtR)
  /-- RLDV2: Marble remote load of 16 bytes into an even vector pair (R123) -/
  | rldv2 (n : MarbleId) (urgent : Bool) (f : FmtR)
  /-- RSTW: Marble posted remote store of 4 bytes (R123) -/
  | rstw (n : MarbleId) (urgent : Bool) (f : FmtR)
  /-- RSTV: Marble posted remote store of 8 bytes (R123) -/
  | rstv (n : MarbleId) (urgent : Bool) (f : FmtR)
  /-- RSTV2: Marble posted remote store of 16 bytes (R123) -/
  | rstv2 (n : MarbleId) (urgent : Bool) (f : FmtR)
  /-- RCPY: Marble starts a router copy of up to 64 KiB between fabric addresses (R123) -/
  | rcpy (n : MarbleId) (urgent : Bool) (f : FmtR)
  /-- MPOST: Marble posts a mailbox TX slot, and the router reads and checks the descriptor and starts the Parcel (R132) -/
  | mpost (n : MarbleId) (slot : BitVec 1) (f : FmtR)
  /-- MWAIT: Marble starts waiting for a dual-port word to differ from a value (R123) -/
  | mwait (n : MarbleId) (f : FmtR)
  /-- MWAIT_WAKE: A waiting MWAIT sees its word change and writes the word to d (R123) -/
  | mwaitWake (n : MarbleId)
  /-- FENCE: Marble starts waiting for its remote stores and copies to complete (R123) -/
  | fence (n : MarbleId) (f : FmtR)
  /-- FENCE_RELEASE: A Marble's FENCE ends when its last remote store or copy has completed (R123) -/
  | fenceRelease (n : MarbleId)
  /-- NOP: Marble no-operation (R123) -/
  | nop (n : MarbleId) (f : FmtR)
  /-- HALT: Marble stops with cause 1 (R116) -/
  | halt (n : MarbleId) (f : FmtR)
  /-- BAR: Marble arrives at a Cluster barrier (R123) -/
  | bar (n : MarbleId) (f : FmtR)
  /-- BAR_RELEASE: Every running Marble of the Cluster has reached BAR, and the barrier releases (R123) -/
  | barRelease (c : ClusterId)
  /-- RDCSR: Marble reads a CSR, CYC_LO latching CYC_HI (R119) -/
  | rdcsr (n : MarbleId) (f : FmtR)
  /-- WRCSR: Marble writes a CSR, MFLAGS clearing by write of 1 (R119) -/
  | wrcsr (n : MarbleId) (f : FmtR)
  /-- TRAP: Marble stops with cause 5 and records its code (R116) -/
  | trap (n : MarbleId) (f : FmtR)
  /-- REMOTE_COMPLETION: A remote load, store, copy or post completes and its status reaches the Marble and RSTAT (R140) -/
  | remoteCompletion (n : MarbleId) (i : Fin 4) (lost : List Nat)
  /-- CLUSTER_RESTART: The Marionette restarts the stopped Marbles of a Cluster at PC 0 with cleared state (R116) -/
  | clusterRestart (c : ClusterId)
  /-- WINDOW_BOUNDARY: A stream reaches a window boundary and applies fence, light loss, gap, pause, halt and next descriptor in order (R39) -/
  | windowBoundary (z : ZoeId) (q : Stream)
  /-- IDLE_END: An IDLE descriptor's symbol count expires and the stream resumes (R47) -/
  | idleEnd (z : ZoeId) (q : Stream)
  /-- INTEGRATION_END: A window's integration ends at symbol K and its charge moves to the sample capacitor for conversion (R38) -/
  | integrationEnd (z : ZoeId) (q : Stream) (late : List (Nat × Nat))
  /-- REFERENCE_CHECK: At K+44 the sequencer compares reference cells with the expectation slot and forms WEE, applying flag threshold (R56) -/
  | referenceCheck (z : ZoeId) (q : Stream)
  /-- WINDOW_DONE: After result writes the Quad posts window-done to WDONE in every Marble and counters advance (R134) -/
  | windowDone (z : ZoeId) (q : Stream)
  /-- EXPECTATION_SUM_WRITE: A write reaches an expectation slot's sums and is taken or discarded with SLOT_BUSY (R141) -/
  | expectationSumWrite (n : MarbleId) (z : ZoeId) (off : BitVec 26) (bytes : List Byte)
  /-- EXPECTATION_HEADER_WRITE: A header write commits an expectation slot with VALID 1 or abandons it with VALID 0 (R141) -/
  | expectationHeaderWrite (n : MarbleId) (z : ZoeId) (slot : Fin 32) (hdr : Word)
  /-- AUDIT_RECORD: An audit record arrives at the audit port and is accumulated or discarded as BADTAG (R82) -/
  | auditRecord (n : MarbleId) (z : ZoeId) (rec : BitVec 128)
  /-- AUDIT_TIMEOUT: A pending audited window has no record 1 ms after window-done and is counted as missed (R82) -/
  | auditTimeout (z : ZoeId) (q : Stream)
  /-- SPACE01_BAD_ACCESS: An access to an undecoded or wrongly sized space 01 offset completes with BAD_ADDR (R141) -/
  | space01BadAccess (n : MarbleId) (z : ZoeId) (off : BitVec 26) (acc : Access) (len : Nat)
  /-- ESTIMATE_GAP_TRIGGER: CNT_GAP consecutive windows exceed THR_GAP and a gap is forced at the next boundary (R79) -/
  | estimateGapTrigger (z : ZoeId) (q : Stream)
  /-- ESTIMATE_FENCE_TRIGGER: CNT_FENCE consecutive windows exceed THR_FENCE and the Zoetrope is Fenced at the next boundary with cause 2 (R79) -/
  | estimateFenceTrigger (z : ZoeId) (q : Stream)
  /-- GAP_RULE_HOLD_END: The 1 ms hold after an estimate gap ends and the gap rule's run count starts again (R79) -/
  | gapRuleHoldEnd (z : ZoeId) (q : Stream)
  /-- RUN_RULE_GAP_TRIGGER: GAP_RUN reaches 16,000,000 run symbols and a forced gap is due at the next boundary (R97) -/
  | runRuleGapTrigger (z : ZoeId)
  /-- IDLE_GAP_START: A Ready Zoetrope with light and owed gap or stale calibration begins an idle gap (R97) -/
  | idleGapStart (z : ZoeId)
  /-- PILOT_WINDOW_END: A pilot window ends and its results go to the trim accumulators, possibly ending the gap (R95) -/
  | pilotWindowEnd (z : ZoeId) (r : PilotResult)
  /-- TRIM_ROUND: A trim engine starts its 100 µs round and visits each of its elements (R91) -/
  | trimRound (z : ZoeId) (e : Fin 16) (us : Byte)
  /-- LIGHT_LOST: Tap detectors find compute light lost; windows finish with NOLIGHT and the Zoetrope enters Trimming with drives held (R57) -/
  | lightLost (z : ZoeId)
  /-- LIGHT_RETURN: Compute light returns and the trim loops reconverge toward Ready (R57) -/
  | lightReturn (z : ZoeId)
  /-- TRIM_CONVERGED: The operation that caused Trimming is complete and R101 holds, and the Zoetrope enters Ready (R106) -/
  | trimConverged (z : ZoeId)
  /-- TRIM_TIMEOUT: R101 is not met 50 ms after light return or a block reset and the Zoetrope is Fenced with cause 4 (R106) -/
  | trimTimeout (z : ZoeId)
  /-- WARMING_SETTLED: Both diodes under the Zoetrope settle with light present and it enters Trimming for a full calibration (R106) -/
  | warmingSettled (z : ZoeId)
  /-- WARMING_TIMEOUT: A Zoetrope has not settled 500 ms after entering Warming and is Fenced with cause 7 (R106) -/
  | warmingTimeout (z : ZoeId)
  /-- LIGHT_DIE_RAILS_REMOVED: The light die's rails are removed and every Zoetrope of it enters Off (R106) -/
  | lightDieRailsRemoved (h : Half)
  /-- FULL_CALIBRATION_DONE: A Zoetrope's full calibration ends, leaving it Ready or Fenced, and commits results to flash (R102) -/
  | fullCalibrationDone (z : ZoeId) (r : CalResult)
  /-- ZOE_RECONFIG_DONE: A Zoetrope's Show-load reconfiguration ends at 42 ms in Ready or Fenced (R104) -/
  | zoeReconfigDone (z : ZoeId) (r : CalResult)
  /-- FLASH_WRITE_RESUME: A deferred flash write resumes after the board temperature has stayed in range for 10 s (R363) -/
  | flashWriteResume
  /-- ZOE_QCTL_HALT: A host write sets a HALT bit and the queue stops at its next window boundary (R63) -/
  | zoeQctlHalt (f : Fn) (z : ZoeId) (q : Stream)
  /-- ZOE_QCTL_RESUME: A host write clears a HALT bit and the queue resumes at its next descriptor (R63) -/
  | zoeQctlResume (f : Fn) (z : ZoeId) (q : Stream)
  /-- SCENE_START: A thread's ready Scene starts on its queue at a Marble-cycle edge, consuming arrival counts (R155) -/
  | sceneStart (z : ZoeId) (t : Fin 8)
  /-- STEP_LOST: A thread's next Scene is not ready within SWAIT and the step is rerun or the thread halts (R157) -/
  | stepLost (z : ZoeId) (t : Fin 8)
  /-- DMA_READ: A DMA READ descriptor at the DMA port starts a transfer from HBM into scratch (R174) -/
  | dmaRead (n : MarbleId) (z : ZoeId) (d : BitVec 128)
  /-- DMA_WRITE: A DMA WRITE descriptor at the DMA port starts a transfer from scratch into HBM (R174) -/
  | dmaWrite (n : MarbleId) (z : ZoeId) (d : BitVec 128)
  /-- XFENCE: An XFENCE descriptor waits for earlier descriptors of its port and their invalidation acknowledgements (R179) -/
  | xfence (n : MarbleId) (z : ZoeId) (d : BitVec 128)
  /-- DMA_COMPLETION: A DMA descriptor completes and the router writes its completion word into the chosen USR word (R175); ce and
  ue are its lines, by number, whose data had a corrected and an uncorrectable error (log entry 87) -/
  | dmaCompletion (z : ZoeId) (i : Fin 64) (ce ue : List (Fin 512))
  /-- INVALIDATION_ACK: The other half's cache acknowledges an invalidation caused by a WRITE (R179) -/
  | invalidationAck (h : Half)
  /-- RFM: A bank's activation count reaches the stack's threshold and the controller issues refresh management (R169) -/
  | rfm (c : PchId) (bank : Nat)
  /-- HAND_OVER_REQUEST: A Marble's hand-over request at the hand-over port writes a new tag to a bank of its Quad (R185) -/
  | handOverRequest (n : MarbleId) (z : ZoeId) (w0 w1 : Word)
  /-- SCRUB_COMPLETE: A bank's 2 µs scrub ends and its read-back leaves it Owned, Free, repeated or retired (R183) -/
  | scrubComplete (b : MarbleId) (nonzero : Bool)
  /-- PCH_ZEROING_DONE: A pseudo-channel's zeroing ends and its new owner's access begins (R172) -/
  | pchZeroingDone (c : PchId)
  /-- SQ_TAIL: A doorbell write of SQ_TAIL gives the new submission tail, or is ignored and counted (R199) -/
  | sqTail (f : Fn) (page : QueueId) (v : Word)
  /-- CQ_HEAD: A doorbell write of CQ_HEAD frees completion ring entries (R199) -/
  | cqHead (f : Fn) (page : QueueId) (v : Word)
  /-- QP_RESET: A write of 0xA5 to QP_RESET starts a queue reset (R198) -/
  | qpReset (f : Fn) (page : QueueId) (v : Word)
  /-- QUEUE_RESET_DONE: A queue reset completes within 100 µs and the queue returns to enabled (R198) -/
  | queueResetDone (q : QueueId)
  /-- DESCRIPTOR_FETCH: The module issues a host read of up to eight submission entries when tokens and entries are available (R199) -/
  | descriptorFetch (q : QueueId)
  /-- HOST_READ_COMPLETION: A PCIe completion for a module read arrives and is used, or discarded as late or unexpected (R214) -/
  | hostReadCompletion (tag : HostTag) (st : CplStatus) (bytes : List Byte)
  /-- COMPLETION_TIMEOUT: A host read times out, is reported through AER and halts the queue or fails its descriptor (R212) -/
  | completionTimeout (tag : HostTag)
  /-- TAG_QUARANTINE_END: Twice the completion timeout passes and a quarantined tag is released (R214) -/
  | tagQuarantineEnd (tag : HostTag)
  /-- QUEUE_NOP: Submission-queue NOP descriptor completes at once (R203) -/
  | queueNop (q : QueueId)
  /-- SESSION_OPEN: A session is opened on the queue's partition and homed on that queue (R204) -/
  | sessionOpen (q : QueueId)
  /-- SESSION_RESUME: A session is made Resident in a slot at the next step of its batch (R162) -/
  | sessionResume (q : QueueId)
  /-- SESSION_PARK: A Resident session's state is copied to a parked slot at the end of its step (R162) -/
  | sessionPark (q : QueueId)
  /-- SESSION_CLOSE: A session is Closed and its slots zeroed and freed (R162) -/
  | sessionClose (q : QueueId)
  /-- TOKEN_SUBMIT: Inline or indirect tokens are accepted into a Resident session (R204) -/
  | tokenSubmit (q : QueueId)
  /-- OUTPUT_FETCH: The oldest extended output of a session is written to host memory (R208) -/
  | outputFetch (q : QueueId)
  /-- FENCE_DESCRIPTOR: A FENCE descriptor completes once earlier descriptors, and optionally the session's step, have completed (R209) -/
  | fenceDescriptor (q : QueueId)
  /-- MEM_WRITE: Host data is written to the partition's HBM on one or every member (R204) -/
  | memWrite (q : QueueId)
  /-- MEM_READ: Partition HBM data on a member is written to host memory (R204) -/
  | memRead (q : QueueId)
  /-- SESSION_COPY_DONE: A park or resume state copy completes and its completion is written (R162) -/
  | sessionCopyDone (p : Part) (sid : BitVec 24)
  /-- HELD_COMPLETION_WRITE: Ring space appears and a held completion is written to the completion ring (R208) -/
  | heldCompletionWrite (q : QueueId)
  /-- INTERRUPT_TIMER: ITIME µs pass after the oldest unsignalled completion and the queue's vector is sent (R210) -/
  | interruptTimer (q : QueueId)
  /-- BUS_MASTER_ENABLE_CLEAR: A function's Bus Master Enable is cleared, its reads end and its queues halt (R215) -/
  | busMasterEnableClear (f : Fn)
  /-- BUS_MASTER_ENABLE_SET: A function's Bus Master Enable is set, releasing nothing held by itself (R215) -/
  | busMasterEnableSet (f : Fn)
  /-- VF_FUNCTION_LEVEL_RESET: Initiate Function Level Reset or D3hot to D0 of a VF resets exactly its partition on every member (R216) -/
  | vfFunctionLevelReset (p : Part)
  /-- FLR_COMPLETE: A partition's function-level reset completes at 25 ms and its queues are disabled at reset values (R216) -/
  | flrComplete (p : Part)
  /-- PF_FUNCTION_LEVEL_RESET: A PF function-level reset, hot reset or link down clears VF Enable and resets the PF (R217) -/
  | pfFunctionLevelReset
  /-- VF_ENABLE_CHANGE: Clearing VF Enable resets every enabled partition and disables every queue (R217) -/
  | vfEnableChange (enable : Bool) (numVfs : Fin 13)
  /-- D3HOT_ENTRY: A function enters D3hot and issues no request (R193) -/
  | d3hotEntry (f : Fn)
  /-- CMD_GO_IGNORED: A write to a busy command window, or a CMD_GO not equal to 1, is ignored and counted (R221) -/
  | cmdGoIgnored (w : Fn) (off : BitVec 12) (v : Word)
  /-- COMMAND_TIMEOUT: A command is still busy at twice its maximum and the window ends it with INTERNAL (R224) -/
  | commandTimeout (w : Fn)
  /-- GET_IDENTITY: Command returning build, serial, image versions, module ID and group size (R228) -/
  | getIdentity (w : Fn) (pk : Packet)
  /-- GET_SERVICE: Command returning the service state, MOD_HALFSTAT and the last change cause (R228) -/
  | getService (w : Fn) (pk : Packet)
  /-- MODULE_RESET: Command ending OK and starting a module reset 1 ms later (R228) -/
  | moduleReset (w : Fn) (pk : Packet)
  /-- FENCE_HALF: Command fencing a half, stopping affected Shows and parking or closing their sessions (R25) -/
  | fenceHalf (w : Fn) (pk : Packet)
  /-- UNFENCE_HALF: Command marking a fenced half to be unfenced at the next full calibration (R228) -/
  | unfenceHalf (w : Fn) (pk : Packet)
  /-- BLOCK_RESET_ZOETROPE: Command resetting one Zoetrope block behind its isolation wrapper (R369) -/
  | blockResetZoetrope (w : Fn) (pk : Packet)
  /-- BLOCK_RESET_BAG: Command resetting one Bag block (R369) -/
  | blockResetBag (w : Fn) (pk : Packet)
  /-- BLOCK_RESET_KALEIDOSCOPE: Command resetting one Kaleidoscope chiplet's port, darkening its lanes (R369) -/
  | blockResetKaleidoscope (w : Fn) (pk : Packet)
  /-- BLOCK_RESET_HBM: Command resetting one HBM controller with its stack in self-refresh (R369) -/
  | blockResetHbm (w : Fn) (pk : Packet)
  /-- BLOCK_RESET_GUEST: Command resetting a guest port, requiring a new descriptor (R369) -/
  | blockResetGuest (w : Fn) (pk : Packet)
  /-- BLOCK_RESET_INTERHUB: Command resetting the inter-hub link, dropping every cached remote line (R180) -/
  | blockResetInterhub (w : Fn) (pk : Packet)
  /-- BLOCK_RESET_MARIONETTE: Command resetting the non-Active Marionette, refused for the Active one (R228) -/
  | blockResetMarionette (w : Fn) (pk : Packet)
  /-- BLOCK_RESET_RELEASE: A reset block's hold time ends and it leaves reset to its stated state (R369) -/
  | blockResetRelease (k : BlockKind) (i : Nat)
  /-- PART_CREATE: Command creating a partition with its resources on every member (R229) -/
  | partCreate (w : Fn) (pk : Packet)
  /-- PART_GRANT: Command adding resources to a partition idempotently (R404) -/
  | partGrant (w : Fn) (pk : Packet)
  /-- PART_RELEASE: Command removing resources from a partition idempotently (R404) -/
  | partRelease (w : Fn) (pk : Packet)
  /-- PART_DESTROY: Command destroying a partition, with FORCE acting as a function-level reset first (R241) -/
  | partDestroy (w : Fn) (pk : Packet)
  /-- PART_QUERY: Command returning what a partition owns now (R229) -/
  | partQuery (w : Fn) (pk : Packet)
  /-- PART_SETTINGS: Command setting mixing policy, delegation, SWAIT and parking space (R229) -/
  | partSettings (w : Fn) (pk : Packet)
  /-- QUEUE_CREATE: Command creating a queue pair and enabling it (R197) -/
  | queueCreate (w : Fn) (pk : Packet)
  /-- QUEUE_DESTROY: Command disabling a queue, parking or closing its homed sessions (R218) -/
  | queueDestroy (w : Fn) (pk : Packet)
  /-- QUEUE_RATE: Command setting a queue's token-bucket rate and burst (R200) -/
  | queueRate (w : Fn) (pk : Packet)
  /-- SHOW_STAGE: Command checking and staging a written Show image on every member (R230) -/
  | showStage (w : Fn) (pk : Packet)
  /-- SHOW_UNSTAGE: Command emptying a staging slot (R230) -/
  | showUnstage (w : Fn) (pk : Packet)
  /-- SHOW_LOAD: Command checking and loading a staged Show on every member (R150) -/
  | showLoad (w : Fn) (pk : Packet)
  /-- SHOW_LOAD_DONE: A Show load completes on the last member and the Quads begin their power ramp (R151) -/
  | showLoadDone (p : Part)
  /-- SHOW_STOP: Command stopping a partition's Show, parking sessions when PARK is set (R152) -/
  | showStop (w : Fn) (pk : Packet)
  /-- SHOW_QUERY: Command returning the loaded Show and session counts (R230) -/
  | showQuery (w : Fn) (pk : Packet)
  /-- CAL_FULL: Command running a full calibration on selected Zoetropes (R102) -/
  | calFull (w : Fn) (pk : Packet)
  /-- PREC_SET: Command setting detector power, audit rate and thresholds (R231) -/
  | precSet (w : Fn) (pk : Packet)
  /-- PREC_READ: Command returning a Zoetrope's precision counters (R231) -/
  | precRead (w : Fn) (pk : Packet)
  /-- PREC_READ_CLEAR: PREC_READ with CLEAR copies and clears the precision counters in one step (R88) -/
  | precReadClear (w : Fn) (pk : Packet)
  /-- TRIM_READ: Command returning per-element trim drives, targets and coefficients (R231) -/
  | trimRead (w : Fn) (pk : Packet)
  /-- ZOE_FENCE: Command fencing a Zoetrope with cause 1 (R231) -/
  | zoeFence (w : Fn) (pk : Packet)
  /-- ZOE_QUERY: Command returning ZOE_STATE and ZOE_TRIM_STATE of a member's Zoetropes (R231) -/
  | zoeQuery (w : Fn) (pk : Packet)
  /-- GROUP_DECLARE: Command declaring group size and module ID into flash (R260) -/
  | groupDeclare (w : Fn) (pk : Packet)
  /-- PARTNER_TRAIN: Command training pairs with named modules and committing a new epoch (R266) -/
  | partnerTrain (w : Fn) (pk : Packet)
  /-- LANES_LIGHT: Command reserving and lighting lanes to a partner (R299) -/
  | lanesLight (w : Fn) (pk : Packet)
  /-- LANES_DARK: Command releasing lanes to a partner (R271) -/
  | lanesDark (w : Fn) (pk : Packet)
  /-- GROUP_QUERY: Command returning epoch, size, members and lit counts (R232) -/
  | groupQuery (w : Fn) (pk : Packet)
  /-- LANE_TEST: Command lighting a position under test and running PRBS31 at margin conditions (R305) -/
  | laneTest (w : Fn) (pk : Packet)
  /-- LANE_TEST_DONE: A LANE_TEST duration ends and the position returns to Dark, Spared or its earlier state (R305) -/
  | laneTestDone (l : LaneId) (bits errs : BitVec 64)
  /-- LASER_REARM: Command clearing LATCH when both loops are closed and starting the rearm delay (R309) -/
  | laserRearm (w : Fn) (pk : Packet)
  /-- POWER_QUERY: Command returning grants, ceiling, throttle time and hottest dies (R233) -/
  | powerQuery (w : Fn) (pk : Packet)
  /-- POWER_CEILING: Command setting a partition ceiling or, with PART 0xFE, the envelope (R350) -/
  | powerCeiling (w : Fn) (pk : Packet)
  /-- THERMAL_MODE: Command selecting Watchful or Round sensing (R357) -/
  | thermalMode (w : Fn) (pk : Packet)
  /-- ORDERLY_STOP: Command or threshold starting an orderly stop that parks sessions and turns off lasers (R361) -/
  | orderlyStop (w : Fn) (pk : Packet)
  /-- ORDERLY_STOP_COMPLETE: An orderly stop ends at 50 ms in Serving or Fault-held (R361) -/
  | orderlyStopComplete
  /-- FAULT_READ: Command returning fault records (R234) -/
  | faultRead (w : Fn) (pk : Packet)
  /-- FAULT_CLEAR: Command setting CLEARED on a Contained record (R378) -/
  | faultClear (w : Fn) (pk : Packet)
  /-- OWNLOG_READ: Command returning ownership log entries (R234) -/
  | ownlogRead (w : Fn) (pk : Packet)
  /-- QUIET_SET: Command setting the quiet period (R377) -/
  | quietSet (w : Fn) (pk : Packet)
  /-- ALLOWANCE: Command accepting a signed allowance that lifts Restricted (R343) -/
  | allowance (w : Fn) (pk : Packet)
  /-- KEY_INSTALL: Command unwrapping a key blob and installing image key, signer hash and a new memory key (R250) -/
  | keyInstall (w : Fn) (pk : Packet)
  /-- MEASUREMENTS: Command returning firmware and Show digests (R235) -/
  | measurements (w : Fn) (pk : Packet)
  /-- FW_STAGE: Command reading and verifying a firmware image from host memory (R235) -/
  | fwStage (w : Fn) (pk : Packet)
  /-- FW_COMMIT: Command writing a firmware image to flash and, for the Marionette, handing over to the new version (R344) -/
  | fwCommit (w : Fn) (pk : Packet)
  /-- FACTORY_OPCODE: A factory-only opcode, refused with FACTORY_ONLY in the field, or an opcode that no table lists (R222, R236) -/
  | factoryOpcode (w : Fn) (op : BitVec 16) (pk : Packet)
  /-- HAND_OVER_STOP: 1 ms after FW_COMMIT ends the Active writes the hand-over record and stops renewing (R344) -/
  | handOverStop
  /-- REBUILD_DONE: The new-version Active finishes rebuilding state and runs its first tick (R344) -/
  | rebuildDone
  /-- GET_VERSION: SPDM request negotiating the version (R254) -/
  | getVersion
  /-- GET_CAPABILITIES: SPDM request for capabilities (R254) -/
  | getCapabilities
  /-- NEGOTIATE_ALGORITHMS: SPDM request choosing algorithms (R254) -/
  | negotiateAlgorithms (offered : SpdmAlgs)
  /-- GET_DIGESTS: SPDM request for certificate chain digests (R254) -/
  | getDigests
  /-- GET_CERTIFICATE: SPDM request for a certificate chain from slots 0 to 2 (R254) -/
  | getCertificate (slot : Byte)
  /-- CHALLENGE: SPDM challenge signed by the device (R254) -/
  | challenge (slot : Byte)
  /-- GET_MEASUREMENTS: SPDM request for signed measurements (R254) -/
  | getMeasurements (index : Byte)
  /-- KEY_EXCHANGE: SPDM request opening a secured session, busy beyond four (R254) -/
  | keyExchange
  /-- FINISH: SPDM request completing a secured session handshake (R254) -/
  | finish (sid : Fin 4) (verified : Bool)
  /-- HEARTBEAT: SPDM heartbeat in a secured session (R254) -/
  | heartbeat (sid : Fin 4)
  /-- KEY_UPDATE: SPDM session key update (R254) -/
  | keyUpdate (sid : Fin 4)
  /-- END_SESSION: SPDM request ending a secured session (R254) -/
  | endSession (sid : Fin 4)
  /-- DESC: Guest's first HGDI packet carrying its descriptor, checked and accepted or holding the port (R255) -/
  | desc (g : Site) (payload : List Byte)
  /-- MRD: Guest memory read, admitted by the firewall and answered by CPLD or a denying CPL (R257) -/
  | mrd (g : Site) (h : GuestHdr)
  /-- MWR: Guest posted memory write, admitted or dropped by the firewall (R257) -/
  | mwr (g : Site) (h : GuestHdr) (payload : List Byte)
  /-- NOTIFY: Guest packet signalling the partition's vector NVEC (R256) -/
  | notify (g : Site)
  /-- GUEST_COMPLETION: Guest CPL or CPLD answering a hub TRD (R256) -/
  | guestCompletion (g : Site) (h : GuestHdr) (payload : List Byte)
  /-- TARGET_WINDOW_ACCESS: A host access to the guest target window is sent to the guest as TRD or TWR (R256) -/
  | targetWindowAccess (p : Part) (off : BitVec 16) (wr : Option (List Byte))
  /-- TRD_TIMEOUT: A TRD is unanswered for 100 µs, returning all ones and raising a Contained fault (R256) -/
  | trdTimeout (g : Site) (tag : BitVec 10)
  /-- SEC_GST_CTL: PF write of a guest firewall's control, enabling or clearing EN and its settings (R259) -/
  | secGstCtl (g : Site) (v : Word)
  /-- PROBE: A training PROBE arrives and is checked against the cabling plan (R265) -/
  | probe (i : Fin 64) (pr : ProbeMsg)
  /-- TRAINING_PHASE_DONE: A pair's training phase completes at both ends and the next phase begins (R265) -/
  | trainingPhaseDone (m : ModuleId) (rtt : BitVec 16)
  /-- TRAINING_TIMEOUT: A training attempt times out and is retried after backoff or the partner is marked Absent (R265) -/
  | trainingTimeout (m : ModuleId)
  /-- TRAINING_RETRY: A training backoff ends and the phase is attempted again (R265) -/
  | trainingRetry (m : ModuleId)
  /-- EPOCH_COMMIT: The front module commits directory changes, raises the epoch and sends it to every member (R264) -/
  | epochCommit
  /-- EPOCH_MESSAGE: A member receives a new epoch and directory and tears down pairs with removed modules (R264) -/
  | epochMessage (epoch : Word) (dir : List (BitVec 3))
  /-- PAIR_LOST: No codeword decodes on a pair for 100 µs and the loss is reported (R267) -/
  | pairLost (m : ModuleId)
  /-- LOSS_REPORT: The front module receives a lost-pair report and marks a member Absent (R267) -/
  | lossReport (a b : ModuleId)
  /-- MEMBER_LEAVE: A member with no trained pair to the front module for 100 µs leaves the group and stops its Shows (R267) -/
  | memberLeave
  /-- GRP_TICK: The front module's 1 ms timer sends GRP_TICK on each pair's control channel (R268) -/
  | grpTick
  /-- GRP_TICK_RECEIVED: A member timestamps a GRP_TICK and slews its group-time offset (R268) -/
  | grpTickReceived (t : DWord)
  /-- TICK_MISSED: A member misses ten consecutive ticks and raises a Corrected fault (R268) -/
  | tickMissed
  /-- LANE_REQUEST: An allocator receives a lane request and reserves positions and slices (R270) -/
  | laneRequest (m : ModuleId) (holder : BitVec 4) (count : Nat)
  /-- LANE_RELEASE: The allocator names lanes to release and they leave striping at the next MARK into Draining (R271) -/
  | laneRelease (m : ModuleId) (holder : BitVec 4) (count : Nat)
  /-- DRAIN_COMPLETE: A Draining lane has every flit acknowledged and credits withdrawn and returns to Dark (R271) -/
  | drainComplete (l : LaneId)
  /-- RING_LOCKED: Ring heaters hold the line at both ends and the lane enters Locking (R295) -/
  | ringLocked (l : LaneId)
  /-- LANE_LOCKED: Clock recovery and alignment lock at both ends and the lane enters Lit or its margin test (R295) -/
  | laneLocked (l : LaneId)
  /-- MARGIN_TEST_DONE: A margin test ends and the lane goes Lit with TESTED or becomes Spared (R297) -/
  | marginTestDone (l : LaneId) (errTx errRx : Nat)
  /-- LIGHTING_TIMEOUT: A lane is not Lit 5 ms after leaving Dark, or 8 ms after a comb failure, and becomes Spared (R295) -/
  | lightingTimeout (l : LaneId)
  /-- IDLE_ENTRY: A lane direction has had nothing to send for 1 µs and enters Idle (R300) -/
  | idleEntry (l : LaneId)
  /-- DORMANT_TIMEOUT: A Lit lane carries no data for DORM_MS and is drained into Dormant (R301) -/
  | dormantTimeout (l : LaneId)
  /-- DORMANT_WAKE: A Dormant lane is woken by queued payloads or LANES_LIGHT and re-enters Tuning (R301) -/
  | dormantWake (l : LaneId)
  /-- LANE_HEALTH_LIMIT: An end finds a lane-health limit broken, reports it in LINK and the lane is Spared (R302) -/
  | laneHealthLimit (l : LaneId) (cause : BitVec 4)
  /-- CLOCK_UNLOCK: Clock recovery is unlocked for 10 µs and the lane enters Locking (R302) -/
  | clockUnlock (l : LaneId)
  /-- RELOCK_TIMEOUT: A lane not relocked within 1 ms becomes Spared with cause 6 (R302) -/
  | relockTimeout (l : LaneId)
  /-- MARK: A MARK codeword arrives and the receiver checks the credit ledger (R278) -/
  | mark (l : LaneId) (cw : Codeword) (ledgers : List Ledger)
  /-- LINK: A LINK codeword arrives carrying lane health and lane-change messages (R302) -/
  | link (l : LaneId) (cw : Codeword) (msg : LinkMsg)
  /-- SKIP: A SKIP slot is deleted or repeated to keep the elastic buffer half full (R276) -/
  | skip (l : LaneId) (cw : Codeword) (adj : SkipAdj)
  /-- DATA: A DATA or IDLE codeword arrives, is decoded and CRC-checked, with acknowledgement, NAK and credit handling (R275) -/
  | data (l : LaneId) (cw : Codeword)
  /-- RETRY_TIMEOUT: A payload stays unacknowledged 430 ns and is resent (R275) -/
  | retryTimeout (l : LaneId) (lseq : BitVec 10)
  /-- FIRST: A Parcel's FIRST payload arrives and the arrival filter decides duplicate, stale or deliver (R283) -/
  | first (m : ModuleId) (tag : BitVec 12) (part : BitVec 4) (hdr : ParcelHdr)
  /-- PARCEL_DELIVERED: A Parcel's last granule is written, its notice queued and DONE sent (R280) -/
  | parcelDelivered (m : ModuleId) (tag : BitVec 12)
  /-- NOTICE_WRITE: The router writes an arrival notice once RXACK leaves room, advancing the XID counter (R133) -/
  | noticeWrite (n : MarbleId)
  /-- DONE: A DONE message reaches the sending hub and TXS is written, or it is discarded as late (R280) -/
  | done (m : ModuleId) (tag : BitVec 12) (st : Byte) (resends : Nat)
  /-- ABORT: An ABORT reaches the receiving hub and the undelivered Parcel is discarded and its TAG marked dead (R282) -/
  | abort (m : ModuleId) (tag : BitVec 12)
  /-- PARCEL_DEADLINE: A Parcel's DONE has not arrived by post time plus DL and TXS reads DEADLINE (R282) -/
  | parcelDeadline (n : MarbleId) (slot : BitVec 1)
  /-- DEAD_TAG_END: A dead TAG's 16 µs mark expires (R282) -/
  | deadTagEnd (m : ModuleId) (tag : BitVec 12)
  /-- COMPUTE_SOURCE_FAILURE: A compute source fails, is switched off and replaced by its spare or lowers the ceiling (R291) -/
  | computeSourceFailure (k : Fin 10)
  /-- SOURCE_DEGRADING: A source's drive passes 90 % of its limit, setting DEGRADING (R291) -/
  | sourceDegrading (k : Fin 30)
  /-- COMB_FAILURE: A comb fails; its lanes leave striping and a spare comb is switched in or lanes are Spared (R293) -/
  | combFailure (k : Fin 20)
  /-- SPARE_SWITCH_DONE: A spare source or comb is in service within 5 ms and LAS_SWAPS advances (R291) -/
  | spareSwitchDone (k : Fin 30)
  /-- INTERLOCK_OPEN: An interlock channel is recognised open and every source turns off within 50 µs (R308) -/
  | interlockOpen (ch : Channel) (ma : Byte)
  /-- INTERLOCK_CLOSE: An interlock channel is recognised closed and, with both closed and no latch, the rearm delay starts (R309) -/
  | interlockClose (ch : Channel) (ma : Byte)
  /-- DISAGREEMENT_LATCH: The channels disagree continuously for 10 ms and LATCH is set (R309) -/
  | disagreementLatch
  /-- REARM_DELAY_END: The 1.0 s rearm delay ends and the laser banks start (R309) -/
  | rearmDelayEnd
  /-- UCIE_MODULE_DROP: A UCIe module drops out and its adapter tries to retrain it (R319) -/
  | ucieModuleDrop (h : Half) (m : Fin 65)
  /-- UCIE_RETRAIN_TIMEOUT: A UCIe module fails to retrain in 100 µs, its flits resend on others and the port narrows (R319) -/
  | ucieRetrainTimeout (h : Half) (m : Fin 65)
  /-- IHL_UNCORRECTABLE_BEAT: An inter-hub beat is uncorrectable and the receiver requests a replay (R321) -/
  | ihlUncorrectableBeat (h : Half) (g : Fin 48)
  /-- IHL_RETRAIN: An inter-hub group exceeds its error limit or spares and the link is retrained as a block reset (R321) -/
  | ihlRetrain (h : Half) (g : Fin 48)
  /-- IHL_TRAINED: Inter-hub training ends, or a group fails to train and raises a Fatal fault (R321) -/
  | ihlTrained (failed : Option (Fin 48))
  /-- D2D_LB_CTL: PF write of D2D_LB_CTL GO starts a far-end loop-back on a failed or down port (R324) -/
  | d2dLbCtl (v : Word)
  /-- LOOPBACK_DONE: A loop-back's duration ends and its results are set (R324) -/
  | loopbackDone (bits errs : BitVec 48)
  /-- CONTROL_TICK: The Active's 20 µs tick runs renewal, windows, grants, sensors, faults, fabric and the mirror frame (R327) -/
  | controlTick
  /-- RENEWAL: A renewal reaches the peer keeper and is acknowledged (R328) -/
  | renewal (seq : Word) (yoyo wires : Bool)
  /-- RENEWAL_ACK: An acknowledgement confirms a renewal at the Active (R328) -/
  | renewalAck (seq : Word)
  /-- PEER_RESET_ASSERT: Three unconfirmed renewals make the Active hold the other Marionette in reset, or stop renewing (R329) -/
  | peerResetAssert (readback : Bool)
  /-- WATCHDOG_EXPIRY: 60 µs pass without a kick and the watchdog holds the Marionette in reset as Out (R327) -/
  | watchdogExpiry (m : Mrt)
  /-- LEASE_EXPIRY: A keeper's lease expires 100 µs after the last counted renewal and gates the former Active (R330) -/
  | leaseExpiry
  /-- CLAIM_GRANT: A keeper grants an armed claim 40 µs after expiry and the claimant becomes Active (R330) -/
  | claimGrant (m : Mrt)
  /-- CLAIM_TIMEOUT: No claim is granted 1 ms after expiry, raising a Fatal fault and Fault-held (R332) -/
  | claimTimeout
  /-- MARIONETTE_BOOT_DONE: A Marionette completes boot and claims, or starts Resyncing (R331) -/
  | marionetteBootDone (m : Mrt) (ok : Bool)
  /-- INITIAL_CLAIM_TIMEOUT: The lease is still free 20 ms after Marionette 1 boots and it claims after holding Marionette 0 (R331) -/
  | initialClaimTimeout
  /-- MIRROR_FRAME: The Standby receives a mirror frame and applies and acknowledges it, or returns to Resyncing (R334) -/
  | mirrorFrame (tick : Nat) (ver : BitVec 48) (crcOk : Bool)
  /-- FRAME_ACK: The Active receives the Standby's frame acknowledgement (R334) -/
  | frameAck
  /-- ACK_TIMEOUT: 1 ms passes without an acknowledgement and the peer is marked Out with cause 4 (R334) -/
  | ackTimeout
  /-- HEALTH_REPORT: An Exercised Standby's health report arrives, making it Out on failure (R337) -/
  | healthReport (pass : Bool)
  /-- HEALTH_TIMEOUT: 300 ms pass without a health report in Exercised mode and the Standby is Out (R337) -/
  | healthTimeout
  /-- MRT_CFG: PF write selecting Lazy or Exercised standby from the next tick (R337) -/
  | mrtCfg (v : Word)
  /-- MARBLE_POWER_METER: Every 64 Marble cycles a Quad's energy is compared with its cap and issue paused if over (R354) -/
  | marblePowerMeter (z : ZoeId) (energy : Nat)
  /-- INPUT_POWER_SAMPLE: The board stage's 1 ms input measurement lowers or restores the pool (R355) -/
  | inputPowerSample (watts : Nat) (dv : Nat)
  /-- DOMAIN_OUT_OF_REGULATION: A core domain leaves ±5 % for 10 µs, is removed and its blocks fenced (R349) -/
  | domainOutOfRegulation (d : Domain)
  /-- SENSOR_SAMPLE: A sensor is sampled, checked for suspicion and its thresholds acted on (R357); k from 156 on is the report of
  HBM stack k − 156 (log entry 87) -/
  | sensorSample (k : Fin 162) (t : Int)
  /-- THERMAL_CAP_UPDATE: A Quad's thermal cap falls, holds or rises each millisecond according to its diodes (R360) -/
  | thermalCapUpdate (z : ZoeId)
  /-- QUIET_PERIOD_END: A source's quiet period ends and its unheld Contained records recover (R377) -/
  | quietPeriodEnd (src : FaultSource)
  /-- AUX_POWER_ON: The auxiliary rail comes up and the release order starts from step 1 (R370) -/
  | auxPowerOn (straps : BitVec 4)
  /-- RELEASE_STEP: A release-order step begins once its predecessor is done and its condition holds (R370) -/
  | releaseStep (k : Fin 12)
  /-- PERST_ASSERT: PERST# is asserted, resetting the module and holding it at the start of the release order (R368) -/
  | perstAssert
  /-- PERST_DEASSERT: PERST# is released and the release order starts at step 2 (R371) -/
  | perstDeassert
  /-- MAIN_INPUT_DROOP: The 54 V input falls below 50 V and hold-up carries the load (R390) -/
  | mainInputDroop (dv : Nat)
  /-- HOLDUP_EXPIRY: The input is still low after 200 µs and an orderly stop by supply begins (R390) -/
  | holdupExpiry
  /-- MAIN_INPUT_RETURN: The 54 V input returns within range, counting a droop or restarting a quiet period (R390) -/
  | mainInputReturn (dv : Nat)
  /-- MAIN_INPUT_LOSS: The input falls below 44 V after hold-up, or above 58 V, and the board stage turns off (R390) -/
  | mainInputLoss (dv : Nat)
  /-- OVERVOLTAGE_TIMEOUT: The input stays from 56 to 58 V for 10 ms and an orderly stop by supply begins (R390) -/
  | overvoltageTimeout
  /-- AUX_POWER_LOSS: The auxiliary rail falls below 3.0 V and the auxiliary domain is reset (R390) -/
  | auxPowerLoss
  /-- READBACK_CHECK: Every 1 ms each sideband output is compared with its readback, raising 0x0105 on two mismatches (R393) -/
  | readbackCheck (faultLow alertLow laserHigh : Bool)
  /-- IDENTITY: SMBus read of build and serial (R394) -/
  | identity (pec : Bool)
  /-- STATUS: SMBus read of service state, FLT_STAT, LAS_INTLK and MOD_SUPPLY (R394) -/
  | status (pec : Bool)
  /-- DECLARE: SMBus write acting as GROUP_DECLARE (R394) -/
  | declare (gn gid : Byte) (pec : Bool)
  /-- RESET: SMBus write acting as MODULE_RESET (R394) -/
  | reset (key : Word) (pec : Bool)
  /-- RESULT: SMBus read of the last write's status and count (R394) -/
  | result (pec : Bool)
  /-- MOD_TIME_LO: Read of MOD_TIME_LO returning the low half and latching the high half (R20) -/
  | modTimeLo (f : Fn)
  /-- FAB_GTIME_LO: Read of FAB_GTIME_LO returning group time's low half and latching the high half (R288) -/
  | fabGtimeLo (f : Fn)
  /-- COUNTER_LOW_READ: Read of a wide counter's low word latching its high word (R65) -/
  | counterLowRead (f : Fn) (bar2 : Bool) (off : BitVec 26)
  /-- MRB_CNT_SEL: Write selecting a bank conflict counter, copied with VALID within 200 ns (R146) -/
  | mrbCntSel (v : Word)
  /-- MRB_MSEL: Write selecting a Marble, refreshing MRB_MSTAT within 200 ns (R146) -/
  | mrbMsel (v : Word)
  /-- MRB_OWN_SEL: Write selecting a bank, refreshing MRB_OWN within 200 ns (R188) -/
  | mrbOwnSel (v : Word)
  /-- FAB_DL: Write of the Parcel deadline, propagated to members or ignored with a fault if out of range (R288) -/
  | fabDl (v : Word) (sent : Bool)
  /-- KAL_CTL: PF write of Idle enable and Dormant time (R313) -/
  | kalCtl (v : Word)
  /-- KAL_PRBS_INJ: PF write of PRBS error injection, acting only on a lane under test (R306) -/
  | kalPrbsInj (v : Word)
  /-- UNDECODED_ACCESS: A BAR0 access to an undecoded offset reads all ones, ignores writes and counts a Corrected fault (R9) -/
  | undecodedAccess (off : BitVec 26) (acc : Access)
  /-- REGISTER_WRITE: Write to a register with no behaviour of its own, stored or ignored per its access type (R7) -/
  | registerWrite (f : Fn) (off : BitVec 26) (v : Word)
  /-- PARTNER_TRAIN_EXPIRY: Training that has not completed 12 ms after the write of CMD_GO ends with the partner Absent (R265) -/
  | partnerTrainExpiry
  /-- UCIE_MODULE_TRAINED: A UCIe module finishes training or retraining at 32 GT/s and joins its port's striping (R318) -/
  | ucieModuleTrained (h : Half) (m : Fin 65) (rep : UcieReport)
  /-- IHL_CORRECTED_BEAT: An inter-hub beat arrives with a corrected SECDED error, advancing D2D_IHL_CE and possibly steering the spare wire (R321) -/
  | ihlCorrectedBeat (h : Half) (g : Fin 48) (wire : Fin 138)
  /-- IDE_KEY_PROGRAMMING: The host programs selective IDE stream keys through IDE key management over secured SPDM on DOE (R192) -/
  | ideKeyProgramming (f : Fn)
  /-- TOYBOX_WORD_READ: A read of a Toybox word corrects and writes back a single-bit error, or raises fault 0x0106 and marks an affected record 0xFFFF (R373) -/
  | toyboxWordRead (i : Fin 8192) (ecc : EccResult)
  /-- LASER_SOURCE_STABLE: A starting compute or comb source gives stable light and enters service, within 2 ms or 5 ms of starting (R309) -/
  | laserSourceStable (k : Fin 30)
  deriving DecidableEq, Repr

end Sys2Proof
end

