-- ==== Sys2Proof/Decode.lean ====
section
/-! DEFINITION. The command that a word spells: no row of the table gives bits, so there is none. Beside it, the 32-bit words
of the Marble instructions (R120 to R123): the command a Marble's instruction word is, and the word of a command. -/

namespace Sys2Proof

/-- The command that an instruction word of `nbits` bits spells. The opcode table gives no row any bits, so no word spells
a command. -/
def decodeTableWord (_nbits _w : Nat) : Option Instr := none

/-! ### The fields of a Marble instruction word (R120) -/

/-- OP, bits [31:26]. -/
def wordOp (w : Word) : BitVec 6 := w.extractLsb' 26 6
/-- FN of format R, bits [8:0]. -/
def wordFnR (w : Word) : BitVec 9 := w.extractLsb' 0 9
/-- FN of format V, bits [9:0]. -/
def wordFnV (w : Word) : BitVec 10 := w.extractLsb' 0 10
/-- The fields of format R. -/
def wordFmtR (w : Word) : FmtR := ⟨w.extractLsb' 24 2, w.extractLsb' 19 5, w.extractLsb' 14 5, w.extractLsb' 9 5⟩
/-- The fields of format I. -/
def wordFmtI (w : Word) : FmtI := ⟨w.extractLsb' 24 2, w.extractLsb' 19 5, w.extractLsb' 14 5, w.extractLsb' 0 14⟩
/-- The fields of format U. -/
def wordFmtU (w : Word) : FmtU := ⟨w.extractLsb' 24 2, w.extractLsb' 19 5, w.extractLsb' 0 19⟩
/-- The fields of format B. -/
def wordFmtB (w : Word) : FmtB := ⟨w.extractLsb' 24 2, w.extractLsb' 19 5, w.extractLsb' 14 5, w.extractLsb' 0 14⟩
/-- The fields of format J. -/
def wordFmtJ (w : Word) : FmtJ := ⟨w.extractLsb' 24 2, w.extractLsb' 0 24⟩
/-- The fields of format C. -/
def wordFmtC (w : Word) : FmtC := ⟨w.extractLsb' 24 2, w.extractLsb' 22 2, w.extractLsb' 19 3, w.extractLsb' 14 5, w.extractLsb' 0 14⟩
/-- The fields of format V. -/
def wordFmtV (w : Word) : FmtV :=
  ⟨w.extractLsb' 24 2, w.extractLsb' 21 3, w.extractLsb' 18 3, w.extractLsb' 15 3, w.extractLsb' 10 5⟩

/-- A word of format R. -/
def encR (op : BitVec 6) (f : FmtR) (fn : BitVec 9) : Word := op ++ f.p ++ f.d ++ f.a ++ f.b ++ fn
/-- A word of format I. -/
def encI (op : BitVec 6) (f : FmtI) : Word := op ++ f.p ++ f.d ++ f.a ++ f.imm
/-- A word of format U. -/
def encU (op : BitVec 6) (f : FmtU) : Word := op ++ f.p ++ f.d ++ f.imm
/-- A word of format B. -/
def encB (op : BitVec 6) (f : FmtB) : Word := op ++ f.p ++ f.a ++ f.b ++ f.off
/-- A word of format J. -/
def encJ (op : BitVec 6) (f : FmtJ) : Word := op ++ f.p ++ f.off
/-- A word of format C. -/
def encC (op : BitVec 6) (f : FmtC) : Word := op ++ f.p ++ f.pd ++ f.cond ++ f.a ++ f.imm
/-- A word of format V. -/
def encV (op : BitVec 6) (f : FmtV) (fn : BitVec 10) : Word := op ++ f.p ++ f.vd ++ f.va ++ f.vb ++ f.m ++ fn

/-! ### OP and FN (R121, R122, R123) -/

/-- The instructions of OP 0x00 by FN; a reserved FN is none. -/
def decodeAlu (n : MarbleId) (f : FmtR) (fn : Nat) : Option Instr :=
  match fn with
  | 0x0 => some (.add n f)
  | 0x1 => some (.sub n f)
  | 0x2 => some (.and n f)
  | 0x3 => some (.or n f)
  | 0x4 => some (.xor n f)
  | 0x5 => some (.sll n f)
  | 0x6 => some (.srl n f)
  | 0x7 => some (.sra n f)
  | 0x8 => some (.mul n f)
  | 0x9 => some (.mulh n f)
  | 0xA => some (.min n f)
  | 0xB => some (.max n f)
  | 0xC => some (.minu n f)
  | 0xD => some (.maxu n f)
  | 0xE => some (.clz n f)
  | 0xF => some (.popc n f)
  | _ => none

/-- The instructions of OP 0x11 by FN; a reserved FN is none. -/
def decodeJr (n : MarbleId) (f : FmtR) (fn : Nat) : Option Instr :=
  match fn with
  | 0x0 => some (.jr n f)
  | _ => none

/-- The instructions of OP 0x1F by FN; a reserved FN is none. -/
def decodeRemote (n : MarbleId) (f : FmtR) (fn : Nat) : Option Instr :=
  match fn with
  | 0x0 => some (.rldw n false f)
  | 0x1 => some (.rldv n false f)
  | 0x2 => some (.rldv2 n false f)
  | 0x4 => some (.rstw n false f)
  | 0x5 => some (.rstv n false f)
  | 0x6 => some (.rstv2 n false f)
  | 0x100 => some (.rldw n true f)
  | 0x101 => some (.rldv n true f)
  | 0x102 => some (.rldv2 n true f)
  | 0x104 => some (.rstw n true f)
  | 0x105 => some (.rstv n true f)
  | 0x106 => some (.rstv2 n true f)
  | _ => none

/-- The instructions of OP 0x20 by FN; a reserved FN is none. -/
def decodeCopy (n : MarbleId) (f : FmtR) (fn : Nat) : Option Instr :=
  match fn with
  | 0x0 => some (.rcpy n false f)
  | 0x100 => some (.rcpy n true f)
  | _ => none

/-- The instructions of OP 0x21 by FN; a reserved FN is none. -/
def decodeMail (n : MarbleId) (f : FmtR) (fn : Nat) : Option Instr :=
  match fn with
  | 0x0 => some (.mpost n 0 f)
  | 0x1 => some (.mpost n 1 f)
  | 0x2 => some (.mwait n f)
  | _ => none

/-- The instructions of OP 0x22 by FN; a reserved FN is none. -/
def decodeFence (n : MarbleId) (f : FmtR) (fn : Nat) : Option Instr :=
  match fn with
  | 0x0 => some (.fence n f)
  | _ => none

/-- The instructions of OP 0x2B by FN; a reserved FN is none. -/
def decodeFloat (n : MarbleId) (f : FmtR) (fn : Nat) : Option Instr :=
  match fn with
  | 0x0 => some (.fadd n f)
  | 0x1 => some (.fsub n f)
  | 0x2 => some (.fmul n f)
  | 0x3 => some (.fmin n f)
  | 0x4 => some (.fmax n f)
  | 0x5 => some (.fscale n f)
  | 0x6 => some (.fcvtf n f)
  | 0x7 => some (.fcvti n f)
  | 0x8 => some (.frcp n f)
  | 0x9 => some (.frsq n f)
  | 0xA => some (.fexp2 n f)
  | 0xB => some (.flog2 n f)
  | 0x10 => some (.fcmp n 0 f)
  | 0x11 => some (.fcmp n 1 f)
  | 0x12 => some (.fcmp n 2 f)
  | 0x13 => some (.fcmp n 3 f)
  | _ => none

/-- The instructions of OP 0x3F by FN; a reserved FN is none. -/
def decodeSystem (n : MarbleId) (f : FmtR) (fn : Nat) : Option Instr :=
  match fn with
  | 0x0 => some (.nop n f)
  | 0x1 => some (.halt n f)
  | 0x2 => some (.bar n f)
  | 0x3 => some (.rdcsr n f)
  | 0x4 => some (.wrcsr n f)
  | 0x5 => some (.trap n f)
  | _ => none

/-- The instructions of OP 0x28 by FN; a reserved FN is none. -/
def decodeLane (n : MarbleId) (f : FmtV) (fn : Nat) : Option Instr :=
  match fn with
  | 0x0 => some (.vadd n f)
  | 0x1 => some (.vsub n f)
  | 0x2 => some (.vadds n f)
  | 0x3 => some (.vsubs n f)
  | 0x4 => some (.vmin n f)
  | 0x5 => some (.vmax n f)
  | 0x6 => some (.vminu n f)
  | 0x7 => some (.vmaxu n f)
  | 0x8 => some (.vand n f)
  | 0x9 => some (.vor n f)
  | 0xA => some (.vxor n f)
  | 0xB => some (.vshl n f)
  | 0xC => some (.vshr n f)
  | 0xD => some (.vsar n f)
  | 0xE => some (.vmull n f)
  | 0xF => some (.vmulh n f)
  | 0x10 => some (.vabs n f)
  | 0x11 => some (.vsel n f)
  | 0x12 => some (.vbc n f)
  | 0x13 => some (.vperm n f)
  | 0x14 => some (.vmvl n f)
  | 0x15 => some (.vmvh n f)
  | 0x16 => some (.vtol n f)
  | 0x17 => some (.vtoh n f)
  | 0x18 => some (.vrsum n f)
  | 0x19 => some (.vsarn n f)
  | 0x20 => some (.vcmp n 0 f)
  | 0x21 => some (.vcmp n 1 f)
  | 0x22 => some (.vcmp n 2 f)
  | 0x23 => some (.vcmp n 3 f)
  | 0x24 => some (.vcmp n 4 f)
  | 0x25 => some (.vcmp n 5 f)
  | _ => none

/-- The instructions of OP 0x29 by FN; a reserved FN is none. -/
def decodeMac (n : MarbleId) (f : FmtV) (fn : Nat) : Option Instr :=
  match fn with
  | 0x0 => some (.vdot8 n f)
  | 0x1 => some (.vdot4 n f)
  | 0x2 => some (.vdot84 n f)
  | 0x8 => some (.f8dot n f)
  | 0x9 => some (.bdot n f)
  | 0xA => some (.mxdot n f)
  | 0x10 => some (.bclr n f)
  | 0x11 => some (.brd n f)
  | 0x12 => some (.brdq n f)
  | 0x13 => some (.bld n f)
  | _ => none

/-- The instructions of OP 0x2A by FN; a reserved FN is none. -/
def decodePack (n : MarbleId) (f : FmtV) (fn : Nat) : Option Instr :=
  match fn with
  | 0x0 => some (.vunp4l n f)
  | 0x1 => some (.vunp4h n f)
  | 0x2 => some (.vunp5 n f)
  | 0x3 => some (.vunp6 n f)
  | 0x4 => some (.vpk4 n f)
  | 0x5 => some (.vpk5 n f)
  | 0x6 => some (.vpk6 n f)
  | 0x7 => some (.vunpf6a n f)
  | 0x8 => some (.vunpf6b n f)
  | 0x9 => some (.vf8bf n f)
  | 0xA => some (.vf8bfh n f)
  | 0xB => some (.vbff8 n f)
  | _ => none

/-- The instruction of Marble n that a word is; a reserved OP or FN is none (R116, R120 to R123). -/
def decodeMarble (n : MarbleId) (w : Word) : Option Instr :=
  match (wordOp w).toNat with
  | 0x00 => decodeAlu n (wordFmtR w) (wordFnR w).toNat
  | 0x01 => some (.addi n (wordFmtI w))
  | 0x02 => some (.andi n (wordFmtI w))
  | 0x03 => some (.ori n (wordFmtI w))
  | 0x04 => some (.xori n (wordFmtI w))
  | 0x05 => some (.shi n (wordFmtI w))
  | 0x06 => some (.lui n (wordFmtU w))
  | 0x07 => some (.cmp n (wordFmtC w))
  | 0x08 => some (.cmpi n (wordFmtC w))
  | 0x09 => some (.beq n (wordFmtB w))
  | 0x0A => some (.bne n (wordFmtB w))
  | 0x0B => some (.blt n (wordFmtB w))
  | 0x0C => some (.bge n (wordFmtB w))
  | 0x0D => some (.bltu n (wordFmtB w))
  | 0x0E => some (.bgeu n (wordFmtB w))
  | 0x0F => some (.bp n (wordFmtB w))
  | 0x10 => some (.jal n (wordFmtJ w))
  | 0x11 => decodeJr n (wordFmtR w) (wordFnR w).toNat
  | 0x12 => some (.loop n (wordFmtI w))
  | 0x13 => some (.ldb n (wordFmtI w))
  | 0x14 => some (.ldbu n (wordFmtI w))
  | 0x15 => some (.ldh n (wordFmtI w))
  | 0x16 => some (.ldhu n (wordFmtI w))
  | 0x17 => some (.ldw n (wordFmtI w))
  | 0x18 => some (.stb n (wordFmtI w))
  | 0x19 => some (.sth n (wordFmtI w))
  | 0x1A => some (.stw n (wordFmtI w))
  | 0x1B => some (.vld n (wordFmtI w))
  | 0x1C => some (.vld2 n (wordFmtI w))
  | 0x1D => some (.vst n (wordFmtI w))
  | 0x1E => some (.vst2 n (wordFmtI w))
  | 0x1F => decodeRemote n (wordFmtR w) (wordFnR w).toNat
  | 0x20 => decodeCopy n (wordFmtR w) (wordFnR w).toNat
  | 0x21 => decodeMail n (wordFmtR w) (wordFnR w).toNat
  | 0x22 => decodeFence n (wordFmtR w) (wordFnR w).toNat
  | 0x28 => decodeLane n (wordFmtV w) (wordFnV w).toNat
  | 0x29 => decodeMac n (wordFmtV w) (wordFnV w).toNat
  | 0x2A => decodePack n (wordFmtV w) (wordFnV w).toNat
  | 0x2B => decodeFloat n (wordFmtR w) (wordFnR w).toNat
  | 0x3F => decodeSystem n (wordFmtR w) (wordFnR w).toNat
  | _ => none

/-- The word of a Marble instruction (R120 to R123); none for every other command, and for a reserved condition of VCMP. -/
def encodeMarble (i : Instr) : Option Word :=
  match i with
  | .add _ f => some (encR 0x00 f 0x000)
  | .sub _ f => some (encR 0x00 f 0x001)
  | .and _ f => some (encR 0x00 f 0x002)
  | .or _ f => some (encR 0x00 f 0x003)
  | .xor _ f => some (encR 0x00 f 0x004)
  | .sll _ f => some (encR 0x00 f 0x005)
  | .srl _ f => some (encR 0x00 f 0x006)
  | .sra _ f => some (encR 0x00 f 0x007)
  | .mul _ f => some (encR 0x00 f 0x008)
  | .mulh _ f => some (encR 0x00 f 0x009)
  | .min _ f => some (encR 0x00 f 0x00A)
  | .max _ f => some (encR 0x00 f 0x00B)
  | .minu _ f => some (encR 0x00 f 0x00C)
  | .maxu _ f => some (encR 0x00 f 0x00D)
  | .clz _ f => some (encR 0x00 f 0x00E)
  | .popc _ f => some (encR 0x00 f 0x00F)
  | .jr _ f => some (encR 0x11 f 0x000)
  | .rldw _ urgent f => some (encR 0x1F f (if urgent then 0x100 else 0x000))
  | .rldv _ urgent f => some (encR 0x1F f (if urgent then 0x101 else 0x001))
  | .rldv2 _ urgent f => some (encR 0x1F f (if urgent then 0x102 else 0x002))
  | .rstw _ urgent f => some (encR 0x1F f (if urgent then 0x104 else 0x004))
  | .rstv _ urgent f => some (encR 0x1F f (if urgent then 0x105 else 0x005))
  | .rstv2 _ urgent f => some (encR 0x1F f (if urgent then 0x106 else 0x006))
  | .rcpy _ urgent f => some (encR 0x20 f (if urgent then 0x100 else 0x000))
  | .mpost _ slot f => some (encR 0x21 f (0#8 ++ slot))
  | .mwait _ f => some (encR 0x21 f 0x002)
  | .fence _ f => some (encR 0x22 f 0x000)
  | .fadd _ f => some (encR 0x2B f 0x000)
  | .fsub _ f => some (encR 0x2B f 0x001)
  | .fmul _ f => some (encR 0x2B f 0x002)
  | .fmin _ f => some (encR 0x2B f 0x003)
  | .fmax _ f => some (encR 0x2B f 0x004)
  | .fscale _ f => some (encR 0x2B f 0x005)
  | .fcvtf _ f => some (encR 0x2B f 0x006)
  | .fcvti _ f => some (encR 0x2B f 0x007)
  | .frcp _ f => some (encR 0x2B f 0x008)
  | .frsq _ f => some (encR 0x2B f 0x009)
  | .fexp2 _ f => some (encR 0x2B f 0x00A)
  | .flog2 _ f => some (encR 0x2B f 0x00B)
  | .fcmp _ rel f => some (encR 0x2B f (4#7 ++ rel))
  | .nop _ f => some (encR 0x3F f 0x000)
  | .halt _ f => some (encR 0x3F f 0x001)
  | .bar _ f => some (encR 0x3F f 0x002)
  | .rdcsr _ f => some (encR 0x3F f 0x003)
  | .wrcsr _ f => some (encR 0x3F f 0x004)
  | .trap _ f => some (encR 0x3F f 0x005)
  | .vadd _ f => some (encV 0x28 f 0x000)
  | .vsub _ f => some (encV 0x28 f 0x001)
  | .vadds _ f => some (encV 0x28 f 0x002)
  | .vsubs _ f => some (encV 0x28 f 0x003)
  | .vmin _ f => some (encV 0x28 f 0x004)
  | .vmax _ f => some (encV 0x28 f 0x005)
  | .vminu _ f => some (encV 0x28 f 0x006)
  | .vmaxu _ f => some (encV 0x28 f 0x007)
  | .vand _ f => some (encV 0x28 f 0x008)
  | .vor _ f => some (encV 0x28 f 0x009)
  | .vxor _ f => some (encV 0x28 f 0x00A)
  | .vshl _ f => some (encV 0x28 f 0x00B)
  | .vshr _ f => some (encV 0x28 f 0x00C)
  | .vsar _ f => some (encV 0x28 f 0x00D)
  | .vmull _ f => some (encV 0x28 f 0x00E)
  | .vmulh _ f => some (encV 0x28 f 0x00F)
  | .vabs _ f => some (encV 0x28 f 0x010)
  | .vsel _ f => some (encV 0x28 f 0x011)
  | .vbc _ f => some (encV 0x28 f 0x012)
  | .vperm _ f => some (encV 0x28 f 0x013)
  | .vmvl _ f => some (encV 0x28 f 0x014)
  | .vmvh _ f => some (encV 0x28 f 0x015)
  | .vtol _ f => some (encV 0x28 f 0x016)
  | .vtoh _ f => some (encV 0x28 f 0x017)
  | .vrsum _ f => some (encV 0x28 f 0x018)
  | .vsarn _ f => some (encV 0x28 f 0x019)
  | .vcmp _ cond f => if cond.toNat < 6 then some (encV 0x28 f (4#7 ++ cond)) else none
  | .vdot8 _ f => some (encV 0x29 f 0x000)
  | .vdot4 _ f => some (encV 0x29 f 0x001)
  | .vdot84 _ f => some (encV 0x29 f 0x002)
  | .f8dot _ f => some (encV 0x29 f 0x008)
  | .bdot _ f => some (encV 0x29 f 0x009)
  | .mxdot _ f => some (encV 0x29 f 0x00A)
  | .bclr _ f => some (encV 0x29 f 0x010)
  | .brd _ f => some (encV 0x29 f 0x011)
  | .brdq _ f => some (encV 0x29 f 0x012)
  | .bld _ f => some (encV 0x29 f 0x013)
  | .vunp4l _ f => some (encV 0x2A f 0x000)
  | .vunp4h _ f => some (encV 0x2A f 0x001)
  | .vunp5 _ f => some (encV 0x2A f 0x002)
  | .vunp6 _ f => some (encV 0x2A f 0x003)
  | .vpk4 _ f => some (encV 0x2A f 0x004)
  | .vpk5 _ f => some (encV 0x2A f 0x005)
  | .vpk6 _ f => some (encV 0x2A f 0x006)
  | .vunpf6a _ f => some (encV 0x2A f 0x007)
  | .vunpf6b _ f => some (encV 0x2A f 0x008)
  | .vf8bf _ f => some (encV 0x2A f 0x009)
  | .vf8bfh _ f => some (encV 0x2A f 0x00A)
  | .vbff8 _ f => some (encV 0x2A f 0x00B)
  | .addi _ f => some (encI 0x01 f)
  | .andi _ f => some (encI 0x02 f)
  | .ori _ f => some (encI 0x03 f)
  | .xori _ f => some (encI 0x04 f)
  | .shi _ f => some (encI 0x05 f)
  | .loop _ f => some (encI 0x12 f)
  | .ldb _ f => some (encI 0x13 f)
  | .ldbu _ f => some (encI 0x14 f)
  | .ldh _ f => some (encI 0x15 f)
  | .ldhu _ f => some (encI 0x16 f)
  | .ldw _ f => some (encI 0x17 f)
  | .stb _ f => some (encI 0x18 f)
  | .sth _ f => some (encI 0x19 f)
  | .stw _ f => some (encI 0x1A f)
  | .vld _ f => some (encI 0x1B f)
  | .vld2 _ f => some (encI 0x1C f)
  | .vst _ f => some (encI 0x1D f)
  | .vst2 _ f => some (encI 0x1E f)
  | .beq _ f => some (encB 0x09 f)
  | .bne _ f => some (encB 0x0A f)
  | .blt _ f => some (encB 0x0B f)
  | .bge _ f => some (encB 0x0C f)
  | .bltu _ f => some (encB 0x0D f)
  | .bgeu _ f => some (encB 0x0E f)
  | .bp _ f => some (encB 0x0F f)
  | .cmp _ f => some (encC 0x07 f)
  | .cmpi _ f => some (encC 0x08 f)
  | .lui _ f => some (encU 0x06 f)
  | .jal _ f => some (encJ 0x10 f)
  | _ => none

end Sys2Proof
end

