-- ==== Sys2Proof/Config.lean ====
section
/-! DEFINITION. What an implementation fixes and the free values: opaque constants without a body, applied to the operands
they depend on or to the counter State.free (log entry 1). Nothing in Lean can evaluate them. -/

namespace Sys2Proof

/-- What an entry of the per-board equalisation table holds for a lane and a rate: the module's transmit preset, the preset to ask of
the host's transmitter, and the module's receiver settings, none where they are neutral (R190). -/
structure EqSetting where
  transmit : Nat
  request : Nat
  receiver : Option Nat
  deriving DecidableEq, Repr, Inhabited

/-- What an entry of the per-board table holds for an optical lane: launch power, ring-modulator bias, receive equaliser taps, the
minimum launch and received power (R294). -/
structure OpticalSetting where
  launch : Nat
  bias : Nat
  taps : List Int
  minLaunch : Nat
  minReceived : Nat
  deriving DecidableEq, Repr, Inhabited

/-- The value of the free-value counter's reading `n` as a 64-bit quantity; narrower free values take its low bits. -/
opaque Config.freeValue : Nat → DWord

/-- How many exponents above 127 the block accumulator's range reaches (R112 gives no width). -/
opaque Config.baExtraHigh : Nat
/-- How many exponents below −126 the block accumulator's range reaches (R112 gives no width). -/
opaque Config.baExtraLow : Nat
/-- What the block accumulator holds for a result below its exponent range: the significand it keeps (0 for a zero), of the
sign, exponent and significand of the result (R118 states only the upper side). -/
opaque Config.baTiny : Bool → Int → BitVec 24 → BitVec 24
/-- FMIN (false) or FMAX (true) when one operand is NaN or the operands are zeros of both signs (R122 states no result). -/
opaque Config.minMaxOpen : Bool → BitVec 16 → BitVec 16 → BitVec 16
/-- BRDQ of a NaN in BA (R122 states no result). -/
opaque Config.brdqNan : Word
/-- The sign and payload bits of the fp8 NaN that VBFF8 writes for a bf16 NaN (R117, R118 leave them open). -/
opaque Config.fp8NanSign : BitVec 16 → Bool
/-- The two mantissa bits of an E5M2 NaN that VBFF8 writes, less one: 1, 2 or 3 (R117). -/
opaque Config.fp8NanMant : BitVec 16 → Fin 3
/-- The place of FRCP's result among those within 1 ulp of 1 / a, of the operand (R119 gives no table). -/
opaque Config.frcp : BitVec 16 → Fin 5
/-- The place of FRSQ's result among those within 1 ulp of 1 / √a, of the operand (R119 gives no table). -/
opaque Config.frsq : BitVec 16 → Fin 5
/-- The place of FEXP2's result among those within 1 ulp of 2^a, of the operand (R119 gives no table). -/
opaque Config.fexp2 : BitVec 16 → Fin 5
/-- The place of FLOG2's result among those within 1 ulp of log2 a, of the operand (R119 gives no table). -/
opaque Config.flog2 : BitVec 16 → Fin 5
/-- How often in a row a word that the router writes on its own behalf is lost to its bank's Marble, 64 standing for a write that is
abandoned, of the free-value counter's reading and the bank (R128, R129). -/
opaque Config.routerLosses : Nat → Nat → Fin 65
/-- The byte at a key of the HBM map that a pseudo-channel under key generation g returns before it is written (R250). -/
opaque Config.hbmStale : Nat → Nat → Byte
/-- The bank of its pseudo-channel that a line lies in (R169 leaves it to the stack). -/
opaque Config.lineBank : Nat → Nat
/-- The banks in which all three tries of a scrub of every bank read back a nonzero byte, of the free-value counter's reading
(R183). -/
opaque Config.scrubBad : Nat → List (Fin 1048576)
/-- Where a partition's parking space begins in its memory, a multiple of 128, of the partition and its parking bytes (R161). -/
opaque Config.parkBase : Nat → Nat → Nat
/-- The encoding of the cause of a service-state change, of the old and new state codes and a reason (R228). -/
opaque Config.serviceCause : Nat → Nat → Nat → Word
/-- Section 0x08: the regions of a resident slot in a Quad's scratch, of the section's bytes and the slot: first byte within the
Quad, length, and whether parking copies it (R149 and R161 give no layout). -/
opaque Config.slotRegions : List Byte → Nat → List (Nat × Nat × Bool)
/-- The initial state of a slot, byte for byte of its regions (R162). -/
opaque Config.slotInit : DWord → Nat → Nat → Byte
/-- The optical error of a cell, in ADC LSB, added to its exact result before it is clamped (R38, R53; the spec gives only
statistics of it), of the free-value counter's reading and of the DAC drive codes of its weight and its activation modulator. -/
opaque Config.noise : Nat → List Byte → List Byte → Int
/-- The sum of the pilot results that an element's accumulator holds, in µrad of phase or millionths of balance ratio: of the
free-value counter's reading at the last pilot window, the element, and the number of results (R92, R95). -/
opaque Config.pilotSum : Nat → Nat → Nat → Int
/-- What a coupler's or the attenuator's taps read, in millionths, of the free-value counter's reading (R92, R94). -/
opaque Config.tapRatio : Nat → Int
/-- The drive preset that the factory wrote to module flash, of Zoetrope and element (R103, R106). -/
opaque Config.presetDrive : Nat → Nat → BitVec 12
/-- The compensation coefficients that the factory wrote to module flash, of Zoetrope and element (R93). -/
opaque Config.presetCoef : Nat → Nat → BitVec 64
/-- The predistortion table byte that the factory wrote to module flash, of Zoetrope and offset (R103, R106). -/
opaque Config.presetPredist : Nat → Nat → Byte
/-- The coefficients that a calibration measures for an element, of Zoetrope, element and the free-value counter's reading
(R101). -/
opaque Config.calCoef : Nat → Nat → Nat → BitVec 64
/-- A predistortion table byte as calibration leaves it, of Zoetrope, offset and the free-value counter's reading (R102). -/
opaque Config.calPredist : Nat → Nat → Nat → Byte
/-- The weight and activation code widths, coded as WLW and ALW, that a Show declares for output scale k, of its section 0x05;
none where it declares none (R78; R149 gives no layout). -/
opaque Config.scaleWidths : List Byte → Nat → Option (BitVec 4)
/-- Whether an ECDSA P-384 signature verifies, of the public key, the digest and the signature (R245, R251, R343). -/
opaque Config.ecdsaVerifies : List Byte → List Byte → List Byte → Bool
/-- The Zaorn public key whose hash is fused for stage 1 (R245, R343). -/
opaque Config.zaornKey : List Byte
/-- The device root key in the fuses (R247). -/
opaque Config.rootKey : List Byte
/-- A key that the island derives by HKDF with SHA-384, of a label that stands for its use, a key and the context (R247). -/
opaque Config.derivedKey : Nat → List Byte → List Byte → List Byte
/-- A key that the island draws from its random source, of the number of the draw (R247). -/
opaque Config.drawnKey : Nat → List Byte
/-- The public part of a key (R247). -/
opaque Config.publicPart : List Byte → List Byte
/-- The certificate chain of an SPDM slot for a public key (R247, R254). -/
opaque Config.certChain : Nat → List Byte → List Byte
/-- The plaintext of an encrypted Show section, none when its tag fails, of the image key, SHOW_ID, the section's index, its
nonce and its ciphertext (R252). -/
opaque Config.sectionPlain : List Byte → DWord → Nat → List Byte → List Byte → Option (List Byte)
/-- Section 0x03: the instructions of Cluster c of the Quad (R149 gives no layout). -/
opaque Config.programs : List Byte → Nat → List Word
/-- Section 0x05: the feeder map's entries (R149 gives no layout). -/
opaque Config.feederMap : List Byte → List (Nat × BitVec 9)
/-- Section 0x05: the output scales, as FS_SHIFT less 12, which lies between 12 and 26 (R64; R149 gives no layout). -/
opaque Config.outScales : List Byte → List (Fin 15)
/-- Sections 0x02 with 0x01, and 0x09: the bytes for the Quad's scratch, of the section's type and bytes, the placement
section, by key within the Quad (R149 gives no layout). -/
opaque Config.scratchCells : Nat → List Byte → List Byte → List (Nat × Byte)
/-- Section 0x0A: the dead cells it was built for (R149 gives no layout). -/
opaque Config.fixupDead : List Byte → List (Nat × Nat)
/-- Section 0x0A: the instructions that it puts into the instruction RAM of Cluster c of the Quad, by address (R149 gives no
layout). -/
opaque Config.fixupProgram : List Byte → Nat → List (Nat × Word)
/-- Section 0x07: the wavelengths wanted to a partner (R149 gives no layout). -/
opaque Config.laneGrant : List Byte → Nat → Nat
/-- Whether a load moves the coupler set points of a Zoetrope, of the old and new SHOW_ID and the Zoetrope (R104). -/
opaque Config.couplersMove : DWord → DWord → Nat → Bool
/-- The bytes of the tested-set manifest of an identity: a file that module flash or a staged image brings (R339, R341). -/
opaque Config.manifestBytes : Nat → List Byte
/-- The firmware image that module flash holds before any update, of its kind and its place, 0 bank A, 1 bank B, 2 golden: version
in [47:0], interface level in [63:48] (R228, R339). -/
opaque Config.factoryImage : Nat → Nat → BitVec 64
/-- The identity of the firmware image, or with kind 3 of the manifest, that module flash holds before any update, of its kind and
its place (R245, R339). -/
opaque Config.factoryId : Nat → Nat → Nat
/-- The identity of the island firmware (R245). -/
opaque Config.islandId : Nat
/-- The identity of a per-board table, of the straps (R190, R245). -/
opaque Config.boardId : Nat → Nat
/-- What an entry of a per-board table holds, of the table's identity, the entry, the lane and the rate (R190; the spec gives entry 15
alone). -/
opaque Config.eqTable : Nat → Nat → Nat → Nat → EqSetting
/-- What an entry of a per-board table holds for an optical lane, of the table's identity, the entry and the lane (R294). -/
opaque Config.opticalTable : Nat → Nat → Nat → OpticalSetting
/-- What a core domain out of regulation gives as the FENCE_CAUSE of the Zoetrope it fences, less one (R61 lists no cause for
it; R349). -/
opaque Config.domainCause : Nat → Fin 9
/-- Whether a firmware image or manifest verifies, of its kind and identity (R245, R340). -/
opaque Config.imageVerifies : Nat → Nat → Bool
/-- The security version of a firmware image or manifest, of its kind and identity (R245). -/
opaque Config.imageSecurity : Nat → Nat → Nat
/-- The minimum security version that an image asks for, of its kind and identity; 0 where it asks for none (R345). -/
opaque Config.imageRequest : Nat → Nat → Nat
/-- The version and interface level that a firmware image carries (R245). -/
opaque Config.imageVersion : List Byte → BitVec 64
/-- Byte i of the SHA-384 digest of a measurement, of the measurement's identity (R245). -/
opaque Config.digestByte : Nat → Nat → Byte
/-- The draw of the key import key that a key blob was wrapped to (R249). -/
opaque Config.blobDraw : List Byte → Nat
/-- Whether the GCM tag of a key blob verifies under the key that it was wrapped with (R249). -/
opaque Config.blobTag : List Byte → Bool
/-- Byte i of a key blob's plaintext (R249). -/
opaque Config.blobPlain : List Byte → Nat → Byte

/-- How many spare bonds a bond test steers in, of Zoetrope and the free-value counter's reading (R316). -/
opaque Config.bondSpares : Nat → Nat → BitVec 16
/-- How many bonds a bond test leaves failed, of Zoetrope and the free-value counter's reading (R316). -/
opaque Config.bondFailed : Nat → Nat → BitVec 16
/-- The channels whose drive groups a bond test fails (R316). -/
opaque Config.bondChannels : Nat → Nat → List (Fin 388)
/-- The cells whose result groups a bond test fails (R316). -/
opaque Config.bondCells : Nat → Nat → List (Fin 260 × Fin 128)
/-- Whether a bond test fails a trim group or a clock bond (R316). -/
opaque Config.bondTrimFails : Nat → Nat → Bool

end Sys2Proof
end

