-- ==== Sys2Proof/Machine/State.lean ====
section
/-! DEFINITION. The state of the block as plain data: every register, buffer, counter, mode and pin the spec gives it,
grouped by chapter, and the queue of waiting commands. A field's default value is its value in State.reset: the reset
value of the spec's register tables, or the value log entry 2 names where the spec gives none. Sparse maps are lists of
(key, value) pairs with strictly rising keys in which no value equals what an absent key reads as. -/

namespace Sys2Proof.Machine

open Sys2Proof

/-- A sparse map from Nat. -/
abbrev SMap (α : Type) := List (Nat × α)

/-! ### Marbles, Clusters, scratch (R110 to R147) -/

/-- One live hardware loop: first instruction, last instruction, passes left (R112, R121). -/
structure LoopSt where
  start : BitVec 14
  last : BitVec 14
  left : Word
  deriving DecidableEq, Repr

/-- The block accumulator: sign, 24-bit significand and exponent, an infinity or NaN (R112, R118). The value of
`fin neg e sig` is ±sig × 2^e. -/
inductive BlockAcc where
  | nan
  | inf (neg : Bool)
  | fin (neg : Bool) (e : Int) (sig : BitVec 24)
  deriving DecidableEq, Repr

/-- A remote operation of a Marble that has not completed (R123). -/
inductive RemoteOp where
  | load (len : Nat) (dst : BitVec 5) (addr : Word)
  | store (addr : Word) (bytes : List Byte)
  | copy (src dst : Word) (len : Nat)
  | post (slot : BitVec 1)
  | handOver (bank : Nat)
  deriving DecidableEq, Repr

/-- A remote operation with its class (R137). -/
structure Outst where
  op : RemoteOp
  urgent : Bool
  deriving DecidableEq, Repr

/-- Why a running Marble issues nothing (R123). -/
inductive Waiting where
  | none
  | remote
  | mwait (d : BitVec 5) (addr : Nat) (val : Word)
  | fence
  | bar
  deriving DecidableEq, Repr

/-- The architectural state of one Marble (R112) with what its status register reports (R146). -/
structure Marble where
  m : Vector Word 32 := Vector.replicate 32 0
  v : Vector DWord 8 := Vector.replicate 8 0
  p : Vector Byte 4 := Vector.replicate 4 0
  ba : BlockAcc := .fin false 0 0
  pc : BitVec 14 := 0
  loop0 : Option LoopSt := none
  loop1 : Option LoopSt := none
  rstatLast : Byte := 0
  rstatCount : BitVec 16 := 0
  mflags : BitVec 3 := 0
  cycHi : Word := 0
  cause : BitVec 3 := 0
  code : BitVec 5 := 0
  outst : List Outst := []
  waiting : Waiting := .none
  deriving DecidableEq, Repr

/-- An arrival notice waiting for RXACK, with the partner and TAG of the Parcel it announces (R133). -/
structure Notice where
  partner : Nat
  tag : BitVec 12
  deriving DecidableEq, Repr

/-- What the router keeps of a Marble's mailbox beside the dual-port words: the next arrival sequence, held notices, and
the TX slots whose post has not completed (R132, R133). -/
structure Mailbox where
  seq : BitVec 16 := 0
  held : List Notice := []
  busy0 : Bool := false
  busy1 : Bool := false
  deriving DecidableEq, Repr

/-- The state of a scratch bank (R6, R181, R183): the owner tag while Owned, the tag handed over to while Scrubbing. -/
inductive BankState where
  | free
  | owned (tag : BitVec 20)
  | scrubbing (next : BitVec 20) (tries : Nat)
  | retired (next : BitVec 20)
  deriving DecidableEq, Repr

/-- One entry of an ownership log (R186). -/
structure OwnEntry where
  mtime : DWord
  gtime : DWord
  bank : BitVec 20
  master : Byte
  reason : Byte
  accTag : BitVec 20
  bankTag : BitVec 20
  deriving DecidableEq, Repr

/-- An ownership log: the entries oldest first, the index of the next entry, entries overwritten (R186). -/
structure OwnLog where
  entries : List OwnEntry := []
  next : Nat := 0
  overflow : Word := 0
  deriving DecidableEq, Repr

/-- The Marble side of the module. -/
structure MarbleSys where
  marbles : SMap Marble := []
  mailboxes : SMap Mailbox := []
  iram : SMap (List Word) := []
  scratch : List Host.Cell := []
  banks : SMap BankState := []
  conflicts : SMap (BitVec 48) := []
  clSum : SMap DWord := []
  bagSum : SMap DWord := []
  traps : BitVec 48 := 0
  cntSel : Word := 0
  cntVal : BitVec 48 := 0
  cntValid : Bool := false
  msel : Word := 0
  mstat : Word := 0
  ownSel : Word := 0
  own : Word := 0
  drops : SMap (BitVec 48) := []
  dropF : BitVec 48 := 0
  logEast : OwnLog := {}
  logWest : OwnLog := {}
  deriving DecidableEq, Repr

/-! ### Zoetropes (R27 to R109, R153 to R159) -/

/-- The states of a Zoetrope, coded 0 to 6 in ZOE_STATE (R6, R61). -/
inductive ZState where
  | off | warming | trimming | ready | running | gap | fenced
  deriving DecidableEq, Repr

/-- The states of a descriptor queue, coded 0 to 3 in QSTATE (R63). -/
inductive QState where
  | idle | running | halted | error
  deriving DecidableEq, Repr

/-- A gap kind, coded in GAP_KIND (R97, R108). -/
inductive GapKind where
  | none | idle | run | estimate
  deriving DecidableEq, Repr

/-- A window between its first symbol and its window-done (R38): the descriptor; the operand runs as the feeders began to
read them, and the symbol from which a channel whose read failed carries code 0 (R50); the columns that carry code 0 for want
of a session (R163); the thresholds that were in force at its boundary (R231); once integration has ended, the codes that the
channels carried and the samples; and the flags of R53 and R54. -/
structure WinRun where
  desc : BitVec 128
  t0 : Nat
  wRuns : List (List Byte) := []
  aRuns : List (List Byte) := []
  wCut : List (Option Nat) := []
  aCut : List (Option Nat) := []
  blank : List Bool := []
  wCodes : List (List Int) := []
  aCodes : List (List Int) := []
  colScale : List Byte := []
  nanCol : List Bool := []
  nanRow : Bool := false
  values : List Int := []
  audit : Bool := false
  forcedGap : Bool := false
  underrun : Bool := false
  nolight : Bool := false
  refLate : Bool := false
  thrFlag : Byte := 0
  thrGap : Byte := 0
  thrFence : Byte := 0
  flagThr : Bool := false
  wee : Byte := 0xFF
  checked : Bool := false
  deriving DecidableEq, Repr

/-- A window of a stream whose symbols have been counted: its first symbol, the symbol after its last, and the symbols in
which a code was clamped (R65, R98). -/
structure WinSpan where
  lo : Nat
  hi : Nat
  clamps : List Nat := []
  deriving DecidableEq, Repr

/-- An audited window whose record has not arrived (R82). -/
structure PendAudit where
  wtag : BitVec 16
  wee : Byte := 0xFF
  done : Option Nat := none
  deriving DecidableEq, Repr

/-- One descriptor queue with its stream: queue status (R63), the window integrating and those sampled but not done (R38),
the IDLE hold (R47), the symbol of its last window boundary, the pause for want of grant and the symbol up to which its whole
Marble cycles are counted (R40, R353, R365), the run counts and pending triggers of R79, R85, the end of the gap rule's hold,
whether the stream has stopped for a gap (R41), the audit index and pending windows (R80, R82), the thread whose Scene runs,
and the windows that the other stream's may overlap (R65, R98). -/
structure StreamSt where
  qstate : QState := .idle
  err : BitVec 6 := 0
  pos : BitVec 14 := 0
  integ : Option WinRun := none
  post : List WinRun := []
  idle : Option Nat := none
  boundAt : Nat := 0
  paused : Bool := false
  pausedAt : Nat := 0
  forcedNext : Bool := false
  weeLast : Byte := 0xFF
  gapRuns : Nat := 0
  fenceRuns : Nat := 0
  gapHold : Option Nat := none
  gapDue : Bool := false
  gapDeferred : Bool := false
  stopped : Bool := false
  fenceDue : Bool := false
  audIndex : Nat := 0
  pend : List PendAudit := []
  thread : Option (Fin 8) := none
  scene : BitVec 10 := 0
  spans : List WinSpan := []
  deriving DecidableEq, Repr

/-- An expectation slot (R56). -/
structure ExpSlot where
  valid : Bool := false
  wtag : BitVec 16 := 0
  sums : SMap Word := []
  deriving DecidableEq, Repr

/-- A trim element: drive, target, the count of pilot results at its last visit, wrap mark, compensation coefficients (R89 to
R93, R100). -/
structure TrimElem where
  drive : BitVec 12 := 0
  target : Int := 0
  accN : Nat := 0
  wrap : Bool := false
  coef : BitVec 64 := 0
  deriving DecidableEq, Repr

/-- What module flash keeps of a Zoetrope's calibration in one of its two banks: drives and matrix, by element that differs from
the factory's, predistortion tables, none for the factory's, spare map, and the channels recorded as failed that have no spare
in that map (R30, R103). -/
structure CalRec where
  elems : SMap TrimElem := []
  predist : Option (SMap Byte) := none
  spare : Word := 0
  failed : List Nat := []
  deriving DecidableEq, Repr

/-- The precision area of a Zoetrope (R86 to R88). -/
structure ZoePrec where
  cntGap : Byte := 0
  thrFence : Byte := 0
  thrGap : Byte := 0
  thrFlag : Byte := 0
  mix : Bool := false
  audLog : BitVec 5 := 0
  cntFence : Byte := 0
  phase : BitVec 16 := 0
  lastPass : Option Nat := none
  flagged : BitVec 48 := 0
  weeGaps : BitVec 48 := 0
  noest : BitVec 48 := 0
  audWins : BitVec 48 := 0
  audCells : DWord := 0
  audSum : DWord := 0
  audSumsq : DWord := 0
  audWeesq : DWord := 0
  audWeen : BitVec 48 := 0
  audMiss : BitVec 48 := 0
  audBadtag : BitVec 48 := 0
  audSatrec : BitVec 48 := 0
  audMax : BitVec 16 := 0
  hist : SMap DWord := []
  nom : SMap Byte := []
  deriving DecidableEq, Repr

/-- The trim area and gap accounting of a Zoetrope (R98, R107 to R109). OWED is kept in units of 1/200 symbol. `elems` lists
the elements that differ from the presets of module flash; `flashA` and `flashB` are its record's banks there, `flashInB` tells which
is in force, and a commit deferred for board temperature waits in `flashPend` (R103). `phN` and `balN` count the phase and
balance results of the pilot windows, `phFrom` and `balFrom` where the accumulators were last cleared, `accKey` names the
results (R92, R95, R99); `pilotAt` is the symbol at which the gap's pilot window ends; `taps` are the tap powers last measured
(R94); `lightDue` marks a loss of light that acts at the next boundary (R39); `since` is when the Zoetrope entered Warming or
its Trimming began with light. -/
structure ZoeTrim where
  cause : BitVec 4 := 0
  gapKind : GapKind := .none
  light : Bool := false
  lightDue : Bool := false
  conv : Bool := false
  wrapCnt : BitVec 12 := 0
  gainAtt : Byte := 16
  gainCpl : Byte := 16
  gainBal : Byte := 16
  gainPh : Byte := 16
  hpiBal : BitVec 12 := 1600
  hpiPh : BitVec 12 := 1600
  phRms : Byte := 0xFF
  phMax : Byte := 0xFF
  balRms : Byte := 0xFF
  balMax : Byte := 0xFF
  owed200 : Nat := 0
  gapRun : BitVec 24 := 0
  runDue : Bool := false
  passPos : BitVec 10 := 0
  gapLeft : Nat := 0
  gapNeedsPass : Bool := false
  gapPassed : Bool := false
  pilots : Bool := false
  cplWorst : BitVec 10 := 0
  cplErr : Byte := 0xFF
  gaps : BitVec 48 := 0
  gapForced : BitVec 48 := 0
  passes : BitVec 48 := 0
  gapSym : DWord := 0
  runSym : DWord := 0
  clamp : BitVec 48 := 0
  engRound : SMap Byte := []
  elems : SMap TrimElem := []
  flashA : CalRec := {}
  flashB : CalRec := {}
  flashInB : Bool := false
  flashPend : Option CalRec := none
  phN : Nat := 0
  balN : Nat := 0
  phFrom : Nat := 0
  balFrom : Nat := 0
  accKey : Nat := 0
  pilotAt : Nat := 0
  taps : List Nat := []
  since : Nat := 0
  badRuns : SMap Nat := []
  failed : List Nat := []
  kept : Nat := 0
  calHalted : Bool := false
  deriving DecidableEq, Repr

/-- A Scene thread (R153, R155, R157): whether the loaded Show has it on this Quad, its next Scene, whether a Scene of it runs
and which, whether its step is in progress on this Quad, how many steps this Quad has ended that not every Quad has, whether the
step is lost and to end, whether it is a rerun, whether the thread halted, when its last Scene ended, and when its next Scene's
condition was met. -/
structure ThreadSt where
  used : Bool := false
  next : BitVec 10 := 0
  running : Bool := false
  scene : BitVec 10 := 0
  mid : Bool := false
  lead : Nat := 0
  lost : Bool := false
  rerun : Bool := false
  halted : Bool := false
  since : Nat := 0
  metAt : Option Nat := none
  deriving DecidableEq, Repr

/-- The Scene stepper of a Quad (R153 to R159). -/
structure SceneSt where
  table : SMap (BitVec 128) := []
  threads : SMap ThreadSt := []
  arrivals : SMap (BitVec 16) := []
  wmax : Word := 0
  showId : Word := 0
  starts : BitVec 48 := 0
  lost : BitVec 48 := 0
  stray : BitVec 48 := 0
  rerun : BitVec 48 := 0
  deriving DecidableEq, Repr

/-- A Quad's HBM DMA descriptor (R174 to R176, R179): the descriptor words, the issuing Marble and the tag it acted with, and,
once it has completed, the lines whose invalidations it caused and no cache has acknowledged. -/
structure DmaOp where
  desc : BitVec 128
  n : MarbleId
  tag : BitVec 20
  invs : List Nat := []
  finished : Bool := false
  deriving DecidableEq, Repr

/-- One Zoetrope with its sequencer and the Quad's units that hang on it. -/
structure Zoe where
  state : ZState := .off
  fenceCause : Byte := 0
  part : BitVec 4 := 0xF
  modeReq : Bool := false
  modeApplied : Bool := false
  spare : Word := 0
  halt0 : Bool := false
  halt1 : Bool := false
  st0 : StreamSt := {}
  st1 : StreamSt := {}
  detpwr : BitVec 7 := 50
  outScale : Vector (BitVec 5) 8 := Vector.replicate 8 16
  widths : List (Option (BitVec 4)) := []
  cWin : DWord := 0
  cSat : BitVec 48 := 0
  cUnderrun : BitVec 48 := 0
  cReflate : BitVec 48 := 0
  cNolight : BitVec 48 := 0
  cClamp : BitVec 48 := 0
  fmap : SMap (BitVec 9) := []
  dead : List (Nat × Nat) := []
  badRefRows : BitVec 4 := 0
  predist : SMap Byte := []
  ram : SMap (BitVec 128) := []
  slots : SMap ExpSlot := []
  credits4 : Nat := 32768
  creditAt : Nat := 0
  fenceReq : Byte := 0
  calDue : Bool := false
  prec : ZoePrec := {}
  trim : ZoeTrim := {}
  scn : SceneSt := {}
  dma : List DmaOp := []
  wdone0 : BitVec 16 := 0
  wdone1 : BitVec 16 := 0
  sdone : BitVec 16 := 0
  sceneEnd : BitVec 2 := 0
  deriving DecidableEq, Repr

/-! ### HBM (R169 to R180, R187) -/

/-- What a byte of a pseudo-channel that is not listed reads as: a byte (0 after the zeroing of R172), or the
unpredictable data of R250 under key generation g. -/
inductive HbmFill where
  | zero
  | stale (g : Nat)
  deriving DecidableEq, Repr

/-- A pseudo-channel's assignment (R172, R188). -/
structure Pch where
  valid : Bool := false
  part : BitVec 4 := 0
  zeroing : Bool := false
  fill : HbmFill := .zero
  deriving DecidableEq, Repr

/-- A stack's status and error counters (R187, R188). -/
structure Stack where
  up : Bool := false
  refx2 : Bool := false
  temp : Byte := 0
  rfm : BitVec 16 := 0
  ce : BitVec 48 := 0
  ue : BitVec 48 := 0
  deriving DecidableEq, Repr

/-- A line held by a remote-line cache, with the data it was filled with (R177, R178). -/
structure CacheLine where
  pch : Nat
  line : Nat
  part : BitVec 4
  way : Nat
  bytes : List Byte
  deriving DecidableEq, Repr

/-- The remote-line cache of one half and the invalidations it has not acknowledged (R177, R179). -/
structure Rlc where
  lines : List CacheLine := []
  pend : List (Nat × Nat) := []
  hit : BitVec 48 := 0
  miss : BitVec 48 := 0
  inv : BitVec 48 := 0
  deriving DecidableEq, Repr

/-- The memory system (log entry 87). Known HBM bytes are listed at key 2^31 × pseudo-channel + offset; `badLines` are the lines with an
uncorrectable error. -/
structure HbmSys where
  mem : List Host.Cell := []
  pchs : SMap Pch := []
  hstacks : SMap Stack := []
  rlcEast : Rlc := {}
  rlcWest : Rlc := {}
  ways : SMap (BitVec 16) := []
  badLines : List (Nat × Nat) := []
  acts : SMap Nat := []
  deriving DecidableEq, Repr

/-! ### Sessions and Shows (R148 to R164) -/

/-- The states of a session (R6). -/
inductive SessState where
  | opened | resident | parked
  deriving DecidableEq, Repr

/-- A park, resume or close in progress: the queue, and the number of the descriptor, that its completion goes to; a park that
no descriptor asked for carries the status of its SESSION_EVENT instead (R162, R164, R207). -/
inductive SessOp where
  | none
  | park (q : Nat) (id : Nat)
  | resume (q : Nat) (id : Nat)
  | close (q : Nat) (id : Nat)
  | forced (status : Byte)
  deriving DecidableEq, Repr

/-- A session that is not Closed (R160 to R164, R204, R208). `takes` tells that its step uses an input token; `parkAt` and `parkLen`
give where its parked slot lies in partition memory. -/
structure Session where
  state : SessState := .opened
  home : Nat := 0
  trust : BitVec 16 := 0
  generate : Bool := false
  ext : Bool := false
  endToken : Word := 0xFFFFFFFF
  maxOut : Word := 0
  slot : Option Nat := none
  pslot : Option Nat := none
  input : List Word := []
  lastSeen : Bool := false
  ended : Bool := false
  outputs : Nat := 0
  step : Word := 0
  exts : List Nat := []
  inStep : Bool := false
  takes : Bool := false
  op : SessOp := .none
  lostOut : Option Word := none
  parkAt : Nat := 0
  parkLen : Nat := 0
  deriving DecidableEq, Repr

/-- The header of a Show image (R148). -/
structure ShowHdr where
  flags : BitVec 16
  showId : DWord
  imageLen : DWord
  groupN : Nat
  quads : Nat
  pch : Nat
  threads : Nat
  ifMrt : Nat
  ifTrim : Nat
  ifKal : Nat
  batchCols : Nat
  stateBytes : Nat
  stateFmt : Word
  lit : Nat
  scenes : Nat
  sections : Nat
  deriving DecidableEq, Repr

/-- A staged image: where it lies, and its header (R230, R253). -/
structure Staged where
  pma : Nat
  len : Nat
  hdr : ShowHdr
  deriving DecidableEq, Repr

/-- A loaded Show, and what its load and stop have reached (R150 to R152). -/
structure ShowSt where
  slot : Nat
  hdr : ShowHdr
  loading : Bool := false
  stopping : Bool := false
  faulted : Bool := false
  changed : List Nat := []
  layout : List (Nat × List Byte) := []
  plan : List (List Byte) := []
  closed : Nat := 0
  lost0 : Nat := 0
  deriving DecidableEq, Repr

/-! ### Host link and queues (R189 to R218) -/

/-- The configuration-space fields of a function that the rules use (R192, R193, R210, R211, R215), its MSI-X table by word,
its pending vectors (R195), and the request header that Advanced Error Reporting logged last (R192, R212). -/
structure FnCfg where
  enabled : Bool := false
  bme : Bool := false
  d3 : Bool := false
  tag10 : Bool := false
  relaxed : Bool := true
  mrrs : Nat := 512
  mps : Nat := 128
  cto : BitVec 4 := 0
  table : SMap Word := []
  pendingVec : List Nat := []
  ideKeys : Bool := false
  aerHeader : List Word := []
  inReset : Bool := false
  deriving DecidableEq, Repr

/-- The states of a queue pair, coded 0 to 3 in QP_STATE (R197, R201). -/
inductive QpState where
  | disabled | enabled | halted | resetting
  deriving DecidableEq, Repr

/-- A completion entry before it is given its SEQ and written (R205). -/
structure Cpl where
  cid : BitVec 16 := 0
  typ : BitVec 4 := 0
  status : Byte := 0
  session : BitVec 24 := 0
  extPend : Bool := false
  sqHead : BitVec 16 := 0
  data0 : DWord := 0
  time : DWord := 0
  irq : Bool := false
  uid : Nat := 0
  deriving DecidableEq, Repr

/-- A fetched descriptor that has not started: its 64 bytes and the SQ head after its fetch (R199, R209). -/
structure Fetched where
  bytes : List Byte
  sqHead : BitVec 16
  deriving DecidableEq, Repr

/-- A descriptor started and not completed: its number in starting order, its CID, its opcode, its session and IRQ flag, its
bytes, the host bytes it has read and not used, how many it has moved, whether its next read waits for a tag, whether it waits
for an earlier descriptor of its session to take effect, and whether a queue reset has taken its completion (R194, R198, R209,
R212). -/
structure InFlight where
  uid : Nat
  cid : BitVec 16
  op : Nat
  session : BitVec 24
  sqHead : BitVec 16
  irq : Bool
  bytes : List Byte
  acc : List Byte := []
  moved : Nat := 0
  waitTag : Bool := false
  defer : Bool := false
  quiet : Bool := false
  deriving DecidableEq, Repr

/-- A queue pair and its doorbell page (R196 to R201, R208). `held` is the holding buffer of 64; `stalled` are completions whose
operations wait for room in it. -/
structure Queue where
  state : QpState := .disabled
  haltCause : BitVec 4 := 0
  sqTail : BitVec 16 := 0
  cqHead : BitVec 16 := 0
  sqHead : BitVec 16 := 0
  cqTail : BitVec 16 := 0
  phase : Bool := true
  seq : Word := 0
  sqLog : BitVec 5 := 0
  cqLog : BitVec 5 := 0
  vector : BitVec 11 := 0
  ithr : BitVec 9 := 1
  itime : BitVec 10 := 0
  pasidEn : Bool := false
  pasid : BitVec 20 := 0
  capTag : BitVec 16 := 0
  rate : BitVec 16 := 0
  burst : BitVec 16 := 1
  sqBase : DWord := 0
  cqBase : DWord := 0
  late : BitVec 48 := 0
  timeouts : BitVec 48 := 0
  dbIgn : BitVec 48 := 0
  cqFull : BitVec 48 := 0
  outDrop : BitVec 48 := 0
  rateWait : BitVec 48 := 0
  tokens : Nat := 1
  refilled : Nat := 0
  waitFrom : Option Nat := none
  fetched : List Fetched := []
  flight : List InFlight := []
  held : List Cpl := []
  stalled : List Cpl := []
  bmOff : Bool := false
  unsig : Nat := 0
  oldestUnsig : Option Nat := none
  deriving DecidableEq, Repr

/-- Why the module read host memory (R212). -/
inductive ReadKind where
  | fetch (first count : Nat)
  | tokens (id : Nat)
  | memSrc (id : Nat)
  | image
  deriving DecidableEq, Repr

/-- A tag in use (R194, R212, R214): the queue, what was read, the address and length of the request, when it was issued,
whether it is quarantined. -/
structure TagUse where
  q : Nat
  kind : ReadKind
  addr : Nat := 0
  len : Nat := 0
  issued : Nat
  quarantined : Bool := false
  deriving DecidableEq, Repr

/-- The host side of the module. -/
structure HostSys where
  pf : FnCfg := { enabled := true }
  vfs : SMap FnCfg := []
  vfEnable : Bool := false
  numVfs : Nat := 0
  queues : SMap Queue := []
  tags : SMap TagUse := []
  uid : Nat := 1
  freed : SMap Nat := []
  deriving DecidableEq, Repr

/-! ### Command windows (R219 to R237) -/

/-- The command that a window runs: its opcode, when it started, the parameters it runs with, what its end waits for (R220, R224,
R227). -/
structure RunCmd where
  opcode : BitVec 16
  started : DWord
  noirq : Bool
  params : List Byte := []
  arg : Nat := 0
  xs : List Nat := []
  acc : List Byte := []
  deriving DecidableEq, Repr

/-- A command window (R219). -/
structure Window where
  opcode : BitVec 16 := 0
  flags : Byte := 0
  plen : BitVec 12 := 0
  tag : Word := 0
  status : BitVec 16 := 0x0002
  rlen : BitVec 11 := 0
  rtag : Word := 0
  elapsed : Word := 0
  ignored : BitVec 48 := 0
  done : BitVec 48 := 0
  params : List Byte := []
  reply : List Byte := []
  run : Option RunCmd := none
  deriving DecidableEq, Repr

/-! ### Partitions and security (R238 to R259) -/

/-- A partition (R238, R244) with the settings that wait for the next Show load (R229, R231). -/
structure PartSt where
  exist : Bool := false
  delegate : Bool := false
  mix : Bool := false
  mixNext : Bool := false
  swait : Nat := 1000
  swaitNext : Nat := 1000
  parking : Nat := 0
  parkingNext : Nat := 0
  keygen : Word := 0
  hasKey : Bool := false
  quads : Word := 0
  qbase : Nat := 0
  qcount : Nat := 0
  vecBase : Nat := 0
  vecCount : Nat := 0
  litBudget : Nat := 0
  ceil : Nat := 0
  detNext : BitVec 7 := 50
  audNext : BitVec 5 := 0
  thrFlag : Byte := 0
  thrGap : Byte := 0
  cntGap : Byte := 0
  thrFence : Byte := 0
  cntFence : Byte := 0
  resetting : Bool := false
  memKey : Nat := 0
  imageKey : List Byte := []
  signer : List Byte := []
  fmt : Option Word := none
  deriving DecidableEq, Repr

/-- A secured SPDM session (R254). -/
structure SpdmSess where
  finished : Bool := false
  keyGen : Nat := 0
  deriving DecidableEq, Repr

/-- The SPDM responder (R254). -/
structure Spdm where
  version : Bool := false
  caps : Bool := false
  algs : Bool := false
  sessions : SMap SpdmSess := []
  deriving DecidableEq, Repr

/-- One window of a guest firewall (R259). -/
structure GWindow where
  base : BitVec 39 := 0
  size : BitVec 24 := 0
  rights : BitVec 2 := 0
  deriving DecidableEq, Repr

/-- A guest port and its firewall (R255 to R259). LINK: 0 down, 1 training, 2 descriptor refused, 3 up. `trds` gives, by tag,
when each TRD without an answer was sent. -/
structure Guest where
  en : Bool := false
  isHeld : Bool := false
  link : BitVec 2 := 0
  part : BitVec 4 := 0
  nvec : BitVec 11 := 0
  wrRate : BitVec 16 := 0
  rdRate : BitVec 16 := 0
  reason : Byte := 0
  deny : BitVec 48 := 0
  wins : SMap GWindow := []
  desc : List Byte := []
  descOk : Bool := false
  denials : Nat := 0
  denyMs : Option Nat := none
  trds : SMap Nat := []
  deriving DecidableEq, Repr

/-- The security island (R245 to R254). -/
structure SecSys where
  bootOk : Bool := false
  factory : Bool := false
  debugLocked : Bool := false
  stage : Byte := 0
  refused : Byte := 0
  importKey : Nat := 0
  draws : Nat := 1
  meas : SMap Nat := []
  spdm : Spdm := {}
  guest0 : Guest := {}
  guest1 : Guest := {}
  deriving DecidableEq, Repr

/-! ### The optical fabric (R260 to R289, R295 to R306) -/

/-- The values of a directory slot, coded 0 to 5 (R263, R288). -/
inductive Slot where
  | none | self | untrained | training | member | absent
  deriving DecidableEq, Repr

/-- The credit state of one virtual channel of a pair in the sending direction and what the receiving direction counts
(R277, R278). -/
structure VcCredit where
  credits : Int := 0
  pool : Nat := 0
  sent : Word := 0
  got : Word := 0
  rcvd : Word := 0
  freed : Word := 0
  bad : Nat := 0
  deriving DecidableEq, Repr

/-- A pair with one partner (R263 to R268, R277, R288). -/
structure Peer where
  slot : Slot := .none
  trained : Bool := false
  ctrlUp : Bool := false
  phase : BitVec 3 := 0
  attempts : Nat := 0
  backoff : Bool := false
  refused : BitVec 7 := 0
  okFibre : Bool := false
  rtt : BitVec 16 := 0
  credit : SMap VcCredit := []
  ctrlSeq : BitVec 16 := 0
  lastFail : Option DWord := none
  deriving DecidableEq, Repr

/-- The states of a lane, coded 0 to 6 in KAL_LANE (R6, R313). -/
inductive LState where
  | dark | tuning | locking | lit | draining | dormant | spared
  deriving DecidableEq, Repr

/-- A payload in a lane's retry buffer (R275). -/
structure Unacked where
  lseq : BitVec 10
  vc : BitVec 2
  part : BitVec 4
  tag : BitVec 12
  index : BitVec 12
  deriving DecidableEq, Repr

/-- A wavelength position and its lane (R269, R274, R275, R295, R313). -/
structure Lane where
  state : LState := .dark
  idle : Bool := false
  tested : Bool := false
  underTest : Bool := false
  slice : BitVec 7 := 127
  holder : BitVec 4 := 0xE
  cause : BitVec 4 := 0
  fresh : Bool := true
  afterComb : Bool := false
  toDormant : Bool := false
  relock : Bool := false
  before : LState := .dark
  txSeq : BitVec 10 := 0
  rxAck : BitVec 10 := 0
  nak : Bool := false
  seen : List (BitVec 10) := []
  buf : List Unacked := []
  skips : Nat := 0
  deriving DecidableEq, Repr

/-- A Parcel posted here and not completed (R279, R282): the posting Marble and slot, the SEQ, the partner, TAG, deadline, the
Cluster offset of its source and the tag that its source reads act with. -/
structure TxParcel where
  n : MarbleId
  slot : BitVec 1
  seq : BitVec 16
  partner : Nat
  tag : BitVec 12
  part : BitVec 4
  due : Nat
  hdr : ParcelHdr
  data : List Byte
  srcOff : Nat := 0
  acc : BitVec 20 := 0
  sent : Nat := 0
  blocked : Bool := false
  deriving DecidableEq, Repr

/-- A Parcel arriving here (R280, R283): the partner and TAG, its header once FIRST has come, the data payloads by INDEX,
its standing with the arrival filter. -/
structure RxParcel where
  partner : Nat
  tag : BitVec 12
  part : BitVec 4 := 0
  hdr : Option ParcelHdr := none
  got : SMap (List Byte) := []
  dup : Bool := false
  delivered : Bool := false
  deriving DecidableEq, Repr

/-- An entry of the arrival filter: highest STEP delivered and the map of it and the 15 below (R283). -/
structure FiltEntry where
  highest : BitVec 16
  map : BitVec 16
  deriving DecidableEq, Repr

/-- A PARTNER_TRAIN in progress: the named modules, those whose pairs still train, those trained, its start (R265, R266). -/
structure TrainCmd where
  mask : DWord
  pending : List Nat
  trained : DWord := 0
  started : DWord := 0
  deriving DecidableEq, Repr

/-- The PRBS engine of an optical lane: its error injector, and what it has counted since its last test began (R304 to R306,
R313). -/
structure PrbsEng where
  injMode : BitVec 4 := 0
  injPeriod : BitVec 20 := 0
  bits : BitVec 48 := 0
  errs : BitVec 48 := 0
  inj : BitVec 48 := 0
  deriving DecidableEq, Repr

/-- What lane allocation does for a pair: a request, a release, or a replacement of a Spared lane (R270, R271, R303). -/
inductive AskKind where
  | request | release | replace
  deriving DecidableEq, Repr

/-- A piece of lane allocation that waits for a Marionette that serves (R333). -/
structure LaneAsk where
  kind : AskKind
  pair : Nat
  holder : BitVec 4
  count : Nat
  deriving DecidableEq, Repr

/-- The fabric: declaration, directory, group time, lanes, Parcels, counters (R260 to R289, R312). -/
structure FabSys where
  declared : Bool := false
  gn : BitVec 7 := 0
  gid : BitVec 6 := 0
  front : Bool := false
  epoch : Word := 0
  dirChanged : Bool := false
  dl : BitVec 13 := 2000
  gtOffset : Int := 0
  gtTarget : Int := 0
  gtAt : Nat := 0
  gtHalf : Bool := false
  missed : BitVec 16 := 0
  corr : BitVec 16 := 0
  peers : SMap Peer := []
  lanes : SMap Lane := []
  refusedFibres : List Nat := []
  idleEn : Bool := true
  dormMs : BitVec 10 := 0
  prbsSel : BitVec 10 := 0
  prbs : SMap PrbsEng := []
  kSpared : BitVec 48 := 0
  kMarginFail : BitVec 48 := 0
  kDorm : BitVec 48 := 0
  tx : List TxParcel := []
  rx : List RxParcel := []
  dead : List (Nat × BitVec 12 × Nat) := []
  lateTags : List (Nat × BitVec 12) := []
  filter : SMap FiltEntry := []
  resendQ : List (Nat × Unacked) := []
  train : Option TrainCmd := none
  asks : List LaneAsk := []
  trainRes : Option (DWord × DWord) := none
  ptx : DWord := 0
  prx : DWord := 0
  deadline : DWord := 0
  refused : DWord := 0
  dup : DWord := 0
  stale : DWord := 0
  late : DWord := 0
  retx : DWord := 0
  cwCorr : DWord := 0
  cwBad : DWord := 0
  skipAdj : DWord := 0
  credErr : DWord := 0
  trainFail : DWord := 0
  deriving DecidableEq, Repr

/-! ### Lasers and interlock (R290 to R313) -/

/-- The states of a laser source, coded 0 to 4 in LAS_SRC (R313). -/
inductive SrcState where
  | off | standby | starting | inService | failed
  deriving DecidableEq, Repr

/-- A laser source (R290 to R293, R313). `flash` records a failure that lasts until power-on. -/
structure Source where
  state : SrcState := .off
  degrading : Bool := false
  slot : BitVec 5 := 31
  out : BitVec 16 := 0
  switching : Bool := false
  deriving DecidableEq, Repr

/-- The laser banks and the interlock (R307 to R309, R312). -/
structure LasSys where
  sources : SMap Source := []
  allowed : Bool := false
  off : Bool := true
  latch : Bool := false
  rearm : Bool := false
  rearmStart : DWord := 0
  aClosed : Bool := false
  bClosed : Bool := false
  aMa : Byte := 0
  bMa : Byte := 0
  differSince : Option DWord := none
  opens : BitVec 48 := 0
  disagree : BitVec 48 := 0
  swaps : BitVec 48 := 0
  deriving DecidableEq, Repr

/-! ### Die links (R315 to R326) -/

/-- A UCIe module, STATE coded 0 to 4 (R326). -/
structure Ucie where
  state : BitVec 3 := 0
  proto : Bool := false
  repaired : BitVec 3 := 0
  retry : BitVec 16 := 0
  deriving DecidableEq, Repr

/-- One inter-hub group in one direction (R320, R321): the wire that its spare replaces or is to replace at the next replay,
whether it must be retrained, and the times of the uncorrectable beats and, per wire, of the corrected ones. -/
structure IhlGroup where
  trained : Bool := false
  spareUsed : Bool := false
  spareFor : Option Nat := none
  retrainDue : Bool := false
  ueTimes : List Nat := []
  wires : SMap (List Nat) := []
  deriving DecidableEq, Repr

/-- The die links (R325, R326). -/
structure D2dSys where
  mods : SMap Ucie := []
  bondSpares : SMap (BitVec 16) := []
  bondFailed : SMap (BitVec 16) := []
  groups : SMap IhlGroup := []
  ihlReset : Bool := false
  ihlTraining : Bool := false
  retrains : Byte := 0
  ihlCe : BitVec 48 := 0
  ihlUe : BitVec 48 := 0
  lbDone : Bool := false
  lbPass : Bool := false
  lbPoint : BitVec 5 := 0
  lbHalf : Bool := false
  lbModule : BitVec 7 := 0
  lbMs : BitVec 16 := 0
  lbRunning : Bool := false
  lbStart : Nat := 0
  lbBits : BitVec 48 := 0
  lbErr : BitVec 48 := 0
  deriving DecidableEq, Repr

/-! ### Marionettes (R327 to R347) -/

/-- The roles, coded 0 to 3 (R6, R336, R347). -/
inductive Role where
  | active | standby | resyncing | out
  deriving DecidableEq, Repr

/-- A Marionette (R327, R336, R347): its role and Out cause, the mirror frames of its full copy, whether it is held in reset, boots
or has booted, the image it runs (version, interface level, identity, source) with the manifest it chose (R340), the images of
each kind it has run with since the last module reset (R345), whether its claim is armed, when the Active has reset it, whether
it stays Out for good, when it booted, and its watchdog's last kick. -/
structure MrtSt where
  role : Role := .out
  cause : BitVec 4 := 0
  copied : Nat := 0
  isHeld : Bool := true
  booted : Bool := false
  version : BitVec 48 := 0
  level : BitVec 16 := 0
  image : Nat := 0
  src : BitVec 2 := 0
  man : Nat := 0
  manSrc : BitVec 2 := 0
  ran : List (Nat × Nat) := []
  armed : Bool := false
  resets : List Nat := []
  given : Bool := false
  booting : Bool := false
  bootAt : Nat := 0
  lastKick : DWord := 0
  deriving DecidableEq, Repr

/-- The Marionettes, the Top keepers and the firmware (R327 to R347). `claimed` is set once the lease has had a holder since the
reset (R331); `manifest` is the identity of the manifest in force (R340); `minSec` holds the fused minimum security versions by
kind (R245, R345). -/
structure MrtSys where
  m0 : MrtSt := {}
  m1 : MrtSt := {}
  holder : Option Mrt := none
  claimed : Bool := false
  rebuild : Bool := false
  peerHeld : Bool := false
  nohold : BitVec 16 := 0
  expiredAt : Option DWord := none
  lastRenewal : DWord := 0
  recvSeq : Word := 0
  lastRecv : DWord := 0
  nextTick : Nat := 0
  rseq : Word := 0
  pendRenewal : Option Word := none
  unconfRun : Nat := 0
  stopped : Bool := false
  auth : Option Mrt := none
  authImage : Nat := 0
  handAt : Option DWord := none
  exercised : Bool := false
  exercisedNext : Bool := false
  healthPass : Bool := false
  healthAt : Option DWord := none
  healthFrom : Nat := 0
  lastAck : DWord := 0
  lastFrame : Nat := 0
  tick : Nat := 0
  firstTick : Bool := false
  takeovers : BitVec 48 := 0
  unconf : BitVec 48 := 0
  resyncs : BitVec 48 := 0
  outs : BitVec 48 := 0
  allowed : Bool := false
  restricted : Bool := false
  manSrc : BitVec 2 := 0
  kalSrc : BitVec 2 := 0
  trimSrc : BitVec 2 := 0
  mrtSrc : BitVec 2 := 0
  images : SMap (BitVec 64) := []
  flash : SMap (BitVec 64) := []
  allowance : List Byte := []
  staged : SMap (BitVec 64) := []
  stagedId : SMap Nat := []
  flashId : SMap Nat := []
  manIds : SMap Nat := []
  manifest : Nat := 0
  minSec : SMap Nat := []
  bootBank : SMap Bool := []
  commit : Option Nat := none
  deferred : List Nat := []
  deriving DecidableEq, Repr

/-! ### Power and thermal (R348 to R366) -/

/-- A Quad's power (R351 to R354, R360, R366). Caps are in units of 0.1 W. -/
structure QuadPwr where
  thrLight : Bool := false
  thrLogic : Bool := false
  allow : Nat := 0
  run : Nat := 0
  marble : Nat := 0
  ramp : Nat := 0
  thermal : Nat := 60
  metered : Byte := 0
  paused : Bool := false
  thrAt : Option DWord := none
  deriving DecidableEq, Repr

/-- A sensor (R356 to R358, R366). -/
structure Sensor where
  sampled : Bool := false
  suspect : Bool := false
  failed : Bool := false
  near : Bool := false
  temp : Int := 0
  value : Int := 0
  since : Option DWord := none
  deriving DecidableEq, Repr

/-- An orderly stop in progress: what started it, and when (R361). -/
inductive StopCause where
  | command (w : Fn)
  | sensor (k : Nat)
  | supply
  deriving DecidableEq, Repr

/-- Power, thermal supervision and supplies (R348 to R366, R389 to R391). `stop` is the stop asked for, `stopRun` whether it is
in progress, `stopped` whether it has ended in Fault-held (R361). -/
structure PwrSys where
  env : BitVec 10 := 1000
  conv : BitVec 10 := 114
  poolCut : Nat := 0
  overMs : Nat := 0
  underMs : Nat := 0
  volt : BitVec 10 := 0
  pin : BitVec 10 := 0
  quads : SMap QuadPwr := []
  zpause : BitVec 48 := 0
  mpause : BitVec 48 := 0
  modeSet : Bool := false
  round : Bool := false
  suspects : BitVec 48 := 0
  sensors : SMap Sensor := []
  domainsOff : List Nat := []
  stop : Option StopCause := none
  stopRun : Bool := false
  stopAt : DWord := 0
  stopHeld : List Nat := []
  stopped : Bool := false
  tripped : Bool := false
  mainOk : Bool := false
  holdup : Bool := false
  droops : BitVec 16 := 0
  droopAt : DWord := 0
  overAt : Option DWord := none
  inputDv : Nat := 0
  railsOn : Bool := false
  auxOn : Bool := false
  deriving DecidableEq, Repr

/-! ### Reset, faults, Toybox, sideband (R367 to R403, R385 to R394) -/

/-- A fault record (R375) with what the collector keeps beside it (R376, R377): whether it is open, when the tick that handles
it ends, and its log index. -/
structure FaultRec where
  mtime : DWord := 0
  gtime : DWord := 0
  code : BitVec 16 := 0
  cls : BitVec 2 := 0
  high : BitVec 2 := 0
  cleared : Bool := false
  recovered : Bool := false
  injected : Bool := false
  part : Byte := 0xFF
  src : FaultSource := ⟨13, 0⟩
  merge : BitVec 16 := 0
  lastUs : BitVec 16 := 0
  detail : Word := 0
  opened : Bool := false
  closes : Option Nat := none
  index : Nat := 0
  deriving DecidableEq, Repr

/-- A source's quiet period: when it began (R377). -/
structure Quiet where
  src : FaultSource
  start : DWord
  deriving DecidableEq, Repr

/-- One entry of the reset history (R401). -/
structure ResetEntry where
  mtime : DWord
  source : Byte
  number : Word
  deriving DecidableEq, Repr

/-- The fault collector and the Toybox's fault part. `log` is the 512-record ring by index; `lost` holds records that were
overwritten while uncleared (R382). `firsts` gives, per kind of R403, the interval of the last first event. -/
structure FltSys where
  log : SMap FaultRec := []
  lost : List FaultRec := []
  any : Bool := false
  newest : BitVec 9 := 0
  ovf : Word := 0
  recov : BitVec 16 := 0
  quiet : BitVec 16 := 2000
  quiets : List Quiet := []
  nCorr : BitVec 48 := 0
  nCont : BitVec 48 := 0
  nFatal : BitVec 48 := 0
  line : Bool := false
  firsts : SMap Nat := []
  deriving DecidableEq, Repr

/-- The service states, coded 0 to 7 (R6, R228). -/
inductive Service where
  | cold | booting | calibrating | serving | restricted | degraded | stopping | faultHeld
  deriving DecidableEq, Repr

/-- Reset control, service state, keepsake registers, Toybox ECC and history (R367 to R373, R401). -/
structure RstSys where
  last : BitVec 4 := 0
  count : BitVec 16 := 0
  number : Word := 0
  step : BitVec 4 := 0
  begun : Nat := 0
  begunAt : Nat := 0
  stepNine : Bool := false
  wait : BitVec 4 := 0
  ms : BitVec 24 := 0
  origin : DWord := 0
  perst : Bool := false
  service : Service := .cold
  cause : Word := 0
  fatalHeld : Bool := false
  keep : SMap Word := []
  ecc : Word := 0
  history : SMap ResetEntry := []
  handover : Bool := false
  resetDue : Option DWord := none
  resetSrc : BitVec 4 := 2
  fencedEast : Bool := false
  fencedWest : Bool := false
  unfence : List Half := []
  presentEast : Bool := false
  presentWest : Bool := false
  blocks : List (BlockKind × Nat) := []
  calDone : Bool := false
  deriving DecidableEq, Repr

/-- The sideband outputs and the SMBus interface (R387, R392 to R394). -/
structure SideSys where
  alerts : BitVec 5 := 0
  laserOn : Bool := false
  mismatch : SMap Nat := []
  checkAt : Nat := 0
  smbStatus : BitVec 16 := 0x0002
  smbWrites : BitVec 16 := 0
  straps : BitVec 4 := 0
  deriving DecidableEq, Repr

/-- Build, steppings, serial (R3, R192) and time (R20, R119). `aux` counts auxiliary cycles; module time is 32 × aux / 5. -/
structure IdSys where
  ml : Bool := false
  hubStep : BitVec 4 := 0
  logicStep : BitVec 4 := 0
  serial : DWord := 0
  aux : Nat := 0
  resetAt : DWord := 0
  timeHi : Word := 0
  gtimeHi : Word := 0
  latches : SMap Word := []
  deriving DecidableEq, Repr

/-! ### What leaves the module -/

/-- What the block emits (log entry 4): register read data, writes and reads of host memory, completion entries, MSI-X
messages, AER reports, SPDM replies, guest packets, messages to partners, SMBus answers. -/
inductive Output where
  | readData (f : Fn) (v : Word)
  | hostRead (f : Fn) (pasid : Option (BitVec 20)) (tag : Nat) (addr len : Nat)
  | hostWrite (f : Fn) (pasid : Option (BitVec 20)) (ro : Bool) (addr : Nat) (bytes : List Byte)
  | completion (f : Fn) (pasid : Option (BitVec 20)) (addr : Nat) (q : Nat) (index : Nat) (phase : Bool) (seq : Word) (c : Cpl)
    (bytes : List Byte)
  | msix (f : Fn) (vec : Nat) (addr : DWord) (data : Word)
  | aerTimeout (f : Fn) (tag : Nat) (header : List Word)
  | aerAbort (f : Fn) (tag : Nat) (st : CplStatus)
  | aerUnexpected (f : Fn) (tag : Nat)
  | spdm (req : Byte) (ok : Bool) (body : List Byte)
  | guestCpl (g : Site) (tag : BitVec 10) (status : Byte) (bytes : List Byte)
  | guestReq (g : Site) (tag : BitVec 10) (off : BitVec 40) (wr : Option (List Byte))
  | targetRead (p : Part) (bytes : List Byte)
  | payload (l : Nat) (u : Unacked) (bytes : List Byte)
  | resend (l : Nat) (u : Unacked)
  | credits (partner : Nat) (vc : Nat) (n : Nat)
  | done (partner : Nat) (tag : BitVec 12) (status : Byte) (resends : Nat)
  | abort (partner : Nat) (tag : BitVec 12)
  | grpTick (partner : Nat) (t : DWord)
  | fabDl (partner : Nat) (v : BitVec 13)
  | epoch (partner : Nat) (e : Word) (dir : List (BitVec 3))
  | trainReq (partner : Nat) (mask : DWord)
  | lossReport (a b : Nat)
  | probe (partner : Nat)
  | laneMsg (l : Nat) (m : LinkMsg)
  | laneList (partner : Nat) (lanes : List Nat)
  | laneReq (partner : Nat) (release : Bool) (holder : BitVec 4) (count : Nat)
  | memMove (partner : Nat) (wr : Bool) (pma len : Nat) (bytes : List Byte)
  | relay (m : Nat) (opcode : BitVec 16) (params : List Byte)
  | partReset (m : Nat) (p : Nat)
  | partTable (m : Nat) (bytes : List Byte)
  | renewal (seq : Word)
  | renewalAck (seq : Word)
  | mirror (tick : Nat)
  | frameAck (tick : Nat)
  | replay (h : Half) (g : Nat)
  | smbRead (bytes : List Byte)
  | smbAck
  | smbNack
  deriving DecidableEq, Repr

/-! ### The state -/

/-- The block's state. `free` is the model's own counter of free values (log entry 1); `out` is what the block has
emitted, oldest first (log entry 4); `pending` is the queue of waiting commands, first in, first out. -/
structure State where
  ident : IdSys := {}
  mrb : MarbleSys := {}
  zoes : SMap Zoe := []
  hbm : HbmSys := {}
  sessions : SMap Session := []
  staged : SMap Staged := []
  shows : SMap ShowSt := []
  host : HostSys := {}
  windows : SMap Window := []
  parts : SMap PartSt := []
  sec : SecSys := {}
  fab : FabSys := {}
  las : LasSys := {}
  d2d : D2dSys := {}
  mrt : MrtSys := {}
  pwr : PwrSys := {}
  flt : FltSys := {}
  rst : RstSys := {}
  side : SideSys := {}
  free : Nat := 0
  out : List Output := []
  pending : List Instr := []
  deriving DecidableEq, Repr

/-- Why the block stops: it never does. The spec gives every command an effect in every state, if only none, or the model a free
value; a command about a unit that the build does not fit finds nothing to act on (R1; log entry 99). -/
inductive Fault where
  deriving DecidableEq, Repr

/-- Why the model gives a command no meaning. -/
inductive Refusal where
  /-- The command has no meaning yet; raised by the arms of Dispatch.lean alone. Safe. -/
  | notModelled (mnemonic : String)
  /-- A factory-only opcode in factory mode, whose effect R236 does not lay out. Raised by FACTORY_OPCODE when SEC_STATUS
  FACTORY is 1. Safe. -/
  | factoryMode
  deriving DecidableEq, Repr

/-- The machine right after reset: the auxiliary rail has not come up (R367, power-on values); AUX_POWER_ON starts the
release order of R370. Every field is at the spec's reset value, or at the value log entry 2 names. -/
def State.reset : State := {}

end Sys2Proof.Machine
end

