-- ==== Sys2Proof/Machine/Ops.lean ====
section
/-! DEFINITION. The operations that the meanings share: sparse maps and byte memories, time, free values, what leaves the
module, faults (R374 to R380, R403), service state, and bank ownership (R181 to R186). -/

namespace Sys2Proof.Machine

open Sys2Proof

set_option linter.unusedVariables false

/-! ### Sparse maps and memories -/

/-- Whether a map's keys rise strictly. -/
abbrev Rising {α : Type} (m : SMap α) : Prop := m.Pairwise (fun x y => x.1 < y.1)

/-- The canonical form of a map whose absent keys read as `d`: rising keys, and no value equal to `d`. -/
abbrev Canon {α : Type} (d : α) (m : SMap α) : Prop := Rising m ∧ ∀ e ∈ m, e.2 ≠ d

/-- The canonical form of a byte memory whose unlisted bytes read as 0. -/
def Memory.wf (m : List Host.Cell) : Bool := decide (Canon (0 : Byte) m)

/-- The value at key `k`, `d` where the map lists none. -/
def look {α : Type} (m : SMap α) (k : Nat) (d : α) : α :=
  match m.find? (fun e => e.1 == k) with
  | some e => e.2
  | none => d

/-- The map with `v` at key `k`; a `v` equal to the default `d` is not listed. -/
def put {α : Type} [DecidableEq α] (m : SMap α) (k : Nat) (v d : α) : SMap α :=
  m.filter (fun e => decide (e.1 < k)) ++ (if v = d then [] else [(k, v)]) ++ m.filter (fun e => decide (k < e.1))

/-- The map with `f` applied to the value at key `k`. -/
def modAt {α : Type} [DecidableEq α] (m : SMap α) (k : Nat) (d : α) (f : α → α) : SMap α :=
  put m k (f (look m k d)) d

/-- The map with `v` at key `k`, listed whatever it is: a map whose listed keys are what exists. -/
def ins {α : Type} (m : SMap α) (k : Nat) (v : α) : SMap α :=
  m.filter (fun e => decide (e.1 < k)) ++ [(k, v)] ++ m.filter (fun e => decide (k < e.1))

/-- The value at key `k`, where the map lists it. -/
def find {α : Type} (m : SMap α) (k : Nat) : Option α := (m.find? (fun e => e.1 == k)).map (·.2)

/-- The map without key `k`. -/
def drop {α : Type} (m : SMap α) (k : Nat) : SMap α := m.filter (fun e => e.1 != k)

/-- Whether the map lists key `k`. -/
def has {α : Type} (m : SMap α) (k : Nat) : Bool := m.any (fun e => e.1 == k)

/-- The map without the keys from `lo` to `hi` − 1. -/
def dropRange {α : Type} (m : SMap α) (lo hi : Nat) : SMap α :=
  m.filter (fun e => decide (e.1 < lo) || decide (hi ≤ e.1))

/-- The map with `f` applied to the values at the `n` keys from `lo` on. -/
def mapBlock {α : Type} [DecidableEq α] (m : SMap α) (lo n : Nat) (d : α) (f : α → α) : SMap α :=
  let own := m.filter (fun e => decide (lo ≤ e.1) && decide (e.1 < lo + n))
  m.filter (fun e => decide (e.1 < lo))
    ++ (((List.range n).map (fun i => (lo + i, f (look own (lo + i) d)))).filter (fun e => decide (e.2 ≠ d)))
    ++ m.filter (fun e => decide (lo + n ≤ e.1))

/-- A map from a list of values at 0, 1, 2, …, without those equal to `d`. -/
def ofList {α : Type} [DecidableEq α] (xs : List α) (d : α) : SMap α :=
  (xs.mapIdx (fun i x => (i, x))).filter (fun e => decide (e.2 ≠ d))

/-- The map with `f` applied to every listed value; values equal to `d` are not listed. -/
def mapVals {α β : Type} [DecidableEq β] (m : SMap α) (d : β) (f : α → β) : SMap β :=
  m.foldr (fun e n => put n e.1 (f e.2) d) []

/-- `f` applied to the state for each key in turn. -/
def forAll {α : Type} (ks : List α) (f : α → State → State) (s : State) : State := ks.foldl (fun s k => f k s) s

/-- `len` bytes of a map from `a` on; unlisted bytes read as 0. -/
def readBytes (m : SMap Byte) (a len : Nat) : List Byte := (List.range len).map (fun i => look m (a + i) 0)

/-- The map with `bs` written from `a` on; unlisted bytes read as 0. -/
def writeBytes (m : SMap Byte) (a : Nat) (bs : List Byte) : SMap Byte :=
  (bs.mapIdx (fun i b => (a + i, b))).foldl (fun m e => put m e.1 e.2 0) m

/-- The little-endian number of a list of bytes (R8). -/
def leNat : List Byte → Nat
  | [] => 0
  | b :: bs => b.toNat + 256 * leNat bs

/-- The `n` little-endian bytes of a number (R8). -/
def leBytes : Nat → Nat → List Byte
  | 0, _ => []
  | n + 1, x => BitVec.ofNat 8 x :: leBytes n (x / 256)

/-- `len` bytes of a list from offset `o`; bytes beyond its end read as 0. -/
def slice (bs : List Byte) (o len : Nat) : List Byte := (List.range len).map (fun i => bs.getD (o + i) 0)

/-- The little-endian number in `len` bytes of a list at offset `o`. -/
def fieldAt (bs : List Byte) (o len : Nat) : Nat := leNat (slice bs o len)

/-- Bits [hi:lo] of a number. -/
def bitsOf (x hi lo : Nat) : Nat := x / 2 ^ lo % 2 ^ (hi + 1 - lo)

/-- The two's-complement reading of the low `w` bits of a number. -/
def sext (w x : Nat) : Int := (BitVec.ofNat w x).toInt

/-- Whether every listed key's value satisfies `p`. -/
def allVals {α : Type} (m : SMap α) (p : Nat → α → Bool) : Bool := m.all (fun e => p e.1 e.2)

/-- `n` plus one, stopping at 2^w − 1. -/
def satInc {w : Nat} (x : BitVec w) : BitVec w := if x = BitVec.allOnes w then x else x + 1

/-- The sum, stopping at 2^w − 1. -/
def satAdd {w : Nat} (x : BitVec w) (n : Nat) : BitVec w :=
  if x.toNat + n < 2 ^ w then BitVec.ofNat w (x.toNat + n) else BitVec.allOnes w

/-! ### Time (R20, R119, R268) -/

/-- Module time in ns: 32 ns over every five auxiliary cycles (R20). -/
def timeNs (s : State) : Nat := 32 * s.ident.aux / 5

/-- Module time (R20). -/
def mtime (s : State) : DWord := BitVec.ofNat 64 (timeNs s)

/-- Module time brought up to `due` ns, when it lies ahead (log entry 6). -/
def advanceTo (due : Nat) (s : State) : State :=
  { s with ident.aux := max s.ident.aux ((5 * due + 31) / 32) }

/-- The offset of group time now: the target, approached by at most 100 ns per ms, or, after a backward correction above
10 µs, at half the rate of module time (R268). -/
def gtOffsetNow (s : State) : Int :=
  let e : Int := (timeNs s : Int) - s.fab.gtAt
  if s.fab.gtHalf then max s.fab.gtTarget (s.fab.gtOffset - e / 2)
  else if s.fab.gtOffset ≤ s.fab.gtTarget then min s.fab.gtTarget (s.fab.gtOffset + e / 10000)
  else max s.fab.gtTarget (s.fab.gtOffset - e / 10000)

/-- Group time in ns (R268); module time on the front module and outside a group of more than one. -/
def gtimeNs (s : State) : Nat :=
  if s.fab.declared && decide (1 < s.fab.gn.toNat) && !s.fab.front then (timeNs s + gtOffsetNow s).toNat else timeNs s

/-- Group time (R268). -/
def gtime (s : State) : DWord := BitVec.ofNat 64 (gtimeNs s)

/-- Symbol periods since module time 0 (R37). -/
def nowSym (s : State) : Nat := 16 * timeNs s

/-- Module time brought up to a symbol period. -/
def advanceSym (k : Nat) (s : State) : State := advanceTo ((k + 15) / 16) s

/-! ### Free values and output -/

/-- The next free value (log entry 1). -/
def freeVal (s : State) : DWord := Config.freeValue s.free

/-- The state after a free value was read. -/
def useFree (s : State) : State := { s with free := s.free + 1 }

/-- `n` free bytes: what the spec does not give (log entry 1). -/
def freeBytes (s : State) (n : Nat) : List Byte := (List.range n).map (fun i => (Config.freeValue (s.free + i)).setWidth 8)

/-- The state after `n` free values were read. -/
def useFrees (n : Nat) (s : State) : State := { s with free := s.free + n }

/-- The block emits `o` (log entry 4). -/
def emit (o : Output) (s : State) : State := { s with out := s.out ++ [o] }

/-! ### Service state (R6, R228) -/

/-- The code of a service state (R6). -/
def Service.code : Service → Nat
  | .cold => 0 | .booting => 1 | .calibrating => 2 | .serving => 3
  | .restricted => 4 | .degraded => 5 | .stopping => 6 | .faultHeld => 7

/-- The module enters a service state; the cause's encoding is free (R228). -/
def setService (st : Service) (reason : Nat) (s : State) : State :=
  if s.rst.service = st then s
  else { s with rst.service := st, rst.cause := Config.serviceCause s.rst.service.code st.code reason }

/-! ### Functions and their vectors (R191, R195) -/

/-- Partition p. -/
def part (s : State) (p : Nat) : PartSt := look s.parts p {}

/-- The state with partition p changed. -/
def modPart (p : Nat) (f : PartSt → PartSt) (s : State) : State := { s with parts := modAt s.parts p {} f }

/-- The function that a partition's queues and its window belong to; the PF's where the partition's VF is p (R191). -/
def fnCfg (s : State) : Fn → FnCfg
  | .pf => s.host.pf
  | .vf p => look s.host.vfs p.val {}

/-- The state with a function's configuration changed. -/
def modFnCfg (f : Fn) (g : FnCfg → FnCfg) (s : State) : State :=
  match f with
  | .pf => { s with host.pf := g s.host.pf }
  | .vf p => { s with host.vfs := modAt s.host.vfs p.val {} g }

/-- Whether a function exists: the PF, or a VF that SR-IOV has enabled (R191). -/
def fnOn (s : State) : Fn → Bool
  | .pf => true
  | .vf p => s.host.vfEnable && decide (p.val < s.host.numVfs)

/-- Whether a function may issue a request (R193, R215, R216). -/
def fnDma (s : State) (f : Fn) : Bool := fnOn s f && (fnCfg s f).bme && !(fnCfg s f).d3 && !(fnCfg s f).inReset

/-- What a word of a function's MSI-X table reads as at reset: the mask bit of an entry is set (log entry 71). -/
def tableReset (k : Nat) : Word := if k % 4 = 3 then 1 else 0

/-- A word of a function's MSI-X table: word i of entry v at 4 × v + i (R195). -/
def tableWord (c : FnCfg) (k : Nat) : Word := look c.table k (tableReset k)

/-- Whether a vector is masked. -/
def vecMasked (c : FnCfg) (vec : Nat) : Bool := (tableWord c (4 * vec + 3)).getLsbD 0

/-- How many vectors of a function are allocated (R195). -/
def vecAlloc (s : State) : Fn → Nat
  | .pf => 64
  | .vf p => (part s p.val).vecCount

/-- A function's MSI-X vector is signalled: one beyond the allocation never is, a masked one sets its pending bit; the message
goes to the address, with the data, of the vector's table entry (R195, R210, R215). -/
def signalVec (f : Fn) (vec : Nat) (s : State) : State :=
  let c := fnCfg s f
  if vecAlloc s f ≤ vec ∨ !fnOn s f then s
  else if vecMasked c vec then
    if c.pendingVec.contains vec then s else modFnCfg f (fun c => { c with pendingVec := c.pendingVec ++ [vec] }) s
  else if fnDma s f then emit (.msix f vec (tableWord c (4 * vec + 1) ++ tableWord c (4 * vec)) (tableWord c (4 * vec + 2))) s
  else s

/-! ### ALERT_N (R364) -/

/-- The conditions of R364 that hold: a thermal cap below 6 W, a suspect sensor, a deferred flash write, a lowered pool,
Stopping. -/
def alertBits (s : State) : BitVec 5 :=
  BitVec.ofBool (decide (s.rst.service = .stopping)) ++ BitVec.ofBool (decide (0 < s.pwr.poolCut))
    ++ BitVec.ofBool (decide (s.mrt.deferred ≠ [])) ++ BitVec.ofBool (s.pwr.sensors.any (fun e => e.2.suspect))
    ++ BitVec.ofBool (s.pwr.quads.any (fun e => decide (e.2.thermal < 60)))

/-- ALERT_N follows the conditions of R364; the onset of one sends PF vector 2. -/
def settleAlert (s : State) : State :=
  let b := alertBits s
  let fresh := b &&& ~~~s.side.alerts
  let s := { s with side.alerts := b }
  if fresh = 0 then s else signalVec .pf 2 s

/-! ### Faults (R374 to R378, R380, R403) -/

/-- The class of a fault code: 0 Corrected, 1 Contained, 2 Fatal (R380). -/
def faultClass (code : BitVec 16) : BitVec 2 :=
  if code ∈ ([0x0702, 0x0703, 0x0802, 0x0905] : List (BitVec 16)) then 2
  else if code ∈ ([0x0103, 0x0201, 0x0202, 0x0203, 0x0301, 0x0302, 0x0304, 0x0402, 0x0502, 0x0602, 0x0605, 0x0701,
    0x0901, 0x0904, 0x0A02, 0x0B01, 0x0B02] : List (BitVec 16)) then 1
  else 0

/-- How far behind the newest record an index lies. -/
def logAge (f : FltSys) (i : Nat) : Nat := (f.newest.toNat + 512 - i) % 512

/-- The newest logged record that satisfies `p`, with its index. -/
def newestWhere (f : FltSys) (p : FaultRec → Bool) : Option (Nat × FaultRec) :=
  (f.log.filter (fun e => p e.2)).foldl
    (fun best e => match best with
      | none => some e
      | some b => if logAge f e.1 < logAge f b.1 then some e else some b) none

/-- Whether a record is open: until the end of the tick that handles it (R376). -/
def isOpen (now : Nat) (r : FaultRec) : Bool := r.opened && (match r.closes with
  | none => true
  | some t => decide (now < t))

/-- The record that a fault of `src`, `code` and `cls` merges into at time `now`: the open record of its source, or for a
Corrected fault the source's newest record under the one-second rule (R376). -/
def mergeTarget (f : FltSys) (src : FaultSource) (code : BitVec 16) (cls : BitVec 2) (now : Nat) : Option (Nat × FaultRec) :=
  match newestWhere f (fun r => decide (r.src = src) && isOpen now r) with
  | some e => some e
  | none =>
    if cls = 0 then
      match newestWhere f (fun r => decide (r.src = src)) with
      | some e => if e.2.code = code ∧ e.2.high = 0 ∧ now < e.2.mtime.toNat + 1000000000 then some e else none
      | none => none
    else none

/-- A record after a fault of class `cls` merged into it at time `now` (R375, R376). -/
def mergeRec (r : FaultRec) (cls : BitVec 2) (now : Nat) : FaultRec :=
  { r with
    merge := satInc r.merge
    high := if r.high.toNat < cls.toNat then cls else r.high
    lastUs := satAdd (0 : BitVec 16) ((now - r.mtime.toNat) / 1000)
    cleared := if cls = 0 then r.cleared else false
    recovered := if cls = 0 then r.recovered else false }

/-- The log with a new record: the oldest is overwritten when the log is full, and one overwritten while it is uncleared
keeps its state beside the log (R382). -/
def logNew (r : FaultRec) (f : FltSys) : FltSys :=
  let i : BitVec 9 := if f.any then f.newest + 1 else 0
  let old := f.log.find? (fun e => e.1 == i.toNat)
  { f with
    any := true
    newest := i
    ovf := if old.isSome then satInc f.ovf else f.ovf
    lost := match old with
      | some o => if o.2.cleared then f.lost else f.lost ++ [o.2]
      | none => f.lost
    log := f.log.filter (fun e => decide (e.1 < i.toNat)) ++ [(i.toNat, { r with index := i.toNat })]
      ++ f.log.filter (fun e => decide (i.toNat < e.1)) }

/-- The source's quiet period starts again at `now` (R377). -/
def startQuiet (src : FaultSource) (now : DWord) (f : FltSys) : FltSys :=
  { f with quiets := f.quiets.filter (fun q => decide (q.src ≠ src)) ++ [{ src := src, start := now }] }

/-- The count of its class advances (R381). -/
def countFault (cls : BitVec 2) (f : FltSys) : FltSys :=
  if cls = 0 then { f with nCorr := f.nCorr + 1 }
  else if cls = 1 then { f with nCont := f.nCont + 1 }
  else { f with nFatal := f.nFatal + 1 }

/-- A fault arrives: counted, recorded or merged, its source's quiet period restarted, vector 1 of the PF and of its
partition's VF signalled; a Fatal fault, or a merge that raises the highest class to Fatal, puts the module into Fault-held
(R195, R374 to R377, R380; log entry 26). -/
def raiseFault (code : BitVec 16) (kind : Nat) (index : Nat) (part : Nat) (detail : Nat) (s : State) : State :=
  let cls := faultClass code
  let src : FaultSource := ⟨BitVec.ofNat 8 kind, BitVec.ofNat 16 index⟩
  let now := timeNs s
  let f := startQuiet src (mtime s) (countFault cls s.flt)
  let f := match mergeTarget s.flt src code cls now with
    | some e => { f with log := f.log.map (fun x => if x.1 = e.1 then (x.1, mergeRec x.2 cls now) else x) }
    | none =>
      logNew { ({} : FaultRec) with
        mtime := mtime s, gtime := gtime s, code := code, cls := cls, high := cls, cleared := decide (cls = 0)
        part := BitVec.ofNat 8 part, src := src, detail := BitVec.ofNat 32 detail, opened := true } f
  let s := signalVec .pf 1 { s with flt := f }
  let s := if h : part < 12 then signalVec (.vf ⟨part, h⟩) 1 s else s
  if cls = 2 then settleAlert (setService .faultHeld code.toNat { s with rst.fatalHeld := true }) else s

/-- The records that are uncleared, those overwritten in the log included (R382). -/
def uncleared (f : FltSys) : List FaultRec := (f.log.map (·.2)).filter (fun r => !r.cleared) ++ f.lost

/-- Whether FAULT_N is driven low: while a Contained or Fatal record is uncleared (R374). -/
def faultAssert (f : FltSys) : Bool := (uncleared f).any (fun r => decide (1 ≤ r.high.toNat))

/-- A fault raised only for the first event of its kind in a fixed interval of `len` ns; `kind` numbers the event (R403). -/
def raiseFirst (key len : Nat) (code : BitVec 16) (kind index part detail : Nat) (s : State) : State :=
  let n := timeNs s / len + 1
  if look s.flt.firsts key 0 = n then s
  else raiseFault code kind index part detail { s with flt.firsts := put s.flt.firsts key n 0 }

/-! ### Marbles, banks and ownership (R110, R111, R181 to R186) -/

/-- Marble n. -/
def marble (s : State) (n : Nat) : Marble := look s.mrb.marbles n {}

/-- The state with Marble n set. -/
def setMarble (n : Nat) (m : Marble) (s : State) : State := { s with mrb.marbles := put s.mrb.marbles n m {} }

/-- The state with Marble n changed by `f`. -/
def modMarble (n : Nat) (f : Marble → Marble) (s : State) : State := setMarble n (f (marble s n)) s

/-- The state of scratch bank n. -/
def bank (s : State) (n : Nat) : BankState := look s.mrb.banks n .free

/-- The state with bank n's state set. -/
def setBank (n : Nat) (b : BankState) (s : State) : State := { s with mrb.banks := put s.mrb.banks n b .free }

/-- Mailbox n. -/
def mailbox (s : State) (n : Nat) : Mailbox := look s.mrb.mailboxes n {}

/-- The state with mailbox n changed. -/
def modMailbox (n : Nat) (f : Mailbox → Mailbox) (s : State) : State :=
  { s with mrb.mailboxes := put s.mrb.mailboxes n (f (mailbox s n)) {} }

/-- The key of byte `a` of bank n in the scratch map. -/
def scratchKey (n a : Nat) : Nat := 2048 * n + a

/-- `len` bytes of scratch from bank address `a` of bank n. -/
def scratchRead (s : State) (n a len : Nat) : List Byte := readBytes s.mrb.scratch (scratchKey n a) len

/-- The state with bytes written to scratch from bank address `a` of bank n. -/
def scratchWrite (n a : Nat) (bs : List Byte) (s : State) : State :=
  { s with mrb.scratch := writeBytes s.mrb.scratch (scratchKey n a) bs }

/-- Bank n filled with zeros. -/
def scratchClear (n : Nat) (s : State) : State :=
  { s with mrb.scratch := dropRange s.mrb.scratch (scratchKey n 0) (scratchKey n 2048) }

/-- The 32-bit word of bank n at address `a`. -/
def scratchWord (s : State) (n a : Nat) : Word := BitVec.ofNat 32 (leNat (scratchRead s n a 4))

/-- The state with a 32-bit word written to bank n. -/
def scratchSetWord (n a : Nat) (w : Word) (s : State) : State := scratchWrite n a (leBytes 4 w.toNat) s

/-- The bank and bank address of Cluster offset `o` of the Cluster with global index `c` (R110, R111). -/
def clusterByte (c o : Nat) : Nat × Nat := (64 * c + bitsOf o 10 5, 32 * bitsOf o 16 11 + o % 32)

/-- The Quad of a bank or Marble (R12, R110). -/
def quadOf (n : Nat) : Nat := n / 32768

/-- The half of a bank, Marble: 0 East, 1 West (R12). -/
def halfOf (n : Nat) : Nat := n / 524288

/-- The Marionette's tag (R181). -/
def mrtTag : BitVec 20 := 0xFFFFF

/-- The tag of partition p with context c (R181). -/
def tagOf (p c : Nat) : BitVec 20 := BitVec.ofNat 20 (65536 * p + c)

/-- The partition of a tag (R181). -/
def tagPart (t : BitVec 20) : Nat := t.toNat / 65536

/-- The context of a tag (R181). -/
def tagCtx (t : BitVec 20) : Nat := t.toNat % 65536

/-- The tag of a bank: its owner, or the tag handed over to while it is Scrubbing (R181, R186). -/
def bankTag : BankState → BitVec 20
  | .free => 0
  | .owned t => t
  | .scrubbing t _ => t
  | .retired t => t

/-- The check of R182 on an access that acts with tag `acc`. -/
def tagPass (acc : BitVec 20) : BankState → Bool
  | .free => decide (acc = mrtTag)
  | .owned t => decide (acc = mrtTag) ||
      (decide (acc ≠ 0) && decide (tagPart acc = tagPart t) && (decide (tagCtx acc = tagCtx t) || decide (tagCtx acc = 65535) || decide (tagCtx t = 65535)))
  | .scrubbing _ _ => false
  | .retired _ => false

/-- The partition whose drop counter an access to the bank advances, none for MRB_DROPF (R186). -/
def dropPart : BankState → Option Nat
  | .free => none
  | b => if bankTag b = 0 ∨ bankTag b = mrtTag then none else some (tagPart (bankTag b))

/-- The partition a fault about a bank is raised against: its owner's, or 0xFF (R375). -/
def bankPart (s : State) (n : Nat) : Nat := (dropPart (bank s n)).getD 0xFF

/-- An entry written to an ownership log of 256 entries (R186). -/
def ownLogPush (e : OwnEntry) (l : OwnLog) : OwnLog :=
  { entries := (l.entries ++ [e]).drop ((l.entries.length + 1) - 256)
    next := (l.next + 1) % 256
    overflow := if l.entries.length < 256 then l.overflow else satInc l.overflow }

/-- An access by `master` acting with tag `acc` failed the check of R182 on bank n: one drop counter advances, the log of
the half gets an entry, and the first drop of a millisecond raises its fault (R186, R403). -/
def dropAccess (n : Nat) (master : Nat) (acc : BitVec 20) (s : State) : State :=
  let b := bank s n
  let scrub := match b with
    | .scrubbing _ _ => true
    | .retired _ => true
    | _ => false
  let e : OwnEntry :=
    { mtime := mtime s, gtime := gtime s, bank := BitVec.ofNat 20 n, master := BitVec.ofNat 8 master
      reason := if scrub then 2 else 1, accTag := acc, bankTag := bankTag b }
  let s := if halfOf n = 0 then { s with mrb.logEast := ownLogPush e s.mrb.logEast }
    else { s with mrb.logWest := ownLogPush e s.mrb.logWest }
  match dropPart b with
  | some p => raiseFirst p 1000000 0x0303 12 p p n { s with mrb.drops := modAt s.mrb.drops p 0 (· + 1) }
  | none => raiseFirst 12 1000000 0x0303 13 0 0xFF n { s with mrb.dropF := s.mrb.dropF + 1 }

/-- A checked write of bytes to one bank: written when the check passes, else dropped, counted and logged (R138, R182). -/
def checkedWrite (n a : Nat) (bs : List Byte) (master : Nat) (acc : BitVec 20) (s : State) : State :=
  if tagPass acc (bank s n) then scratchWrite n a bs s else dropAccess n master acc s

/-- The tag a Marble's router transfers act with as they complete: its own bank's, which is 0 and passes no check unless the bank is
Owned (R181, R182; log entry 101). -/
def marbleTag (s : State) (n : Nat) : BitVec 20 :=
  match bank s n with
  | .owned t => t
  | _ => 0

/-- The conflict counter of a master at bank n advances by k, with the sums of its Cluster and its Bag (R127). -/
def countWaits (n master k : Nat) (s : State) : State :=
  if k = 0 then s
  else { s with
    mrb.conflicts := modAt s.mrb.conflicts (4 * n + master) 0 (· + BitVec.ofNat 48 k)
    mrb.clSum := modAt s.mrb.clSum (4 * (n / 64) + master) 0 (· + BitVec.ofNat 64 k)
    mrb.bagSum := modAt s.mrb.bagSum (4 * (n / 8192) + master) 0 (· + BitVec.ofNat 64 k) }

/-- A router write to bank n is lost to the Marble's of the same cycle `k` times (R127, R128). -/
def countLoss (n k : Nat) (s : State) : State := countWaits n 1 k s

/-- The cycles that a master has waited for a port of bank n's shared region since its counter was last read: free, at most one for
each Marble cycle (R127; log entry 100). -/
def portWaits (master n : Nat) (s : State) : State :=
  countWaits n master ((freeVal s).toNat % (timeNs s + 1 - (look s.mrb.conflicts (4 * n + master) 0).toNat)) (useFree s)

/-- Bytes that the Marionette writes to scratch, by key: those of one bank are one access, which fails while the bank is Scrubbing
(R182, R184, R186; log entry 89). -/
def mrtWrite (cells : List (Nat × Byte)) (s : State) : State :=
  forAll ((cells.map (fun e => e.1 / 2048)).eraseDups) (fun n s =>
    if tagPass mrtTag (bank s n) then
      { s with mrb.scratch := (cells.filter (fun e => decide (e.1 / 2048 = n))).foldl (fun m e => put m e.1 e.2 0) s.mrb.scratch }
    else dropAccess n 4 mrtTag s) s

/-- Bytes of scratch that the Marionette reads, by key; those of a bank that is Scrubbing read as zeros (R182, R184, R186; log
entry 89). -/
def mrtRead (keys : List Nat) (s : State) : List Byte × State :=
  let bad := (keys.map (· / 2048)).eraseDups.filter (fun n => !tagPass mrtTag (bank s n))
  (keys.map (fun k => if bad.contains (k / 2048) then 0 else look s.mrb.scratch k 0),
    forAll bad (fun n s => dropAccess n 4 mrtTag s) s)

/-- Whether Marble n issues instructions: it has not stopped and its bank is Owned (R116, R182). -/
def running (s : State) (n : Nat) : Bool :=
  decide ((marble s n).cause = 0) && match bank s n with
    | .owned _ => true
    | _ => false

/-- Whether the holder of the lease is in the role Active: its watchdog may have taken it out before the lease lapses (R327,
R336). -/
def holderActive (s : State) : Bool :=
  match s.mrt.holder with
  | none => false
  | some .m0 => decide (s.mrt.m0.role = .active)
  | some .m1 => decide (s.mrt.m1.role = .active)

/-- Whether a Marionette carries out commands and what needs firmware: one holds the lease, is Active and is not rebuilding (R225,
R333, R336). -/
def mrtServes (s : State) : Bool := holderActive s && !s.mrt.rebuild

/-! ### Units -/

/-- Whether a block is held in a block reset, so that its wrapper answers BLOCK_RESET (R369). -/
def blockHeld (s : State) (k : BlockKind) (i : Nat) : Bool := s.rst.blocks.any (fun e => decide (e = (k, i)))

/-- Zoetrope z. -/
def zoe (s : State) (z : Nat) : Zoe := look s.zoes z {}

/-- The state with Zoetrope z changed. -/
def modZoe (z : Nat) (f : Zoe → Zoe) (s : State) : State := { s with zoes := modAt s.zoes z {} f }

/-- Whether partition p owns Quad q (R238). -/
def ownsQuad (s : State) (p q : Nat) : Bool := (part s p).exist && (part s p).quads.getLsbD q

/-- The partition that owns Quad q (R238). -/
def quadPart (s : State) (q : Nat) : Option Nat := (List.range 12).find? (fun p => ownsQuad s p q)

/-- The Quads of partition p, in ascending order. -/
def quadsOf (s : State) (p : Nat) : List Nat := (List.range 32).filter (fun q => ownsQuad s p q)

/-- The key of a command window: 0 for the PF, p + 1 for the VF of partition p (R219). -/
def winKey : Fn → Nat
  | .pf => 0
  | .vf p => p.val + 1

/-- A command window (R219). -/
def window (s : State) (w : Fn) : Window := look s.windows (winKey w) {}

/-- The state with a command window changed. -/
def modWindow (w : Fn) (f : Window → Window) (s : State) : State := { s with windows := modAt s.windows (winKey w) {} f }

/-- Queue pair q. -/
def queue (s : State) (q : Nat) : Queue := look s.host.queues q {}

/-- The state with queue pair q changed. -/
def modQueue (q : Nat) (f : Queue → Queue) (s : State) : State := { s with host.queues := modAt s.host.queues q {} f }

/-- The peer record of module m (R263). -/
def peer (s : State) (m : Nat) : Peer := look s.fab.peers m {}

/-- The state with a peer record changed. -/
def modPeer (m : Nat) (f : Peer → Peer) (s : State) : State := { s with fab.peers := modAt s.fab.peers m {} f }

/-- Lane l. -/
def lane (s : State) (l : Nat) : Lane := look s.fab.lanes l {}

/-- The state with lane l changed. -/
def modLane (l : Nat) (f : Lane → Lane) (s : State) : State := { s with fab.lanes := modAt s.fab.lanes l {} f }

/-- The session with key 2^24 × partition + SID. -/
def sessKey (p : Nat) (sid : BitVec 24) : Nat := 16777216 * p + sid.toNat

/-! ### Streams -/

/-- Stream q of a Zoetrope: descriptor queue 0 or 1. -/
def stream (x : Zoe) (q : Nat) : StreamSt := if q = 0 then x.st0 else x.st1

/-- The Zoetrope with a stream changed. -/
def onStream (q : Nat) (f : StreamSt → StreamSt) (x : Zoe) : Zoe :=
  if q = 0 then { x with st0 := f x.st0 } else { x with st1 := f x.st1 }

/-- The state with stream q of Zoetrope z changed. -/
def modStream (z q : Nat) (f : StreamSt → StreamSt) (s : State) : State := modZoe z (onStream q f) s

/-- The number of a stream. -/
def streamNo : Stream → Nat
  | .s0 => 0
  | .s1 => 1

/-- Whether a stream's HALT bit is set (R63). -/
def haltBit (x : Zoe) (q : Nat) : Bool := if q = 0 then x.halt0 else x.halt1

/-! ### The Scene table (R153) -/

/-- Scene table entry k of a Quad. -/
def sceneEntry (x : Zoe) (k : Nat) : BitVec 128 := look x.scn.table k 0

/-- START of an entry. -/
def scStart (e : BitVec 128) : Nat := (e.extractLsb' 62 2).toNat
/-- POS of an entry. -/
def scPos (e : BitVec 128) : BitVec 14 := e.extractLsb' 48 14
/-- NEXT of an entry. -/
def scNext (e : BitVec 128) : BitVec 10 := e.extractLsb' 38 10
/-- THREAD of an entry. -/
def scThread (e : BitVec 128) : Nat := (e.extractLsb' 35 3).toNat
/-- LAST of an entry. -/
def scLast (e : BitVec 128) : Bool := e.getLsbD 34
/-- ENTRY of an entry. -/
def scEntry (e : BitVec 128) : Bool := e.getLsbD 33
/-- DELAY of an entry. -/
def scDelay (e : BitVec 128) : Nat := (e.extractLsb' 16 16).toNat
/-- XID of an entry. -/
def scXid (e : BitVec 128) : Nat := (e.extractLsb' 0 16).toNat
/-- COUNT of an entry. -/
def scCount (e : BitVec 128) : Nat := (e.extractLsb' 112 16).toNat

/-- The first ENTRY Scene of thread t among the Show's SCENES entries (R151). -/
def firstEntry (x : Zoe) (scenes t : Nat) : BitVec 10 :=
  match (List.range scenes).find? (fun k => scEntry (sceneEntry x k) && decide (scThread (sceneEntry x k) = t)) with
  | some k => BitVec.ofNat 10 k
  | none => 0

/-- Thread t of a Quad. -/
def threadOf (x : Zoe) (t : Nat) : ThreadSt := look x.scn.threads t {}

/-- The state with thread t of Quad z changed. -/
def modThread (z t : Nat) (f : ThreadSt → ThreadSt) (s : State) : State :=
  modZoe z (fun x => { x with scn := { x.scn with threads := modAt x.scn.threads t {} f } }) s

/-- The queue that thread t uses (R153). -/
def threadQueue (x : Zoe) (t : Nat) : Nat := if x.modeApplied && decide (4 ≤ t) then 1 else 0

/-- DELAY of an entry in ns, rounded up to the Marble-cycle edge at which its Scene may start (R155). -/
def delayNs (e : BitVec 128) : Nat := (scDelay e + 15) / 16

/-- The next Scene of thread t of a Quad. -/
def nextEntry (x : Zoe) (t : Nat) : BitVec 128 := sceneEntry x (threadOf x t).next.toNat

/-- The condition of a thread's next Scene holds, or no longer does: when it came to hold is kept (R155, R159). -/
def markMet (now : Nat) (holds : Bool) (th : ThreadSt) : ThreadSt :=
  { th with metAt := if holds then some (th.metAt.getD now) else none }

/-- Arrivals have been counted on Quad z: the threads whose next Scene waits for enough of them note when it came to hold (R154,
R155). -/
def noteArrivals (z : Nat) (s : State) : State :=
  modZoe z (fun x => { x with scn := { x.scn with threads := x.scn.threads.map (fun e =>
    let en := sceneEntry x e.2.next.toNat
    if !e.2.running ∧ scStart en = 1 then
      (e.1, markMet (timeNs s) (decide (scCount en ≤ (look x.scn.arrivals (scXid en) 0).toNat)) e.2)
    else e) } }) s

/-- What a command about a unit that build ZHJ1-L does not fit does: there is nothing for it to act on, and nothing changes (R1; log
entry 99). -/
def ifFitted (s : State) (t : State) : Host.Outcome State Fault Refusal := .next (if s.ident.ml then s else t)

end Sys2Proof.Machine
end

