-- ==== Sys2Proof/Machine/HostLink.lean ====
section
/-! DEFINITION. The PCIe link and what configuration space reports: link capabilities, the equalisation table, identification
registers, BARs and capabilities (R189 to R192, R370). The host reads them through configuration requests, for which the spec gives
no command: they are functions of the state (log entry 88). -/

namespace Sys2Proof.Machine

open Sys2Proof

/-! ### The link (R189) -/

/-- The rates at which the link trains, in 0.1 GT/s: up to 64 GT/s, on ZHJ1-L up to 32 GT/s (R189). -/
def linkRates (s : State) : List Nat := [25, 50, 80, 160, 320] ++ (if s.ident.ml then [] else [640])

/-- Whether the link has FLIT mode: ZHJ1-A alone (R189). -/
def flitMode (s : State) : Bool := !s.ident.ml

/-- The link's width in lanes (R189). -/
def linkWidth : Nat := 16

/-- The clocking modes of the link: common reference, or separate references with independent spread (R189). -/
inductive Clocking where
  | common | sris
  deriving DecidableEq, Repr

/-- The clocking modes that both builds support (R189). -/
def linkClocking : List Clocking := [.common, .sris]

/-- The low-power link states. -/
inductive LinkPower where
  | l0s | l1 | l0p
  deriving DecidableEq, Repr

/-- The low-power link states supported, and reported as supported: none (R189). -/
def linkPower : List LinkPower := []

/-- How the PCIe controller meets a configuration request. -/
inductive CfgAnswer where
  | none | retry | answers
  deriving DecidableEq, Repr

/-- The controller answers with Request Retry Status until step 4 of the release order ends; while PERST# is asserted or the East
hub's PCIe controller has no power there is no link (R367, R370). -/
def cfgAnswer (s : State) : CfgAnswer :=
  if s.rst.perst ∨ !s.pwr.auxOn ∨ s.rst.last = 3 ∧ s.pwr.tripped then .none
  else if s.rst.step.toNat < 4 then .retry else .answers

/-! ### Equalisation (R190) -/

/-- The entry of the per-board equalisation table that the straps select at power-on; none where the island has refused the
table (R190, R245; log entry 56). -/
def eqEntry (s : State) : Option (BitVec 4) := if has s.sec.meas 3 then some s.side.straps else none

/-- What an entry holds for a lane at a rate from 8 GT/s upward: preset P4 with neutral receiver settings in entry 15 (R190). -/
def eqSetting (s : State) (entry : BitVec 4) (lane : Fin 16) (rate : Nat) : EqSetting :=
  if entry = 15 then { transmit := 4, request := 4, receiver := none }
  else Config.eqTable (look s.sec.meas 3 0) entry.toNat lane.val rate

/-- The transmit preset that the module's equalisation ordered sets advertise (R190). -/
def eqAdvertised (x : EqSetting) : Nat := x.transmit

/-- What the module asks of the host's transmitter in Phase 2: the tabled preset, once; `asked` presets have been asked already
(R190). -/
def eqPhase2 (x : EqSetting) (asked : Nat) : Option Nat := if asked = 0 then some x.request else none

/-- The transmit preset in use after a request of the host in Phase 3: the one requested (R190). -/
def eqPhase3 (requested : Nat) : Nat := requested

/-- The settings that an optical lane takes from the per-board table; the module adapts nothing beyond them (R294). -/
def opticalSetting (s : State) (l : Nat) : Option OpticalSetting :=
  (eqEntry s).map (fun e => Config.opticalTable (look s.sec.meas 3 0) e.toNat l)

/-! ### Functions (R191) -/

/-- A function's routing ID, from that of the PF: the first VF offset and the VF stride are both 1 (R191). -/
def routingId (pf : Nat) (f : Fn) : Nat :=
  match f with
  | .pf => pf
  | .vf p => pf + 1 + p.val

/-- The identification registers of a function (R191). -/
structure IdRegs where
  vendor : Nat := 0x1F6B
  device : Nat
  revision : Nat
  classCode : Nat := 0x120000
  subVendor : Nat := 0x1F6B
  subsystem : Nat
  header : Option Nat
  deriving DecidableEq, Repr

/-- The identification registers as they read; a VF's header type is not implemented (R3, R191). -/
def idRegs (s : State) (f : Fn) : IdRegs :=
  { device := if f = .pf then 0x4A31 else 0x4A32
    revision := 16 * s.ident.hubStep.toNat + s.ident.logicStep.toNat
    subsystem := 0x0100 + s.side.straps.toNat
    header := if f = .pf then some 0 else none }

/-- A base address register: its number, its size in bytes, whether it is prefetchable; all are 64 bits wide (R191). -/
structure Bar where
  number : Nat
  size : Nat
  prefetch : Bool
  deriving DecidableEq, Repr

/-- The BARs of a function; others and the expansion ROM are not implemented (R191). -/
def bars (f : Fn) : List Bar :=
  [{ number := 0, size := if f = .pf then 2 ^ 26 else 2 ^ 20, prefetch := false }, { number := 2, size := 2 ^ 24, prefetch := true }]

/-! ### Capabilities (R192) -/

/-- The capabilities that are implemented (R192). -/
inductive Capability where
  | powerManagement | pciExpress | msix | advancedErrors | ari | srIov | pasid | dataObjects | ide | serialNumber
  | dataLinkFeature | physical16 | physical32 | physical64 | laneMargining
  deriving DecidableEq, Repr

/-- The capabilities of a function; no others are implemented, ATS, PRI, TPH, LTR, Resizable BAR and ACS among them (R192). -/
def capabilities (f : Fn) : List Capability :=
  [.powerManagement, .pciExpress, .msix, .advancedErrors, .pasid]
    ++ (match f with
      | .pf => [.ari, .srIov, .dataObjects, .ide, .serialNumber, .dataLinkFeature, .physical16, .physical32, .physical64, .laneMargining]
      | .vf _ => [])

/-- A DOE protocol (R192). -/
inductive DoeProtocol where
  | discovery | spdm | securedSpdm
  deriving DecidableEq, Repr

/-- The values that the capabilities of a function report; fields not named take the standard's reset values (R192). -/
structure CapValues where
  powerStates : List Nat := [0, 3]
  pme : Bool := false
  noSoftReset : Bool := false
  maxPayload : Nat := 512
  tag10 : Bool := true
  tag14 : Bool
  flr : Bool := true
  timeoutRanges : BitVec 4 := 0b0111
  timeoutDisable : Bool := false
  maxRate : Nat
  maxWidth : Nat := linkWidth
  flit : Bool
  aspm : List LinkPower := linkPower
  msixSize : Nat
  headerDwords : Nat := 4
  prefixLog : Bool := true
  nextFunction : Nat := 0
  totalVfs : Nat
  initialVfs : Nat
  vfDevice : Nat := 0x4A32
  firstVfOffset : Nat := 1
  vfStride : Nat := 1
  smallestPage : Nat := 4096
  vfMigration : Bool := false
  pasidWidth : Nat := 20
  pasidExec : Bool := false
  pasidPrivileged : Bool := false
  doe : List DoeProtocol := [.discovery, .spdm, .securedSpdm]
  linkStreams : Nat := 0
  selectiveStreams : Nat := 13
  teeLimited : Bool := true
  serial : DWord
  deriving DecidableEq, Repr

/-- What the capabilities of a function report (R189, R192). -/
def capValues (s : State) (f : Fn) : CapValues :=
  { tag14 := flitMode s, maxRate := (linkRates s).getLastD 0, flit := flitMode s, msixSize := if f = .pf then 64 else 2048
    totalVfs := if s.ident.ml then 4 else 12, initialVfs := if s.ident.ml then 4 else 12, serial := s.ident.serial }

end Sys2Proof.Machine
end

