-- ==== Sys2Proof/Machine/LineCode.lean ====
section
/-! DEFINITION. The line code of a fabric lane: PAM4 levels, the slots of a superframe, and the Reed-Solomon codeword RS(136,128)
(R273). Field elements are numbers below 256; the first byte of a codeword is its highest coefficient (log entry 106). -/

namespace Sys2Proof.Machine

open Sys2Proof

/-! ### Symbols and slots (R273) -/

/-- The PAM4 level of a bit pair under Gray coding (R273). -/
def pamLevel (b : BitVec 2) : Nat :=
  match b.toNat with
  | 0 => 0
  | 1 => 1
  | 3 => 2
  | _ => 3

/-- The levels that carry a byte, bits [7:6] first (R273). -/
def byteLevels (b : Byte) : List Nat := [3, 2, 1, 0].map (fun i => pamLevel (b.extractLsb' (2 * i) 2))

/-- What a slot of a superframe carries. -/
inductive SlotKind where
  | mark | link | skip | data
  deriving DecidableEq, Repr

/-- The slot's codeword in a superframe of 2,048 slots (R273). -/
def slotKind (k : Fin 2048) : SlotKind :=
  if k.val = 0 then .mark else if k.val = 2047 then .skip
  else if k.val % 256 = 0 ∧ k.val ≤ 1536 then .link else .data

/-! ### The field GF(2^8) over x^8 + x^4 + x^3 + x^2 + 1 (R273) -/

/-- A field element times α. -/
def gfDouble (a : Nat) : Nat := if a < 128 then 2 * a else (2 * a) ^^^ 0x11D

/-- A field element times α to the power k. -/
def gfShift : Nat → Nat → Nat
  | 0, a => a
  | k + 1, a => gfShift k (gfDouble a)

/-- The product of two field elements. -/
def gfMul (a b : Nat) : Nat := (List.range 8).foldl (fun t i => if b.testBit i then t ^^^ gfShift i a else t) 0

/-- The inverse of a field element other than 0: its 254th power. -/
def gfInv (a : Nat) : Nat := (List.range 253).foldl (fun t _ => gfMul t a) a

/-- The value of a polynomial at x, its lowest coefficient first. -/
def gfEval (p : List Nat) (x : Nat) : Nat := p.foldr (fun c t => c ^^^ gfMul t x) 0

/-- The sum of two polynomials, the lowest coefficient first. -/
def gfAdd : List Nat → List Nat → List Nat
  | [], q => q
  | p, [] => p
  | a :: p, b :: q => (a ^^^ b) :: gfAdd p q

/-- A polynomial times a constant. -/
def gfScale (k : Nat) (p : List Nat) : List Nat := p.map (gfMul k)

/-! ### RS(136,128) (R273) -/

/-- The generator polynomial, the product of x − α^i for i from 0 to 7, lowest coefficient first (R273). -/
def rsGen : List Nat := (List.range 8).foldl (fun p i => gfAdd (0 :: p) (gfScale (gfShift i 1) p)) [1]

/-- The eight parity bytes of a payload: the remainder of the payload shifted by eight places (R273). -/
def rsParity (bs : List Byte) : List Byte :=
  let low := (rsGen.take 8).reverse
  let r := bs.foldl (fun (r : List Nat) b =>
    let f := r.headD 0 ^^^ b.toNat
    gfAdd (r.drop 1 ++ [0]) (gfScale f low)) (List.replicate 8 0)
  r.map (BitVec.ofNat 8)

/-- The codeword that carries a payload of 128 bytes (R273). -/
def rsEncode (bs : List Byte) : List Byte := bs ++ rsParity bs

/-- The syndromes of a received codeword: its values at α^0 to α^7. -/
def syndromes (raw : List Byte) : List Nat :=
  (List.range 8).map (fun i => raw.foldl (fun t b => gfShift i t ^^^ b.toNat) 0)

/-- The search for the shortest recurrence of the syndromes: the locator so far, the one before its last change, their length, the
places since, and the discrepancy then (R273). -/
structure Locator where
  now : List Nat := [1]
  old : List Nat := [1]
  len : Nat := 0
  gap : Nat := 1
  disc : Nat := 1
  deriving DecidableEq, Repr

/-- One syndrome taken into the search. -/
def locatorStep (ss : List Nat) (x : Locator) (n : Nat) : Locator :=
  let d := (List.range (x.len + 1)).foldl (fun t i => t ^^^ gfMul (x.now.getD i 0) (if i ≤ n then ss.getD (n - i) 0 else 0)) 0
  if d = 0 then { x with gap := x.gap + 1 }
  else
    let next := gfAdd x.now (List.replicate x.gap 0 ++ gfScale (gfMul d (gfInv x.disc)) x.old)
    if 2 * x.len ≤ n then { now := next, old := x.now, len := n + 1 - x.len, gap := 1, disc := d }
    else { x with now := next, gap := x.gap + 1 }

/-- The error at coefficient p of a codeword whose locator has a root there (R273). -/
def errorAt (ss loc : List Nat) (p : Nat) : Nat :=
  let x := gfShift p 1
  let y := gfInv x
  let evalr := (List.range 8).map (fun k => (List.range (k + 1)).foldl (fun t i => t ^^^ gfMul (loc.getD i 0) (ss.getD (k - i) 0)) 0)
  let deriv := (loc.drop 1).mapIdx (fun i c => if i % 2 = 0 then c else 0)
  gfMul x (gfMul (gfEval evalr y) (gfInv (gfEval deriv y)))

/-- The decoder: the payload of a received codeword and the count of byte errors corrected, up to four; none where it cannot
(R273). -/
def rsDecode (raw : List Byte) : Option (List Byte × Nat) :=
  let ss := syndromes raw
  if raw.length ≠ 136 then none
  else if ss.all (· == 0) then some (raw.take 128, 0)
  else
    let x := (List.range 8).foldl (locatorStep ss) {}
    let roots := (List.range 136).filter (fun p => gfEval x.now (gfInv (gfShift p 1)) == 0)
    if 4 < x.len ∨ roots.length ≠ x.len then none
    else
      let fixed := raw.mapIdx (fun j b => if roots.contains (135 - j) then b ^^^ BitVec.ofNat 8 (errorAt ss x.now (135 - j)) else b)
      if (syndromes fixed).all (· == 0) then some (fixed.take 128, x.len) else none

end Sys2Proof.Machine
end

