-- ==== Sys2Proof/Machine/Operands.lean ====
section
/-! DEFINITION. The operand forms and number formats of the Marble instructions: registers, lanes, packed integer
formats, and exact floating-point values with their roundings (R43, R112, R113, R117, R118, R120). -/

namespace Sys2Proof.Machine

open Sys2Proof

/-! ### Registers (R112, R113) -/

/-- Scalar register d; m0 reads as 0 (R112). -/
def getM (m : Marble) (d : BitVec 5) : Word := if d = 0 then 0 else m.m.get d.toFin

/-- The Marble with scalar register d written; a write to m0 is ignored (R112). -/
def setM (d : BitVec 5) (x : Word) (m : Marble) : Marble := if d = 0 then m else { m with m := m.m.set d.toNat x (by have := d.isLt; omega) }

/-- Vector register d (R112). -/
def getV (m : Marble) (d : BitVec 3) : DWord := m.v.get d.toFin

/-- The Marble with vector register d written. -/
def setV (d : BitVec 3) (x : DWord) (m : Marble) : Marble := { m with v := m.v.set d.toNat x (by have := d.isLt; omega) }

/-- Predicate register d; p0 reads as 0xFF (R112). -/
def getP (m : Marble) (d : BitVec 2) : Byte := if d = 0 then 0xFF else m.p.get d.toFin

/-- The Marble with predicate register d written; a write to p0 is ignored (R112). -/
def setP (d : BitVec 2) (x : Byte) (m : Marble) : Marble := if d = 0 then m else { m with p := m.p.set d.toNat x (by have := d.isLt; omega) }

/-- Whether a whole instruction under predicate p executes: bit 0 of the predicate (R113). -/
def executes (m : Marble) (p : BitVec 2) : Bool := (getP m p).getLsbD 0

/-! ### Lanes (R112, R113) -/

/-- Lane i of eight 8-bit lanes (R112). -/
def byteLane (v : DWord) (i : Nat) : Byte := v.extractLsb' (8 * i) 8

/-- Lane i of four 16-bit lanes (R112). -/
def halfLane (v : DWord) (i : Nat) : BitVec 16 := v.extractLsb' (16 * i) 16

/-- A vector of eight 8-bit lanes. -/
def ofBytes (f : Nat → Byte) : DWord := f 7 ++ f 6 ++ f 5 ++ f 4 ++ f 3 ++ f 2 ++ f 1 ++ f 0

/-- A vector of four 16-bit lanes. -/
def ofHalves (f : Nat → BitVec 16) : DWord := f 3 ++ f 2 ++ f 1 ++ f 0

/-- The 8-bit lanes of `new` where the mask bit is 1, those of `old` elsewhere (R113). -/
def mergeBytes (mask : Byte) (new old : DWord) : DWord :=
  ofBytes fun i => if mask.getLsbD i then byteLane new i else byteLane old i

/-- The 16-bit lanes of `new` where bit i of the mask is 1, those of `old` elsewhere (R112, R113; log entry 12). -/
def mergeHalves (mask : Byte) (new old : DWord) : DWord :=
  ofHalves fun i => if mask.getLsbD i then halfLane new i else halfLane old i

/-- The sum over the lanes below `k` whose mask bit is 1 (R113). -/
def laneSum (mask : Byte) (k : Nat) (f : Nat → Int) : Int :=
  (List.range k).foldl (fun t i => if mask.getLsbD i then t + f i else t) 0

/-- The value clamped to lo … hi. -/
def clampInt (lo hi x : Int) : Int := max lo (min hi x)

/-- Element i of packed w-bit two's-complement elements, element i in bits [w·i + w − 1 : w·i] (R43, R117). -/
def packedElem (w : Nat) (v : DWord) (i : Nat) : Int := (v.extractLsb' (w * i) w).toInt

/-- Packed w-bit elements from a list, element 0 lowest; the bits above are 0 (R43, R122). -/
def packElems (w : Nat) (xs : List Int) : DWord :=
  BitVec.ofNat 64 ((xs.mapIdx (fun i x => (BitVec.ofInt w x).toNat * 2 ^ (w * i))).foldl (· + ·) 0)

/-- The quotient of `x` by 2^k rounded to nearest, ties to even. -/
def rneShift (x : Int) (k : Nat) : Int :=
  let q := x / 2 ^ k
  let r2 := 2 * (x % 2 ^ k)
  if r2 < 2 ^ k then q else if 2 ^ k < r2 then q + 1 else if q % 2 = 0 then q else q + 1

/-- The conditions of CMP, CMPI and VCMP on two values of width w; 6 and 7 are reserved (R121). -/
def condHolds {w : Nat} (c : BitVec 3) (a b : BitVec w) : Bool :=
  match c.toNat with
  | 0 => decide (a = b)
  | 1 => decide (a ≠ b)
  | 2 => decide (a.toInt < b.toInt)
  | 3 => decide (b.toInt ≤ a.toInt)
  | 4 => decide (a.toNat < b.toNat)
  | 5 => decide (b.toNat ≤ a.toNat)
  | _ => false

/-! ### Floating point (R117, R118) -/

/-- A floating-point value: NaN, an infinity, or ±sig × 2^e exactly. -/
inductive FVal where
  | nan
  | inf (neg : Bool)
  | fin (neg : Bool) (sig : Nat) (e : Int)
  deriving DecidableEq, Repr

/-- A value rounded to a significand of p bits, to nearest, ties to even: for sig > 0 the result has exactly p bits. -/
def roundSig (p sig : Nat) (e : Int) : Nat × Int :=
  let n := sig.log2 + 1
  if n ≤ p then (sig * 2 ^ (p - n), e - (p - n : Nat))
  else
    let k := n - p
    let q := (rneShift sig k).toNat
    if q = 2 ^ p then (2 ^ (p - 1), e + k + 1) else (q, e + k)

/-- The value of a code with `eb` exponent bits, `mb` mantissa bits and the given bias; exponent field 0 reads as a signed
zero (R118). No infinities or NaN. -/
def fromFields (neg : Bool) (ef mant mb bias : Nat) : FVal :=
  if ef = 0 then .fin neg 0 0 else .fin neg (2 ^ mb + mant) ((ef : Int) - bias - mb)

/-- The value of a bf16 (R117, R118). -/
def bf16Val (x : BitVec 16) : FVal :=
  let neg := x.getLsbD 15
  let ef := bitsOf x.toNat 14 7
  let mant := x.toNat % 128
  if ef = 255 then (if mant = 0 then .inf neg else .nan) else fromFields neg ef mant 7 127

/-- The sign bit as a number. -/
def signNat (neg : Bool) (w : Nat) : Nat := if neg then 2 ^ w else 0

/-- The bf16 of a value, rounded to nearest even; a NaN is 0x7FC0, a subnormal result a signed zero (R118). -/
def bf16Of : FVal → BitVec 16
  | .nan => 0x7FC0
  | .inf neg => BitVec.ofNat 16 (signNat neg 15 + 0x7F80)
  | .fin neg sig e =>
    if sig = 0 then BitVec.ofNat 16 (signNat neg 15)
    else
      let r := roundSig 8 sig e
      let ef := r.2 + 7 + 127
      if 255 ≤ ef then BitVec.ofNat 16 (signNat neg 15 + 0x7F80)
      else if ef ≤ 0 then BitVec.ofNat 16 (signNat neg 15)
      else BitVec.ofNat 16 (signNat neg 15 + ef.toNat * 128 + (r.1 - 128))

/-- The value of an fp8: E5M2 when `e5`, else E4M3 (R117, R118). -/
def fp8Val (e5 : Bool) (x : Byte) : FVal :=
  let neg := x.getLsbD 7
  if e5 then
    let ef := bitsOf x.toNat 6 2
    let mant := x.toNat % 4
    if ef = 31 then (if mant = 0 then .inf neg else .nan) else fromFields neg ef mant 2 15
  else
    let ef := bitsOf x.toNat 6 3
    let mant := x.toNat % 8
    if ef = 15 ∧ mant = 7 then .nan else fromFields neg ef mant 3 7

/-- The fp8 of a value, rounded to nearest even and saturating, and whether it saturated; `src` is the bf16 it comes from,
for the bits of a NaN that the spec leaves open (R117, R118, R122). -/
def fp8Of (e5 : Bool) (src : BitVec 16) : FVal → Byte × Bool
  | .nan =>
    let sg := signNat (Config.fp8NanSign src) 7
    (BitVec.ofNat 8 (if e5 then sg + 0x7C + 1 + (Config.fp8NanMant src).val else sg + 0x7F), false)
  | .inf neg => if e5 then (BitVec.ofNat 8 (signNat neg 7 + 0x7C), false) else (BitVec.ofNat 8 (signNat neg 7 + 0x7E), true)
  | .fin neg sig e =>
    if sig = 0 then (BitVec.ofNat 8 (signNat neg 7), false)
    else if e5 then
      let r := roundSig 3 sig e
      let ef := r.2 + 2 + 15
      if 31 ≤ ef then (BitVec.ofNat 8 (signNat neg 7 + 0x7B), true)
      else if ef ≤ 0 then (BitVec.ofNat 8 (signNat neg 7), false)
      else (BitVec.ofNat 8 (signNat neg 7 + ef.toNat * 4 + (r.1 - 4)), false)
    else
      let r := roundSig 4 sig e
      let ef := r.2 + 3 + 7
      if 16 ≤ ef ∨ (ef = 15 ∧ r.1 = 15) then (BitVec.ofNat 8 (signNat neg 7 + 0x7E), true)
      else if ef ≤ 0 then (BitVec.ofNat 8 (signNat neg 7), false)
      else (BitVec.ofNat 8 (signNat neg 7 + ef.toNat * 8 + (r.1 - 8)), false)

/-- The value of an MXFP6 code: E3M2 when `e3`, else E2M3; exponent field 0 encodes subnormals (R43). -/
def fp6Val (e3 : Bool) (x : BitVec 6) : FVal :=
  let neg := x.getLsbD 5
  if e3 then
    let ef := bitsOf x.toNat 4 2
    let mant := x.toNat % 4
    if ef = 0 then .fin neg mant (-4) else .fin neg (4 + mant) ((ef : Int) - 5)
  else
    let ef := bitsOf x.toNat 4 3
    let mant := x.toNat % 8
    if ef = 0 then .fin neg mant (-3) else .fin neg (8 + mant) ((ef : Int) - 4)

/-- The sign applied to a number. -/
def signed (neg : Bool) (x : Int) : Int := if neg then -x else x

/-- The exact sum; IEEE 754 for infinities and the sign of a zero sum (R118). -/
def addVal : FVal → FVal → FVal
  | .nan, _ => .nan
  | _, .nan => .nan
  | .inf a, .inf b => if a = b then .inf a else .nan
  | .inf a, .fin _ _ _ => .inf a
  | .fin _ _ _, .inf b => .inf b
  | .fin na sa ea, .fin nb sb eb =>
    if sa = 0 ∧ sb = 0 then .fin (na && nb) 0 0
    else if sa = 0 then .fin nb sb eb
    else if sb = 0 then .fin na sa ea
    else
      let e := min ea eb
      let t := signed na (sa * 2 ^ (ea - e).toNat) + signed nb (sb * 2 ^ (eb - e).toNat)
      .fin (decide (t < 0)) t.natAbs e

/-- The value with its sign turned. -/
def negVal : FVal → FVal
  | .nan => .nan
  | .inf n => .inf (!n)
  | .fin n s e => .fin (!n) s e

/-- The exact product; IEEE 754 for infinities (R118). -/
def mulVal : FVal → FVal → FVal
  | .nan, _ => .nan
  | _, .nan => .nan
  | .inf a, .inf b => .inf (a != b)
  | .inf a, .fin b sb _ => if sb = 0 then .nan else .inf (a != b)
  | .fin a sa _, .inf b => if sa = 0 then .nan else .inf (a != b)
  | .fin a sa ea, .fin b sb eb => .fin (a != b) (sa * sb) (ea + eb)

/-- The value times 2^k. -/
def scaleVal (k : Int) : FVal → FVal
  | .fin n s e => .fin n s (e + k)
  | v => v

/-- Whether a value is NaN. -/
def isNan : FVal → Bool
  | .nan => true
  | _ => false

/-- Whether a value is a zero of either sign. -/
def isZero : FVal → Bool
  | .fin _ 0 _ => true
  | _ => false

/-- a < b for values that are not NaN. -/
def ltVal : FVal → FVal → Bool
  | .nan, _ => false
  | _, .nan => false
  | .inf a, .inf b => a && !b
  | .inf a, .fin _ _ _ => a
  | .fin _ _ _, .inf b => !b
  | .fin na sa ea, .fin nb sb eb =>
    let e := min ea eb
    decide (signed na (sa * 2 ^ (ea - e).toNat) < signed nb (sb * 2 ^ (eb - e).toNat))

/-- a = b as values; zeros of both signs are equal. -/
def eqVal (a b : FVal) : Bool := !isNan a && !isNan b && !ltVal a b && !ltVal b a

/-- An int32 of a value, rounded to nearest even and saturating, and whether it saturated; `onNan` for a NaN (R122). -/
def int32Of (onNan : Word) : FVal → Word × Bool
  | .nan => (onNan, false)
  | .inf neg => (if neg then 0x80000000 else 0x7FFFFFFF, true)
  | .fin neg sig e =>
    let x : Int := signed neg (if 0 ≤ e then (sig * 2 ^ (min e 64).toNat : Nat) else rneShift sig (-e).toNat)
    if 0x7FFFFFFF < x then (0x7FFFFFFF, true)
    else if x < -0x80000000 then (0x80000000, true)
    else (BitVec.ofInt 32 x, false)

/-! ### The block accumulator (R112, R118) -/

/-- The value of the block accumulator. -/
def baVal : BlockAcc → FVal
  | .nan => .nan
  | .inf n => .inf n
  | .fin n e s => .fin n s.toNat e

/-- The block accumulator of a value: rounded to a 24-bit significand, to nearest even; an exponent beyond the range gives an
infinity, and what lies below the range is a free value (R112, R118). -/
def baOf : FVal → BlockAcc
  | .nan => .nan
  | .inf n => .inf n
  | .fin n sig e =>
    if sig = 0 then .fin n 0 0
    else
      let r := roundSig 24 sig e
      if (127 + Config.baExtraHigh : Int) < r.2 + 23 then .inf n
      else if r.2 + 23 < -126 - (Config.baExtraLow : Int) then .fin n r.2 (Config.baTiny n r.2 (BitVec.ofNat 24 r.1))
      else .fin n r.2 (BitVec.ofNat 24 r.1)

/-- The products of the lanes below `k` whose mask bit is 1 added to the accumulator in lane order, each addition rounding
(R118). -/
def baAccumulate (mask : Byte) (k : Nat) (f : Nat → FVal) (b : BlockAcc) : BlockAcc :=
  (List.range k).foldl (fun t i => if mask.getLsbD i then baOf (addVal (baVal t) (f i)) else t) b

end Sys2Proof.Machine
end

