-- ==== Sys2Proof/Machine/Flags.lean ====
section
/-! DEFINITION. The sticky flags of MFLAGS and what sets them (R118, R119, R122). -/

namespace Sys2Proof.Machine

open Sys2Proof

/-- MFLAGS with OVF set when `o` holds; the flags are sticky (R118, R119). -/
def markOvf (o : Bool) (m : Marble) : Marble := if o then { m with mflags := m.mflags ||| 1 } else m

/-- MFLAGS with NAN set when `o` holds (R118, R119). -/
def markNan (o : Bool) (m : Marble) : Marble := if o then { m with mflags := m.mflags ||| 2 } else m

/-- MFLAGS with SATCVT set when `o` holds (R119, R122). -/
def markSat (o : Bool) (m : Marble) : Marble := if o then { m with mflags := m.mflags ||| 4 } else m

/-- Whether an exact sum wraps a 32-bit register: it lies outside the int32 range (R117, R118; log entry 11). -/
def wraps32 (x : Int) : Bool := decide (x < -0x80000000) || decide (0x7FFFFFFF < x)

/-- The status of a non-OK completion recorded in RSTAT: the last status and a saturating count (R119, R123). -/
def recordStatus (st : Byte) (m : Marble) : Marble :=
  if st = 0 then m else { m with rstatLast := st, rstatCount := satInc m.rstatCount }

end Sys2Proof.Machine
end

