-- ==== Sys2Proof/Machine/MarbleScalar.lean ====
section
/-! DEFINITION. Issuing a Marble instruction, stopping a Marble, and the scalar and control instructions (R113 to R116, R120,
R121). -/

namespace Sys2Proof.Machine

open Sys2Proof

/-! ### Issue, stop, the PC and the loops -/

/-- How many instructions the Show loaded into the Cluster of Marble n (R115, R116). -/
def loadedCount (s : State) (n : Nat) : Nat := (look s.mrb.iram (n / 64) []).length

/-- Marble n stops with a cause and, for TRAP, a code; causes 2 to 5 raise fault 0x0301 against the partition that owns the
bank and advance MRB_TRAPS (R116, R380). -/
def stopMarble (n : Nat) (cause : BitVec 3) (code : BitVec 5) (s : State) : State :=
  let s := modMarble n (fun m => { m with cause := cause, code := code, waiting := .none }) s
  if 2 ≤ cause.toNat ∧ cause.toNat ≤ 5 then
    raiseFault 0x0301 1 (n / 8192) (bankPart s n) (cause.toNat * 2 ^ 28 + n) { s with mrb.traps := s.mrb.traps + 1 }
  else s

/-- The Marble after an instruction that does not branch: the next instruction, or the back edge of the innermost live loop
whose body it ends (R121; log entry 21). -/
def advance (m : Marble) : Marble :=
  let inner (m : Marble) : Marble :=
    match m.loop0 with
    | some l =>
      if m.pc = l.last then
        if 1 < l.left.toNat then { m with pc := l.start, loop0 := some { l with left := l.left - 1 } }
        else { m with pc := m.pc + 1, loop0 := none, loop1 := none }
      else { m with pc := m.pc + 1 }
    | none => { m with pc := m.pc + 1 }
  match m.loop1 with
  | some l =>
    if m.pc = l.last then
      if 1 < l.left.toNat then { m with pc := l.start, loop1 := some { l with left := l.left - 1 } }
      else inner { m with loop1 := none }
    else inner m
  | none => inner m

/-- Whether an instruction index lies in a loop's body. -/
def inBody (l : LoopSt) (t : BitVec 14) : Bool := decide (l.start.toNat ≤ t.toNat) && decide (t.toNat ≤ l.last.toNat)

/-- The Marble after a taken branch or jump to `t`; one that leaves a body ends that loop and any loop inside it (R121). -/
def branchTo (t : BitVec 14) (m : Marble) : Marble :=
  let m := match m.loop1 with
    | some l => if inBody l t then m else { m with loop1 := none }
    | none => m
  let m := match m.loop0 with
    | some l => if inBody l t then m else { m with loop0 := none, loop1 := none }
    | none => m
  { m with pc := t }

/-- Whether Marble n can issue: it runs, waits for nothing, and its Quad is not paused by the power meter (R116, R123, R182,
R354). -/
def canIssue (s : State) (n : Nat) : Bool :=
  running s n && decide ((marble s n).waiting = .none) && !(look s.pwr.quads (quadOf n) {}).paused

/-- Whether the word that Marble n's PC names in its Cluster's instruction RAM has a reserved OP or FN, so that it is no instruction
(R116, R120; log entry 7). -/
def wordReserved (s : State) (n : MarbleId) : Bool :=
  (decodeMarble n ((look s.mrb.iram (n.toNat / 64) []).getD (marble s n.toNat).pc.toNat 0)).isNone

/-- An instruction of Marble n issues: a Marble that cannot issue is unchanged, one whose PC lies beyond the loaded
instructions stops with cause 4, and one whose instruction or whose word at the PC is ill-formed stops with cause 2 (R116, R120; log
entries 7, 15). -/
def issue (n : MarbleId) (legal : Bool) (s : State) (body : Marble → State) : State :=
  if !canIssue s n.toNat then s
  else if loadedCount s n.toNat ≤ (marble s n.toNat).pc.toNat then stopMarble n.toNat 4 0 s
  else if !legal || wordReserved s n then stopMarble n.toNat 2 0 s
  else body (marble s n.toNat)

/-- An instruction that executes when bit 0 of its predicate is 1, and in any case goes on to the next (R113). -/
def issueWhole (n : MarbleId) (p : BitVec 2) (legal : Bool) (f : Marble → Marble) (s : State) : State :=
  issue n legal s fun m => setMarble n.toNat (advance (if executes m p then f m else m)) s

/-- A format R instruction d ← a op b (R120, R121). -/
def aluR (n : MarbleId) (f : FmtR) (op : Word → Word → Word) (s : State) : Host.Outcome State Fault Refusal :=
  .next (issueWhole n f.p true (fun m => setM f.d (op (getM m f.a) (getM m f.b)) m) s)

/-- A format R instruction d ← op a, whose b is unused and must be 0 (R120, R121). -/
def aluUnary (n : MarbleId) (f : FmtR) (op : Word → Word) (s : State) : Host.Outcome State Fault Refusal :=
  .next (issueWhole n f.p (f.b == 0) (fun m => setM f.d (op (getM m f.a)) m) s)

/-- An add or subtract: the exact result wraps modulo 2^32, and a wrap sets OVF (R118). -/
def addInto (d : BitVec 5) (x : Int) (m : Marble) : Marble := markOvf (wraps32 x) (setM d (BitVec.ofInt 32 x) m)

/-- A format I instruction d ← a op imm14 (R120, R121). -/
def aluI (n : MarbleId) (f : FmtI) (op : Word → BitVec 14 → Word) (s : State) : Host.Outcome State Fault Refusal :=
  .next (issueWhole n f.p true (fun m => setM f.d (op (getM m f.a) f.imm) m) s)

/-! ### Scalar arithmetic (R121) -/

/-- ADD: d ← a + b (R118, R121). -/
def execAdd (n : MarbleId) (f : FmtR) (s : State) : Host.Outcome State Fault Refusal :=
  .next (issueWhole n f.p true (fun m => addInto f.d ((getM m f.a).toInt + (getM m f.b).toInt) m) s)

/-- SUB: d ← a − b (R118, R121). -/
def execSub (n : MarbleId) (f : FmtR) (s : State) : Host.Outcome State Fault Refusal :=
  .next (issueWhole n f.p true (fun m => addInto f.d ((getM m f.a).toInt - (getM m f.b).toInt) m) s)

/-- AND (R121). -/
def execAnd (n : MarbleId) (f : FmtR) (s : State) : Host.Outcome State Fault Refusal := aluR n f (fun a b => a &&& b) s
/-- OR (R121). -/
def execOr (n : MarbleId) (f : FmtR) (s : State) : Host.Outcome State Fault Refusal := aluR n f (fun a b => a ||| b) s
/-- XOR (R121). -/
def execXor (n : MarbleId) (f : FmtR) (s : State) : Host.Outcome State Fault Refusal := aluR n f (fun a b => a ^^^ b) s
/-- SLL, by b[4:0] (R121). -/
def execSll (n : MarbleId) (f : FmtR) (s : State) : Host.Outcome State Fault Refusal :=
  aluR n f (fun a b => a <<< (b.toNat % 32)) s
/-- SRL, by b[4:0] (R121). -/
def execSrl (n : MarbleId) (f : FmtR) (s : State) : Host.Outcome State Fault Refusal :=
  aluR n f (fun a b => a >>> (b.toNat % 32)) s
/-- SRA, by b[4:0] (R121). -/
def execSra (n : MarbleId) (f : FmtR) (s : State) : Host.Outcome State Fault Refusal :=
  aluR n f (fun a b => a.sshiftRight (b.toNat % 32)) s
/-- MUL: the low 32 bits of a × b (R121). -/
def execMul (n : MarbleId) (f : FmtR) (s : State) : Host.Outcome State Fault Refusal := aluR n f (fun a b => a * b) s
/-- MULH: the signed high 32 bits of a × b (R121). -/
def execMulh (n : MarbleId) (f : FmtR) (s : State) : Host.Outcome State Fault Refusal :=
  aluR n f (fun a b => BitVec.ofInt 32 (a.toInt * b.toInt / 4294967296)) s
/-- MIN, signed (R121). -/
def execMin (n : MarbleId) (f : FmtR) (s : State) : Host.Outcome State Fault Refusal :=
  aluR n f (fun a b => if a.toInt ≤ b.toInt then a else b) s
/-- MAX, signed (R121). -/
def execMax (n : MarbleId) (f : FmtR) (s : State) : Host.Outcome State Fault Refusal :=
  aluR n f (fun a b => if b.toInt ≤ a.toInt then a else b) s
/-- MINU, unsigned (R121). -/
def execMinu (n : MarbleId) (f : FmtR) (s : State) : Host.Outcome State Fault Refusal :=
  aluR n f (fun a b => if a.toNat ≤ b.toNat then a else b) s
/-- MAXU, unsigned (R121). -/
def execMaxu (n : MarbleId) (f : FmtR) (s : State) : Host.Outcome State Fault Refusal :=
  aluR n f (fun a b => if b.toNat ≤ a.toNat then a else b) s
/-- CLZ: the leading zeros of a (R121). -/
def execClz (n : MarbleId) (f : FmtR) (s : State) : Host.Outcome State Fault Refusal :=
  aluUnary n f (fun a => BitVec.ofNat 32 (if a = 0 then 32 else 31 - a.toNat.log2)) s
/-- POPC: the set bits of a (R121). -/
def execPopc (n : MarbleId) (f : FmtR) (s : State) : Host.Outcome State Fault Refusal :=
  aluUnary n f (fun a => BitVec.ofNat 32 ((List.range 32).countP (fun i => a.getLsbD i))) s
/-- ADDI: d ← a + sext(imm14) (R118, R121). -/
def execAddi (n : MarbleId) (f : FmtI) (s : State) : Host.Outcome State Fault Refusal :=
  .next (issueWhole n f.p true (fun m => addInto f.d ((getM m f.a).toInt + f.imm.toInt) m) s)
/-- ANDI, on zext(imm14) (R121). -/
def execAndi (n : MarbleId) (f : FmtI) (s : State) : Host.Outcome State Fault Refusal :=
  aluI n f (fun a k => a &&& k.setWidth 32) s
/-- ORI, on zext(imm14) (R121). -/
def execOri (n : MarbleId) (f : FmtI) (s : State) : Host.Outcome State Fault Refusal :=
  aluI n f (fun a k => a ||| k.setWidth 32) s
/-- XORI, on zext(imm14) (R121). -/
def execXori (n : MarbleId) (f : FmtI) (s : State) : Host.Outcome State Fault Refusal :=
  aluI n f (fun a k => a ^^^ k.setWidth 32) s
/-- SHI: imm[13:12] 0 SLL, 1 SRL, 2 SRA by imm[4:0]; imm[11:5] is zero and imm[13:12] = 3 is reserved (R121). -/
def execShi (n : MarbleId) (f : FmtI) (s : State) : Host.Outcome State Fault Refusal :=
  let k := f.imm.toNat % 32
  let kind := bitsOf f.imm.toNat 13 12
  .next (issueWhole n f.p (bitsOf f.imm.toNat 11 5 == 0 && kind != 3) (fun m =>
    let a := getM m f.a
    setM f.d (if kind = 0 then a <<< k else if kind = 1 then a >>> k else a.sshiftRight k) m) s)
/-- LUI: d ← imm19 << 13 (R121). -/
def execLui (n : MarbleId) (f : FmtU) (s : State) : Host.Outcome State Fault Refusal :=
  .next (issueWhole n f.p true (fun m => setM f.d (f.imm.setWidth 32 <<< 13) m) s)
/-- CMP: pd ← 0xFF if (a cond b), else 0x00; b lies in bits [13:9], the rest of imm is unused (R120, R121). -/
def execCmp (n : MarbleId) (f : FmtC) (s : State) : Host.Outcome State Fault Refusal :=
  .next (issueWhole n f.p (decide (f.cond.toNat < 6) && f.imm.extractLsb' 0 9 == 0) (fun m =>
    setP f.pd (if condHolds f.cond (getM m f.a) (getM m (f.imm.extractLsb' 9 5)) then 0xFF else 0) m) s)
/-- CMPI: pd ← 0xFF if (a cond sext(imm14)), else 0x00 (R121). -/
def execCmpi (n : MarbleId) (f : FmtC) (s : State) : Host.Outcome State Fault Refusal :=
  .next (issueWhole n f.p (decide (f.cond.toNat < 6)) (fun m =>
    setP f.pd (if condHolds f.cond (getM m f.a) (f.imm.signExtend 32) then 0xFF else 0) m) s)

/-! ### Control (R121) -/

/-- A branch: taken when it executes and its condition holds, else the next instruction (R113, R121). -/
def branchOn (n : MarbleId) (f : FmtB) (legal : Bool) (cond : Marble → Bool) (s : State) :
    Host.Outcome State Fault Refusal :=
  .next (issue n legal s fun m => setMarble n.toNat
    (if executes m f.p && cond m then branchTo (m.pc + f.off) m else advance m) s)

/-- BEQ (R121). -/
def execBeq (n : MarbleId) (f : FmtB) (s : State) : Host.Outcome State Fault Refusal :=
  branchOn n f true (fun m => condHolds 0 (getM m f.a) (getM m f.b)) s
/-- BNE (R121). -/
def execBne (n : MarbleId) (f : FmtB) (s : State) : Host.Outcome State Fault Refusal :=
  branchOn n f true (fun m => condHolds 1 (getM m f.a) (getM m f.b)) s
/-- BLT (R121). -/
def execBlt (n : MarbleId) (f : FmtB) (s : State) : Host.Outcome State Fault Refusal :=
  branchOn n f true (fun m => condHolds 2 (getM m f.a) (getM m f.b)) s
/-- BGE (R121). -/
def execBge (n : MarbleId) (f : FmtB) (s : State) : Host.Outcome State Fault Refusal :=
  branchOn n f true (fun m => condHolds 3 (getM m f.a) (getM m f.b)) s
/-- BLTU (R121). -/
def execBltu (n : MarbleId) (f : FmtB) (s : State) : Host.Outcome State Fault Refusal :=
  branchOn n f true (fun m => condHolds 4 (getM m f.a) (getM m f.b)) s
/-- BGEU (R121). -/
def execBgeu (n : MarbleId) (f : FmtB) (s : State) : Host.Outcome State Fault Refusal :=
  branchOn n f true (fun m => condHolds 5 (getM m f.a) (getM m f.b)) s
/-- BP: a[1:0] names a predicate and a[4] the sense; b and a[3:2] are 0 (R121). -/
def execBp (n : MarbleId) (f : FmtB) (s : State) : Host.Outcome State Fault Refusal :=
  branchOn n f (f.b == 0 && f.a.extractLsb' 2 2 == 0)
    (fun m => (getP m (f.a.extractLsb' 0 2)).getLsbD 0 == f.a.getLsbD 4) s
/-- JAL: m31 ← PC + 1; PC ← PC + off24 (R121). -/
def execJal (n : MarbleId) (f : FmtJ) (s : State) : Host.Outcome State Fault Refusal :=
  .next (issue n true s fun m => setMarble n.toNat
    (if executes m f.p then branchTo (m.pc + f.off.setWidth 14) (setM 31 ((m.pc + 1).setWidth 32) m) else advance m) s)
/-- JR: d ← PC + 1; PC ← a[13:0]; b is unused (R121). -/
def execJr (n : MarbleId) (f : FmtR) (s : State) : Host.Outcome State Fault Refusal :=
  .next (issue n (f.b == 0) s fun m => setMarble n.toNat
    (if executes m f.p then branchTo ((getM m f.a).setWidth 14) (setM f.d ((m.pc + 1).setWidth 32) m) else advance m) s)

/-- Whether a LOOP at the level breaks the level rule: level 1 with no live level-0 loop, or a level whose loop is live
(R116, R121). -/
def loopRuleBroken (m : Marble) (level1 : Bool) : Bool :=
  if level1 then m.loop0.isNone || m.loop1.isSome else m.loop0.isSome

/-- The Marble after a LOOP that keeps the level rule: the loop is live, or its body is passed over when it runs no times
(R121; log entry 21). -/
def startLoop (level1 : Bool) (count : Word) (len : BitVec 14) (m : Marble) : Marble :=
  if count = 0 ∨ len = 0 then advance { m with pc := m.pc + len }
  else
    let l : LoopSt := { start := m.pc + 1, last := m.pc + len, left := count }
    if level1 then { m with pc := m.pc + 1, loop1 := some l } else { m with pc := m.pc + 1, loop0 := some l, loop1 := none }

/-- LOOP: d[0] names the level; the next imm14 instructions run m[a] times; a broken level rule stops the Marble with
cause 2 (R121). -/
def execLoop (n : MarbleId) (f : FmtI) (s : State) : Host.Outcome State Fault Refusal :=
  .next (issue n (f.d.extractLsb' 1 4 == 0) s fun m =>
    if !executes m f.p then setMarble n.toNat (advance m) s
    else if loopRuleBroken m (f.d.getLsbD 0) then stopMarble n.toNat 2 0 s
    else setMarble n.toNat (startLoop (f.d.getLsbD 0) (getM m f.a) f.imm m) s)

end Sys2Proof.Machine
end

