-- ==== Sys2Proof/Machine/MarbleMem.lean ====
section
/-! DEFINITION. The local memory instructions (R113, R116, R120, R121, R126). -/

namespace Sys2Proof.Machine

open Sys2Proof

/-- A local address: m[a] + sext(imm14), as an unsigned byte address (R120). -/
def localAddr (m : Marble) (f : FmtI) : Nat := (getM m f.a + f.imm.signExtend 32).toNat

/-- Whether `size` bytes from a local address lie within 0x000 to 0x7FF (R116). -/
def localOk (a size : Nat) : Bool := decide (a + size ≤ 2048)

/-- A scalar local access: only when it executes; bytes outside the bank stop the Marble with cause 3 (R113, R116). -/
def localScalar (n : MarbleId) (f : FmtI) (size : Nat) (s : State) (act : Marble → Nat → State) : State :=
  issue n true s fun m =>
    if !executes m f.p then setMarble n.toNat (advance m) s
    else if !localOk (localAddr m f) size then stopMarble n.toNat 3 0 s
    else act m (localAddr m f)

/-- A load of `size` bytes into scalar register d, sign- or zero-extended (R121). -/
def loadScalar (n : MarbleId) (f : FmtI) (size : Nat) (sgn : Bool) (s : State) : Host.Outcome State Fault Refusal :=
  .next (localScalar n f size s fun m a =>
    let x := leNat (scratchRead s n.toNat a size)
    let w : Word := if sgn then BitVec.ofInt 32 (sext (8 * size) x) else BitVec.ofNat 32 x
    setMarble n.toNat (advance (setM f.d w m)) s)

/-- A store of the low `size` bytes of scalar register d (R121). -/
def storeScalar (n : MarbleId) (f : FmtI) (size : Nat) (s : State) : Host.Outcome State Fault Refusal :=
  .next (localScalar n f size s fun m a =>
    setMarble n.toNat (advance m) (scratchWrite n.toNat a (leBytes size (getM m f.d).toNat) s))

/-- LDB (R121). -/
def execLdb (n : MarbleId) (f : FmtI) (s : State) : Host.Outcome State Fault Refusal := loadScalar n f 1 true s
/-- LDBU (R121). -/
def execLdbu (n : MarbleId) (f : FmtI) (s : State) : Host.Outcome State Fault Refusal := loadScalar n f 1 false s
/-- LDH (R121). -/
def execLdh (n : MarbleId) (f : FmtI) (s : State) : Host.Outcome State Fault Refusal := loadScalar n f 2 true s
/-- LDHU (R121). -/
def execLdhu (n : MarbleId) (f : FmtI) (s : State) : Host.Outcome State Fault Refusal := loadScalar n f 2 false s
/-- LDW (R121). -/
def execLdw (n : MarbleId) (f : FmtI) (s : State) : Host.Outcome State Fault Refusal := loadScalar n f 4 false s
/-- STB (R121). -/
def execStb (n : MarbleId) (f : FmtI) (s : State) : Host.Outcome State Fault Refusal := storeScalar n f 1 s
/-- STH (R121). -/
def execSth (n : MarbleId) (f : FmtI) (s : State) : Host.Outcome State Fault Refusal := storeScalar n f 2 s
/-- STW (R121). -/
def execStw (n : MarbleId) (f : FmtI) (s : State) : Host.Outcome State Fault Refusal := storeScalar n f 4 s

/-- Whether d names a vector register, even where `two` registers are moved (R121). -/
def vecFieldOk (d : BitVec 5) (two : Bool) : Bool := d.extractLsb' 3 2 == 0 && (!two || !d.getLsbD 0)

/-- The vector register that d[2:0] names. -/
def vecField (d : BitVec 5) : BitVec 3 := d.extractLsb' 0 3

/-- A vector local access of one or two registers: with no lane selected it makes no access; bytes outside the bank stop the
Marble with cause 3; an odd vd of a two-register access stops it with cause 2 (R113, R116, R121; log entry 17). -/
def localVector (n : MarbleId) (f : FmtI) (two : Bool) (s : State) (act : Marble → Nat → State) : State :=
  issue n (vecFieldOk f.d two) s fun m =>
    if getP m f.p = 0 then setMarble n.toNat (advance m) s
    else if !localOk (localAddr m f) (if two then 16 else 8) then stopMarble n.toNat 3 0 s
    else act m (localAddr m f)

/-- The Marble with the selected lanes of vd, and of vd + 1 for two registers, loaded from bytes (R113, R121). -/
def loadLanes (d : BitVec 3) (two : Bool) (mask : Byte) (bs : List Byte) (m : Marble) : Marble :=
  let lo := BitVec.ofNat 64 (leNat (slice bs 0 8))
  let m := setV d (mergeBytes mask lo (getV m d)) m
  if two then setV (d + 1) (mergeBytes mask (BitVec.ofNat 64 (leNat (slice bs 8 8))) (getV m (d + 1))) m else m

/-- A vector load (R113, R121). -/
def loadVector (n : MarbleId) (f : FmtI) (two : Bool) (s : State) : Host.Outcome State Fault Refusal :=
  .next (localVector n f two s fun m a =>
    setMarble n.toNat (advance (loadLanes (vecField f.d) two (getP m f.p)
      (scratchRead s n.toNat a (if two then 16 else 8)) m)) s)

/-- The bytes a vector store leaves in memory: those of the selected lanes, the old ones elsewhere (R113). -/
def storeLanes (mask : Byte) (v : DWord) (old : List Byte) : List Byte :=
  (List.range 8).map fun i => if mask.getLsbD i then byteLane v i else old.getD i 0

/-- A vector store: only the bytes of the selected lanes are written (R113, R121). -/
def storeVector (n : MarbleId) (f : FmtI) (two : Bool) (s : State) : Host.Outcome State Fault Refusal :=
  .next (localVector n f two s fun m a =>
    let d := vecField f.d
    let mask := getP m f.p
    let lo := storeLanes mask (getV m d) (scratchRead s n.toNat a 8)
    let bs := if two then lo ++ storeLanes mask (getV m (d + 1)) (scratchRead s n.toNat (a + 8) 8) else lo
    setMarble n.toNat (advance m) (scratchWrite n.toNat a bs s))

/-- VLD (R113, R121). -/
def execVld (n : MarbleId) (f : FmtI) (s : State) : Host.Outcome State Fault Refusal := loadVector n f false s
/-- VLD2 (R113, R121). -/
def execVld2 (n : MarbleId) (f : FmtI) (s : State) : Host.Outcome State Fault Refusal := loadVector n f true s
/-- VST (R113, R121). -/
def execVst (n : MarbleId) (f : FmtI) (s : State) : Host.Outcome State Fault Refusal := storeVector n f false s
/-- VST2 (R113, R121). -/
def execVst2 (n : MarbleId) (f : FmtI) (s : State) : Host.Outcome State Fault Refusal := storeVector n f true s

end Sys2Proof.Machine
end

