-- ==== Sys2Proof/Machine/MarbleVec.lean ====
section
/-! DEFINITION. The integer vector, dot-product and packing instructions (R113, R118, R122). An operand field that an
instruction does not use must be 0 (R120; log entry 15). -/

namespace Sys2Proof.Machine

open Sys2Proof

/-- A lane instruction vd[i] ← op va[i] vb[i]; m is unused (R113, R122). -/
def laneOp (n : MarbleId) (f : FmtV) (op : Byte → Byte → Byte) (s : State) : Host.Outcome State Fault Refusal :=
  .next (issue n (f.m == 0) s fun m =>
    let va := getV m f.va
    let vb := getV m f.vb
    setMarble n.toNat (advance (setV f.vd
      (mergeBytes (getP m f.p) (ofBytes fun i => op (byteLane va i) (byteLane vb i)) (getV m f.vd)) m)) s)

/-- A lane instruction vd[i] ← op va[i] with the scalar m[m]; vb is unused (R113, R122). -/
def laneScalarOp (n : MarbleId) (f : FmtV) (op : Byte → Word → Byte) (s : State) : Host.Outcome State Fault Refusal :=
  .next (issue n (f.vb == 0) s fun m =>
    let va := getV m f.va
    setMarble n.toNat (advance (setV f.vd
      (mergeBytes (getP m f.p) (ofBytes fun i => op (byteLane va i) (getM m f.m)) (getV m f.vd)) m)) s)

/-- The byte of an integer clamped to the signed 8-bit range (R118). -/
def sat8 (x : Int) : Byte := BitVec.ofInt 8 (clampInt (-128) 127 x)

/-- VADD: lanes wrap modulo 2^8 (R118, R122). -/
def execVadd (n : MarbleId) (f : FmtV) (s : State) : Host.Outcome State Fault Refusal := laneOp n f (fun a b => a + b) s
/-- VSUB (R118, R122). -/
def execVsub (n : MarbleId) (f : FmtV) (s : State) : Host.Outcome State Fault Refusal := laneOp n f (fun a b => a - b) s
/-- VADDS, saturating (R122). -/
def execVadds (n : MarbleId) (f : FmtV) (s : State) : Host.Outcome State Fault Refusal :=
  laneOp n f (fun a b => sat8 (a.toInt + b.toInt)) s
/-- VSUBS, saturating (R122). -/
def execVsubs (n : MarbleId) (f : FmtV) (s : State) : Host.Outcome State Fault Refusal :=
  laneOp n f (fun a b => sat8 (a.toInt - b.toInt)) s
/-- VMIN, signed lanes (R122). -/
def execVmin (n : MarbleId) (f : FmtV) (s : State) : Host.Outcome State Fault Refusal :=
  laneOp n f (fun a b => if a.toInt ≤ b.toInt then a else b) s
/-- VMAX, signed lanes (R122). -/
def execVmax (n : MarbleId) (f : FmtV) (s : State) : Host.Outcome State Fault Refusal :=
  laneOp n f (fun a b => if b.toInt ≤ a.toInt then a else b) s
/-- VMINU, unsigned lanes (R122). -/
def execVminu (n : MarbleId) (f : FmtV) (s : State) : Host.Outcome State Fault Refusal :=
  laneOp n f (fun a b => if a.toNat ≤ b.toNat then a else b) s
/-- VMAXU, unsigned lanes (R122). -/
def execVmaxu (n : MarbleId) (f : FmtV) (s : State) : Host.Outcome State Fault Refusal :=
  laneOp n f (fun a b => if b.toNat ≤ a.toNat then a else b) s
/-- VAND (R122). -/
def execVand (n : MarbleId) (f : FmtV) (s : State) : Host.Outcome State Fault Refusal := laneOp n f (fun a b => a &&& b) s
/-- VOR (R122). -/
def execVor (n : MarbleId) (f : FmtV) (s : State) : Host.Outcome State Fault Refusal := laneOp n f (fun a b => a ||| b) s
/-- VXOR (R122). -/
def execVxor (n : MarbleId) (f : FmtV) (s : State) : Host.Outcome State Fault Refusal := laneOp n f (fun a b => a ^^^ b) s
/-- VSHL: lane shift by m[m][2:0] (R122). -/
def execVshl (n : MarbleId) (f : FmtV) (s : State) : Host.Outcome State Fault Refusal :=
  laneScalarOp n f (fun a k => a <<< (k.toNat % 8)) s
/-- VSHR (R122). -/
def execVshr (n : MarbleId) (f : FmtV) (s : State) : Host.Outcome State Fault Refusal :=
  laneScalarOp n f (fun a k => a >>> (k.toNat % 8)) s
/-- VSAR (R122). -/
def execVsar (n : MarbleId) (f : FmtV) (s : State) : Host.Outcome State Fault Refusal :=
  laneScalarOp n f (fun a k => a.sshiftRight (k.toNat % 8)) s
/-- VMULL: the low 8 bits of each lane product (R118, R122). -/
def execVmull (n : MarbleId) (f : FmtV) (s : State) : Host.Outcome State Fault Refusal := laneOp n f (fun a b => a * b) s
/-- VMULH: the signed high 8 bits of each lane product (R122). -/
def execVmulh (n : MarbleId) (f : FmtV) (s : State) : Host.Outcome State Fault Refusal :=
  laneOp n f (fun a b => BitVec.ofInt 8 (a.toInt * b.toInt / 256)) s
/-- VABS: −128 saturates to 127; vb and m are unused (R122). -/
def execVabs (n : MarbleId) (f : FmtV) (s : State) : Host.Outcome State Fault Refusal :=
  .next (issue n (f.vb == 0 && f.m == 0) s fun m =>
    let va := getV m f.va
    setMarble n.toNat (advance (setV f.vd
      (mergeBytes (getP m f.p) (ofBytes fun i => sat8 (byteLane va i).toInt.natAbs) (getV m f.vd)) m)) s)
/-- VSEL: vd[i] ← p(m[1:0])[i] ? va[i] : vb[i]; not subject to P (R122). -/
def execVsel (n : MarbleId) (f : FmtV) (s : State) : Host.Outcome State Fault Refusal :=
  .next (issue n (f.m.extractLsb' 2 3 == 0) s fun m =>
    setMarble n.toNat (advance (setV f.vd
      (mergeBytes (getP m (f.m.extractLsb' 0 2)) (getV m f.va) (getV m f.vb)) m)) s)
/-- VBC: every lane ← m[m][7:0]; va and vb are unused (R122). -/
def execVbc (n : MarbleId) (f : FmtV) (s : State) : Host.Outcome State Fault Refusal :=
  .next (issue n (f.va == 0 && f.vb == 0) s fun m =>
    setMarble n.toNat (advance (setV f.vd
      (mergeBytes (getP m f.p) (ofBytes fun _ => (getM m f.m).setWidth 8) (getV m f.vd)) m)) s)
/-- VPERM: vd[i] ← va[vb[i] & 7] (R122). -/
def execVperm (n : MarbleId) (f : FmtV) (s : State) : Host.Outcome State Fault Refusal :=
  .next (issue n (f.m == 0) s fun m =>
    let va := getV m f.va
    let vb := getV m f.vb
    setMarble n.toNat (advance (setV f.vd
      (mergeBytes (getP m f.p) (ofBytes fun i => byteLane va ((byteLane vb i).toNat % 8)) (getV m f.vd)) m)) s)

/-- Four lanes from `base` on ← the bytes of m[m], where the predicate selects them; va and vb are unused (R113, R122). -/
def moveToLanes (n : MarbleId) (f : FmtV) (base : Nat) (s : State) : Host.Outcome State Fault Refusal :=
  .next (issue n (f.va == 0 && f.vb == 0) s fun m =>
    let x := getM m f.m
    let old := getV m f.vd
    setMarble n.toNat (advance (setV f.vd (mergeBytes (getP m f.p)
      (ofBytes fun i => if base ≤ i ∧ i < base + 4 then x.extractLsb' (8 * (i - base)) 8 else byteLane old i) old) m)) s)

/-- VMVL: lanes 0 to 3 (R122). -/
def execVmvl (n : MarbleId) (f : FmtV) (s : State) : Host.Outcome State Fault Refusal := moveToLanes n f 0 s
/-- VMVH: lanes 4 to 7 (R122). -/
def execVmvh (n : MarbleId) (f : FmtV) (s : State) : Host.Outcome State Fault Refusal := moveToLanes n f 4 s

/-- m[m] byte i ← lane base + i, only where that lane's predicate bit is 1; vd and vb are unused (R113, R122). -/
def moveFromLanes (n : MarbleId) (f : FmtV) (base : Nat) (s : State) : Host.Outcome State Fault Refusal :=
  .next (issue n (f.vd == 0 && f.vb == 0) s fun m =>
    let va := getV m f.va
    let mask := getP m f.p
    let old := getM m f.m
    let b (i : Nat) : Byte := if mask.getLsbD (base + i) then byteLane va (base + i) else old.extractLsb' (8 * i) 8
    setMarble n.toNat (advance (setM f.m (b 3 ++ b 2 ++ b 1 ++ b 0) m)) s)

/-- VTOL: lanes 0 to 3 (R113, R122). -/
def execVtol (n : MarbleId) (f : FmtV) (s : State) : Host.Outcome State Fault Refusal := moveFromLanes n f 0 s
/-- VTOH: lanes 4 to 7 (R113, R122). -/
def execVtoh (n : MarbleId) (f : FmtV) (s : State) : Host.Outcome State Fault Refusal := moveFromLanes n f 4 s

/-- m[m] ← m[m] + a sum of lanes; the accumulation wraps modulo 2^32, and a wrap sets OVF; vd is unused (R113, R118, R122). -/
def accumulate (n : MarbleId) (f : FmtV) (legal : Bool) (sum : Marble → Int) (s : State) :
    Host.Outcome State Fault Refusal :=
  .next (issue n (f.vd == 0 && legal) s fun m =>
    setMarble n.toNat (advance (addInto f.m ((getM m f.m).toInt + sum m) m)) s)

/-- VRSUM: m[m] ← m[m] + Σ sext(va[i]) over the selected lanes; vb is unused (R113, R122). -/
def execVrsum (n : MarbleId) (f : FmtV) (s : State) : Host.Outcome State Fault Refusal :=
  accumulate n f (f.vb == 0) (fun m => laneSum (getP m f.p) 8 fun i => (byteLane (getV m f.va) i).toInt) s
/-- VSARN: arithmetic shift right by m[m][2:0], rounding to nearest, ties to even (R122). -/
def execVsarn (n : MarbleId) (f : FmtV) (s : State) : Host.Outcome State Fault Refusal :=
  laneScalarOp n f (fun a k => BitVec.ofInt 8 (rneShift a.toInt (k.toNat % 8))) s
/-- VCMP: p(m[1:0])[i] ← 1 if (va[i] cond vb[i]), else 0, for the selected lanes; vd and m[4:2] are unused (R113, R122). -/
def execVcmp (n : MarbleId) (cond : BitVec 3) (f : FmtV) (s : State) : Host.Outcome State Fault Refusal :=
  .next (issue n (decide (cond.toNat < 6) && f.vd == 0 && f.m.extractLsb' 2 3 == 0) s fun m =>
    let pd := f.m.extractLsb' 0 2
    let bit (i : Nat) : Bool := if (getP m f.p).getLsbD i
      then condHolds cond (byteLane (getV m f.va) i) (byteLane (getV m f.vb) i) else (getP m pd).getLsbD i
    let r : Byte := BitVec.ofNat 8 ((List.range 8).foldl (fun t i => if bit i then t + 2 ^ i else t) 0)
    setMarble n.toNat (advance (setP pd r m)) s)

/-- VDOT8: m[m] ← m[m] + Σ of int8 products of the selected lanes (R113, R122). -/
def execVdot8 (n : MarbleId) (f : FmtV) (s : State) : Host.Outcome State Fault Refusal :=
  accumulate n f true (fun m => laneSum (getP m f.p) 8 fun i =>
    (byteLane (getV m f.va) i).toInt * (byteLane (getV m f.vb) i).toInt) s
/-- VDOT4: as VDOT8 over 16 int4 pairs, two in each byte lane (R113, R117, R122). -/
def execVdot4 (n : MarbleId) (f : FmtV) (s : State) : Host.Outcome State Fault Refusal :=
  accumulate n f true (fun m => laneSum (getP m f.p) 8 fun i =>
    packedElem 4 (getV m f.va) (2 * i) * packedElem 4 (getV m f.vb) (2 * i)
      + packedElem 4 (getV m f.va) (2 * i + 1) * packedElem 4 (getV m f.vb) (2 * i + 1)) s
/-- VDOT84: int8 lanes of va × int4 elements 0 to 7 of vb (R113, R122). -/
def execVdot84 (n : MarbleId) (f : FmtV) (s : State) : Host.Outcome State Fault Refusal :=
  accumulate n f true (fun m => laneSum (getP m f.p) 8 fun i =>
    (byteLane (getV m f.va) i).toInt * packedElem 4 (getV m f.vb) i) s

/-! ### Packing (R43, R117, R122) -/

/-- vd's lanes ← elements first to first + 7 of w-bit packed va; vb and m are unused (R113, R122). -/
def unpackLanes (n : MarbleId) (f : FmtV) (w first : Nat) (s : State) : Host.Outcome State Fault Refusal :=
  .next (issue n (f.vb == 0 && f.m == 0) s fun m =>
    let va := getV m f.va
    setMarble n.toNat (advance (setV f.vd (mergeBytes (getP m f.p)
      (ofBytes fun i => BitVec.ofInt 8 (packedElem w va (first + i))) (getV m f.vd)) m)) s)

/-- VUNP4L (R122). -/
def execVunp4l (n : MarbleId) (f : FmtV) (s : State) : Host.Outcome State Fault Refusal := unpackLanes n f 4 0 s
/-- VUNP4H (R122). -/
def execVunp4h (n : MarbleId) (f : FmtV) (s : State) : Host.Outcome State Fault Refusal := unpackLanes n f 4 8 s
/-- VUNP5: Q5 in bytes 0 to 4 (R43, R122). -/
def execVunp5 (n : MarbleId) (f : FmtV) (s : State) : Host.Outcome State Fault Refusal := unpackLanes n f 5 0 s
/-- VUNP6: Q6 in bytes 0 to 5 (R43, R122). -/
def execVunp6 (n : MarbleId) (f : FmtV) (s : State) : Host.Outcome State Fault Refusal := unpackLanes n f 6 0 s

/-- Whether element i of w bits touches a byte that the mask selects. -/
def elemWritten (mask : Byte) (w i : Nat) : Bool := mask.getLsbD (w * i / 8) || mask.getLsbD ((w * i + w - 1) / 8)

/-- vd ← elements packed to w bits, saturating to ±lim, the other bytes 0; an element that saturates into a written byte sets
SATCVT (R113, R122; log entry 20). -/
def packLanes (n : MarbleId) (f : FmtV) (legal : Bool) (w : Nat) (lim : Int) (src : Marble → List Int) (s : State) :
    Host.Outcome State Fault Refusal :=
  .next (issue n (legal && f.m == 0) s fun m =>
    let xs := src m
    let mask := getP m f.p
    let sat := ((xs.mapIdx (fun i x => elemWritten mask w i && decide (clampInt (-lim) lim x ≠ x))).any id)
    setMarble n.toNat (advance (markSat sat (setV f.vd
      (mergeBytes mask (packElems w (xs.map (clampInt (-lim) lim))) (getV m f.vd)) m))) s)

/-- The lanes of a vector register as signed integers. -/
def lanesInt (v : DWord) : List Int := (List.range 8).map fun i => (byteLane v i).toInt

/-- VPK4: va's lanes to elements 0 to 7 and vb's to 8 to 15, saturating to ±7 (R122). -/
def execVpk4 (n : MarbleId) (f : FmtV) (s : State) : Host.Outcome State Fault Refusal :=
  packLanes n f true 4 7 (fun m => lanesInt (getV m f.va) ++ lanesInt (getV m f.vb)) s
/-- VPK5: saturating to ±15 (R122). -/
def execVpk5 (n : MarbleId) (f : FmtV) (s : State) : Host.Outcome State Fault Refusal :=
  packLanes n f (f.vb == 0) 5 15 (fun m => lanesInt (getV m f.va)) s
/-- VPK6: saturating to ±31 (R122). -/
def execVpk6 (n : MarbleId) (f : FmtV) (s : State) : Host.Outcome State Fault Refusal :=
  packLanes n f (f.vb == 0) 6 31 (fun m => lanesInt (getV m f.va)) s

end Sys2Proof.Machine
end

