-- ==== Sys2Proof/Machine/MarbleFp.lean ====
section
/-! DEFINITION. The fp8, bf16 and MX instructions and the block accumulator (R117, R118, R119, R122). -/

namespace Sys2Proof.Machine

open Sys2Proof

/-! ### The block accumulator (R118, R122) -/

/-- BA ← BA + the selected lanes' products in lane order; a NaN element of a selected lane sets NAN (R113, R118; log
entries 13, 22). -/
def dotBA (n : MarbleId) (legal : Bool) (p : BitVec 2) (k : Nat) (a b : Marble → Nat → FVal) (scale : Marble → Int)
    (s : State) : Host.Outcome State Fault Refusal :=
  .next (issue n legal s fun m =>
    let mask := getP m p
    let bad := (List.range k).any fun i => mask.getLsbD i && (isNan (a m i) || isNan (b m i))
    let ba := baAccumulate mask k (fun i => scaleVal (scale m) (mulVal (a m i) (b m i))) m.ba
    setMarble n.toNat (advance (markNan bad { m with ba := ba })) s)

/-- An integer as a floating-point value. -/
def intVal (x : Int) : FVal := .fin (decide (x < 0)) x.natAbs 0

/-- F8DOT: 8 fp8 products; m[0] gives va's format and m[1] vb's; vd and m[4:2] are unused (R122). -/
def execF8dot (n : MarbleId) (f : FmtV) (s : State) : Host.Outcome State Fault Refusal :=
  dotBA n (f.vd == 0 && f.m.extractLsb' 2 3 == 0) f.p 8
    (fun m i => fp8Val (f.m.getLsbD 0) (byteLane (getV m f.va) i))
    (fun m i => fp8Val (f.m.getLsbD 1) (byteLane (getV m f.vb) i)) (fun _ => 0) s
/-- BDOT: 4 bf16 products; vd and m are unused (R122). -/
def execBdot (n : MarbleId) (f : FmtV) (s : State) : Host.Outcome State Fault Refusal :=
  dotBA n (f.vd == 0 && f.m == 0) f.p 4
    (fun m i => bf16Val (halfLane (getV m f.va) i)) (fun m i => bf16Val (halfLane (getV m f.vb) i)) (fun _ => 0) s
/-- MXDOT: 8 int8 products × 2^sext(m[m][9:0]); vd is unused (R122; log entry 13). -/
def execMxdot (n : MarbleId) (f : FmtV) (s : State) : Host.Outcome State Fault Refusal :=
  dotBA n (f.vd == 0) f.p 8
    (fun m i => intVal (byteLane (getV m f.va) i).toInt) (fun m i => intVal (byteLane (getV m f.vb) i).toInt)
    (fun m => ((getM m f.m).extractLsb' 0 10).toInt) s

/-- BCLR: BA ← +0; no operand field is used (R118, R122). -/
def execBclr (n : MarbleId) (f : FmtV) (s : State) : Host.Outcome State Fault Refusal :=
  .next (issueWhole n f.p (f.vd == 0 && f.va == 0 && f.vb == 0 && f.m == 0)
    (fun m => { m with ba := .fin false 0 0 }) s)
/-- BRD: m[m] ← zero-extended bf16 of BA, rounded to nearest even (R122). -/
def execBrd (n : MarbleId) (f : FmtV) (s : State) : Host.Outcome State Fault Refusal :=
  .next (issueWhole n f.p (f.vd == 0 && f.va == 0 && f.vb == 0)
    (fun m => setM f.m ((bf16Of (baVal m.ba)).setWidth 32) m) s)
/-- BRDQ: m[m] ← int32 of BA × 2^sext(m[m][7:0]), rounded to nearest even, saturating and then setting SATCVT; the result for
a NaN is free (R122; log entry 8). -/
def execBrdq (n : MarbleId) (f : FmtV) (s : State) : Host.Outcome State Fault Refusal :=
  .next (issueWhole n f.p (f.vd == 0 && f.va == 0 && f.vb == 0) (fun m =>
    let r := int32Of Config.brdqNan (scaleVal ((getM m f.m).extractLsb' 0 8).toInt (baVal m.ba))
    markSat r.2 (setM f.m r.1 m)) s)
/-- BLD: BA ← the bf16 in m[m][15:0]; a NaN sets NAN (R118, R122; log entry 22). -/
def execBld (n : MarbleId) (f : FmtV) (s : State) : Host.Outcome State Fault Refusal :=
  .next (issueWhole n f.p (f.vd == 0 && f.va == 0 && f.vb == 0) (fun m =>
    let v := bf16Val ((getM m f.m).setWidth 16)
    markNan (isNan v) { m with ba := baOf v }) s)

/-! ### Conversions (R117, R122) -/

/-- vd's lanes ← the fp8 of the MXFP6 elements in bytes 0 to 5 of va, exactly; vb and m are unused (R43, R122). -/
def unpackF6 (n : MarbleId) (f : FmtV) (e3 : Bool) (s : State) : Host.Outcome State Fault Refusal :=
  .next (issue n (f.vb == 0 && f.m == 0) s fun m =>
    let va := getV m f.va
    setMarble n.toNat (advance (setV f.vd (mergeBytes (getP m f.p)
      (ofBytes fun i => (fp8Of e3 0 (fp6Val e3 (va.extractLsb' (6 * i) 6))).1) (getV m f.vd)) m)) s)

/-- VUNPF6A: E2M3 → E4M3 (R122). -/
def execVunpf6a (n : MarbleId) (f : FmtV) (s : State) : Host.Outcome State Fault Refusal := unpackF6 n f false s
/-- VUNPF6B: E3M2 → E5M2 (R122). -/
def execVunpf6b (n : MarbleId) (f : FmtV) (s : State) : Host.Outcome State Fault Refusal := unpackF6 n f true s

/-- Four bf16 lanes ← fp8 lanes from `base` on of va, in the format of m[0]; vb and m[4:1] are unused (R122; log entries 12,
14). -/
def fp8ToBf16 (n : MarbleId) (f : FmtV) (base : Nat) (s : State) : Host.Outcome State Fault Refusal :=
  .next (issue n (f.vb == 0 && f.m.extractLsb' 1 4 == 0) s fun m =>
    let va := getV m f.va
    setMarble n.toNat (advance (setV f.vd (mergeHalves (getP m f.p)
      (ofHalves fun i => bf16Of (fp8Val (f.m.getLsbD 0) (byteLane va (base + i)))) (getV m f.vd)) m)) s)

/-- VF8BF: lanes 0 to 3 (R122). -/
def execVf8bf (n : MarbleId) (f : FmtV) (s : State) : Host.Outcome State Fault Refusal := fp8ToBf16 n f 0 s
/-- VF8BFH: lanes 4 to 7 (R122). -/
def execVf8bfh (n : MarbleId) (f : FmtV) (s : State) : Host.Outcome State Fault Refusal := fp8ToBf16 n f 4 s

/-- VBFF8: 4 bf16 lanes of va and 4 of vb → 8 fp8 lanes, rounded to nearest even, saturating; m[0] gives the format, m[4:1]
is unused; a selected lane that saturates sets SATCVT (R122). -/
def execVbff8 (n : MarbleId) (f : FmtV) (s : State) : Host.Outcome State Fault Refusal :=
  .next (issue n (f.m.extractLsb' 1 4 == 0) s fun m =>
    let src (i : Nat) : BitVec 16 := if i < 4 then halfLane (getV m f.va) i else halfLane (getV m f.vb) (i - 4)
    let cv (i : Nat) : Byte × Bool := fp8Of (f.m.getLsbD 0) (src i) (bf16Val (src i))
    let mask := getP m f.p
    let sat := (List.range 8).any fun i => mask.getLsbD i && (cv i).2
    setMarble n.toNat (advance (markSat sat (setV f.vd (mergeBytes mask (ofBytes fun i => (cv i).1) (getV m f.vd)) m))) s)

/-! ### Scalar bf16 (R118, R122) -/

/-- The bf16 in bits [15:0] of scalar register a. -/
def bfReg (m : Marble) (a : BitVec 5) : BitVec 16 := (getM m a).setWidth 16

/-- d ← a bf16 of a and b, the upper bits 0 (R122). -/
def bf16Op (n : MarbleId) (f : FmtR) (op : BitVec 16 → BitVec 16 → BitVec 16) (s : State) :
    Host.Outcome State Fault Refusal :=
  .next (issueWhole n f.p true (fun m => setM f.d ((op (bfReg m f.a) (bfReg m f.b)).setWidth 32) m) s)

/-- d ← a bf16 of a, the upper bits 0; b is unused (R122). -/
def bf16Unary (n : MarbleId) (f : FmtR) (op : BitVec 16 → BitVec 16) (s : State) : Host.Outcome State Fault Refusal :=
  .next (issueWhole n f.p (f.b == 0) (fun m => setM f.d ((op (bfReg m f.a)).setWidth 32) m) s)

/-- FADD (R118, R122). -/
def execFadd (n : MarbleId) (f : FmtR) (s : State) : Host.Outcome State Fault Refusal :=
  bf16Op n f (fun a b => bf16Of (addVal (bf16Val a) (bf16Val b))) s
/-- FSUB (R118, R122). -/
def execFsub (n : MarbleId) (f : FmtR) (s : State) : Host.Outcome State Fault Refusal :=
  bf16Op n f (fun a b => bf16Of (addVal (bf16Val a) (negVal (bf16Val b)))) s
/-- FMUL (R118, R122). -/
def execFmul (n : MarbleId) (f : FmtR) (s : State) : Host.Outcome State Fault Refusal :=
  bf16Op n f (fun a b => bf16Of (mulVal (bf16Val a) (bf16Val b))) s

/-- The smaller or larger of two bf16; with both NaN the NaN 0x7FC0, and free where one is NaN or both are zeros of different
signs (R118, R122; log entry 8). -/
def minMaxBf16 (mx : Bool) (a b : BitVec 16) : BitVec 16 :=
  let va := bf16Val a
  let vb := bf16Val b
  if isNan va ∧ isNan vb then 0x7FC0
  else if isNan va ∨ isNan vb ∨ (isZero va ∧ isZero vb ∧ bf16Of va ≠ bf16Of vb) then Config.minMaxOpen mx a b
  else bf16Of (if ltVal va vb != mx then va else vb)

/-- FMIN (R122). -/
def execFmin (n : MarbleId) (f : FmtR) (s : State) : Host.Outcome State Fault Refusal := bf16Op n f (minMaxBf16 false) s
/-- FMAX (R122). -/
def execFmax (n : MarbleId) (f : FmtR) (s : State) : Host.Outcome State Fault Refusal := bf16Op n f (minMaxBf16 true) s
/-- FSCALE: d ← a × 2^b, exactly unless out of range; b is an int32 (R122). -/
def execFscale (n : MarbleId) (f : FmtR) (s : State) : Host.Outcome State Fault Refusal :=
  .next (issueWhole n f.p true (fun m =>
    setM f.d ((bf16Of (scaleVal (getM m f.b).toInt (bf16Val (bfReg m f.a)))).setWidth 32) m) s)
/-- FCVTF: int32 to bf16, rounded to nearest even; b is unused (R122). -/
def execFcvtf (n : MarbleId) (f : FmtR) (s : State) : Host.Outcome State Fault Refusal :=
  .next (issueWhole n f.p (f.b == 0) (fun m => setM f.d ((bf16Of (intVal (getM m f.a).toInt)).setWidth 32) m) s)
/-- FCVTI: bf16 to int32, rounded to nearest even, saturating and then setting SATCVT, 0 for NaN; b is unused (R122). -/
def execFcvti (n : MarbleId) (f : FmtR) (s : State) : Host.Outcome State Fault Refusal :=
  .next (issueWhole n f.p (f.b == 0) (fun m =>
    let r := int32Of 0 (bf16Val (bfReg m f.a))
    markSat r.2 (setM f.d r.1 m)) s)

/-- A table's result, rounded to a bf16: place c among those within 1 ulp of the exact value, which is q × 2^e where `exact` holds and
lies between q × 2^e and (q + 1) × 2^e otherwise (R119; log entry 8). -/
def nearBf16 (neg : Bool) (q : Nat) (e : Int) (exact : Bool) (c : Fin 5) : BitVec 16 :=
  bf16Of (.fin neg (2 * q + (if exact then c.val else 2 + c.val % 3) - 2) (e - 1))

/-- 1 / a; of a zero the infinity of its sign, of an infinity the zero (R118, R119). -/
def recipBf16 (a : BitVec 16) : BitVec 16 :=
  match bf16Val a with
  | .nan => 0x7FC0
  | .inf neg => bf16Of (.fin neg 0 0)
  | .fin neg sig e =>
    if sig = 0 then bf16Of (.inf neg)
    else if sig = 128 then nearBf16 neg 128 (-14 - e) true (Config.frcp a)
    else nearBf16 neg (32768 / sig) (-15 - e) false (Config.frcp a)

/-- 1 / √a; of a zero the infinity of its sign, of a negative number NaN (R118, R119). -/
def rsqrtBf16 (a : BitVec 16) : BitVec 16 :=
  match bf16Val a with
  | .nan => 0x7FC0
  | .inf neg => if neg then 0x7FC0 else bf16Of (.fin false 0 0)
  | .fin neg sig e =>
    if sig = 0 then bf16Of (.inf neg)
    else if neg then 0x7FC0
    else
      let m := if e % 2 = 0 then sig else 2 * sig
      let h := (if e % 2 = 0 then e else e - 1) / 2
      if m = 256 then nearBf16 false 128 (-11 - h) true (Config.frsq a)
      else
        let k : Nat := if m < 256 then 11 else 12
        nearBf16 false (Nat.sqrt (4 ^ k / m)) (-(k : Int) - h) false (Config.frsq a)

/-- 2^a; of the infinities 0 and +infinity (R118, R119). With |a| ≥ 2^−8 and t = a × 2^15, 2^a is 2^(t / 2^15). -/
def exp2Bf16 (a : BitVec 16) : BitVec 16 :=
  match bf16Val a with
  | .nan => 0x7FC0
  | .inf neg => if neg then 0 else bf16Of (.inf false)
  | .fin neg sig e =>
    if sig = 0 then nearBf16 false 128 (-7) true (Config.fexp2 a)
    else if e < -15 then (if neg then nearBf16 false 255 (-8) false (Config.fexp2 a) else nearBf16 false 128 (-7) false (Config.fexp2 a))
    else
      let t : Int := signed neg ((sig * 2 ^ (min (e + 15) 30).toNat : Nat) : Int)
      let j := (t % 32768).toNat
      nearBf16 false (128 + (List.range 127).countP (fun k => decide ((129 + k) ^ 32768 ≤ 2 ^ (7 * 32768 + j)))) (t / 32768 - 7)
        (decide (j = 0)) (Config.fexp2 a)

/-- log2 a; of a zero −infinity, of a negative number NaN (R118, R119). Where a is no power of two, log2 a lies between y and y + 1
in units of 2^−15. -/
def log2Bf16 (a : BitVec 16) : BitVec 16 :=
  match bf16Val a with
  | .nan => 0x7FC0
  | .inf neg => if neg then 0x7FC0 else bf16Of (.inf false)
  | .fin neg sig e =>
    if sig = 0 then bf16Of (.inf true)
    else if neg then 0x7FC0
    else if sig = 128 then
      let n := e + 7
      if n = 0 then bf16Of (.fin false 0 0)
      else
        let k := n.natAbs.log2
        nearBf16 (decide (n < 0)) (n.natAbs * 2 ^ (7 - k)) ((k : Int) - 7) true (Config.flog2 a)
    else
      let y : Int := e * 32768 + ((sig ^ 32768 : Nat).log2 : Nat)
      let m := if y < 0 then (-y - 1).toNat else y.toNat
      nearBf16 (decide (y < 0)) (m / 2 ^ (m.log2 - 7)) ((m.log2 : Int) - 7 - 15) false (Config.flog2 a)

/-- FRCP (R119, R122). -/
def execFrcp (n : MarbleId) (f : FmtR) (s : State) : Host.Outcome State Fault Refusal := bf16Unary n f recipBf16 s
/-- FRSQ (R119, R122). -/
def execFrsq (n : MarbleId) (f : FmtR) (s : State) : Host.Outcome State Fault Refusal := bf16Unary n f rsqrtBf16 s
/-- FEXP2 (R119, R122). -/
def execFexp2 (n : MarbleId) (f : FmtR) (s : State) : Host.Outcome State Fault Refusal := bf16Unary n f exp2Bf16 s
/-- FLOG2 (R119, R122). -/
def execFlog2 (n : MarbleId) (f : FmtR) (s : State) : Host.Outcome State Fault Refusal := bf16Unary n f log2Bf16 s

/-- FCMP: predicate d[1:0] ← 0xFF when the relation (0 EQ, 1 LT, 2 LE, 3 UN) holds, else 0x00; d[4:2] is unused (R122). -/
def execFcmp (n : MarbleId) (rel : BitVec 2) (f : FmtR) (s : State) : Host.Outcome State Fault Refusal :=
  .next (issueWhole n f.p (f.d.extractLsb' 2 3 == 0) (fun m =>
    let a := bf16Val (bfReg m f.a)
    let b := bf16Val (bfReg m f.b)
    let holds : Bool := match rel.toNat with
      | 0 => eqVal a b
      | 1 => ltVal a b
      | 2 => ltVal a b || eqVal a b
      | _ => isNan a || isNan b
    setP (f.d.extractLsb' 0 2) (if holds then 0xFF else 0) m) s)

end Sys2Proof.Machine
end

