-- ==== Sys2Proof/Machine/Parcel.lean ====
section
/-! DEFINITION. The cabling plan (R261), the sending side of a pair (R274, R275, R277) and Parcels from the mailbox that
posts them to the mailbox they are announced in (R130 to R133, R154, R279 to R284). -/

namespace Sys2Proof.Machine

open Sys2Proof

/-! ### The cabling plan (R261, R269) -/

/-- The group size N (R260). -/
def groupN (s : State) : Nat := s.fab.gn.toNat

/-- Fibre pairs per partner, F = floor(64 / (N − 1)); 0 for a group of one (R261). -/
def fibresPer (N : Nat) : Nat := if N ≤ 1 then 0 else 64 / (N - 1)

/-- The partner that owns plan index i on module m of a group of N (R261). -/
def planPartner (N m i : Nat) : Option Nat :=
  if N ≤ 1 then none
  else if i / fibresPer N < N - 1 then some ((m + 1 + i / fibresPer N) % N) else none

/-- The partner index of partner p on module m (R261). -/
def partnerIndex (N m p : Nat) : Nat := (p + 2 * N - m - 1) % N

/-- The plan indices that partner p owns on module m (R261). -/
def planOf (N m p : Nat) : List Nat := (List.range (fibresPer N)).map (fun k => partnerIndex N m p * fibresPer N + k)

/-- The plan index of a lane position: fibre pair × 8 + chiplet (R261, R269). -/
def lanePlan (l : Nat) : Nat := 8 * (l / 16 % 8) + l / 128

/-- The lane position of grid line `line` on plan index i (R261, R312). -/
def planLane (i line : Nat) : Nat := 128 * (i % 8) + 16 * (i / 8) + line

/-- The partner of a lane position (R269). -/
def lanePartner (s : State) (l : Nat) : Option Nat := planPartner (groupN s) s.fab.gid.toNat (lanePlan l)

/-- The positions of the pair with partner p, in plan-index order and then by grid line (R270). -/
def pairLanes (s : State) (p : Nat) : List Nat :=
  (planOf (groupN s) s.fab.gid.toNat p).flatMap (fun i => (List.range 16).map (planLane i))

/-- The Lit lanes of a pair. -/
def litLanes (s : State) (p : Nat) : List Nat := (pairLanes s p).filter (fun l => decide ((lane s l).state = .lit))

/-- The Lit lanes of a pair that a holder holds (R277). -/
def heldLit (s : State) (p : Nat) (h : BitVec 4) : List Nat :=
  (litLanes s p).filter (fun l => decide ((lane s l).holder = h))

/-- Whether module m is this module. -/
def isSelf (s : State) (m : Nat) : Bool := decide (m = s.fab.gid.toNat)

/-- Whether module m is this module or a member in the current epoch (R263, R281). -/
def isMember (s : State) (m : Nat) : Bool := isSelf s m || decide ((peer s m).slot = .member)

/-! ### Credits and sending (R274, R275, R277) -/

/-- The credit state of a virtual channel of a pair. -/
def vc (s : State) (m c : Nat) : VcCredit := look (peer s m).credit c {}

/-- The state with a virtual channel's credit state changed. -/
def modVc (m c : Nat) (f : VcCredit → VcCredit) (s : State) : State :=
  modPeer m (fun p => { p with credit := modAt p.credit c {} f }) s

/-- A control message to module m: it takes the pair's next message sequence (R277). -/
def sendCtrl (m : Nat) (o : Output) (s : State) : State :=
  emit o (if isSelf s m then s else modPeer m (fun p => { p with ctrlSeq := p.ctrlSeq + 1 }) s)

/-- The receiver frees k buffers of a virtual channel and returns their credits (R277). -/
def freeBuffers (m c k : Nat) (s : State) : State :=
  if k = 0 ∨ isSelf s m then s
  else emit (.credits m c k) (modVc m c (fun v => { v with freed := v.freed + BitVec.ofNat 32 k }) s)

/-- How many payloads a Parcel of `len` bytes takes (R279). -/
def payloadCount (len : Nat) : Nat := if len ≤ 84 then 1 else 1 + (len - 84 + 115) / 116

/-- The data bytes of the payload with INDEX i (R279). -/
def payloadData (data : List Byte) (i : Nat) : List Byte :=
  if i = 0 then data.take 84 else (data.drop (84 + 116 * (i - 1))).take 116

/-- A payload sent on lane l: it takes the lane's next LSEQ and stays in the retry buffer (R274, R275). -/
def sendOn (l : Nat) (p : TxParcel) (i : Nat) (s : State) : State :=
  let u : Unacked := { lseq := (lane s l).txSeq, vc := 1, part := p.part, tag := p.tag, index := BitVec.ofNat 12 i }
  let s := modLane l (fun x => { x with txSeq := x.txSeq + 1, buf := x.buf ++ [u], idle := false }) s
  let s := modVc p.partner 1 (fun v => { v with credits := v.credits - 1, sent := v.sent + 1 }) s
  emit (.payload l u (payloadData p.data i)) s

/-- The next lane for a payload of a holder: its Lit lanes of the pair in rotation, passing over lanes whose retry buffer
of 64 entries is full (R275, R277). -/
def nextLane (s : State) (m : Nat) (h : BitVec 4) : Option Nat :=
  let ls := heldLit s m h
  let k := (vc s m 1).sent.toNat
  ((List.range ls.length).map (fun j => ls.getD ((k + j) % ls.length) 0)).find? (fun l => decide ((lane s l).buf.length < 64))

/-- The banks that a Cluster range of 32-byte granules touches (R111). -/
def clusterBanks (c o len : Nat) : List Nat :=
  ((List.range (len / 32)).map (fun i => (clusterByte c (o + 32 * i)).1)).eraseDups

/-- The banks that the data of the payload with INDEX i is read from (R111, R279). -/
def payloadBanks (p : TxParcel) (i : Nat) : List Nat :=
  let lo := if i = 0 then 0 else (84 + 116 * (i - 1)) / 32
  let hi := (min p.hdr.len (84 + 116 * i) + 31) / 32
  clusterBanks (p.n.toNat / 64) (p.srcOff + 32 * lo) (32 * (hi - lo))

/-- The banks whose ownership check a Parcel's next source read now fails: they were handed over while it is being sent (R182,
R279). -/
def sourceLost (s : State) (p : TxParcel) : List Nat := (payloadBanks p p.sent).filter (fun b => !tagPass p.acc (bank s b))

/-- The payloads of one Parcel that the credits, the retry buffers and the ownership of its source now let go out, at most `fuel`
(R275, R277, R279); true where the next one could go out but its source read fails. -/
def pumpParcel (fuel : Nat) (p : TxParcel) (s : State) : (TxParcel × Bool) × State :=
  match fuel with
  | 0 => ((p, false), s)
  | n + 1 =>
    if (vc s p.partner 1).credits ≤ 0 then ((p, false), s)
    else match nextLane s p.partner p.part with
      | none => ((p, false), s)
      | some l =>
        if sourceLost s p ≠ [] then ((p, true), s) else pumpParcel n { p with sent := p.sent + 1 } (sendOn l p p.sent s)

/-! ### Posting (R130 to R132, R279, R281) -/

/-- The bank address of TXDs (R130). -/
def txdAddr (slot : BitVec 1) : Nat := 0x780 + 0x20 * slot.toNat

/-- The bank address of TXSs (R130). -/
def txsAddr (slot : BitVec 1) : Nat := 0x7C0 + 4 * slot.toNat

/-- Whether the slot's last post has not completed (R132). -/
def slotBusy (s : State) (n : Nat) (slot : BitVec 1) : Bool :=
  if slot = 0 then (mailbox s n).busy0 else (mailbox s n).busy1

/-- The slot marked. -/
def setBusy (n : Nat) (slot : BitVec 1) (b : Bool) (s : State) : State :=
  modMailbox n (fun m => if slot = 0 then { m with busy0 := b } else { m with busy1 := b }) s

/-- The first remote operation that satisfies `p` removed from a list. -/
def removeFirst (p : Outst → Bool) : List Outst → List Outst
  | [] => []
  | x :: xs => if p x then xs else x :: removeFirst p xs

/-- Whether a remote operation is a post of the slot. -/
def isPost (slot : BitVec 1) (o : Outst) : Bool :=
  match o.op with
  | .post k => decide (k = slot)
  | _ => false

/-- A write of one word that the router makes into a mailbox on its own behalf, checked against the bank's tag; a failing one is
dropped, one lost to the Marble is retried in the next cycle, and one lost 64 times in a row is abandoned with a fault; how often it
is lost is free (R128, R129, R138, R184). -/
def routerWord (n a : Nat) (w : Word) (acc : BitVec 20) (s : State) : State :=
  if !tagPass acc (bank s n) then dropAccess n 1 acc s
  else
    let k := (Config.routerLosses s.free n).val
    let s := countLoss n k (useFree s)
    if k = 64 then raiseFault 0x0302 1 (n / 8192) (bankPart s n) n s else scratchWrite n a (leBytes 4 w.toNat) s

/-- A post completes: TXSs is written with SEQ, status and attempts, the slot and the remote operation end, a status other
than OK is recorded in RSTAT, and a refusal is counted (R130, R132, R140, R281). -/
def completePost (n : Nat) (slot : BitVec 1) (seq : BitVec 16) (st : Byte) (attempts : Byte) (s : State) : State :=
  let s := if st = 7 then { s with fab.refused := s.fab.refused + 1 } else s
  let s := setBusy n slot false s
  let s := modMarble n (fun m => recordStatus st { m with outst := removeFirst (isPost slot) m.outst }) s
  routerWord n (txsAddr slot) (seq ++ st ++ attempts) (marbleTag s n) s

/-- A Parcel whose source read fails while it is being sent: the drop is counted, no further payload goes out, ABORT is sent, and
it completes with NOT_OWNER (R186, R279, R282). -/
def cutParcel (p : TxParcel) (s : State) : State :=
  let s := forAll (sourceLost s p) (fun b => dropAccess b 5 p.acc) s
  sendCtrl p.partner (.abort p.partner p.tag) (completePost p.n.toNat p.slot p.seq 2 0 s)

/-- Payloads waiting towards module m go out as far as they may (R275, R277, R279, R298). -/
def pump (m : Nat) (s : State) : State :=
  if isSelf s m then s
  else
    let r := s.fab.tx.foldl (fun (acc : List TxParcel × State) p =>
      if p.partner = m ∧ !p.blocked then
        let q := pumpParcel (p.hdr.payloads - p.sent) p acc.2
        if q.1.2 then (acc.1, cutParcel q.1.1 q.2) else (acc.1 ++ [q.1.1], q.2)
      else (acc.1 ++ [p], acc.2)) ([], s)
    { r.2 with fab.tx := r.1 }

/-- `len` bytes of a Cluster from offset o (R111). -/
def clusterRead (s : State) (c o len : Nat) : List Byte :=
  (List.range (len / 32)).flatMap (fun i =>
    let b := clusterByte c (o + 32 * i)
    scratchRead s b.1 b.2 32)

/-- A TAG not in use towards module m, from a free starting point (R279; log entry 1). -/
def freshTag (s : State) (m : Nat) : BitVec 12 :=
  let base := (freeVal s).toNat
  let used (t : BitVec 12) : Bool := s.fab.tx.any (fun p => decide (p.partner = m ∧ p.tag = t))
    || s.fab.lateTags.any (fun e => decide (e = (m, t)))
  match (List.range 4096).find? (fun i => !used (BitVec.ofNat 12 (base + i))) with
  | some i => BitVec.ofNat 12 (base + i)
  | none => BitVec.ofNat 12 base

/-- The Parcel enters the sending hub: a TAG, the deadline, the source bytes read once; towards this module itself its
payloads are at the receiving hub without a fibre (R279, R282). -/
def sendParcel (n : MarbleId) (slot : BitVec 1) (seq : BitVec 16) (hdr : ParcelHdr) (data : List Byte) (src : Nat) (s : State) : State :=
  let m := hdr.dest.toNat % 64
  let tag := freshTag s m
  let p : TxParcel :=
    { n := n, slot := slot, seq := seq, partner := m, tag := tag
      part := BitVec.ofNat 4 (tagPart (marbleTag s n.toNat)), due := timeNs s + s.fab.dl.toNat, hdr := hdr, data := data
      srcOff := src, acc := marbleTag s n.toNat }
  let s := useFree { s with fab.tx := s.fab.tx ++ [p] }
  if isSelf s m then
    { s with fab.rx := s.fab.rx.filter (fun r => decide (¬(r.partner = m ∧ r.tag = tag))) ++
      [{ partner := m, tag := tag, part := p.part, got := (List.range hdr.payloads).map (fun i => (i, payloadData data i)) }] }
  else pump m s

/-- The Parcel engine takes the descriptor of a TX slot: the checks of R132, membership (R281), the ownership of every
source bank (R279), and the send. -/
def startPost (n : MarbleId) (slot : BitVec 1) (s : State) : State :=
  let d := scratchRead s n.toNat (txdAddr slot) 32
  let w (i : Nat) : Nat := fieldAt d (4 * i) 4
  let seq : BitVec 16 := BitVec.ofNat 16 (w 0)
  let len := if w 1 % 131072 = 0 then 65536 else w 1 % 131072
  let src := w 2 % 131072
  let dest := w 3 % 128
  let daddr := w 4
  let c := n.toNat / 64
  if w 0 / 2 ^ 24 ≠ 1 ∨ 65536 < len ∨ len % 32 ≠ 0 ∨ src % 32 ≠ 0 ∨ 0x1E000 < src + len ∨ daddr % 32 ≠ 0 ∨ daddr / 2 ^ 30 ≠ 0 then
    completePost n.toNat slot seq 3 0 s
  else
    let s := { s with fab.ptx := s.fab.ptx + 1 }
    if !isMember s (dest % 64) then completePost n.toNat slot seq 7 0 s
    else
      let acc := marbleTag s n.toNat
      let bad := (clusterBanks c src len).filter (fun b => !tagPass acc (bank s b))
      if bad ≠ [] then completePost n.toNat slot seq 2 0 (forAll bad (fun b => dropAccess b 5 acc) s)
      else
        let hdr : ParcelHdr :=
          { xid := BitVec.ofNat 16 (w 5), step := BitVec.ofNat 16 (w 5 / 65536), len := len, daddr := BitVec.ofNat 32 daddr
            dest := BitVec.ofNat 7 dest, src := ⟨s.fab.gid.toNat, s.fab.gid.isLt⟩, payloads := payloadCount len
            origin := slot ++ (0 : BitVec 11) ++ n }
        sendParcel n slot seq hdr (clusterRead s c src len) src s

/-- MPOST: posts mailbox TX slot FN[0]; a slot still busy completes at once with SLOT_BUSY in RSTAT; a fifth remote operation
stalls at issue; d, a and b are unused (R123, R131, R132). -/
def execMpost (n : MarbleId) (slot : BitVec 1) (f : FmtR) (s : State) : Host.Outcome State Fault Refusal :=
  .next (issue n (f.d == 0 && f.a == 0 && f.b == 0) s fun m =>
    if !executes m f.p then setMarble n.toNat (advance m) s
    else if 4 ≤ m.outst.length then s
    else if slotBusy s n.toNat slot then setMarble n.toNat (advance (recordStatus 4 m)) s
    else startPost n slot (setBusy n.toNat slot true
      (setMarble n.toNat (advance { m with outst := m.outst ++ [{ op := .post slot, urgent := true }] }) s)))

/-! ### Arrival (R280, R281, R283) -/

/-- The bank and bank address of a space 00 fabric address in a half (R111, R136). -/
def fabricByte (half a : Nat) : Nat × Nat :=
  clusterByte (8192 * half + bitsOf a 29 24 * 128 + bitsOf a 23 17) (a % 131072)

/-- The key of the arrival filter's entry for a partition, source module, XID and destination half (R283). -/
def filterKey (half part src xid : Nat) : Nat := ((half * 16 + part) * 64 + src) * 65536 + xid

/-- What the arrival filter says of a STEP: 0 deliver, 1 duplicate, 2 stale (R283). -/
def filterCheck (e : Option FiltEntry) (step : BitVec 16) : Nat :=
  match e with
  | none => 0
  | some e =>
    let below := (e.highest - step).toNat
    let d := (step - e.highest).toNat
    if 1 ≤ d ∧ d ≤ 32767 then 0
    else if 16 ≤ below then 2
    else if e.map.getLsbD below then 1 else 0

/-- The entry with a delivered STEP marked (R283). -/
def filterMark (e : Option FiltEntry) (step : BitVec 16) : FiltEntry :=
  match e with
  | none => { highest := step, map := 1 }
  | some e =>
    let d := (step - e.highest).toNat
    if 1 ≤ d ∧ d ≤ 32767 then { highest := step, map := (e.map <<< d) ||| 1 }
    else { e with map := e.map ||| (1 <<< (e.highest - step).toNat) }

/-- The filter's entry at a key. -/
def filterAt (s : State) (k : Nat) : Option FiltEntry := find s.fab.filter k

/-- The arriving Parcel of a partner and TAG that has not been delivered. -/
def rxFind (s : State) (m : Nat) (tag : BitVec 12) : Option RxParcel :=
  s.fab.rx.find? (fun r => decide (r.partner = m ∧ r.tag = tag))

/-- The state without that arriving Parcel. -/
def rxDrop (m : Nat) (tag : BitVec 12) (s : State) : State :=
  { s with fab.rx := s.fab.rx.filter (fun r => decide (¬(r.partner = m ∧ r.tag = tag))) }

/-- The state with that arriving Parcel replaced. -/
def rxPut (r : RxParcel) (s : State) : State :=
  let s := rxDrop r.partner r.tag s
  { s with fab.rx := s.fab.rx ++ [r] }

/-- The receiving hub discards a Parcel's payloads, those that come later too, and sends DONE (R280, R281, R283). -/
def rxEnd (r : RxParcel) (st : Byte) (s : State) : State :=
  sendCtrl r.partner (.done r.partner r.tag st 0)
    (freeBuffers r.partner 1 r.got.length (rxPut { r with got := [], dup := true } s))

/-- Whether partition p has a loaded Show that no stop has begun. -/
def showLoaded (s : State) (p : Nat) : Bool :=
  match find s.shows p with
  | some w => !w.loading
  | none => false

/-- Whether a half is fenced (R25). -/
def halfFenced (s : State) (h : Nat) : Bool := if h = 0 then s.rst.fencedEast else s.rst.fencedWest

/-- Whether a half is fenced. -/
def anyFenced (s : State) : Bool := halfFenced s 0 || halfFenced s 1

/-- Whether a tag is dead (R282). -/
def tagDead (s : State) (m : Nat) (tag : BitVec 12) : Bool := s.fab.dead.any (fun e => decide (e.1 = m ∧ e.2.1 = tag))

/-- Whether the receiving hub refuses a Parcel before it writes any byte (R281). -/
def parcelRefused (s : State) (part : BitVec 4) (h : ParcelHdr) : Bool :=
  !showLoaded s part.toNat || (Sys2Proof.Machine.part s part.toNat).resetting || halfFenced s (h.dest.toNat / 64)
    || decide (h.daddr.toNat / 2 ^ 30 ≠ 0) || decide (0x1E000 < h.daddr.toNat % 131072 + h.len)

/-- FIRST: a Parcel's FIRST payload arrives; a payload of a dead TAG is discarded; the hub refuses it (R281), or the arrival
filter finds a duplicate, a stale STEP or a Parcel to deliver (R283). -/
def execFirst (m : ModuleId) (tag : BitVec 12) (part : BitVec 4) (hdr : ParcelHdr) (s : State) :
    Host.Outcome State Fault Refusal :=
  let fresh : RxParcel := { partner := m.val, tag := tag }
  let old := (rxFind s m.val tag).getD fresh
  let r := { (if old.delivered || old.dup then fresh else old) with part := part, hdr := some hdr }
  .next (
    if tagDead s m.val tag then freeBuffers m.val 1 1 s
    else if parcelRefused s part hdr then rxEnd r 7 s
    else match filterCheck (filterAt s (filterKey (hdr.dest.toNat / 64) part.toNat hdr.src.val hdr.xid.toNat)) hdr.step with
      | 1 => rxEnd r 0 { s with fab.dup := s.fab.dup + 1 }
      | 2 => rxEnd r 7 { s with fab.stale := s.fab.stale + 1 }
      | _ => rxPut r s)

/-- The data of a Parcel all of whose payloads have arrived (R279, R280). -/
def rxData (r : RxParcel) (h : ParcelHdr) : Option (List Byte) :=
  if (List.range h.payloads).all (fun i => has r.got i) then
    some (((List.range h.payloads).flatMap (fun i => look r.got i [])).take h.len)
  else none

/-- Whether the Bag of bank n is in block reset (R144, R369). -/
def bagInReset (s : State) (n : Nat) : Bool := blockHeld s .bag (n / 8192)

/-- The granules of a Parcel written to its destination, each under the ownership check with the partition's shared context
(R138, R182, R280). -/
def writeGranules (half daddr : Nat) (acc : BitVec 20) (data : List Byte) (s : State) : State :=
  forAll (List.range (data.length / 32)) (fun i s =>
    let b := fabricByte half (daddr + 32 * i)
    checkedWrite b.1 b.2 (slice data (32 * i) 32) 1 acc s) s

/-- Whether every granule's bank passes the check. -/
def granulesPass (s : State) (half daddr len : Nat) (acc : BitVec 20) : Bool :=
  (List.range (len / 32)).all (fun i => tagPass acc (bank s (fabricByte half (daddr + 32 * i)).1))

/-- Whether a Parcel of this module to itself crosses the inter-hub link while the link is in reset (R285, R321, R369; log entry
104). -/
def crossesReset (s : State) (m : Nat) (h : ParcelHdr) : Bool :=
  s.d2d.ihlReset && isSelf s m && decide (quadOf (h.origin.toNat % 1048576) / 16 ≠ h.dest.toNat / 64)

/-- PARCEL_DELIVERED: the last byte of a Parcel is in: its granules are written under the check, and its notice waits for
the mailbox; a Parcel with a failing granule completes with NOT_OWNER, one to a Bag in reset or across the inter-hub link in reset
with BLOCK_RESET (R133, R280, R281, R284, R321). -/
def execParcelDelivered (m : ModuleId) (tag : BitVec 12) (s : State) : Host.Outcome State Fault Refusal :=
  .next (
    match rxFind s m.val tag with
    | none => s
    | some r =>
      match r.hdr with
      | none => s
      | some h =>
        match rxData r h with
        | none => s
        | some data =>
          let half := h.dest.toNat / 64
          let acc := tagOf r.part.toNat 0xFFFF
          let n := (fabricByte half h.daddr.toNat).1
          if r.delivered || r.dup || (mailbox s n).held.any (fun x => decide (x.partner = m.val ∧ x.tag = tag)) then s
          else if bagInReset s n ∨ crossesReset s m.val h then rxEnd r 5 s
          else
            let ok := granulesPass s half h.daddr.toNat data.length acc
            let s := writeGranules half h.daddr.toNat acc data s
            if !ok then rxEnd r 2 s
            else modMailbox n (fun b => { b with held := b.held ++ [{ partner := m.val, tag := tag }] }) s)

/-- The arrival counter of a Parcel's XID advances in the destination Quad, or ZOE_ARR_STRAY does (R154). -/
def countArrival (z : Nat) (xid : BitVec 16) (s : State) : State :=
  noteArrivals z <| modZoe z (fun x =>
    let c := look x.scn.arrivals xid.toNat 0
    if 1023 < xid.toNat ∨ c = 0xFFFF then { x with scn := { x.scn with stray := x.scn.stray + 1 } }
    else { x with scn := { x.scn with arrivals := put x.scn.arrivals xid.toNat (c + 1) 0 } }) s

/-- NOTICE_WRITE: the router writes the oldest held arrival notice of a mailbox, word 1 and then word 0, only when
(n − RXACK) mod 2^16 ≤ 4; the Parcel is then delivered: its STEP is marked, FAB_PRX and its XID's counter advance, DONE
goes out (R133, R154, R280, R283). -/
def execNoticeWrite (n : MarbleId) (s : State) : Host.Outcome State Fault Refusal :=
  let mb := mailbox s n.toNat
  let ack : BitVec 16 := (scratchWord s n.toNat 0x7C8).setWidth 16
  .next (
    match mb.held with
    | [] => s
    | x :: rest =>
      if 4 < (mb.seq - ack).toNat then s
      else match rxFind s x.partner x.tag with
        | none => modMailbox n.toNat (fun b => { b with held := rest }) s
        | some r =>
          match r.hdr with
          | none => modMailbox n.toNat (fun b => { b with held := rest }) s
          | some h =>
            let acc := tagOf r.part.toNat 0xFFFF
            let a := 0x7E0 + 8 * (mb.seq.toNat % 4)
            let k := filterKey (h.dest.toNat / 64) r.part.toNat h.src.val h.xid.toNat
            let s := routerWord n.toNat (a + 4) (h.step ++ BitVec.ofNat 16 (h.len / 32)) acc s
            let s := routerWord n.toNat a (h.xid ++ mb.seq) acc s
            let s := modMailbox n.toNat (fun b => { b with held := rest, seq := b.seq + 1 }) s
            let s := { s with
              fab.prx := s.fab.prx + 1
              fab.filter := ins s.fab.filter k (filterMark (filterAt s k) h.step) }
            let s := countArrival (quadOf n.toNat) h.xid s
            let s := freeBuffers r.partner 1 r.got.length (rxPut { r with delivered := true, got := [] } s)
            sendCtrl r.partner (.done r.partner r.tag 0 0) s)

/-! ### Completion at the sender (R280, R282) -/

/-- A Parcel in flight from here, by partner and TAG. -/
def txFind (s : State) (m : Nat) (tag : BitVec 12) : Option TxParcel :=
  s.fab.tx.find? (fun p => decide (p.partner = m ∧ p.tag = tag))

/-- The state without a Parcel in flight. -/
def txDrop (m : Nat) (tag : BitVec 12) (s : State) : State :=
  { s with fab.tx := s.fab.tx.filter (fun p => decide (¬(p.partner = m ∧ p.tag = tag))) }

/-- DONE: the receiving hub's DONE arrives: TXS is written with its status and its count of resends; after DEADLINE it is
discarded and counted in FAB_LATE; for a Parcel whose Bag was reset it is discarded (R144, R280, R282). -/
def execDone (m : ModuleId) (tag : BitVec 12) (st : Byte) (resends : Nat) (s : State) : Host.Outcome State Fault Refusal :=
  .next (
    match txFind s m.val tag with
    | some p =>
      if p.blocked then s
      else completePost p.n.toNat p.slot p.seq st (BitVec.ofNat 8 (min 255 resends)) (txDrop m.val tag s)
    | none =>
      if s.fab.lateTags.any (fun e => decide (e = (m.val, tag))) then
        { s with fab.late := s.fab.late + 1, fab.lateTags := s.fab.lateTags.filter (fun e => decide (e ≠ (m.val, tag))) }
      else s)

/-- A Parcel in flight ends at its sender with DEADLINE; the count of attempts is free (R278, R282). -/
def deadlineParcel (p : TxParcel) (s : State) : State :=
  let v := (freeVal s).setWidth 8
  let s := useFree (txDrop p.partner p.tag s)
  let s := { s with fab.deadline := s.fab.deadline + 1, fab.lateTags := s.fab.lateTags ++ [(p.partner, p.tag)] }
  sendCtrl p.partner (.abort p.partner p.tag) (completePost p.n.toNat p.slot p.seq 6 v s)

/-- PARCEL_DEADLINE: DONE has not come by the post time plus DL: TXS carries DEADLINE, ABORT goes out (R282). -/
def execParcelDeadline (n : MarbleId) (slot : BitVec 1) (s : State) : Host.Outcome State Fault Refusal :=
  .next (
    match s.fab.tx.find? (fun p => decide (p.n = n ∧ p.slot = slot ∧ p.blocked = false)) with
    | some p => deadlineParcel p (advanceTo p.due s)
    | none => s)

/-- ABORT: before delivery the receiving hub discards the Parcel's payloads, writes no notice and marks the TAG dead for
16 µs; after delivery it ignores the ABORT (R282). -/
def execAbort (m : ModuleId) (tag : BitVec 12) (s : State) : Host.Outcome State Fault Refusal :=
  .next (
    match rxFind s m.val tag with
    | some r =>
      if r.delivered then s
      else
        let s := freeBuffers m.val 1 r.got.length (rxDrop m.val tag s)
        let s := match r.hdr with
          | some h => modMailbox (fabricByte (h.dest.toNat / 64) h.daddr.toNat).1
              (fun b => { b with held := b.held.filter (fun x => decide (¬(x.partner = m.val ∧ x.tag = tag))) }) s
          | none => s
        { s with fab.dead := s.fab.dead ++ [(m.val, tag, timeNs s + 16000)] }
    | none => { s with fab.dead := s.fab.dead ++ [(m.val, tag, timeNs s + 16000)] })

/-- DEAD_TAG_END: a TAG's 16 µs end (R282). -/
def execDeadTagEnd (m : ModuleId) (tag : BitVec 12) (s : State) : Host.Outcome State Fault Refusal :=
  .next (
    match s.fab.dead.find? (fun (e : Nat × BitVec 12 × Nat) => decide (e.1 = m.val ∧ e.2.1 = tag)) with
    | some e => { (advanceTo e.2.2 s) with fab.dead := s.fab.dead.filter (fun x => decide (x ≠ e)) }
    | none => s)

/-- Every Parcel in flight towards module m ends at its sender with REFUSED (R281). -/
def refusePair (m : Nat) (s : State) : State :=
  forAll (s.fab.tx.filter (fun p => decide (p.partner = m) && !p.blocked))
    (fun p s => completePost p.n.toNat p.slot p.seq 7 0 (txDrop p.partner p.tag s)) s

/-- Every Parcel in flight towards module m ends at its sender with DEADLINE (R278). -/
def deadlinePair (m : Nat) (s : State) : State :=
  forAll (s.fab.tx.filter (fun p => decide (p.partner = m) && !p.blocked)) deadlineParcel s

end Sys2Proof.Machine
end

