-- ==== Sys2Proof/Machine/Hbm.lean ====
section
/-! DEFINITION. The HBM, partition memory addresses, the Quads' DMA ports, the remote-line caches, and the hand-over of
scratch banks (R169 to R187, R253). -/

namespace Sys2Proof.Machine

open Sys2Proof

/-! ### Pseudo-channels and memory (R170 to R173) -/

/-- The addressable bytes of a pseudo-channel (R170). -/
def pchBytes : Nat := 1124999936

/-- Pseudo-channel c. -/
def pch (s : State) (c : Nat) : Pch := look s.hbm.pchs c {}

/-- The state with pseudo-channel c changed. -/
def modPch (c : Nat) (f : Pch → Pch) (s : State) : State := { s with hbm.pchs := modAt s.hbm.pchs c {} f }

/-- HBM stack k. -/
def hstack (s : State) (k : Nat) : Stack := look s.hbm.hstacks k {}

/-- The state with stack k changed. -/
def modStack (k : Nat) (f : Stack → Stack) (s : State) : State := { s with hbm.hstacks := modAt s.hbm.hstacks k {} f }

/-- The half that homes a pseudo-channel: 0 East, 1 West (R1, R12, R170). -/
def pchHalf (s : State) (c : Nat) : Nat := c / (if s.ident.ml then 64 else 96)

/-- The pseudo-channels of partition p in ascending order (R173). -/
def ownedPchs (s : State) (p : Nat) : List Nat :=
  (List.range 192).filter (fun c => (pch s c).valid && decide ((pch s c).part.toNat = p))

/-- The key of byte `o` of pseudo-channel c in the HBM map. -/
def hbmKey (c o : Nat) : Nat := 2147483648 * c + o

/-- What byte `o` of pseudo-channel c reads as (R172, R250; log entry 10). -/
def hbmByte (s : State) (c o : Nat) : Byte :=
  match find s.hbm.mem (hbmKey c o) with
  | some b => b
  | none =>
    match (pch s c).fill with
    | .zero => 0
    | .stale g => Config.hbmStale g (hbmKey c o)

/-- `len` bytes of pseudo-channel c from offset o. -/
def hbmBytes (s : State) (c o len : Nat) : List Byte := (List.range len).map (fun i => hbmByte s c (o + i))

/-- One byte written to pseudo-channel c (log entry 10). -/
def hbmSet (c o : Nat) (b : Byte) (s : State) : State :=
  match (pch s c).fill with
  | .zero => { s with hbm.mem := put s.hbm.mem (hbmKey c o) b 0 }
  | .stale _ => { s with hbm.mem := ins s.hbm.mem (hbmKey c o) b }

/-- Bytes written to pseudo-channel c from offset o. -/
def hbmWrite (c o : Nat) (bs : List Byte) (s : State) : State :=
  forAll (bs.mapIdx (fun i b => (i, b))) (fun e s => hbmSet c (o + e.1) e.2 s) s

/-- A line with an uncorrectable error that is written again: whether it then reads correctly is free (R175). -/
def healLine (c line : Nat) (s : State) : State :=
  if s.hbm.badLines.any (fun e => decide (e = (c, line))) then
    let keep := (freeVal s).getLsbD 0
    let s := useFree s
    if keep then s else { s with hbm.badLines := s.hbm.badLines.filter (fun e => decide (e ≠ (c, line))) }
  else s

/-- The pseudo-channel and offset of `len` bytes at a partition memory address; none where R172 or R173 refuses it. -/
def pmaMap (s : State) (p addr len : Nat) : Option (Nat × Nat) :=
  match (ownedPchs s p)[addr / 2147483648]? with
  | none => none
  | some c =>
    if (pch s c).zeroing ∨ pchBytes < addr % 2147483648 + len then none else some (c, addr % 2147483648)

/-- The key of staging slot k of partition p (R230). -/
def stageKey (p k : Nat) : Nat := 256 * p + k

/-- Whether a write to partition memory touches a staged image (R253). -/
def pmaProtected (s : State) (p addr len : Nat) : Bool :=
  s.staged.any (fun e => decide (e.1 / 256 = p ∧ addr < e.2.pma + e.2.len ∧ e.2.pma < addr + len))

/-! ### The remote-line caches (R177 to R180) -/

/-- The cache of a half. -/
def rlc (s : State) (h : Nat) : Rlc := if h = 0 then s.hbm.rlcEast else s.hbm.rlcWest

/-- The state with a half's cache changed. -/
def modRlc (h : Nat) (f : Rlc → Rlc) (s : State) : State :=
  if h = 0 then { s with hbm.rlcEast := f s.hbm.rlcEast } else { s with hbm.rlcWest := f s.hbm.rlcWest }

/-- The lines that satisfy `p` leave a cache, each counted in INV (R180, R187). -/
def cacheDrop (h : Nat) (p : CacheLine → Bool) (s : State) : State :=
  modRlc h (fun r => { r with
    lines := r.lines.filter (fun l => !p l)
    inv := r.inv + BitVec.ofNat 48 (r.lines.countP p) }) s

/-- The lines that satisfy `p` leave both caches. -/
def cacheDropBoth (p : CacheLine → Bool) (s : State) : State := cacheDrop 1 p (cacheDrop 0 p s)

/-- The number of a line among all pseudo-channels. -/
def lineKey (c line : Nat) : Nat := 16777216 * c + line

/-- Whether a cached line is line `line` of pseudo-channel c. -/
def isLine (c line : Nat) (l : CacheLine) : Bool := decide (l.pch = c ∧ l.line = line)

/-- The state after a miss filled a way of the partition's mask; the way, and the line replaced, are free within it (R177). -/
def cacheFill (h p c line : Nat) (bytes : List Byte) (s : State) : State :=
  let mask := look s.hbm.ways p 0
  let ws := (List.range 16).filter (fun i => mask.getLsbD i)
  if ws = [] then s
  else
    let v := (freeVal s).toNat
    let w := ws.getD (v % ws.length) 0
    let s := useFree s
    let there := (rlc s h).lines.filter (fun l => decide (l.way = w))
    let victim := there[v / 32 % there.length]?
    let evict := decide (v / 16 % 2 = 1) || decide (24576 ≤ there.length)
    let line' : CacheLine := { pch := c, line := line, part := BitVec.ofNat 4 p, way := w, bytes := bytes }
    modRlc h (fun r => { r with
      lines := (match victim with
        | some x => if evict then r.lines.filter (fun l => decide (l ≠ x)) else r.lines
        | none => r.lines) ++ [line'] }) s

/-- The line of a half's cache that a READ of partition p hits (R177). -/
def cacheHit (s : State) (h p c line : Nat) : Option CacheLine :=
  if pchHalf s c = h then none else (rlc s h).lines.find? (fun l => isLine c line l && decide (l.part.toNat = p))

/-- A line as a READ of a half sees it, with its data and whether it had an uncorrectable error; a remote line is looked up
in the half's cache, counted and, unless NOCACHE, filled (R175, R177, R178). -/
def readLine (h p c line : Nat) (nocache : Bool) (s : State) : (List Byte × Bool) × State :=
  let home (s : State) : (List Byte × Bool) × State :=
    if s.hbm.badLines.any (fun e => decide (e = (c, line))) then
      let s := modStack (c / 32) (fun k => { k with ue := k.ue + 1 }) s
      ((List.replicate 128 0, true), raiseFault 0x0402 3 (c / 32) p c s)
    else ((hbmBytes s c (128 * line) 128, false), s)
  if pchHalf s c = h then home s
  else match (rlc s h).lines.find? (fun l => isLine c line l && decide (l.part.toNat = p)) with
    | some l => ((l.bytes, false), modRlc h (fun r => { r with hit := r.hit + 1 }) s)
    | none =>
      let x := home (modRlc h (fun r => { r with miss := r.miss + 1 }) s)
      if nocache || x.1.2 then x else (x.1, cacheFill h p c line x.1.1 x.2)

/-- The key of bank b of pseudo-channel c among the activation counts. -/
def actKey (c b : Nat) : Nat := 4294967296 * c + b

/-- An access of a stack to a line: whether it activates the line's row, and so advances its bank's activation count, is free
(R169; log entry 87). -/
def countAct (c line : Nat) (s : State) : State :=
  let opens := (freeVal s).getLsbD 0
  let s := useFree s
  if opens then { s with hbm.acts := modAt s.hbm.acts (actKey c (Config.lineBank line)) 0 (· + 1) } else s

/-- The bytes of a line written from half h by port z, its own cached copy invalidated at once and the other half's copy
told to go; the line's key where its invalidation now waits for an acknowledgement (R178, R179). -/
def writeLine (h z c line : Nat) (bytes : List Byte) (s : State) : List Nat × State :=
  let s := countAct c line (healLine c line (hbmWrite c (128 * line) bytes s))
  if pchHalf s c ≠ h then ([], cacheDrop h (isLine c line) s)
  else if (rlc s (1 - h)).lines.any (isLine c line) then
    ([lineKey c line], modRlc (1 - h) (fun r => { r with pend := r.pend ++ [(lineKey c line, z)] }) s)
  else ([], s)

/-! ### DMA descriptors (R174 to R176, R179) -/

/-- Word i of a descriptor. -/
def dmaWord (d : BitVec 128) (i : Nat) : Nat := (d.extractLsb' (32 * i) 32).toNat

/-- OP of a descriptor (R174). -/
def dmaOp (d : BitVec 128) : Nat := bitsOf (dmaWord d 0) 31 28

/-- NOCACHE of a descriptor (R174). -/
def dmaNocache (d : BitVec 128) : Bool := d.getLsbD 27

/-- LEN of a descriptor in bytes (R174). -/
def dmaLen (d : BitVec 128) : Nat := if dmaWord d 1 % 131072 = 0 then 65536 else dmaWord d 1 % 131072

/-- SADDR of a descriptor (R174). -/
def dmaSaddr (d : BitVec 128) : Nat := dmaWord d 2

/-- The partition memory address of a descriptor (R174). -/
def dmaPma (d : BitVec 128) : Nat := 128 * dmaWord d 3

/-- Whether a descriptor keeps the form of R174 for the port of Zoetrope z. -/
def dmaWellFormed (z : Nat) (d : BitVec 128) : Bool :=
  let w0 := dmaWord d 0
  let w1 := dmaWord d 1
  if dmaOp d = 3 then decide (bitsOf w0 27 16 = 0 ∧ bitsOf w1 24 0 = 0 ∧ dmaWord d 2 = 0 ∧ dmaWord d 3 = 0)
  else decide ((dmaOp d = 1 ∨ dmaOp d = 2) ∧ bitsOf w0 26 16 = 0 ∧ bitsOf w1 24 17 = 0 ∧ dmaLen d % 32 = 0 ∧ dmaLen d ≤ 65536
    ∧ dmaSaddr d % 32 = 0 ∧ dmaSaddr d / 2 ^ 30 = 0 ∧ bitsOf (dmaSaddr d) 29 24 / 4 = z % 16
    ∧ dmaSaddr d % 131072 + dmaLen d ≤ 0x1E000)

/-- The bank and bank address of granule i of a descriptor's scratch range (R111, R174). -/
def dmaGranule (z : Nat) (d : BitVec 128) (i : Nat) : Nat × Nat := fabricByte (z / 16) (dmaSaddr d + 32 * i)

/-- Whether two descriptors touch a common line of partition memory. -/
def dmaOverlap (a b : BitVec 128) : Bool :=
  decide (dmaPma a / 128 < (dmaPma b + dmaLen b + 127) / 128 ∧ dmaPma b / 128 < (dmaPma a + dmaLen a + 127) / 128)

/-- Whether an earlier descriptor of the port must complete before `op`: a WRITE of a common line, before a READ or a WRITE;
every one, and every invalidation of one, before an XFENCE (R176, R179). -/
def dmaWaits (earlier : List DmaOp) (op : DmaOp) : Bool :=
  if dmaOp op.desc = 3 then !earlier.isEmpty
  else earlier.any (fun e => !e.finished && decide (dmaOp e.desc = 2) && dmaOverlap e.desc op.desc)

/-- The granules of one line of a READ written to scratch under the ownership check; false where one fails (R175, R182). -/
def dmaToScratch (z : Nat) (op : DmaOp) (k : Nat) (bytes : List Byte) (s : State) : Bool × State :=
  let gs := (List.range 4).filter (fun j => decide (128 * k + 32 * j < dmaLen op.desc))
  let ok := gs.all (fun j => tagPass op.tag (bank s (dmaGranule z op.desc (4 * k + j)).1))
  (ok, forAll gs (fun j s =>
    let b := dmaGranule z op.desc (4 * k + j)
    checkedWrite b.1 b.2 (slice bytes (32 * j) 32) 3 op.tag s) s)

/-- The scratch bytes of one line of a WRITE; none where a granule fails the ownership check, which is logged (R175, R182). -/
def dmaFromScratch (z : Nat) (op : DmaOp) (k : Nat) (s : State) : Option (List Byte) × State :=
  let gs := (List.range 4).filter (fun j => decide (128 * k + 32 * j < dmaLen op.desc))
  let bad := gs.filter (fun j => !tagPass op.tag (bank s (dmaGranule z op.desc (4 * k + j)).1))
  if bad = [] then
    (some (gs.flatMap (fun j =>
      let b := dmaGranule z op.desc (4 * k + j)
      scratchRead s b.1 b.2 32)), s)
  else (none, forAll bad (fun j s => dropAccess (dmaGranule z op.desc (4 * k + j)).1 3 op.tag s) s)

/-- What a descriptor has met so far: a failing granule, an uncorrectable line, invalidations waiting. -/
structure DmaRun where
  notOwner : Bool := false
  ecc : Bool := false
  invs : List Nat := []
  deriving DecidableEq, Repr

/-- What the stack finds as it reads a line that no cache serves: an uncorrectable error stays with the line, a corrected one is
counted and recorded (R169, R175, R187). -/
def lineErrors (h p c line : Nat) (ce ue : Bool) (s : State) : State :=
  if (cacheHit s h p c line).isSome then s
  else
    let s := countAct c line s
    let s := if ue && !s.hbm.badLines.any (fun e => decide (e = (c, line))) then
        { s with hbm.badLines := s.hbm.badLines ++ [(c, line)] }
      else s
    if ce && !s.hbm.badLines.any (fun e => decide (e = (c, line))) then
      raiseFault 0x0401 3 (c / 32) 0xFF c (modStack (c / 32) (fun k => { k with ce := k.ce + 1 }) s)
    else s

/-- One line of a READ moved; `ce` and `ue` list the lines of the transfer in which the stack corrects an error or finds one that
it cannot correct (log entry 87). -/
def dmaReadStep (z c off : Nat) (ce ue : List (Fin 512)) (op : DmaOp) (acc : DmaRun × State) (k : Nat) : DmaRun × State :=
  let has (xs : List (Fin 512)) : Bool := xs.any (fun i => decide (i.val = k))
  let s := lineErrors (z / 16) (tagPart op.tag) c (off / 128 + k) (has ce) (has ue) acc.2
  let x := readLine (z / 16) (tagPart op.tag) c (off / 128 + k) (dmaNocache op.desc) s
  let y := dmaToScratch z op k x.1.1 x.2
  ({ acc.1 with notOwner := acc.1.notOwner || !y.1, ecc := acc.1.ecc || x.1.2 }, y.2)

/-- One line of a WRITE moved. -/
def dmaWriteStep (z c off : Nat) (op : DmaOp) (acc : DmaRun × State) (k : Nat) : DmaRun × State :=
  let x := dmaFromScratch z op k acc.2
  match x.1 with
  | none => ({ acc.1 with notOwner := true }, x.2)
  | some bytes =>
    let y := writeLine (z / 16) z c (off / 128 + k) bytes x.2
    ({ acc.1 with invs := acc.1.invs ++ y.1 }, y.2)

/-- The status of a finished transfer; of NOT_OWNER and ECC_UNCORR together the spec names neither (R175; log entry 24). -/
def dmaStatus (r : DmaRun) (s : State) : Byte × State :=
  if r.notOwner && r.ecc then (if (freeVal s).getLsbD 0 then 2 else 9, useFree s)
  else (if r.notOwner then 2 else if r.ecc then 9 else 0, s)

/-- A descriptor carried out: its status, the lines whose invalidations it waits for, the state (R173 to R178, R180, R253, R369). -/
def dmaRun (z : Nat) (op : DmaOp) (ce ue : List (Fin 512)) (s : State) : (Byte × List Nat) × State :=
  let d := op.desc
  let p := tagPart op.tag
  if !dmaWellFormed z d then ((3, []), s)
  else if dmaOp d = 3 then ((0, []), s)
  else match pmaMap s p (dmaPma d) (dmaLen d) with
    | none => ((8, []), s)
    | some co =>
      if dmaOp d = 2 ∧ pmaProtected s p (dmaPma d) (dmaLen d) then ((8, []), s)
      else if blockHeld s .hbm (co.1 / 32) || blockHeld s .bag (4 * z + bitsOf (dmaSaddr d) 25 24)
          || (s.d2d.ihlReset && decide (pchHalf s co.1 ≠ z / 16)) then ((5, []), s)
      else
        let ks := List.range ((dmaLen d + 127) / 128)
        let r := if dmaOp d = 1 then ks.foldl (dmaReadStep z co.1 co.2 ce ue op) ({}, s)
          else ks.foldl (dmaWriteStep z co.1 co.2 op) ({}, s)
        let st := dmaStatus r.1 r.2
        ((st.1, r.1.invs), st.2)

/-- The completion word of a descriptor, written by the router into the USR word it names (R175). -/
def dmaComplete (op : DmaOp) (st : Byte) (s : State) : State :=
  let w1 := dmaWord op.desc 1
  let n := 64 * (op.n.toNat / 64) + bitsOf w1 31 26
  routerWord n (if w1 / 2 ^ 25 % 2 = 0 then 0x7D8 else 0x7DC)
    (BitVec.ofNat 16 (dmaWord op.desc 0) ++ st ++ (0 : Byte)) op.tag s

/-- The DMA descriptors of a port that have not completed. -/
def dmaOpen (x : Zoe) : List DmaOp := x.dma.filter (fun o => !o.finished)

/-! ### Ports in space 01 (R136, R138, R141) -/

/-- The fabric address of offset `off` of Zoetrope z's ports (R136). -/
def portAddr (z off : Nat) : Nat := 0x40000000 + 67108864 * (z % 16) + off

/-- Whether Marble n reaches the ports of Zoetrope z: they lie in its half (R136). -/
def portReach (n z : Nat) : Bool := decide (halfOf n = z / 16)

/-- Whether the partition of Marble n owns Zoetrope z (R138). -/
def portOwner (s : State) (n z : Nat) : Bool :=
  decide (marbleTag s n ≠ 0) && ownsQuad s (tagPart (marbleTag s n)) z

/-- Whether a remote operation is a store of `bytes` at a fabric address. -/
def isStore (addr : Nat) (bytes : List Byte) (o : Outst) : Bool :=
  match o.op with
  | .store a bs => decide (a.toNat = addr ∧ bs = bytes)
  | _ => false

/-- A write to a port completes for Marble n: the posted store it came from ends, and a status other than OK is recorded in
RSTAT (R123, R140). -/
def endStore (n addr : Nat) (bytes : List Byte) (st : Byte) (s : State) : State :=
  modMarble n (fun m => recordStatus st { m with outst := removeFirst (isStore addr bytes) m.outst }) s

/-- A descriptor written to a DMA port by Marble n: the status of the write, and the port's new state (R138, R174, R176). -/
def portDescriptor (n : MarbleId) (z : Nat) (d : BitVec 128) (s : State) : Byte × State :=
  if !portOwner s n.toNat z then (2, s)
  else if blockHeld s .zoetrope z then (5, s)
  else if 64 ≤ (dmaOpen (zoe s z)).length then (4, s)
  else (0, modZoe z (fun x => { x with dma := x.dma ++ [{ desc := d, n := n, tag := marbleTag s n.toNat }] }) s)

/-- A descriptor command: one RSTV2 at the DMA port. -/
def dmaCommand (n : MarbleId) (z : Nat) (d : BitVec 128) (s : State) : State :=
  if !portReach n.toNat z then s
  else
    let r := portDescriptor n z d s
    endStore n.toNat (portAddr z 0x30000) (leBytes 16 d.toNat) r.1 r.2

/-- DMA_READ: a READ descriptor arrives at the DMA port of Zoetrope z (R174, R176). -/
def execDmaRead (n : MarbleId) (z : ZoeId) (d : BitVec 128) (s : State) : Host.Outcome State Fault Refusal :=
  .next (dmaCommand n z.val d s)

/-- DMA_WRITE: a WRITE descriptor arrives at the DMA port of Zoetrope z (R174, R176). -/
def execDmaWrite (n : MarbleId) (z : ZoeId) (d : BitVec 128) (s : State) : Host.Outcome State Fault Refusal :=
  .next (dmaCommand n z.val d s)

/-- XFENCE: a fence descriptor arrives at the DMA port of Zoetrope z (R174, R179). -/
def execXfence (n : MarbleId) (z : ZoeId) (d : BitVec 128) (s : State) : Host.Outcome State Fault Refusal :=
  .next (dmaCommand n z.val d s)

/-- The first list up to element i of those not finished, that element, and the rest. -/
def splitOpen : List DmaOp → Nat → Option (List DmaOp × DmaOp × List DmaOp)
  | [], _ => none
  | o :: os, i =>
    if o.finished then (splitOpen os i).map (fun r => (o :: r.1, r.2.1, r.2.2))
    else match i with
      | 0 => some ([], o, os)
      | k + 1 => (splitOpen os k).map (fun r => (o :: r.1, r.2.1, r.2.2))

/-- DMA_COMPLETION: descriptor i of those open at the port is carried out and completes, unless an earlier one must complete
first (R175, R176, R178, R179). -/
def execDmaCompletion (z : ZoeId) (i : Fin 64) (ce ue : List (Fin 512)) (s : State) : Host.Outcome State Fault Refusal :=
  .next (
    match splitOpen (zoe s z.val).dma i.val with
    | none => s
    | some (before, op, after) =>
      if dmaWaits before op then s
      else
        let r := dmaRun z.val op ce ue s
        let keep := if r.1.2 = [] then [] else [{ op with invs := r.1.2, finished := true }]
        dmaComplete op r.1.1 (modZoe z.val (fun x => { x with dma := before ++ keep ++ after }) r.2))

/-- The oldest finished WRITE of the port that waits for a line's invalidation waits for it no more. -/
def ackDma (key : Nat) : List DmaOp → List DmaOp
  | [] => []
  | o :: os =>
    if o.finished && o.invs.contains key then
      if o.invs.erase key = [] then os else { o with invs := o.invs.erase key } :: os
    else o :: ackDma key os

/-- INVALIDATION_ACK: the cache of a half acknowledges its oldest invalidation, the line is gone from it (R178, R179). -/
def execInvalidationAck (h : Half) (s : State) : Host.Outcome State Fault Refusal :=
  let k := match h with | .east => 0 | .west => 1
  .next (
    match (rlc s k).pend with
    | [] => s
    | e :: rest =>
      let s := modRlc k (fun r => { r with pend := rest }) s
      let s := cacheDrop k (isLine (e.1 / 16777216) (e.1 % 16777216)) s
      modZoe e.2 (fun x => { x with dma := ackDma e.1 x.dma }) s)

/-- Whether the build fits pseudo-channel c: 0 to 191, on ZHJ1-L 0 to 127 (R1, R2). -/
def pchFitted (s : State) (c : Nat) : Bool := decide (c < (if s.ident.ml then 128 else 192))

/-- RFM: the activation count of a bank of pseudo-channel c has reached its stack's threshold, and the controller issues a
refresh-management command, from which the bank's count starts again (R2, R169, R188; log entry 87). -/
def execRfm (c : PchId) (bank : Nat) (s : State) : Host.Outcome State Fault Refusal :=
  .next (
    if !pchFitted s c.val then s
    else
      let s := { s with hbm.acts := drop s.hbm.acts (actKey c.val bank) }
      modStack (c.val / 32) (fun k => { k with rfm := k.rfm + 1 }) s)

/-- A pseudo-channel is given to partition p or released: its lines leave both caches, and its zeroing begins (R172). -/
def pchAssign (c : Nat) (owner : Option Nat) (s : State) : State :=
  let s := cacheDropBoth (fun l => decide (l.pch = c)) s
  modPch c (fun x => { x with valid := owner.isSome, part := BitVec.ofNat 4 (owner.getD 0), zeroing := true }) s

/-- PCH_ZEROING_DONE: a pseudo-channel is zeroed under its new key (R172). -/
def execPchZeroingDone (c : PchId) (s : State) : Host.Outcome State Fault Refusal :=
  .next (
    if (pch s c.val).zeroing then
      let s := modPch c.val (fun x => { x with zeroing := false, fill := .zero }) s
      let bad := s.hbm.badLines.filter (fun e => decide (e.1 = c.val))
      let s := { s with hbm.mem := dropRange s.hbm.mem (hbmKey c.val 0) (hbmKey (c.val + 1) 0) }
      forAll bad (fun e => healLine e.1 e.2) s
    else s)

/-! ### Hand-over of banks (R183 to R185) -/

/-- A hand-over of bank b to tag t: false where it is refused with BANK_BUSY (R183, R184). -/
def handOver (b : Nat) (t : BitVec 20) (keep : Bool) (s : State) : Bool × State :=
  match bank s b with
  | .retired _ => (false, s)
  | .free => (true, if t = 0 then s else setBank b (.owned t) s)
  | .scrubbing _ k => (true, setBank b (.scrubbing t k) s)
  | .owned a =>
    if keep && decide (t ≠ 0 ∧ t ≠ mrtTag ∧ tagPart t = tagPart a) then (true, setBank b (.owned t) s)
    else if (marble s b).cause = 0 then (false, s)
    else (true, setBank b (.scrubbing t 0) s)

/-- Whether a hand-over request of Marble n breaks R185. -/
def handOverRefused (s : State) (n z : Nat) (b : Nat) (t : BitVec 20) : Bool :=
  let p := tagPart (marbleTag s n)
  !(part s p).delegate || decide (quadOf b ≠ z) || decide (tagPart t ≠ p) || decide (tagCtx t = 0) || decide (t = mrtTag)
    || (match bank s b with
      | .owned a => decide (tagPart a ≠ p)
      | .retired _ => false
      | _ => true)

/-- A write of the hand-over port: the status it completes with, none while a scrub runs, and the new state (R183 to R185;
log entry 25). -/
def portHandOver (n : MarbleId) (z : Nat) (w0 w1 : Word) (s : State) : Option Byte × State :=
  let b := w0.toNat % 1048576
  let t : BitVec 20 := w1.setWidth 20
  if !portOwner s n.toNat z then (some 2, s)
  else if blockHeld s .zoetrope z then (some 5, s)
  else if handOverRefused s n.toNat z b t then (some 2, s)
  else
    let r := handOver b t (w1.getLsbD 31) s
    if !r.1 then (some 0x0A, r.2)
    else match bank r.2 b with
      | .scrubbing _ _ => (none, r.2)
      | _ => (some 0, r.2)

/-- The posted store of a hand-over that scrubs stays outstanding until the bank has its new state. -/
def holdHandOver (n : MarbleId) (b addr : Nat) (bytes : List Byte) (s : State) : State :=
  modMarble n.toNat (fun m => { m with
    outst := removeFirst (isStore addr bytes) m.outst ++ [{ op := .handOver b, urgent := false }] }) s

/-- HAND_OVER_REQUEST: one RSTV at the hand-over port asks to hand a bank over (R185). -/
def execHandOverRequest (n : MarbleId) (z : ZoeId) (w0 w1 : Word) (s : State) : Host.Outcome State Fault Refusal :=
  let addr := portAddr z.val 0x38000
  let bytes := leBytes 4 w0.toNat ++ leBytes 4 w1.toNat
  .next (
    if !portReach n.toNat z.val then s
    else
      let r := portHandOver n z.val w0 w1 s
      match r.1 with
      | some st => endStore n.toNat addr bytes st r.2
      | none => holdHandOver n (w0.toNat % 1048576) addr bytes r.2)

/-- Whether a remote operation waits for bank b's hand-over. -/
def isHandOver (b : Nat) (o : Outst) : Bool :=
  match o.op with
  | .handOver k => decide (k = b)
  | _ => false

/-- The hand-over requests that wait for bank b complete with a status (R185). -/
def endHandOvers (b : Nat) (st : Byte) (s : State) : State :=
  forAll (s.mrb.marbles.filter (fun e => e.2.outst.any (isHandOver b)))
    (fun e => modMarble e.1 (fun m =>
      (m.outst.filter (isHandOver b)).foldl (fun m _ => recordStatus st m)
        { m with outst := m.outst.filter (fun o => !isHandOver b o) })) s

/-- SCRUB_COMPLETE: the scrubber's read-back of a Scrubbing bank ends; a nonzero byte repeats the scrub, and the third
retires the bank (R183, R185). -/
def execScrubComplete (b : MarbleId) (nonzero : Bool) (s : State) : Host.Outcome State Fault Refusal :=
  .next (
    match bank s b.toNat with
    | .scrubbing t k =>
      if !nonzero then
        endHandOvers b.toNat 0 (setBank b.toNat (if t = 0 then .free else .owned t) (scratchClear b.toNat s))
      else if k < 2 then setBank b.toNat (.scrubbing t (k + 1)) s
      else
        let p := bankPart s b.toNat
        let s := setBank b.toNat (.retired t) s
        endHandOvers b.toNat 0x0A (raiseFault 0x0304 1 (b.toNat / 8192) p b.toNat s)
    | _ => s)

end Sys2Proof.Machine
end

