-- ==== Sys2Proof/Machine/Queue.lean ====
section
/-! DEFINITION. Queue pairs: doorbells, fetches, completions, interrupts, queue resets, reads that fail, and Bus Master
Enable (R194 to R201, R205, R209 to R215, R218). -/

namespace Sys2Proof.Machine

open Sys2Proof

/-! ### Queues and functions (R196, R199, R200) -/

/-- The partition whose queue range holds queue q (R196). -/
def queuePart (s : State) (q : Nat) : Option Nat :=
  (List.range 12).find? (fun p => (part s p).exist && decide ((part s p).qbase ≤ q ∧ q < (part s p).qbase + (part s p).qcount))

/-- The function that issues a queue's requests (R196). -/
def queueFn (s : State) (q : Nat) : Fn :=
  if s.host.vfEnable then
    match queuePart s q with
    | some p => if h : p < 12 then .vf ⟨p, h⟩ else .pf
    | none => .pf
  else .pf

/-- The queues whose requests a function issues. -/
def fnQueues (s : State) (f : Fn) : List Nat := (s.host.queues.map (·.1)).filter (fun q => decide (queueFn s q = f))

/-- Entries of the submission ring. -/
def sqSize (x : Queue) : Nat := 2 ^ x.sqLog.toNat

/-- Entries of the completion ring. -/
def cqSize (x : Queue) : Nat := 2 ^ x.cqLog.toNat

/-- Whether the completion ring is full (R199). -/
def ringFull (x : Queue) : Bool := decide ((x.cqTail.toNat + 1) % cqSize x = x.cqHead.toNat)

/-- Whether a queue's function may issue its requests, and Bus Master Enable has not been cleared since the last queue reset
(R196, R215). -/
def queueDma (s : State) (q : Nat) : Bool := fnDma s (queueFn s q) && !(queue s q).bmOff

/-- The PASID that a queue's requests carry (R196). -/
def queuePasid (x : Queue) : Option (BitVec 20) := if x.pasidEn then some x.pasid else none

/-- The token bucket at time `now`: whole tokens of RATE × 64 a second up to BURST, and the whole µs, up to the first token
gained, in which the ring held a descriptor that no token let go (R200). -/
def refill (now : Nat) (old : Queue) : Queue :=
  let x := old
  let x :=
    if x.rate = 0 then { x with tokens := x.burst.toNat, refilled := now }
    else
      let unit := x.rate.toNat * 64
      let gained := (now - x.refilled) * unit / 1000000000
      if x.burst.toNat ≤ x.tokens + gained then { x with tokens := x.burst.toNat, refilled := now }
      else { x with tokens := x.tokens + gained, refilled := x.refilled + (gained * 1000000000 + unit - 1) / unit }
  match x.waitFrom with
  | some t =>
    let first := old.refilled + (1000000000 + old.rate.toNat * 64 - 1) / (old.rate.toNat * 64)
    let upto := if 0 < x.tokens then min now (if 0 < old.tokens then t else max t first) else now
    let us := (upto - t) / 1000
    { x with
      rateWait := x.rateWait + BitVec.ofNat 48 us
      waitFrom := if 0 < x.tokens then none else some (t + 1000 * us) }
  | none => if x.tokens = 0 ∧ x.sqHead ≠ x.sqTail then { x with waitFrom := some now } else x

/-! ### Completions and interrupts (R205, R208, R210, R213) -/

/-- Queue q's vector is signalled and its count starts again (R210). -/
def signalQueue (q : Nat) (s : State) : State :=
  signalVec (queueFn s q) (queue s q).vector.toNat (modQueue q (fun x => { x with unsig := 0, oldestUnsig := none }) s)

/-- The 32 bytes of a completion entry (R205). -/
def cplBytes (phase : Bool) (seq : Word) (c : Cpl) : List Byte :=
  leBytes 4 seq.toNat ++ leBytes 2 c.cid.toNat ++ [BitVec.ofBool phase ++ (0 : BitVec 3) ++ c.typ, c.status]
    ++ leBytes 4 (c.session.toNat + if c.extPend then 2 ^ 24 else 0) ++ leBytes 4 c.sqHead.toNat
    ++ leBytes 8 c.data0.toNat ++ leBytes 8 c.time.toNat

/-- An entry written to the completion ring: index, PHASE and SEQ; the write carries the function's routing ID and the queue's
PASID; an interrupt when R210 asks for one (R196, R205, R210). -/
def writeCpl (q : Nat) (c : Cpl) (s : State) : State :=
  let x := queue s q
  let wrap := decide (x.cqTail.toNat + 1 = cqSize x)
  let s := emit (.completion (queueFn s q) (queuePasid x) (x.cqBase.toNat + 32 * x.cqTail.toNat) q x.cqTail.toNat x.phase x.seq c
    (cplBytes x.phase x.seq c)) s
  let s := modQueue q (fun x => { x with
    cqTail := if wrap then 0 else x.cqTail + 1
    phase := if wrap then !x.phase else x.phase
    seq := x.seq + 1
    unsig := x.unsig + 1
    oldestUnsig := some (x.oldestUnsig.getD (timeNs s)) }) s
  if x.ithr.toNat ≤ x.unsig + 1 ∨ c.irq ∨ c.typ = 3 then signalQueue q s else s

/-- A completion that waits for ring space: held in the buffer of 64, whose filling is counted; the operation of one for which the
buffer has no room waits too (R208; log entry 29). -/
def holdCpl (c : Cpl) (x : Queue) : Queue :=
  if x.held.length < 64 then
    { x with held := x.held ++ [c], cqFull := if x.held.length = 63 then x.cqFull + 1 else x.cqFull }
  else { x with stalled := x.stalled ++ [c] }

/-- A completion of a queue: written, or held while the ring is full or the function may not write; in a queue that resets,
outputs are discarded and counted and completions of descriptors are not written; in a disabled queue nothing is (R198, R205,
R208, R213, R215; log entry 29). -/
def postFormed (q : Nat) (c : Cpl) (s : State) : State :=
  let x := queue s q
  if x.state = .disabled then s
  else if x.state = .resetting ∧ c.typ = 0 then s
  else if x.state = .resetting ∧ c.typ = 1 then modQueue q (fun x => { x with outDrop := x.outDrop + 1 }) s
  else if x.held = [] ∧ !ringFull x ∧ queueDma s q ∧ x.state ≠ .resetting then writeCpl q c s
  else modQueue q (holdCpl c) s

/-- A completion of a queue is formed now (R205). -/
def postCpl (q : Nat) (c : Cpl) (s : State) : State := postFormed q { c with time := mtime s } s

/-- Whether nothing leaves a queue's completion buffer, for want of ring space or because its function may not write, and the
buffer is full (R208, R215). -/
def queueStuck (s : State) (q : Nat) : Bool :=
  (ringFull (queue s q) || !queueDma s q) && decide (64 ≤ (queue s q).held.length)

/-! ### Descriptors (R202 to R204, R209) -/

/-- Whether a FENCE in flight may complete: no earlier descriptor is in flight or has its completion held, and with STEP the
named session's current step has written its OUTPUT (R209). -/
def fenceReady (s : State) (q : Nat) (d : InFlight) : Bool :=
  let x := queue s q
  let stepDone :=
    if (fieldAt d.bytes 16 1) % 2 = 0 then true
    else match queuePart s q with
      | none => true
      | some p => match find s.sessions (sessKey p d.session) with
        | none => true
        | some ss => !ss.inStep && !((queue s ss.home).held ++ (queue s ss.home).stalled).any (fun c => decide (c.typ = 1 ∧ c.session = d.session))
  x.flight.all (fun e => decide (d.uid ≤ e.uid) || e.quiet)
    && (x.held ++ x.stalled).all (fun c => decide (¬(c.typ = 0 ∧ c.uid < d.uid)))
    && stepDone

/-- Whether a session has extended outputs waiting (R205). -/
def extPending (s : State) (q : Nat) (sid : BitVec 24) : Bool :=
  match queuePart s q with
  | none => false
  | some p => match find s.sessions (sessKey p sid) with
    | none => false
    | some ss => decide (ss.exts ≠ [])

/-- The completion of a descriptor (R205). -/
def cplOf (s : State) (q : Nat) (d : InFlight) (st : Byte) (data0 : Nat) : Cpl :=
  { cid := d.cid, typ := 0, status := st, session := d.session, extPend := extPending s q d.session, sqHead := d.sqHead
    data0 := BitVec.ofNat 64 data0, irq := d.irq, uid := d.uid }

/-- A descriptor in flight ends: it leaves the flight and its completion is formed; one that a queue reset has
made quiet, or a lost Bus Master Enable has taken out of the flight, forms none (R198, R215). -/
def endDesc (q id : Nat) (st : Byte) (data0 : Nat) (s : State) : State :=
  match (queue s q).flight.find? (fun d => decide (d.uid = id)) with
  | none => s
  | some d =>
    let t := modQueue q (fun x => { x with flight := x.flight.filter (fun e => decide (e.uid ≠ id)) }) s
    if d.quiet then t else postCpl q (cplOf s q d st data0) t

/-- The fences of queue q that may complete do so, in order, at most `fuel` (R209). -/
def settleFences (fuel q : Nat) (s : State) : State :=
  match fuel with
  | 0 => s
  | n + 1 =>
    match (queue s q).flight.find? (fun d => decide (d.op = 7) && fenceReady s q d) with
    | none => s
    | some d => settleFences n q (endDesc q d.uid 0 0 s)

/-- Whether a fetched descriptor may start: the queue is enabled, may use the host, is not stuck, and an ORDERED one waits
for all before it (R208, R209, R213). -/
def canStart (s : State) (q : Nat) (f : Fetched) : Bool :=
  let x := queue s q
  decide (x.state = .enabled) && queueDma s q && !queueStuck s q
    && (!((f.bytes.getD 1 0).getLsbD 1) || x.flight.all (·.quiet))

/-- The descriptor that a fetched entry starts. -/
def startOf (s : State) (f : Fetched) : InFlight :=
  { uid := s.host.uid, cid := BitVec.ofNat 16 (fieldAt f.bytes 4 2), op := fieldAt f.bytes 0 1
    session := BitVec.ofNat 24 (fieldAt f.bytes 8 3), sqHead := f.sqHead, irq := (f.bytes.getD 1 0).getLsbD 0, bytes := f.bytes }

/-- The oldest fetched descriptor starts: it is in flight from now on. -/
def takeDesc (q : Nat) (d : InFlight) (s : State) : State :=
  { (modQueue q (fun x => { x with fetched := x.fetched.drop 1, flight := x.flight ++ [d] }) s) with host.uid := s.host.uid + 1 }

/-- Fetched descriptors at the head of queue q with a reserved opcode complete with BAD_OPCODE, at most `fuel` (R203). -/
def flushBad (fuel q : Nat) (s : State) : State :=
  match fuel with
  | 0 => s
  | n + 1 =>
    match (queue s q).fetched with
    | [] => s
    | f :: _ =>
      if fieldAt f.bytes 0 1 ≤ 9 ∨ !canStart s q f then s
      else
        let d := startOf s f
        flushBad n q (endDesc q d.uid 1 0 (takeDesc q d s))

/-- What follows every change of a queue's flight or held completions: its fences and its bad descriptors. -/
def settleQueue (q : Nat) (s : State) : State :=
  let s := settleFences (queue s q).flight.length q s
  flushBad (queue s q).fetched.length q s

/-- A descriptor in flight ends, and what waited for it goes on. -/
def finishDesc (q id : Nat) (st : Byte) (data0 : Nat) (s : State) : State := settleQueue q (endDesc q id st data0 s)

/-- Whether the bytes of a list from `o` to `e` − 1 are 0. -/
def zeroBytes (bs : List Byte) (o e : Nat) : Bool := (slice bs o (e - o)).all (· == 0)

/-- The reserved fields of a descriptor's first 16 bytes (R202). -/
def headerOk (bs : List Byte) : Bool :=
  decide ((bs.getD 1 0).toNat < 4) && zeroBytes bs 6 8 && zeroBytes bs 11 16

/-- The oldest fetched descriptor of queue q, where its opcode is `op` and it may start, starts: BAD_CAP, BAD_FIELD and
RESTRICTED end it at once, else `act` carries it out (R203; log entry 28). -/
def startDesc (q op : Nat) (fields : List Byte → Bool) (act : InFlight → State → State) (s : State) : State :=
  match (queue s q).fetched with
  | [] => s
  | f :: _ =>
    if fieldAt f.bytes 0 1 ≠ op ∨ !canStart s q f then s
    else
      let d := startOf s f
      let t := takeDesc q d s
      if fieldAt f.bytes 2 2 ≠ (queue s q).capTag.toNat then finishDesc q d.uid 2 0 t
      else if !headerOk f.bytes || !fields f.bytes then finishDesc q d.uid 3 0 t
      else if s.rst.service = .restricted ∧ op ≠ 0 ∧ op ≠ 7 ∧ op ≠ 9 then finishDesc q d.uid 0x17 0 t
      else settleQueue q (act d t)

/-! ### Tags and reads (R194, R211, R214) -/

/-- The completion timeout of a function in ns (R211). -/
def timeoutNs (c : FnCfg) : Nat :=
  match c.cto.toNat with
  | 1 => 80000
  | 2 => 8000000
  | 6 => 150000000
  | 9 => 600000000
  | 10 => 2000000000
  | _ => 40000000

/-- A tag not in use that a function may use, from a free starting point (R194; log entry 1). -/
def freshHostTag (s : State) (f : Fn) : Option Nat :=
  let lim := if (fnCfg s f).tag10 then 1024 else 256
  let base := (freeVal s).toNat
  ((List.range lim).map (fun i => (base + i) % lim)).find? (fun t => !has s.host.tags t)

/-- The module reads host memory for queue q, when a tag is free. -/
def hostReadReq (q : Nat) (kind : ReadKind) (addr len : Nat) (s : State) : Option State :=
  let f := queueFn s q
  match freshHostTag s f with
  | none => none
  | some t =>
    let s := useFree s
    let s := { s with
      host.tags := ins s.host.tags t { q := q, kind := kind, addr := addr, len := len, issued := timeNs s }
      host.freed := drop s.host.freed t }
    some (emit (.hostRead f (queuePasid (queue s q)) t addr len) s)

/-- The length of the next read from a host address: at most Max_Read_Request_Size, up to the next 4 KiB boundary (R194; log
entry 27). -/
def readLen (s : State) (q addr rest : Nat) : Nat := min rest (min (fnCfg s (queueFn s q)).mrrs (4096 - addr % 4096))

/-- The pieces of a posted write: at most Max_Payload_Size, none across a 4 KiB boundary, at most `fuel` (R194). -/
def writePieces (mps fuel addr : Nat) (bs : List Byte) : List (Nat × List Byte) :=
  match fuel with
  | 0 => []
  | n + 1 =>
    let k := min (max mps 1) (4096 - addr % 4096)
    if bs = [] then [] else (addr, bs.take k) :: writePieces mps n (addr + k) (bs.drop k)

/-- The module writes data of MEM_READ or OUTPUT_FETCH to host memory for queue q, with Relaxed Ordering where the function has it
enabled (R192, R194). -/
def hostWriteBytes (q addr : Nat) (bs : List Byte) (s : State) : State :=
  let f := queueFn s q
  forAll (writePieces (fnCfg s f).mps bs.length addr bs)
    (fun w => emit (.hostWrite f (queuePasid (queue s q)) (fnCfg s f).relaxed w.1 w.2)) s

/-- A tag is quarantined (R214). -/
def quarantine (t : Nat) (s : State) : State :=
  { s with host.tags := s.host.tags.map (fun e => if e.1 = t then (e.1, { e.2 with quarantined := true }) else e) }

/-- A tag is free again; the queue that used it stays known for a completion that comes later (R214). -/
def releaseTag (t : Nat) (s : State) : State :=
  match find s.host.tags t with
  | none => s
  | some u => { s with host.tags := drop s.host.tags t, host.freed := ins s.host.freed t u.q }

/-- The queue halts; the completion of the fetch that failed is a QUEUE_EVENT with its first ring index (R212). -/
def haltQueue (q first : Nat) (cause : BitVec 4) (st : Byte) (s : State) : State :=
  let s := modQueue q (fun x => { x with state := .halted, haltCause := cause }) s
  postCpl q { typ := 3, status := st, sqHead := (queue s q).sqHead, data0 := BitVec.ofNat 64 first } s

/-- What a failed read does: a fetch halts its queue, a token read or a MEM_WRITE source read ends its descriptor, a read of a
firmware image marks its command, which ends with HOST_ERROR (R212, R235). -/
def failRead (u : TagUse) (cause : BitVec 4) (st : Byte) (s : State) : State :=
  match u.kind with
  | .fetch first _ => haltQueue u.q first cause st s
  | .tokens id => finishDesc u.q id st 0 s
  | .memSrc id =>
    let moved := match (queue s u.q).flight.find? (fun d => decide (d.uid = id)) with
      | some d => d.moved
      | none => 0
    finishDesc u.q id st moved s
  | .image => modWindow .pf (fun w => { w with run := w.run.map (fun r => { r with xs := [1] }) }) s

/-- The reads of a firmware image end without data: the PF may no longer issue them (R215, R217). -/
def failImage (s : State) : State :=
  let open' (u : TagUse) : Bool := decide (u.kind = .image) && !u.quarantined
  if s.host.tags.any (fun e => open' e.2) then
    let s := { s with host.tags := s.host.tags.map (fun e => if open' e.2 then (e.1, { e.2 with quarantined := true }) else e) }
    modWindow .pf (fun w => { w with run := w.run.map (fun r => { r with xs := [1] }) }) s
  else s

/-! ### Doorbells (R196, R199, R201) -/

/-- The queue behind page `page` of a function's BAR2 (R196). -/
def pageQueue (s : State) (f : Fn) (page : Nat) : Option Nat :=
  match f with
  | .pf => if s.ident.ml ∧ 1024 ≤ page then none else some page
  | .vf p =>
    let x := Sys2Proof.Machine.part s p.val
    if fnOn s f && x.exist && decide (page < x.qcount) then some (x.qbase + page) else none

/-- A doorbell write: ignored and counted where the queue is not enabled, the index lies beyond its ring or a reserved bit is
set (R199). -/
def doorbell (f : Fn) (page : Nat) (v : Word) (size : Queue → Nat) (act : Queue → Queue) (s : State) : State :=
  match pageQueue s f page with
  | none => s
  | some q =>
    let x := queue s q
    if x.state ≠ .enabled ∨ size x ≤ v.toNat then modQueue q (fun x => { x with dbIgn := x.dbIgn + 1 }) s
    else modQueue q act s

/-- SQ_TAIL: the index after the host's last new submission entry (R199). -/
def execSqTail (f : Fn) (page : QueueId) (v : Word) (s : State) : Host.Outcome State Fault Refusal :=
  .next (doorbell f page.val v sqSize (fun x => refill (timeNs s) { (refill (timeNs s) x) with sqTail := v.setWidth 16 }) s)

/-- CQ_HEAD: the index after the last completion the host consumed (R199). -/
def execCqHead (f : Fn) (page : QueueId) (v : Word) (s : State) : Host.Outcome State Fault Refusal :=
  .next (doorbell f page.val v cqSize (fun x => { x with cqHead := v.setWidth 16 }) s)

/-! ### Queue reset (R197, R198, R215, R218) -/

/-- The reads outstanding for a queue are ended inside the module, their tags quarantined (R198, R214). -/
def quarantineQueue (q : Nat) (s : State) : State :=
  { s with host.tags := s.host.tags.map (fun e => if e.2.q = q then (e.1, { e.2 with quarantined := true }) else e) }

/-- The first output lost by each session of a queue, where held outputs are discarded (R198). -/
def loseOutputs (q : Nat) (s : State) : State :=
  match queuePart s q with
  | none => s
  | some p =>
    forAll (((queue s q).held ++ (queue s q).stalled).filter (fun c => decide (c.typ = 1))) (fun c s =>
      let k := sessKey p c.session
      match find s.sessions k with
      | none => s
      | some ss => { s with sessions := ins s.sessions k { ss with lostOut := some (ss.lostOut.getD (c.data0.extractLsb' 32 32)) } }) s

/-- The descriptors of a queue that wait for a read which a queue reset ends (R198, R214). -/
def readingDescs (s : State) (q : Nat) : List Nat :=
  (s.host.tags.filter (fun e => decide (e.2.q = q) && !e.2.quarantined)).filterMap (fun e => match e.2.kind with
    | .tokens id => some id
    | .memSrc id => some id
    | _ => none)

/-- The sessions homed on queue q, by key. -/
def homedOn (s : State) (q : Nat) : List (Nat × Session) :=
  match queuePart s q with
  | none => []
  | some p => s.sessions.filter (fun e => decide (e.1 / 16777216 = p ∧ e.2.home = q))

/-! ### Fetching (R199, R200, R212 to R214) -/

/-- DESCRIPTOR_FETCH: an enabled queue reads up to eight descriptors in ring order, as its tokens, one request of its
function and a free tag allow (R199, R200; log entry 27). -/
def execDescriptorFetch (q : QueueId) (s : State) : Host.Outcome State Fault Refusal :=
  let s := modQueue q.val (refill (timeNs s)) s
  let x := queue s q.val
  let waiting := (x.sqTail.toNat + sqSize x - x.sqHead.toNat) % sqSize x
  let n := min (min 8 waiting) (min (sqSize x - x.sqHead.toNat)
    (min ((fnCfg s (queueFn s q.val)).mrrs / 64) (if x.rate = 0 then 8 else x.tokens)))
  let busy := s.host.tags.any (fun e => decide (e.2.q = q.val) && !e.2.quarantined && (match e.2.kind with
    | .fetch _ _ => true
    | _ => false))
  .next (
    if x.state ≠ .enabled ∨ !queueDma s q.val ∨ n = 0 ∨ busy then s
    else
      match hostReadReq q.val (.fetch x.sqHead.toNat n) (x.sqBase.toNat + 64 * x.sqHead.toNat) (64 * n) s with
      | none => s
      | some t => modQueue q.val (fun x => refill (timeNs t) { x with
          sqHead := BitVec.ofNat 16 ((x.sqHead.toNat + n) % sqSize x)
          tokens := if x.rate = 0 then x.tokens else x.tokens - n }) t)

/-- The descriptors of a completed fetch, ready to start. -/
def fetchDone (q first n : Nat) (bs : List Byte) (s : State) : State :=
  let fs := (List.range n).map (fun i =>
    ({ bytes := slice bs (64 * i) 64, sqHead := BitVec.ofNat 16 ((first + i + 1) % sqSize (queue s q)) } : Fetched))
  settleQueue q (modQueue q (fun x => { x with fetched := x.fetched ++ fs }) s)

/-- The header of a read request as Advanced Error Reporting logs it: its dwords with the length in dwords, the tag and the
64-bit address (R212; log entry 88). -/
def readHeader (f : Fn) (tag : Nat) (u : TagUse) : List Word :=
  [BitVec.ofNat 32 (0x20000000 + u.len / 4 % 1024), BitVec.ofNat 32 (65536 * routingId 0 f + 256 * (tag % 256) + 0xFF),
    BitVec.ofNat 32 (u.addr / 2 ^ 32), BitVec.ofNat 32 u.addr]

/-- INTERRUPT_TIMER: ITIME µs have passed since the oldest unsignalled completion (R210). -/
def execInterruptTimer (q : QueueId) (s : State) : Host.Outcome State Fault Refusal :=
  let x := queue s q.val
  .next (
    match x.oldestUnsig with
    | some t => if x.itime = 0 then s else signalQueue q.val (advanceTo (t + 1000 * x.itime.toNat) s)
    | none => s)

/-! ### Bus Master Enable (R213, R215, R218) -/

/-- What the loss of Bus Master Enable does to one queue (R215, R218). -/
def queueBusOff (q : Nat) (s : State) : State :=
  let x := queue s q
  if x.state = .disabled then s
  else
    let s := quarantineQueue q s
    let ds := x.flight.filter (fun d => !d.quiet)
    let s := modQueue q (fun x => { x with
      state := if x.state = .resetting then .resetting else .halted
      haltCause := 3
      bmOff := true
      flight := x.flight.filter (fun d => d.quiet && decide (d.op ≤ 4)) }) s
    forAll ds (fun d s => postCpl q (cplOf s q d 0x18 d.moved) s) s

/-- BUS_MASTER_ENABLE_CLEAR: the function issues no request; its reads end inside the module, its queues halt, their
descriptors in flight complete with BUS_MASTER_OFF and stay held (R215). -/
def execBusMasterEnableClear (f : Fn) (s : State) : Host.Outcome State Fault Refusal :=
  .next (
    if !(fnCfg s f).bme then s
    else
      let s := forAll (fnQueues s f) queueBusOff (modFnCfg f (fun c => { c with bme := false }) s)
      if f = .pf then failImage s else s)

/-- BUS_MASTER_ENABLE_SET: the function may issue requests again; nothing held is released by it (R215). -/
def execBusMasterEnableSet (f : Fn) (s : State) : Host.Outcome State Fault Refusal :=
  .next (modFnCfg f (fun c => { c with bme := true }) s)

end Sys2Proof.Machine
end

