-- ==== Sys2Proof/Machine/Session.lean ====
section
/-! DEFINITION. Sessions, their slots and their steps, and the descriptors of the queues (R84, R160 to R164, R203, R204, R207,
R208). -/

namespace Sys2Proof.Machine

open Sys2Proof

/-! ### Sessions (R160 to R162) -/

/-- A session of partition p that is not Closed. -/
def session (s : State) (p : Nat) (sid : BitVec 24) : Option Session := find s.sessions (sessKey p sid)

/-- The state with a session set. -/
def setSession (p : Nat) (sid : BitVec 24) (x : Session) (s : State) : State :=
  { s with sessions := ins s.sessions (sessKey p sid) x }

/-- The sessions of partition p, by key. -/
def sessionsOf (s : State) (p : Nat) : List (Nat × Session) := s.sessions.filter (fun e => decide (e.1 / 16777216 = p))

/-- The SID of a session's key. -/
def sidOf (k : Nat) : BitVec 24 := BitVec.ofNat 24 k

/-- The batch of a resident slot of a Show (R161). -/
def batchOf (h : ShowHdr) (slot : Nat) : Nat := slot / max 1 h.batchCols

/-- The slot that a resume takes: the lowest free one, under Separated only in a batch of the session's trust domain or an
empty batch (R84, R162). -/
def freeSlot (s : State) (p : Nat) (h : ShowHdr) (x : Session) : Option Nat :=
  let held := (sessionsOf s p).filterMap (fun e => e.2.slot.map (fun k => (k, e.2.trust)))
  (List.range (h.threads * h.batchCols)).find? (fun k =>
    held.all (fun e => decide (e.1 ≠ k))
      && (!(part s p).mix || held.all (fun e => decide (batchOf h e.1 ≠ batchOf h k) || decide (e.2 = x.trust))))

/-- The parked slots of partition p on one member (R161). -/
def parkedSlots (s : State) (p stateBytes : Nat) : Nat := if stateBytes = 0 then 16777216 else (part s p).parking / stateBytes

/-- The lowest free parked slot of partition p (R161, R162). -/
def freePark (s : State) (p stateBytes : Nat) : Option Nat :=
  let held := (sessionsOf s p).filterMap (fun e => e.2.pslot)
  (List.range (min (held.length + 1) (parkedSlots s p stateBytes))).find? (fun k => !held.contains k)

/-- The state bytes of the Show a session belongs to. -/
def stateBytesOf (s : State) (p : Nat) : Nat :=
  match find s.shows p with
  | some w => w.hdr.stateBytes
  | none => 0

/-- The regions of a resident slot, by first scratch key, length and whether parking copies it, Quad by Quad as section 0x08
lists them (R149, R161; log entry 30). -/
def slotRegs (s : State) (p slot : Nat) : List (Nat × Nat × Bool) :=
  match find s.shows p with
  | some w => w.layout.flatMap (fun e => ((Config.slotRegions e.2 slot).filter (fun r => decide (r.1 + r.2.1 ≤ 67108864))).map
      (fun r => (scratchKey (32768 * e.1) r.1, r.2)))
  | none => []

/-- The scratch keys of a resident slot; of the regions that parking copies alone where `copied` holds. -/
def slotKeys (s : State) (p slot : Nat) (copied : Bool) : List Nat :=
  (slotRegs s p slot).flatMap (fun r => if copied && !r.2.2 then [] else (List.range r.2.1).map (r.1 + ·))

/-- The state that a resident slot holds, as the Marionette reads it. -/
def slotState (p slot : Nat) (s : State) : List Byte × State := mrtRead (slotKeys s p slot true) s

/-- A resident slot filled with bytes by the Marionette. -/
def fillSlot (p slot : Nat) (copied : Bool) (bs : Nat → Byte) (s : State) : State :=
  mrtWrite ((slotKeys s p slot copied).mapIdx (fun i k => (k, bs i))) s

/-- A session's resident slot zeroed. -/
def zeroSlot (p : Nat) (x : Session) (s : State) : State :=
  match x.slot with
  | some k => fillSlot p k false (fun _ => 0) s
  | none => s

/-- Where parked slot k of partition p lies in its memory (R161; log entry 30). -/
def parkAddr (s : State) (p k sb : Nat) : Nat := 128 * Config.parkBase p (part s p).parking + k * sb

/-- Lines of a parked slot written, home half, where the partition's map reaches them. -/
def parkStore (p addr : Nat) (bs : List Byte) (s : State) : State :=
  forAll (List.range ((bs.length + 127) / 128)) (fun i s =>
    match pmaMap s p (addr + 128 * i) 128 with
    | none => s
    | some co => (writeLine (pchHalf s co.1) 32 co.1 (co.2 / 128) (slice bs (128 * i) 128) s).2) s

/-- The bytes of a parked slot; those that the partition's map does not reach are free. -/
def parkFetch (p addr len : Nat) (s : State) : List Byte × State :=
  (List.range ((len + 127) / 128)).foldl (fun acc i =>
    match pmaMap acc.2 p (addr + 128 * i) 128 with
    | none => (acc.1 ++ freeBytes acc.2 128, useFrees 128 acc.2)
    | some co => (acc.1 ++ hbmBytes acc.2 co.1 co.2 128, countAct co.1 (co.2 / 128) acc.2)) ([], s)

/-- A session's parked slot zeroed. -/
def zeroPark (p : Nat) (x : Session) (s : State) : State := parkStore p x.parkAt (List.replicate x.parkLen 0) s

/-- A SESSION_EVENT to a session's home queue (R205, R207). -/
def sessionEvent (home : Nat) (sid : BitVec 24) (st : Byte) (step : Word) (ext : Bool) (s : State) : State :=
  postCpl home { typ := 2, status := st, session := sid, extPend := ext, data0 := step.setWidth 64 } s

/-- A session is Closed: its slots are zeroed and freed, and its ID may be used again (R160, R162). -/
def removeSession (p : Nat) (sid : BitVec 24) (s : State) : State :=
  match session s p sid with
  | none => s
  | some x =>
    let s := zeroPark p x (zeroSlot p x s)
    { s with sessions := drop s.sessions (sessKey p sid) }

/-- A session is Parked: its slot's state is copied to its parked slot, the resident slot zeroed and freed (R161, R162). -/
def parkNow (p : Nat) (sid : BitVec 24) (x : Session) (s : State) : State :=
  let sb := stateBytesOf s p
  let at' := parkAddr s p (x.pslot.getD 0) sb
  let got := match x.slot with
    | some k => slotState p k s
    | none => ([], s)
  setSession p sid { x with state := .parked, slot := none, parkAt := at', parkLen := sb, op := .none }
    (zeroSlot p x (parkStore p at' (got.1.take sb) got.2))

/-- The module closes a session that the host did not ask it to close, and says so (R150, R157, R207). -/
def forceClose (p : Nat) (sid : BitVec 24) (st : Byte) (s : State) : State :=
  match session s p sid with
  | none => s
  | some x =>
    let s := removeSession p sid s
    let s := match x.op with
      | .park q id => finishDesc q id 7 0 s
      | .resume q id => finishDesc q id 7 0 s
      | .close q id => finishDesc q id 0 0 s
      | _ => s
    match x.op with
    | .close _ _ => s
    | _ => sessionEvent x.home sid st x.step false s

/-- The module parks a Resident session that the host did not ask it to park, at the end of its step; without a parked slot
it closes it (R25, R152, R157; log entry 28). -/
def forcePark (p : Nat) (sid : BitVec 24) (st : Byte) (s : State) : State :=
  match session s p sid with
  | none => s
  | some x =>
    match x.state, x.op with
    | .resident, .none =>
      match freePark s p (stateBytesOf s p) with
      | some k => setSession p sid { x with pslot := some k, op := .forced st } s
      | none => forceClose p sid st s
    | _, .resume q id => finishDesc q id 0x0B 0 (setSession p sid { x with slot := none, op := .none } s)
    | _, _ => s

/-- Whether parked slot k of partition p lies in half h of its memory (R25, R161). -/
def slotInHalf (s : State) (p sb h k : Nat) : Bool :=
  (List.range ((sb + 127) / 128)).all (fun i =>
    (pmaMap s p (parkAddr s p k sb + 128 * i) 128).any (fun co => decide (pchHalf s co.1 = h)))

/-- The lowest free parked slot of partition p in half h (R25). -/
def freeParkIn (s : State) (p sb h : Nat) : Option Nat :=
  let held := (sessionsOf s p).filterMap (fun e => e.2.pslot)
  (List.range (parkedSlots s p sb)).find? (fun k => !held.contains k && slotInHalf s p sb h k)

/-- A session of a partition that owns a Quad in a half that is fenced: its state goes to a parked slot in half h, which survives, or
the session is Closed; one that is Open holds none, and stays where such a slot is free (R25, R162; log entry 102). -/
def moveSession (p h : Nat) (e : Nat × Session) (s : State) : State :=
  let sid := sidOf e.1
  let x := e.2
  let sb := if x.state = .parked then x.parkLen else stateBytesOf s p
  match x.state, x.op with
  | .parked, .none =>
    if slotInHalf s p sb h (x.pslot.getD 0) then s
    else match freeParkIn s p sb h with
      | none => forceClose p sid 0x14 s
      | some k =>
        let got := parkFetch p x.parkAt x.parkLen s
        let at' := parkAddr s p k sb
        setSession p sid { x with pslot := some k, parkAt := at' } (zeroPark p x (parkStore p at' (got.1.take sb) got.2))
  | .resident, .none =>
    match freeParkIn s p sb h with
    | none => forceClose p sid 0x14 s
    | some k => setSession p sid { x with pslot := some k, op := .forced 0x14 } s
  | .opened, .none => if (freeParkIn s p sb h).isNone then forceClose p sid 0x14 s else s
  | _, _ => s

/-! ### Steps (R163, R164, R208) -/

/-- Whether a session is generating and has met no stop condition (R163). -/
def generating (x : Session) : Bool := x.generate && x.lastSeen && x.input.isEmpty && !x.ended

/-- Whether a Resident session has work: an input token, or it is generating; none while its home queue is stuck or it holds
16 extended outputs, or once it is to be parked or closed (R162, R163, R208). -/
def hasWork (s : State) (x : Session) : Bool :=
  decide (x.state = .resident ∧ x.op = .none) && (!x.input.isEmpty || generating x) && !queueStuck s x.home && decide (x.exts.length < 16)

/-- Whether a session is in batch t of a Show. -/
def inBatch (h : ShowHdr) (t : Nat) (x : Session) : Bool :=
  match x.slot with
  | some k => decide (batchOf h k = t)
  | none => false

/-- Whether batch t of partition p holds a Resident session with work (R155). -/
def batchWork (s : State) (p t : Nat) : Bool :=
  match find s.shows p with
  | some w => (sessionsOf s p).any (fun e => inBatch w.hdr t e.2 && hasWork s e.2)
  | none => false

/-- A session as it will stand once the step that it takes part in has used its token. -/
def afterStep (x : Session) : Session := if x.inStep && x.takes then { x with input := x.input.drop 1 } else x

/-- Whether the condition of the next Scene of thread t holds on Quad z of partition p. TOKENS holds while a session of the batch has
work that no step in progress on this Quad uses, or a step begun on another Quad waits for this one (R155; log entry 33). -/
def sceneMet (s : State) (z p t : Nat) : Bool :=
  let x := zoe s z
  let th := threadOf x t
  let e := nextEntry x t
  match scStart e with
  | 0 => true
  | 1 => decide (scCount e ≤ (look x.scn.arrivals (scXid e) 0).toNat)
  | 2 => th.mid || (match find s.shows p with
    | some w => (sessionsOf s p).any (fun y => inBatch w.hdr t y.2
        && (if th.lead = 0 then y.2.inStep || hasWork s y.2 else hasWork s (afterStep y.2)))
    | none => false)
  | _ => false

/-- The threads of partition p's Quads note when the conditions of their next Scenes came to hold (R155). -/
def noteReady (p : Nat) (s : State) : State :=
  forAll (quadsOf s p) (fun z s' => modZoe z (fun x => { x with scn := { x.scn with threads := x.scn.threads.map (fun e =>
    if e.2.used && !e.2.running then (e.1, markMet (timeNs s) (sceneMet s z p e.1) e.2) else e) } }) s') s

/-- The step of batch t begins: every session of it with work takes part (R163). -/
def beginStep (p t : Nat) (s : State) : State :=
  match find s.shows p with
  | none => s
  | some w => forAll (sessionsOf s p) (fun e s' =>
      if inBatch w.hdr t e.2 && hasWork s e.2 then setSession p (sidOf e.1) { e.2 with inStep := true, takes := decide (e.2.input ≠ []) } s' else s') s

/-- One session's part of a step ends: its OUTPUT, with a free token, goes to its home queue, unless it is being closed
(R163, R164, R205, R208; log entry 32); only a step that began with an input token uses one up. -/
def outputOf (p : Nat) (sid : BitVec 24) (x : Session) (s : State) : State :=
  let rest := if x.takes then x.input.drop 1 else x.input
  match x.op with
  | .close _ _ => setSession p sid { x with inStep := false, input := rest } s
  | _ =>
    let tok : Word := (freeVal s).setWidth 32
    let s := useFree s
    let len := (freeVal s).toNat % 1048577
    let s := if x.ext then useFree s else s
    let exts := if x.ext then x.exts ++ [len] else x.exts
    let gen := x.generate && x.lastSeen && (!x.takes || rest.isEmpty)
    let outs := if gen then x.outputs + 1 else x.outputs
    let stop := gen && ((decide (x.endToken ≠ 0xFFFFFFFF) && decide (tok = x.endToken))
      || (decide (x.maxOut ≠ 0) && decide (x.maxOut.toNat ≤ outs)))
    let lost := if (queue s x.home).state = .resetting then some (x.lostOut.getD x.step) else x.lostOut
    let s := setSession p sid { x with
      inStep := false, input := rest, exts := exts, outputs := outs, ended := x.ended || stop, step := x.step + 1
      lostOut := lost } s
    postCpl x.home { typ := 1, session := sid, extPend := decide (exts ≠ []), data0 := x.step ++ tok } s

/-- The queues of partition p settle their fences. -/
def settlePart (p : Nat) (s : State) : State :=
  forAll ((s.host.queues.map (·.1)).filter (fun q => decide (queuePart s q = some p))) settleQueue s

/-- The step of batch t ends with its outputs (R163, R208). -/
def endStep (p t : Nat) (s : State) : State :=
  match find s.shows p with
  | none => s
  | some w => settlePart p (forAll (sessionsOf s p) (fun e s' =>
      if e.2.inStep && inBatch w.hdr t e.2 then outputOf p (sidOf e.1) e.2 s' else s') s)

/-- The step of batch t ends without outputs, the sessions at the state of their last completed step (R157). -/
def abandonStep (p t : Nat) (s : State) : State :=
  match find s.shows p with
  | none => s
  | some w => settlePart p (forAll (sessionsOf s p) (fun e s' =>
      if e.2.inStep && inBatch w.hdr t e.2 then setSession p (sidOf e.1) { e.2 with inStep := false } s' else s') s)

/-- SESSION_COPY_DONE: the copy or zeroing of a park, resume or close ends, once the session's step has ended: the session
changes state and the operation completes (R162, R164, R207). -/
def execSessionCopyDone (p : Part) (sid : BitVec 24) (s : State) : Host.Outcome State Fault Refusal :=
  .next (
    match session s p.val sid with
    | none => s
    | some x =>
      if x.inStep || !mrtServes s then s
      else match x.op with
        | .none => s
        | .park q id => finishDesc q id 0 0 (parkNow p.val sid x s)
        | .forced st => settlePart p.val (sessionEvent x.home sid st x.step (decide (x.exts ≠ [])) (parkNow p.val sid x s))
        | .close q id => finishDesc q id 0 0 (removeSession p.val sid s)
        | .resume q id =>
          let k := x.slot.getD 0
          let init := match find s.shows p.val with
            | some w => Config.slotInit w.hdr.showId k
            | none => fun _ => 0
          let s := fillSlot p.val k false init s
          let s := if x.state = .parked then
              let got := parkFetch p.val x.parkAt x.parkLen s
              zeroPark p.val x (fillSlot p.val k true (fun i => got.1.getD i 0) got.2)
            else s
          noteReady p.val (finishDesc q id 0 0
            (setSession p.val sid { x with state := .resident, pslot := none, parkAt := 0, parkLen := 0, op := .none } s)))

/-! ### Session descriptors (R160, R162, R164, R203, R204) -/

/-- The partition of a queue. -/
def partOf (s : State) (q : Nat) : Nat := (queuePart s q).getD 0

/-- QUEUE_NOP: the NOP opcode completes at once (R203). -/
def execQueueNop (q : QueueId) (s : State) : Host.Outcome State Fault Refusal :=
  .next (startDesc q.val 0 (fun bs => zeroBytes bs 16 64) (fun d s => endDesc q.val d.uid 0 0 s) s)

/-- A session is opened (R160, R164). -/
def openAct (q : Nat) (d : InFlight) (s : State) : State :=
  let p := partOf s q
  if d.session = 0 ∨ (session s p d.session).isSome then endDesc q d.uid 4 0 s
  else
    endDesc q d.uid 0 0 (setSession p d.session {
      home := q
      trust := BitVec.ofNat 16 (fieldAt d.bytes 16 2)
      generate := (d.bytes.getD 18 0).getLsbD 0
      ext := (d.bytes.getD 18 0).getLsbD 1
      endToken := BitVec.ofNat 32 (fieldAt d.bytes 20 4)
      maxOut := BitVec.ofNat 32 (fieldAt d.bytes 24 4) } s)

/-- An Open or Parked session takes a slot (R162, R164). -/
def resumeAct (q : Nat) (d : InFlight) (s : State) : State :=
  let p := partOf s q
  match session s p d.session with
  | none => endDesc q d.uid 4 0 s
  | some x =>
    if x.op ≠ .none then endDesc q d.uid 8 0 s
    else if x.state = .resident then endDesc q d.uid 0 0 s
    else match find s.shows p with
      | none => endDesc q d.uid 0x0B 0 s
      | some w =>
        if w.loading ∨ w.stopping then endDesc q d.uid 0x0B 0 s
        else match freeSlot s p w.hdr x with
          | none => endDesc q d.uid 5 0 s
          | some k => setSession p d.session { x with slot := some k, op := .resume q d.uid } s

/-- A Resident session is given a parked slot (R162, R164). -/
def parkAct (q : Nat) (d : InFlight) (s : State) : State :=
  let p := partOf s q
  match session s p d.session with
  | none => endDesc q d.uid 4 0 s
  | some x =>
    if x.op ≠ .none then endDesc q d.uid 8 0 s
    else if x.state ≠ .resident then endDesc q d.uid 6 0 s
    else match freePark s p (stateBytesOf s p) with
      | none => endDesc q d.uid 5 0 s
      | some k => setSession p d.session { x with pslot := some k, op := .park q d.uid } s

/-- A session without slots is Closed at once; a park or resume that waits completes with SESSION_CLOSED (R162, R164). -/
def closeAct (q : Nat) (d : InFlight) (s : State) : State :=
  let p := partOf s q
  match session s p d.session with
  | none => endDesc q d.uid 4 0 s
  | some x =>
    let closing := { x with op := .close q d.uid }
    match x.op with
    | .close _ _ => endDesc q d.uid 8 0 s
    | .park q' id => finishDesc q' id 7 0 (setSession p d.session closing s)
    | .resume q' id => finishDesc q' id 7 0 (setSession p d.session closing s)
    | .forced st => sessionEvent x.home d.session st x.step (decide (x.exts ≠ [])) (setSession p d.session closing s)
    | .none =>
      if x.slot = none ∧ x.pslot = none then endDesc q d.uid 0 0 (removeSession p d.session s)
      else setSession p d.session closing s

/-- What a session descriptor does; one that needs firmware waits while no Marionette serves (R333). -/
def sessionAct (op q : Nat) (d : InFlight) (s : State) : State :=
  if !mrtServes s then s
  else if op = 1 then openAct q d s
  else if op = 2 then resumeAct q d s
  else if op = 3 then parkAct q d s
  else closeAct q d s

/-- Whether a session's park, resume or close answers descriptor `id` of queue q. -/
def opOf (q id : Nat) : SessOp → Bool
  | .park q' i => decide (q' = q ∧ i = id)
  | .resume q' i => decide (q' = q ∧ i = id)
  | .close q' i => decide (q' = q ∧ i = id)
  | _ => false

/-- What a token submission of `n` tokens meets: NO_SHOW, BAD_SESSION, NOT_RESIDENT or INPUT_FULL, else OK (R152, R164, R204). -/
def tokenStatus (s : State) (p : Nat) (sid : BitVec 24) (n : Nat) : Byte :=
  match find s.shows p with
  | none => 0x0B
  | some w =>
    if w.loading ∨ w.stopping then 0x0B
    else match session s p sid with
      | none => 4
      | some x =>
        if x.state ≠ .resident then 6
        else if 65536 < x.input.length + n then 0x0C else 0

/-- The tokens of a submission are held, or none of them (R204). -/
def holdTokens (q : Nat) (d : InFlight) (toks : List Word) (s : State) : State :=
  let p := partOf s q
  let st := tokenStatus s p d.session toks.length
  if st ≠ 0 then endDesc q d.uid st 0 s
  else match session s p d.session with
    | none => endDesc q d.uid 4 0 s
    | some x => noteReady p (endDesc q d.uid 0 toks.length (setSession p d.session { x with
        input := x.input ++ toks
        lastSeen := x.lastSeen || (d.bytes.getD 18 0).getLsbD 1 } s))

/-- `n` 32-bit words of a list of bytes. -/
def wordsAt (bs : List Byte) (o n : Nat) : List Word := (List.range n).map (fun i => BitVec.ofNat 32 (fieldAt bs (o + 4 * i) 4))

/-- The state with a descriptor in flight changed. -/
def modFlight (q id : Nat) (f : InFlight → InFlight) (s : State) : State :=
  modQueue q (fun x => { x with flight := x.flight.map (fun d => if d.uid = id then f d else d) }) s

/-- The next read of a descriptor that reads `len` bytes from host address `addr`, of which `done` have come; without a free
tag, or while its function issues no request, it waits (R193, R194; log entry 27). -/
def nextRead (q : Nat) (d : InFlight) (kind : ReadKind) (addr len done : Nat) (s : State) : State :=
  match (if queueDma s q then hostReadReq q kind (addr + done) (readLen s q (addr + done) (len - done)) s else none) with
  | some t => t
  | none => modFlight q d.uid (fun d => { d with waitTag := true }) s

/-- What TOKEN_SUBMIT does: inline tokens are held, indirect ones read (R152, R164, R204). -/
def tokenAct (q : Nat) (d : InFlight) (s : State) : State :=
  let n := fieldAt d.bytes 16 2
  let st := tokenStatus s (partOf s q) d.session n
  if st ≠ 0 then endDesc q d.uid st 0 s
  else if (d.bytes.getD 18 0).getLsbD 0 then holdTokens q d (wordsAt d.bytes 32 n) s
  else nextRead q d (.tokens d.uid) (fieldAt d.bytes 24 8) (4 * n) 0 s

/-- What OUTPUT_FETCH does: the oldest extended output, up to MAX bytes of it, is written and consumed (R204, R206, R208). -/
def outputAct (q : Nat) (d : InFlight) (s : State) : State :=
  let p := partOf s q
  match session s p d.session with
  | none => endDesc q d.uid 4 0 s
  | some x =>
    match x.exts with
    | [] => endDesc q d.uid 0x0D 0 s
    | len :: rest =>
      let n := min len (fieldAt d.bytes 16 4)
      let bs := freeBytes s n
      let s := useFrees n (setSession p d.session { x with exts := rest } s)
      noteReady p (endDesc q d.uid (if n < len then 0x12 else 0) len (hostWriteBytes q (fieldAt d.bytes 24 8) bs s))

/-! ### Ring order of session operations (R209, R333, R338) -/

/-- Whether a descriptor in flight has not yet taken effect on its session. -/
def unacted (s : State) (q : Nat) (d : InFlight) : Bool :=
  d.defer || decide (d.op = 5) || (decide (1 ≤ d.op ∧ d.op ≤ 4) && !s.sessions.any (fun x => opOf q d.uid x.2.op))

/-- Whether an earlier descriptor of queue q on the same session has not yet taken effect (R209). -/
def mustWait (s : State) (q : Nat) (d : InFlight) : Bool :=
  (queue s q).flight.any (fun e => decide (e.uid < d.uid ∧ e.session = d.session) && unacted s q e)

/-- What a descriptor on a session does, by its opcode. -/
def descAct (q : Nat) (d : InFlight) (s : State) : State :=
  if d.op = 5 then tokenAct q d s else if d.op = 6 then outputAct q d s else sessionAct d.op q d s

/-- A descriptor on a session takes effect, or waits for those before it (R209). -/
def turnAct (q : Nat) (d : InFlight) (s : State) : State :=
  if mustWait s q d then modFlight q d.uid (fun d => { d with defer := true }) s else descAct q d s

/-- The descriptors of queue q that waited for their turn, and have it, take effect, at most `fuel`. -/
def takeTurns (fuel q : Nat) (s : State) : State :=
  match fuel with
  | 0 => s
  | n + 1 =>
    match (queue s q).flight.find? (fun d => d.defer && !mustWait s q d) with
    | none => s
    | some d =>
      let s := modFlight q d.uid (fun d => { d with defer := false }) s
      takeTurns n q (settleQueue q (descAct q { d with defer := false } s))

/-- What follows when a descriptor on a session has taken effect. -/
def settleTurns (q : Nat) (s : State) : State := takeTurns (queue s q).flight.length q s

/-- The session descriptors that waited for a Marionette are carried out (R333, R338). -/
def sessionWaits (s : State) : State :=
  let waiting := s.host.queues.flatMap (fun e =>
    (e.2.flight.filter (fun d => decide (1 ≤ d.op ∧ d.op ≤ 4) && !d.defer && !s.sessions.any (fun x => opOf e.1 d.uid x.2.op))).map
      (fun d => (e.1, d)))
  forAll waiting (fun e s => settleTurns e.1 (settleQueue e.1 (sessionAct e.2.op e.1 e.2 s))) s

/-- SESSION_OPEN (R160, R164, R203). -/
def execSessionOpen (q : QueueId) (s : State) : Host.Outcome State Fault Refusal :=
  .next (startDesc q.val 1 (fun bs => decide (fieldAt bs 18 2 < 4) && zeroBytes bs 28 64) (turnAct q.val) s)

/-- SESSION_RESUME: an Open or Parked session takes a slot; SESSION_COPY_DONE makes it Resident (R162, R164). -/
def execSessionResume (q : QueueId) (s : State) : Host.Outcome State Fault Refusal :=
  .next (startDesc q.val 2 (fun bs => zeroBytes bs 16 64) (turnAct q.val) s)

/-- SESSION_PARK: a Resident session is given a parked slot; SESSION_COPY_DONE makes it Parked after its step (R162, R164). -/
def execSessionPark (q : QueueId) (s : State) : Host.Outcome State Fault Refusal :=
  .next (startDesc q.val 3 (fun bs => zeroBytes bs 16 64) (turnAct q.val) s)

/-- SESSION_CLOSE: a session without slots is Closed at once; any other when SESSION_COPY_DONE has zeroed its slots; a park
waiting for the step's end completes with SESSION_CLOSED (R162, R164). -/
def execSessionClose (q : QueueId) (s : State) : Host.Outcome State Fault Refusal :=
  .next (startDesc q.val 4 (fun bs => zeroBytes bs 16 64) (turnAct q.val) s)

/-- TOKEN_SUBMIT: inline tokens are held at once; indirect ones are read from host memory first (R152, R164, R203, R204). -/
def execTokenSubmit (q : QueueId) (s : State) : Host.Outcome State Fault Refusal :=
  .next (startDesc q.val 5 (fun bs =>
      let n := fieldAt bs 16 2
      let inl := (bs.getD 18 0).getLsbD 0
      decide ((bs.getD 18 0).toNat < 4) && zeroBytes bs 19 24 && decide (1 ≤ n ∧ (inl → n ≤ 8))
        && (inl || decide (fieldAt bs 24 8 % 4 = 0)))
    (turnAct q.val) s)

/-- OUTPUT_FETCH: the oldest extended output, up to MAX bytes of it, is written to host memory and consumed (R204, R206,
R208). -/
def execOutputFetch (q : QueueId) (s : State) : Host.Outcome State Fault Refusal :=
  .next (startDesc q.val 6 (fun bs =>
      let m := fieldAt bs 16 4
      decide (m % 4 = 0 ∧ 4 ≤ m ∧ m ≤ 1048576 ∧ fieldAt bs 24 8 % 4 = 0) && zeroBytes bs 20 24 && zeroBytes bs 32 64)
    (turnAct q.val) s)

/-- FENCE_DESCRIPTOR: the FENCE opcode waits for every earlier descriptor, and with STEP for the session's step (R203, R209). -/
def execFenceDescriptor (q : QueueId) (s : State) : Host.Outcome State Fault Refusal :=
  .next (startDesc q.val 7 (fun bs => decide ((bs.getD 16 0).toNat < 2) && zeroBytes bs 17 64) (fun d s =>
    if (d.bytes.getD 16 0).getLsbD 0 && (session s (partOf s q.val) d.session).isNone then endDesc q.val d.uid 4 0 s
    else s) s)

/-! ### MEM_WRITE and MEM_READ (R173, R204, R212, R215, R253) -/

/-- The fields of MEM_WRITE and MEM_READ (R204). -/
def memFields (rd : Bool) (bs : List Byte) : Bool :=
  let len := fieldAt bs 16 4
  let m := fieldAt bs 20 1
  decide (len % 128 = 0 ∧ 128 ≤ len ∧ len ≤ 16777216 ∧ (m < 64 ∨ (m = 0xFF ∧ rd = false)) ∧ fieldAt bs 24 8 % 4 = 0
    ∧ fieldAt bs 32 8 % 128 = 0 ∧ fieldAt bs 32 8 < 2 ^ 39) && zeroBytes bs 21 24 && zeroBytes bs 40 64

/-- Whether a transfer is to or from this module's own memory. -/
def memLocal (s : State) (m : Nat) : Bool := decide (m = 0xFF) || isSelf s m

/-- Where a transfer of partition p lies in this module's memory; none where R173, R172, R253, a stack's reset or, for the West
half, the inter-hub link's refuses it (R180; log entry 28). -/
def memMap (s : State) (p : Nat) (rd : Bool) (pma len : Nat) : Option (Nat × Nat) :=
  match pmaMap s p pma len with
  | none => none
  | some co =>
    if (!rd && pmaProtected s p pma len) || blockHeld s .hbm (co.1 / 32) || (s.d2d.ihlReset && decide (pchHalf s co.1 ≠ 0)) then none
    else some co

/-- Whether the partners of a transfer map its range, which they decide: OK or NOT_MAPPED (log entry 31). -/
def partnerStatus (s : State) : Byte := if (freeVal s).getLsbD 0 then 0 else 0x0E

/-- The modules besides this one that a transfer names. -/
def memPartners (s : State) (m : Nat) : List Nat :=
  if m = 0xFF then (List.range (groupN s)).filter (fun i => !isSelf s i && isMember s i) else if isSelf s m then [] else [m]

/-- Lines of host data written from offset `off` of pseudo-channel c: cached copies are told to go as for a write of the
home half (R178). -/
def memLines (c off : Nat) (bs : List Byte) (s : State) : State :=
  forAll (List.range (bs.length / 128)) (fun i s =>
    (writeLine (pchHalf s c) 32 c (off / 128 + i) (slice bs (128 * i) 128) s).2) s

/-- MEM_WRITE: host bytes are read and written to partition memory, in address order; nothing moves where the module or a partner
does not map the range (R203, R204). -/
def execMemWrite (q : QueueId) (s : State) : Host.Outcome State Fault Refusal :=
  .next (startDesc q.val 8 (memFields false) (fun d s =>
    let m := fieldAt d.bytes 20 1
    let len := fieldAt d.bytes 16 4
    if (!memLocal s m && !isMember s m)
        || (memLocal s m && (memMap s (partOf s q.val) false (fieldAt d.bytes 32 8) len).isNone) then
      endDesc q.val d.uid 0x0E 0 s
    else if memPartners s m = [] then nextRead q.val d (.memSrc d.uid) (fieldAt d.bytes 24 8) len 0 s
    else
      let st := partnerStatus s
      let s := useFree s
      if st ≠ 0 then endDesc q.val d.uid st 0 s else nextRead q.val d (.memSrc d.uid) (fieldAt d.bytes 24 8) len 0 s) s)

/-- A line read other than by a DMA READ: whether its stack corrects an error in it, or finds one that it cannot correct, is free
(R169, R187; log entry 87). -/
def meetErrors (p c line : Nat) (s : State) : State :=
  let v := freeVal s
  lineErrors (pchHalf s c) p c line (v.getLsbD 0) (v.getLsbD 1) (useFree s)

/-- Bytes that MEM_READ fetched from this module's memory, with whether a line was uncorrectable and where the first was. -/
def memReadLines (p c off n : Nat) (s : State) : (List Byte × Option Nat) × State :=
  (List.range n).foldl (fun acc i =>
    let line := off / 128 + i
    let x := readLine (pchHalf s c) p c line true (meetErrors p c line acc.2)
    ((acc.1.1 ++ x.1.1, if x.1.2 then some (acc.1.2.getD (128 * i)) else acc.1.2), x.2)) (([], none), s)

/-- The lines that a partner sends for a MEM_READ: free bytes, or zeros where its stack met an uncorrectable error, which is free
too (R206; log entry 31). -/
def partnerLines (s : State) (n : Nat) : List (List Byte × Bool) :=
  (List.range n).map (fun i =>
    let at' := useFrees (129 * i) s
    let bad := (Config.freeValue (s.free + 129 * i + 128)).getLsbD 0
    (if bad then List.replicate 128 0 else freeBytes at' 128, bad))

/-- MEM_READ: partition memory is written to host memory; an uncorrectable line is sent as zeros (R203, R204, R206). -/
def execMemRead (q : QueueId) (s : State) : Host.Outcome State Fault Refusal :=
  .next (startDesc q.val 9 (memFields true) (fun d s =>
    let p := partOf s q.val
    let m := fieldAt d.bytes 20 1
    let len := fieldAt d.bytes 16 4
    let pma := fieldAt d.bytes 32 8
    let addr := fieldAt d.bytes 24 8
    if isSelf s m then
      match memMap s p true pma len with
      | none => endDesc q.val d.uid 0x0E 0 s
      | some co =>
        let r := memReadLines p co.1 co.2 (len / 128) s
        let s := hostWriteBytes q.val addr r.1.1 r.2
        match r.1.2 with
        | none => endDesc q.val d.uid 0 len s
        | some k => endDesc q.val d.uid 0x11 k s
    else if !isMember s m then endDesc q.val d.uid 0x0E 0 s
    else
      let st := partnerStatus s
      let s := emit (.memMove m false pma len []) (useFree s)
      if st ≠ 0 then endDesc q.val d.uid st 0 s
      else
        let bs := partnerLines s (len / 128)
        let s := hostWriteBytes q.val addr (bs.flatMap (·.1)) (useFrees (129 * (len / 128)) s)
        match bs.findIdx? (·.2) with
        | none => endDesc q.val d.uid 0 len s
        | some k => endDesc q.val d.uid 0x11 (128 * k) s) s)

/-! ### Reads of descriptors that have started (R212, R214) -/

/-- The descriptors in flight that wait for a tag, with their queues. -/
def waitingReads (s : State) : List (Nat × InFlight) :=
  s.host.queues.flatMap (fun e => (e.2.flight.filter (·.waitTag)).map (fun d => (e.1, d)))

/-- A descriptor that waited for a tag goes on with its next read. -/
def resumeRead (q : Nat) (d : InFlight) (s : State) : State :=
  let d := { d with waitTag := false }
  let s := modFlight q d.uid (fun _ => d) s
  let addr := fieldAt d.bytes 24 8
  if d.op = 5 then nextRead q d (.tokens d.uid) addr (4 * fieldAt d.bytes 16 2) d.acc.length s
  else nextRead q d (.memSrc d.uid) addr (fieldAt d.bytes 16 4) (d.moved + d.acc.length) s

/-- A tag is free again: the first descriptor that waits for one and may use it goes on (R194; log entry 27). -/
def retryRead (s : State) : State :=
  match (waitingReads s).find? (fun e => queueDma s e.1 && (freshHostTag s (queueFn s e.1)).isSome) with
  | none => s
  | some e => resumeRead e.1 e.2 s

/-- Token bytes arrive: the next read, or the tokens are held. -/
def tokensArrive (q id : Nat) (bs : List Byte) (s : State) : State :=
  match (queue s q).flight.find? (fun d => decide (d.uid = id)) with
  | none => s
  | some d =>
    let acc := d.acc ++ bs
    let n := fieldAt d.bytes 16 2
    let d' := { d with acc := acc }
    let s := modFlight q id (fun _ => d') s
    if acc.length < 4 * n then settleQueue q (nextRead q d' (.tokens id) (fieldAt d.bytes 24 8) (4 * n) acc.length s)
    else settleTurns q (settleQueue q (holdTokens q d' (wordsAt acc 0 n) s))

/-- MEM_WRITE source bytes arrive: whole lines are written, to partners too, then the next read, or the descriptor ends; the
range is checked again, since it may have been lost meanwhile. -/
def memArrive (q id : Nat) (bs : List Byte) (s : State) : State :=
  match (queue s q).flight.find? (fun d => decide (d.uid = id)) with
  | none => s
  | some d =>
    let m := fieldAt d.bytes 20 1
    let len := fieldAt d.bytes 16 4
    let acc := (d.acc ++ bs).take (len - d.moved)
    let k := 128 * (acc.length / 128)
    let pma := fieldAt d.bytes 32 8
    let p := partOf s q
    match (if memLocal s m then memMap s p false pma len else some (0, 0)) with
    | none => finishDesc q id 0x0E d.moved s
    | some co =>
      let s := if memLocal s m then memLines co.1 (co.2 + d.moved) (acc.take k) s else s
      let s := forAll (memPartners s m) (fun i s => emit (.memMove i true (pma + d.moved) k (acc.take k)) s) s
      let d' := { d with acc := acc.drop k, moved := d.moved + k }
      let s := modFlight q id (fun _ => d') s
      let got := d.moved + acc.length
      if got < len then settleQueue q (nextRead q d' (.memSrc id) (fieldAt d.bytes 24 8) len got s)
      else settleQueue q (endDesc q id 0 len s)

/-- A read of queue q has failed: what it was for ends, and what waited for that goes on (R209, R212). -/
def readFailed (u : TagUse) (cause : BitVec 4) (st : Byte) (s : State) : State :=
  let s := failRead u cause st s
  if u.q < 4096 then settleTurns u.q s else s

/-- COMPLETION_TIMEOUT: a read has waited for its function's completion timeout: it is reported with its header, counted, its tag
quarantined, and its queue acted on (R211, R212, R214). -/
def execCompletionTimeout (tag : HostTag) (s : State) : Host.Outcome State Fault Refusal :=
  .next (
    match find s.host.tags tag.val with
    | none => s
    | some u =>
      if u.quarantined then s
      else
        let f := queueFn s u.q
        let h := readHeader f tag.val u
        let s := advanceTo (u.issued + timeoutNs (fnCfg s f)) s
        let s := quarantine tag.val (modFnCfg f (fun c => { c with aerHeader := h }) (emit (.aerTimeout f tag.val h) s))
        readFailed u 1 0x0F (if u.q < 4096 then modQueue u.q (fun x => { x with timeouts := x.timeouts + 1 }) s else s))

/-! ### Queue resets and held completions (R197, R198, R208, R210, R213, R218) -/

/-- QP_RESET: KEY 0xA5 starts the reset of an enabled or halted queue: descriptors not started are abandoned, those started
run on without a completion, unless their read is ended, held completions and outputs are discarded (R197, R198). -/
def execQpReset (f : Fn) (page : QueueId) (v : Word) (s : State) : Host.Outcome State Fault Refusal :=
  .next (
    match pageQueue s f page.val with
    | none => s
    | some q =>
      let x := queue s q
      if v.toNat ≠ 0xA5 ∨ (x.state ≠ .enabled ∧ x.state ≠ .halted) then s
      else
        let cut := readingDescs s q
        let s := quarantineQueue q (loseOutputs q s)
        settleTurns q (modQueue q (fun x => { x with
          state := .resetting
          haltCause := 0
          fetched := []
          flight := (x.flight.filter (fun d => decide (d.op ≠ 7 ∧ d.uid ∉ cut))).map (fun d => { d with quiet := true })
          outDrop := x.outDrop + BitVec.ofNat 48 ((x.held ++ x.stalled).countP (fun c => decide (c.typ = 1)))
          held := []
          stalled := [] }) s))

/-- QUEUE_RESET_DONE: the heads, tails, SEQ and phase return to their create values and the queue is enabled, or halted when
Bus Master Enable was cleared meanwhile; a QUEUE_EVENT for Bus Master Enable comes first, then a SESSION_EVENT for each
session that lost an output; a queue that a function-level reset holds stays so (R197, R198, R215, R216, R218; R205 states no DATA0 of the first, log entry 1). -/
def execQueueResetDone (q : QueueId) (s : State) : Host.Outcome State Fault Refusal :=
  .next (
    let x := queue s q.val
    if x.state ≠ .resetting ∨ (queuePart s q.val).any (fun p => (part s p).resetting) then s
    else
      let event := x.bmOff && decide (x.haltCause ≠ 3)
      let later := x.held ++ x.stalled
      let s := modQueue q.val (fun x => { x with
        state := if x.haltCause = 3 then .halted else .enabled
        bmOff := decide (x.haltCause = 3)
        sqHead := 0, sqTail := 0, cqHead := 0, cqTail := 0, phase := true, seq := 0
        held := [], stalled := [], unsig := 0, oldestUnsig := none, waitFrom := none }) s
      let s := if event then postCpl q.val { typ := 3, status := 0x18, data0 := freeVal s } (useFree s) else s
      let s := forAll (homedOn s q.val) (fun e s =>
        match e.2.lostOut with
        | none => s
        | some n =>
          postCpl q.val { typ := 2, status := 0x13, session := BitVec.ofNat 24 e.1, data0 := n.setWidth 64 }
            { s with sessions := ins s.sessions e.1 { e.2 with lostOut := none } }) s
      forAll later (postFormed q.val) s)

/-- HELD_COMPLETION_WRITE: the oldest held completion goes to the ring, when there is room and the function may write; an operation
that waited for room in the buffer takes its place (R208, R213, R215). -/
def execHeldCompletionWrite (q : QueueId) (s : State) : Host.Outcome State Fault Refusal :=
  let x := queue s q.val
  .next (
    match x.held with
    | [] => s
    | c :: rest =>
      if ringFull x ∨ !queueDma s q.val ∨ x.state = .resetting ∨ x.state = .disabled then s
      else
        let s := writeCpl q.val c (modQueue q.val (fun x => { x with
          held := rest ++ x.stalled.take 1, stalled := x.stalled.drop 1 }) s)
        let s := settleQueue q.val s
        (queuePart s q.val).elim s (fun p => noteReady p (settlePart p s)))

end Sys2Proof.Machine
end

