-- ==== Sys2Proof/Machine/Scene.lean ====
section
/-! DEFINITION. The Scene stepper: starts, ends and lost steps of a thread's Scenes (R48, R134, R153 to R159). -/

namespace Sys2Proof.Machine

open Sys2Proof

/-- A router write of one word by the Quad itself into every Marble of Quad z, with the partition's shared context; a failing
one is dropped and logged (R134, R138, R182, R184). -/
def quadWord (z a : Nat) (w : Word) (s : State) : State :=
  let acc := match quadPart s z with
    | some p => tagOf p 0xFFFF
    | none => 0
  forAll (List.range 32768) (fun i => routerWord (32768 * z + i) a w acc) s

/-- The Quads of partition p on which the loaded Show has thread t. -/
def threadQuads (s : State) (p t : Nat) : List Nat := (quadsOf s p).filter (fun z => (threadOf (zoe s z) t).used)

/-! ### Starts and ends (R48, R155, R158) -/

/-- Whether partition p's Show runs: loaded and not stopping. -/
def showRuns (s : State) (p : Nat) : Bool :=
  match find s.shows p with
  | some w => !w.loading && !w.stopping
  | none => false

/-- Whether a queue takes a Scene: at SCENE_END or idle, not halted, and the Zoetrope not in a gap (R155). -/
def queueTakes (x : Zoe) (q : Nat) : Bool :=
  decide ((stream x q).qstate = .idle) && !haltBit x q && decide (x.state = .ready ∨ x.state = .running)

/-- When the next Scene of a thread is ready, its condition met at `met` (R155). -/
def readyAt (x : Zoe) (t met : Nat) : Nat := met + delayNs (nextEntry x t)

/-- Whether another thread of the queue is ready at time `at'` and comes first: its condition was met earlier, or at the same time
and it is the lower thread (R155). -/
def comesFirst (s : State) (z p t met at' : Nat) : Bool :=
  let x := zoe s z
  x.scn.threads.any (fun e => decide (e.1 ≠ t ∧ threadQueue x e.1 = threadQueue x t) && e.2.used && !e.2.running && !e.2.halted
    && sceneMet s z p e.1 && (match e.2.metAt with
      | some m => decide (readyAt x e.1 m ≤ at' ∧ (m < met ∨ (m = met ∧ e.1 < t)))
      | none => false))

/-- SCENE_START: thread t's next Scene starts when its queue can take it, its condition holds, its DELAY has passed and no other
thread comes first: arrivals are consumed, an ENTRY Scene begins the batch's step on this Quad, and the queue reads from POS (R153,
R155, R156, R159). -/
def execSceneStart (z : ZoeId) (t : Fin 8) (s : State) : Host.Outcome State Fault Refusal :=
  let x := zoe s z.val
  let th := threadOf x t.val
  let e := nextEntry x t.val
  let q := threadQueue x t.val
  .next (
    match quadPart s z.val with
    | none => s
    | some p =>
      let met := th.metAt.getD (timeNs s)
      let at' := max (timeNs s) (readyAt x t.val met)
      if !th.used || th.running || th.halted || !showRuns s p || !queueTakes x q || !sceneMet s z.val p t.val
          || comesFirst s z.val p t.val met at' then s
      else
        let begun := (threadQuads s p t.val).any (fun i =>
          let y := threadOf (zoe s i) t.val
          y.mid || decide (0 < y.lead))
        let s := advanceTo at' s
        let s := if scEntry e && !begun then beginStep p t.val s else s
        let w := met - th.since
        let s := modZoe z.val (fun x => { x with
          sceneEnd := x.sceneEnd &&& ~~~BitVec.ofNat 2 (2 ^ q)
          scn := { x.scn with
            arrivals := if scStart e = 1 then modAt x.scn.arrivals (scXid e) 0 (· - BitVec.ofNat 16 (scCount e)) else x.scn.arrivals
            starts := x.scn.starts + 1
            wmax := if x.scn.wmax.toNat < w then BitVec.ofNat 32 (min w 0xFFFFFFFF) else x.scn.wmax } }) s
        let s := modThread z.val t.val (fun y => { y with
          running := true, scene := y.next, mid := y.mid || scEntry e, metAt := none }) s
        noteReady p (modStream z.val q (fun r => { r with
          qstate := .running, pos := scPos e, thread := some t, scene := th.next, boundAt := nowSym s }) s))

/-- The step of batch t ends with its outputs once every Quad has ended it; a Quad that is ahead has the next one in progress, and its
sessions take part in it (R163). -/
def stepIfDone (p t : Nat) (s : State) : State :=
  let qs := threadQuads s p t
  if qs.any (fun z => decide ((threadOf (zoe s z) t).lead = 0)) then s
  else
    let s := forAll qs (fun z => modThread z t (fun y => { y with lead := y.lead - 1 })) (endStep p t s)
    if qs.any (fun z => (threadOf (zoe s z) t).mid || decide (0 < (threadOf (zoe s z) t).lead)) then beginStep p t s else s

/-- A step of batch t of a stopping Show that no Quad carries on ends without outputs (R152, R157). -/
def abandonIdle (p t : Nat) (s : State) : State :=
  if (threadQuads s p t).any (fun z => (threadOf (zoe s z) t).running) then s
  else abandonStep p t (forAll (threadQuads s p t) (fun z => modThread z t (fun y => { y with mid := false, lead := 0 })) s)

/-- A thread's Scene ends: the thread waits for its next Scene; a lost step restarts at the ENTRY Scene; the end of a LAST
Scene ends the batch's step on this Quad; a stopping Show's step ends unfinished (R152, R153, R157, R163). -/
def threadSceneEnd (z t : Nat) (s : State) : State :=
  let x := zoe s z
  let th := threadOf x t
  let e := sceneEntry x th.scene.toNat
  match quadPart s z with
  | none => s
  | some p =>
    let scenes := match find s.shows p with
      | some w => w.hdr.scenes
      | none => 0
    let stops := match find s.shows p with
      | some w => w.stopping
      | none => false
    let s :=
      if th.lost then
        modThread z t (fun y => { y with running := false, lost := false, next := firstEntry x scenes t, since := timeNs s }) s
      else
        let s := modThread z t (fun y => { y with
          running := false, next := scNext e, since := timeNs s
          mid := y.mid && !scLast e, lead := if scLast e then y.lead + 1 else y.lead, rerun := y.rerun && !scLast e }) s
        if scLast e then stepIfDone p t s else s
    noteReady p (if stops then abandonIdle p t s else s)

/-- A queue at SCENE_END: Scene-done is posted into every Marble of the Quad, the queue is idle, and its thread's Scene ends
(R48, R134). -/
def sceneDone (z q : Nat) (s : State) : State :=
  let x := zoe s z
  let bits := x.sceneEnd ||| BitVec.ofNat 2 (2 ^ q)
  let cnt := x.sdone + 1
  let th := (stream x q).thread
  let s := modZoe z (fun x => { x with sdone := cnt, sceneEnd := bits }) s
  let s := quadWord z 0x7D4 (cnt ++ (0 : BitVec 14) ++ bits) s
  let s := modStream z q (fun r => { r with qstate := .idle, thread := none }) s
  match th with
  | some t => threadSceneEnd z t.val s
  | none => s

/-! ### A Show that stops (R116, R152, R157) -/

/-- The Marbles of Quad z that run are stopped by the Marionette, with cause 7 (R116, R184). -/
def stopQuad (z : Nat) (s : State) : State :=
  { s with mrb.marbles := mapBlock s.mrb.marbles (32768 * z) 32768 {} (fun m =>
      if m.cause = 0 then { m with cause := 7, waiting := .none } else m) }

/-- A stopped Show is gone: its threads, its name, its measurement and its Marbles (R116, R152, R159, R245). -/
def removeShow (p : Nat) (s : State) : State :=
  let s := { s with shows := drop s.shows p, sec.meas := drop s.sec.meas (16 + p) }
  forAll (quadsOf s p) (fun z s => stopQuad z (modZoe z (fun x => { x with scn := { x.scn with threads := [], showId := 0 } }) s)) s

/-- Whether partition p's stopping Show has stopped: no thread runs a Scene and no session is Resident (R152). -/
def stopDone (s : State) (p : Nat) : Bool :=
  (match find s.shows p with
    | some w => w.stopping
    | none => false)
  && (quadsOf s p).all (fun z => allVals (zoe s z).scn.threads (fun _ t => !t.running))
  && (sessionsOf s p).all (fun e => decide (e.2.state ≠ .resident))

/-- The Show of partition p is removed once it has stopped. -/
def settleStop (p : Nat) (s : State) : State := if stopDone s p then removeShow p s else s

/-- The resumes in progress of partition p end with NO_SHOW: its Show stops (R152, R162). -/
def endResumes (p : Nat) (s : State) : State :=
  forAll (sessionsOf s p) (fun e s => match e.2.op with
    | .resume q id => finishDesc q id 0x0B 0 (setSession p (sidOf e.1) { e.2 with slot := none, op := .none } s)
    | _ => s) s

/-- A stop of partition p's Show begins: its threads start no further Scene, resumes end, and a step that no Quad carries on ends
(R152). -/
def beginStop (p : Nat) (faulted : Bool) (s : State) : State :=
  match find s.shows p with
  | none => s
  | some w => forAll (List.range 8) (abandonIdle p)
      (endResumes p { s with shows := ins s.shows p { w with stopping := true, faulted := w.faulted || faulted } })

/-- The threads that run on a Zoetrope which no longer runs windows run no more (R157). -/
def dropThreads (z : Nat) (s : State) : State :=
  modZoe z (fun x => { x with
    st0 := { x.st0 with thread := none }, st1 := { x.st1 with thread := none }
    scn := { x.scn with threads := x.scn.threads.map (fun e => (e.1, { e.2 with running := false })) } }) s

/-- A Zoetrope that is Fenced, a fenced half or a lost member stops the Show with fault 0x0B02 (R157). -/
def faultEnd (p member : Nat) (s : State) : State :=
  match find s.shows p with
  | none => s
  | some w => if w.faulted then s
    else forAll (List.range 8) (abandonStep p) (beginStop p true (raiseFault 0x0B02 12 p p member s))

/-- A Show stopped by a Fenced Zoetrope or a lost member: its Resident sessions are Parked, or, where `close` holds, Resident and
Parked ones Closed, whose state the member held (R152, R157). -/
def faultStop (p member : Nat) (st : Byte) (close : Bool) (s : State) : State :=
  if (find s.shows p).isNone then s
  else
    let s := faultEnd p member s
    forAll (sessionsOf s p) (fun e s =>
      if close then (if e.2.state = .opened then s else forceClose p (sidOf e.1) st s)
      else if e.2.state = .resident then forcePark p (sidOf e.1) st s else s) s

/-! ### Lost steps (R157) -/

/-- The XIDs that a thread's Scenes count. -/
def threadXids (x : Zoe) (scenes t : Nat) : List Nat :=
  ((List.range scenes).filter (fun k => decide (scThread (sceneEntry x k) = t ∧ scStart (sceneEntry x k) = 1))).map
    (fun k => scXid (sceneEntry x k))

/-- What a lost step does to the thread on one Quad: a running Scene ends at its next SCENE_END, the thread goes back to its
ENTRY Scene, or halts, and the counters of its XIDs are cleared (R157). -/
def loseOn (scenes t : Nat) (halt : Bool) (z : Nat) (s : State) : State :=
  let x := zoe s z
  let s := modZoe z (fun x => { x with scn := { x.scn with
    arrivals := x.scn.arrivals.filter (fun e => decide (e.1 ∉ threadXids x scenes t))
    rerun := if halt then x.scn.rerun else x.scn.rerun + 1 } }) s
  modThread z t (fun y => { y with
    lost := y.running
    next := if y.running then y.next else firstEntry x scenes t
    mid := !halt
    lead := 0
    rerun := !halt
    halted := halt
    since := timeNs s
    metAt := none }) s

/-- STEP_LOST: a thread whose step is in progress has waited SWAIT for its next Scene: the step is run again from its ENTRY
Scene, and after a second loss the thread halts, its sessions are Parked, and fault 0x0B01 is raised; a Scene that is ready in
time is not lost (R155, R157; log entry 33). -/
def execStepLost (z : ZoeId) (t : Fin 8) (s : State) : Host.Outcome State Fault Refusal :=
  let th := threadOf (zoe s z.val) t.val
  .next (
    match quadPart s z.val with
    | none => s
    | some p =>
      match find s.shows p with
      | none => s
      | some w =>
        let due := th.since + 1000 * (part s p).swait
        let inTime := sceneMet s z.val p t.val && decide (readyAt (zoe s z.val) t.val (th.metAt.getD (timeNs s)) ≤ due)
        if !th.used || th.running || th.halted || !th.mid || w.loading || w.stopping || inTime then s
        else
          let s := advanceTo due s
          let s := modZoe z.val (fun x => { x with scn := { x.scn with lost := x.scn.lost + 1 } }) s
          let s := forAll (threadQuads s p t.val) (loseOn w.hdr.scenes t.val th.rerun) s
          if th.rerun then
            let s := abandonStep p t.val s
            let s := forAll ((sessionsOf s p).filter (fun e => inBatch w.hdr t.val e.2)) (fun e => forcePark p (sidOf e.1) 0x16) s
            raiseFault 0x0B01 12 p p t.val s
          else noteReady p s)

end Sys2Proof.Machine
end

