-- ==== Sys2Proof/Machine/Window.lean ====
section
/-! DEFINITION. Window descriptors, operand conversion, fencing, gaps, and what happens at a window boundary (R36 to R51,
R58, R79 to R82, R85, R95, R97 to R99, R353). -/

namespace Sys2Proof.Machine

open Sys2Proof

/-! ### Descriptors (R47) -/

/-- Word 0 of a descriptor, bits [hi:lo]. -/
def dsc0 (d : BitVec 128) (hi lo : Nat) : Nat := bitsOf (d.extractLsb' 0 64).toNat hi lo
/-- Word 1 of a descriptor, bits [hi:lo]. -/
def dsc1 (d : BitVec 128) (hi lo : Nat) : Nat := bitsOf (d.extractLsb' 64 64).toNat hi lo
/-- TYPE. -/
def wdType (d : BitVec 128) : Nat := dsc0 d 63 60
/-- KLOG. -/
def wdKlog (d : BitVec 128) : Nat := dsc0 d 59 57
/-- K, in symbols. -/
def wdK (d : BitVec 128) : Nat := 64 * 2 ^ wdKlog d
/-- OSEL. -/
def wdOsel (d : BitVec 128) : Nat := dsc0 d 56 54
/-- WFMT. -/
def wdWfmt (d : BitVec 128) : Nat := dsc0 d 53 51
/-- The width b that WLW selects. -/
def lwBits (c : Nat) : Nat := if c = 0 then 4 else if c = 1 then 5 else if c = 2 then 6 else 8
/-- WLW as a width. -/
def wdWb (d : BitVec 128) : Nat := lwBits (dsc0 d 50 49)
/-- AFMT. -/
def wdAfmt (d : BitVec 128) : Nat := dsc0 d 48 46
/-- ALW as a width. -/
def wdAb (d : BitVec 128) : Nat := lwBits (dsc0 d 45 44)
/-- W_OFF. -/
def wdWoff (d : BitVec 128) : Nat := dsc0 d 43 27
/-- A_OFF. -/
def wdAoff (d : BitVec 128) : Nat := dsc0 d 26 10
/-- R_OFF. -/
def wdRoff (d : BitVec 128) : Nat := dsc1 d 63 47
/-- EXP_SLOT. -/
def wdSlot (d : BitVec 128) : Nat := dsc1 d 46 42
/-- WTAG. -/
def wdTag (d : BitVec 128) : BitVec 16 := BitVec.ofNat 16 (dsc1 d 41 26)
/-- The count of an IDLE. -/
def idCount (d : BitVec 128) : Nat := dsc0 d 19 0

/-- Bits per element of an operand format (R43). -/
def fmtBits (f : Nat) : Nat := if f = 0 then 4 else if f = 1 then 5 else if f = 3 ∨ f = 4 then 8 else 6

/-- Whether an operand format is MX, with block scales (R43). -/
def fmtMx (f : Nat) : Bool := decide (4 ≤ f)

/-- The bytes of a run's elements (R44). -/
def runElems (f K : Nat) : Nat := K * fmtBits f / 8

/-- The bytes of an operand run (R44). -/
def runLen (f K : Nat) : Nat := runElems f K + if fmtMx f then K / 32 else 0

/-- Whether a format is known and a Q format has the selected width (R44, R49). -/
def fmtOk (f b : Nat) : Bool := decide (f ≤ 6) && (fmtMx f || decide (fmtBits f = b))

/-- The size of a result block (R52). -/
def blockSize (twin : Bool) : Nat := if twin then 544 else 1056

/-- Whether `len` bytes from a Cluster offset are aligned and stay below the mailbox region (R49, R124). -/
def offOk (o len : Nat) : Bool := decide (o % 32 = 0 ∧ o + len ≤ 0x1E000)

/-- The error of a descriptor for queue q, 0 for none; the first of R49's table that holds (R49; log entry 34). -/
def dscError (twin : Bool) (q : Nat) (d : BitVec 128) : Nat :=
  let w := decide (wdType d = 1)
  if 3 < wdType d then 1
  else if w && decide (6 < wdKlog d) then 2
  else if w && !(fmtOk (wdWfmt d) (wdWb d) && fmtOk (wdAfmt d) (wdAb d)) then 3
  else if w && !(offOk (wdWoff d) (runLen (wdWfmt d) (wdK d)) && offOk (wdAoff d) (runLen (wdAfmt d) (wdK d))
      && offOk (wdRoff d) (blockSize twin)) then 4
  else if q = 1 ∧ !twin then 5
  else if wdType d = 2 ∧ idCount d < 16 then 6
  else 0

/-! ### Neighbours of a cell heater (R93) -/

/-- The neighbour in slot j of a cell heater, none outside the array (R93). -/
def neighbour (e j : Nat) : Option Nat :=
  let r := e / 2 / 128
  let c := e / 2 % 128
  let k := e % 2
  let cell (r' c' : Int) (k' : Nat) : Option Nat :=
    if 0 ≤ r' ∧ r' < 260 ∧ 0 ≤ c' ∧ c' < 128 then some (2 * (128 * r'.toNat + c'.toNat) + k') else none
  match j with
  | 0 => cell r c (1 - k)
  | 1 => cell r (c - 1) k
  | 2 => cell r (c + 1) k
  | 3 => cell (r - 1) c k
  | 4 => cell (r + 1) c k
  | 5 => cell r (c - 1) (1 - k)
  | 6 => cell r (c + 1) (1 - k)
  | 7 => if k = 0 then cell (r - 1) c 1 else cell (r + 1) c 0
  | _ => none

/-- Eight coefficient bytes of element e, 0 where the slot lies outside the array (R93). -/
def inArray (e : Nat) (v : BitVec 64) : BitVec 64 :=
  let byte (j : Nat) : Byte := if e < 66560 ∧ (neighbour e j).isSome then v.extractLsb' (8 * j) 8 else 0
  byte 7 ++ byte 6 ++ byte 5 ++ byte 4 ++ byte 3 ++ byte 2 ++ byte 1 ++ byte 0

/-! ### Operand conversion (R42 to R46) -/

/-- The weight rows of a stream in result order (R34, R52). -/
def tileRows (twin : Bool) (q : Nat) : List Nat :=
  if !twin then List.range 260
  else if q = 0 then List.range 128 ++ [256, 257] else (List.range 128).map (128 + ·) ++ [258, 259]

/-- The activation columns of a stream (R34). -/
def tileCols (twin : Bool) (q : Nat) : List Nat :=
  if !twin then List.range 128 else if q = 0 then List.range 64 else (List.range 64).map (64 + ·)

/-- The Cluster, by global index, of a feeder map entry of Quad z (R50, R64). -/
def feedCluster (x : Zoe) (z ch : Nat) : Nat := 512 * z + (look x.fmap ch 0).toNat

/-- A feeder's reading of one operand run: its bytes, and the granules it could not read because of a bank of another owner or of a
Bag in reset, with that bank (R50, R144, R369). -/
def feedRun (s : State) (acc : BitVec 20) (c o len : Nat) : List Byte × List (Nat × Nat) :=
  let gs := List.range ((len + 31) / 32)
  let bs := gs.flatMap (fun i =>
    let b := clusterByte c (o + 32 * i)
    scratchRead s b.1 b.2 32)
  let bad := gs.filter (fun i => !tagPass acc (bank s (clusterByte c (o + 32 * i)).1) || blockHeld s .bag (c / 128))
  (bs.take len, bad.map (fun i => (i, (clusterByte c (o + 32 * i)).1)))

/-- Element i of a run, as a two's-complement or minifloat value scaled by 2^10 (R43). -/
def runElem (f : Nat) (bs : List Byte) (i : Nat) : Int :=
  let w := fmtBits f
  let lo := w * i
  let raw := fieldAt bs (lo / 8) 2 / 2 ^ (lo % 8) % 2 ^ w
  match f with
  | 5 | 6 =>
    match fp6Val (f == 6) (BitVec.ofNat 6 raw) with
    | .fin neg sig e => signed neg ((sig : Int) * 2 ^ (e + 10).toNat)
    | _ => 0
  | 4 => sext 8 raw * 16
  | _ => sext w raw * 1024

/-- The code unit u of R45 scaled by 2^10, for a format and a width. -/
def codeUnit (f b : Nat) : Nat :=
  let sh := if b = 8 then 0 else if b = 6 then 2 else if b = 5 then 3 else 4
  match f with
  | 4 => 2 ^ (4 + sh)
  | 5 => if b = 8 then 2 ^ 7 else 2 ^ (6 + sh)
  | 6 => 2 ^ (8 + sh)
  | _ => 1024

/-- A quotient rounded to nearest, ties to even. -/
def rneDiv (x : Int) (d : Nat) : Int :=
  let q := x / (d : Int)
  let r2 := 2 * (x % (d : Int))
  if r2 < d then q else if (d : Int) < r2 then q + 1 else if q % 2 = 0 then q else q + 1

/-- A converted run: its codes, whether each was clamped, the window scale, whether a block's scale is NaN (R45). -/
structure FeedRun where
  codes : List Int
  clamped : List Bool
  scale : Byte
  nan : Bool
  deriving DecidableEq, Repr

/-- The conversion of an operand run of K elements to codes of width b (R45, R46). -/
def convertRun (f b K : Nat) (bs : List Byte) : FeedRun :=
  let m : Int := 2 ^ (b - 1) - 1
  if !fmtMx f then
    let xs := (List.range K).map (fun i => runElem f bs i / 1024)
    { codes := xs.map (clampInt (-m) m), clamped := xs.map (fun x => decide (x < -m ∨ m < x)), scale := 0x7F, nan := false }
  else
    let scales := slice bs (runElems f K) (K / 32)
    let good := scales.filter (fun e => decide (e ≠ 0xFF))
    let eMax := good.foldl (fun a e => max a e.toNat) 0
    let xs := (List.range K).map (fun i =>
      let e := scales.getD (i / 32) 0xFF
      if e = 0xFF then 0 else rneDiv (runElem f bs i) (codeUnit f b * 2 ^ (eMax - e.toNat)))
    { codes := xs.map (clampInt (-m) m), clamped := xs.map (fun x => decide (x < -m ∨ m < x))
      scale := if good = [] then 0xFF else BitVec.ofNat 8 eMax, nan := decide (good.length ≠ scales.length) }

/-- The codes of a run from symbol `k` on set to 0 (R50, R51). -/
def cutCodes (k : Nat) (xs : List Int) : List Int := xs.take k ++ List.replicate (xs.length - k) 0

/-- The symbol from which a granule of a run is needed; 0 where it holds a scale byte (R50; log entry 34). -/
def granuleSymbol (f K i : Nat) : Nat := if runElems f K < 32 * i + 32 ∧ fmtMx f then 0 else 8 * (32 * i) / fmtBits f

/-- The first symbol of a run for which its feeder lacks an operand, with the bank to blame, when it cannot read `bad` (R50). -/
def badSymbol (f K : Nat) (bad : List (Nat × Nat)) : Option (Nat × Nat) :=
  (bad.map (fun e => (granuleSymbol f K e.1, e.2))).foldl (fun best e => match best with
    | none => some e
    | some b => if e.1 < b.1 then some e else some b) none

/-- The tag the feeder of Zoetrope z acts with (R182). -/
def feedTag (s : State) (z : Nat) : BitVec 20 :=
  match quadPart s z with
  | some p => tagOf p 0xFFFF
  | none => 0

/-- How many free values a channel of a window takes: a byte for each of its run's, and the symbol at which it is cut. -/
def chanFree : Nat := 8192

/-- A channel's run as its feeder begins to read it: what it cannot read is free; the symbol it is cut at and the bank to blame
(R50, R54; log entries 34 and 90). -/
def feedStart (s : State) (z : Nat) (x : Zoe) (i ch f K o : Nat) : List Byte × Option (Nat × Nat) :=
  let r := feedRun s (feedTag s z) (feedCluster x z ch) o (runLen f K)
  (r.1.mapIdx (fun j b =>
    if r.2.any (fun e => decide (e.1 = j / 32)) then (Config.freeValue (s.free + chanFree * i + j)).setWidth 8 else b),
    badSymbol f K r.2)

/-- The channels of a stream: weight rows, then activation columns, with whether each is a weight channel. -/
def streamChans (twin : Bool) (q : Nat) : List (Nat × Bool) :=
  (tileRows twin q).map (fun r => (r, true)) ++ (tileCols twin q).map (fun c => (260 + c, false))

/-- A descriptor's format, width and offset for a weight or an activation channel. -/
def chanForm (d : BitVec 128) (w : Bool) : Nat × Nat × Nat :=
  if w then (wdWfmt d, wdWb d, wdWoff d) else (wdAfmt d, wdAb d, wdAoff d)

/-- Whether column position j of a stream carries code 0 for want of a session with work in its thread's batch. A group's front module
or a module by itself knows; elsewhere the partner's word for it is free (R84, R161, R163; log entry 91). -/
def blankCol (s : State) (z q j : Nat) : Bool :=
  match quadPart s z, (stream (zoe s z) q).thread with
  | some p, some t =>
    match find s.shows p with
    | some w =>
      let cols := max 1 w.hdr.batchCols
      let mine := (List.range cols).contains j && (s.sessions.any (fun e => decide (e.1 / 16777216 = p) && e.2.inStep
        && (match e.2.slot with
          | some k => decide (k / cols = t.val ∧ k % cols = j)
          | none => false)))
      if s.fab.declared && !s.fab.front then (Config.freeValue (s.free + chanFree * 388 + j)).getLsbD 0 else !mine
    | none => false
  | _, _ => false

/-- The window that a WINDOW descriptor starts at symbol t0, with the banks whose reads failed, one for each channel. -/
def feedWindow (s : State) (z q : Nat) (d : BitVec 128) (t0 : Nat) : WinRun × List Nat :=
  let x := zoe s z
  let K := wdK d
  let chans := (streamChans x.modeApplied q).mapIdx (fun i c =>
    let f := chanForm d c.2
    feedStart s z x i c.1 f.1 K f.2.2)
  let n := (tileRows x.modeApplied q).length
  let cuts := chans.map (fun c => c.2.map (·.1))
  ({ desc := d, t0 := t0
     wRuns := (chans.take n).map (·.1), aRuns := (chans.drop n).map (·.1)
     wCut := cuts.take n, aCut := cuts.drop n
     blank := (List.range (tileCols x.modeApplied q).length).map (blankCol s z q)
     underrun := cuts.any (·.isSome) }, chans.filterMap (fun c => c.2.map (·.2)))

/-- The bytes of a run that changed while its window was fed: each is the old or the new one, which is free (R142; log entry
90). -/
def mixBytes (s : State) (i : Nat) (old new : List Byte) : List Byte :=
  old.mapIdx (fun j b =>
    let b' := new.getD j b
    if b = b' ∨ (Config.freeValue (s.free + chanFree * i + j)).getLsbD 0 then b else b')

/-- A channel's conversion at the end of a window: its codes as it carried them, and the bank whose loss in mid-window cut it, at a
symbol that is free from the first it touches on (R50, R51, R142; log entry 90). -/
def feedEnd (s : State) (z : Nat) (x : Zoe) (i ch f b K o : Nat) (old : List Byte) (cut : Option Nat) :
    FeedRun × Option Nat :=
  let r := feedRun s (feedTag s z) (feedCluster x z ch) o (runLen f K)
  let c := convertRun f b K (mixBytes s i old r.1)
  let late : Option (Nat × Nat) := if cut.isSome then none else
    (badSymbol f K r.2).map (fun e =>
      (e.1 + (Config.freeValue (s.free + chanFree * i + 8191)).toNat % (K + 1 - e.1), e.2))
  let k := min (cut.getD K) ((late.map (·.1)).getD K)
  ({ c with codes := cutCodes k c.codes, clamped := c.clamped.take k }, late.bind (fun e => if e.1 < K then some e.2 else none))

/-! ### Time of a stream (R37, R38; log entry 34) -/

/-- The symbol after a window's last integration symbol. -/
def winEnd (w : WinRun) : Nat := w.t0 + wdK w.desc

/-- The window boundary that a stream has reached: the last one noted, when that lies within the last auxiliary cycle, else now (log
entry 34). -/
def boundarySym (s : State) (r : StreamSt) : Nat := if nowSym s < r.boundAt + 112 then max r.boundAt (nowSym s - 112) else nowSym s

/-! ### Trim elements (R89 to R93, R100) -/


/-- An element as module flash presets it before any commit; a slot outside the array holds coefficient 0 (R93, R103, R106). -/
def presetElem (z e : Nat) : TrimElem :=
  { drive := Config.presetDrive z e, target := (Config.presetDrive z e).toNat, coef := inArray e (Config.presetCoef z e) }

/-- Element e of Zoetrope z. -/
def elem (x : Zoe) (z e : Nat) : TrimElem := look x.trim.elems e (presetElem z e)

/-- The trim area with element e set. -/
def setElem (z e : Nat) (v : TrimElem) (t : ZoeTrim) : ZoeTrim := { t with elems := put t.elems e v (presetElem z e) }

/-- The compensation of a cell heater: the sum over its slots of coefficient × neighbour's drive / 1,024, rounded (R92, R93). -/
def compensation (x : Zoe) (z e : Nat) : Int :=
  let v := elem x z e
  rneShift ((List.range 8).foldl (fun t j =>
    match neighbour e j with
    | some n => t + (v.coef.extractLsb' (8 * j) 8).toInt * ((elem x z n).drive.toNat : Int)
    | none => t) 0) 10

/-- A drive kept within the band of element e: 64 to 3,900 for a phase heater, 0 to 4,095 for any other (R100). -/
def bandDrive (e : Nat) (want : Int) : BitVec 12 :=
  if e < 66560 ∧ e % 2 = 0 then BitVec.ofInt 12 (clampInt 64 3900 want) else BitVec.ofInt 12 (clampInt 0 4095 want)

/-- Every wrap-pending phase target moved by 3,200 codes toward the middle of the band, its drive with it, and the marks cleared, at
the start of a Show load or a full calibration (R100). -/
def moveWraps (z : Nat) (x : Zoe) : Zoe :=
  let x := (x.trim.elems.filter (fun e => e.2.wrap)).foldl (fun x e =>
    let target := if e.2.target < 1982 then e.2.target + 3200 else e.2.target - 3200
    { x with trim := setElem z e.1 { e.2 with
        wrap := false, target := target, drive := bandDrive e.1 (target - compensation x z e.1) } x.trim }) x
  { x with trim := { x.trim with wrapCnt := 0 } }

/-! ### Fencing (R58, R61, R79, R99) -/

/-- A gap that was forced by the gap rule and ends here holds the rule's count for 1 ms (R79). -/
def holdGap (now : Nat) (r : StreamSt) : StreamSt :=
  if r.gapHold = some 0 then { r with gapHold := some (now + 1000000), gapRuns := 0 } else r

/-- A gap in progress is cut short (R79, R99; log entry 92). -/
def cutGap (now : Nat) (x : Zoe) : Zoe :=
  { x with
    st0 := holdGap now x.st0, st1 := holdGap now x.st1
    trim := { x.trim with gapKind := .none, pilots := false, gapLeft := 0, gapNeedsPass := false } }

/-- What fencing does to the streams: nothing is due any more, and the run counts start again (R79; log entry 92). -/
def fenceStream (r : StreamSt) : StreamSt :=
  { r with fenceDue := false, gapDue := false, gapDeferred := false, stopped := false, paused := false, fenceRuns := 0, gapRuns := 0 }

/-- A Zoetrope is Fenced with a cause: fault 0x0203, its attenuator at the minimum, the Show of its partition stopped (R58, R61,
R106, R157). -/
def fenceZoe (z : Nat) (cause : Byte) (s : State) : State :=
  let x := zoe s z
  if x.state = .off ∨ x.state = .fenced then modZoe z (fun x => { x with fenceReq := 0 }) s
  else
    let p := quadPart s z
    let now := timeNs s
    let s := modZoe z (fun x =>
      let x := cutGap now x
      { x with
        state := .fenced, fenceCause := cause, fenceReq := 0, calDue := false
        st0 := fenceStream x.st0, st1 := fenceStream x.st1
        trim := setElem z 67332 { elem x z 67332 with drive := 0 } { x.trim with cause := 0, lightDue := false } }) s
    let s := dropThreads z s
    let s := raiseFault 0x0203 0 z (p.getD 0xFF) cause.toNat s
    match p with
    | some p => settleStop p (faultStop p s.fab.gid.toNat 0x15 false s)
    | none => s

/-- A Zoetrope is to be Fenced: at its next window boundary while it runs or while a gap's pilot window runs, else at once
(R39, R58, R99). -/
def requestFence (z : Nat) (cause : Byte) (s : State) : State :=
  let x := zoe s z
  if x.state = .running ∨ (x.state = .gap ∧ x.trim.pilots) then modZoe z (fun x => { x with fenceReq := cause }) s
  else fenceZoe z cause s

/-! ### Triggers of gaps and fences (R79, R85, R97, R98) -/

/-- Whether the gap rule is due on a stream. -/
def gapRuleMet (x : Zoe) (r : StreamSt) : Bool :=
  decide (x.prec.thrGap ≠ 0) && decide (max 1 x.prec.cntGap.toNat ≤ r.gapRuns) && r.gapHold.isNone

/-- Whether the fence rule is due on a stream. -/
def fenceRuleMet (x : Zoe) (r : StreamSt) : Bool :=
  decide (x.prec.thrFence ≠ 0) && decide (max 1 x.prec.cntFence.toNat ≤ r.fenceRuns)

/-- The gap rule asks for a gap; under Separated it is deferred (R79, R85). -/
def triggerGap (q : Nat) (x : Zoe) : Zoe :=
  if gapRuleMet x (stream x q) then
    onStream q (fun r => if x.prec.mix then { r with gapDeferred := true, gapRuns := 0 }
      else { r with gapDue := true, gapRuns := 0 }) x
  else x

/-- The fence rule asks for a fence (R79). -/
def triggerFence (q : Nat) (x : Zoe) : Zoe :=
  if fenceRuleMet x (stream x q) then onStream q (fun r => { r with fenceDue := true }) x else x

/-- The run rule asks for a gap: GAP_RUN has reached 16,000,000 symbols (R97). -/
def triggerRun (x : Zoe) : Zoe :=
  if 16000000 ≤ x.trim.gapRun.toNat then { x with trim := { x.trim with runDue := true } } else x

/-- ESTIMATE_GAP_TRIGGER (R79, R85). -/
def execEstimateGapTrigger (z : ZoeId) (q : Stream) (s : State) : Host.Outcome State Fault Refusal :=
  .next (modZoe z.val (triggerGap (streamNo q)) s)

/-- ESTIMATE_FENCE_TRIGGER (R79). -/
def execEstimateFenceTrigger (z : ZoeId) (q : Stream) (s : State) : Host.Outcome State Fault Refusal :=
  .next (modZoe z.val (triggerFence (streamNo q)) s)

/-- RUN_RULE_GAP_TRIGGER (R97, R98). -/
def execRunRuleGapTrigger (z : ZoeId) (s : State) : Host.Outcome State Fault Refusal :=
  .next (modZoe z.val triggerRun s)

/-- GAP_RULE_HOLD_END: the millisecond after a gap of the gap rule is over, and the count starts again (R79). -/
def execGapRuleHoldEnd (z : ZoeId) (q : Stream) (s : State) : Host.Outcome State Fault Refusal :=
  .next (
    match (stream (zoe s z.val) (streamNo q)).gapHold with
    | none => s
    | some 0 => s
    | some t => modStream z.val (streamNo q) (fun r => { r with gapHold := none, gapRuns := 0 }) (advanceTo t s))

/-! ### Gaps (R41, R95, R97 to R99) -/

/-- GAP_OWED in whole symbol periods (R98). -/
def owedSym (x : Zoe) : Nat := x.trim.owed200 / 200

/-- The pilot windows of a gap forced by the run rule: ceil(GAP_OWED / 256), at least one (R97). -/
def runGapLen (x : Zoe) : Nat := max 1 ((x.trim.owed200 + 51199) / 51200)

/-- The streams in use (R34). -/
def streamsOf (x : Zoe) : List Nat := if x.modeApplied then [0, 1] else [0]

/-- What a gap that begins does to one stream: a trigger that it serves is due no more, and the window after a forced gap says so
(R54, R79, R85). -/
def gapStream (byRun byEst used : Bool) (r : StreamSt) : StreamSt :=
  let serves := byEst && (r.gapDue || (byRun && r.gapDeferred))
  { r with
    stopped := false
    gapDue := false
    gapDeferred := r.gapDeferred && !serves
    gapHold := if serves then some 0 else r.gapHold
    forcedNext := r.forcedNext || (used && (byRun || byEst)) }

/-- A gap begins at symbol k: its kind, its counters, its length; a new pass where the estimate rule needs one (R79, R85, R97,
R98). -/
def startGap (k : Nat) (byRun byEst : Bool) (x : Zoe) : Zoe :=
  let forced := byRun || byEst
  { x with
    state := .gap
    st0 := gapStream byRun byEst true x.st0
    st1 := gapStream byRun byEst x.modeApplied x.st1
    prec := if byEst then { x.prec with weeGaps := x.prec.weeGaps + 1 } else x.prec
    trim := { x.trim with
      gapKind := if byEst then .estimate else if byRun then .run else .idle
      runDue := if forced then false else x.trim.runDue
      gaps := x.trim.gaps + 1
      gapForced := if forced then x.trim.gapForced + 1 else x.trim.gapForced
      gapLeft := if byRun then runGapLen x else 0
      gapNeedsPass := byEst
      gapPassed := false
      passPos := if byEst then 0 else x.trim.passPos
      pilots := true
      pilotAt := k + 256 } }

/-- Whether a stream lets a gap begin: it has stopped at a boundary for it, or runs nothing (R41). -/
def streamStill (r : StreamSt) : Bool := r.integ.isNone && (r.stopped || decide (r.qstate ≠ .running))

/-- A stream at its boundary, at symbol k, with a gap due: it stops, and the gap begins when every stream has (R41, R97). A deferred
trigger rides on a gap of the run rule (R85). -/
def stopForGap (k q : Nat) (x : Zoe) : Zoe :=
  let x := onStream q (fun r => { r with stopped := true }) x
  if (streamsOf x).all (fun i => streamStill (stream x i)) then
    let est := (streamsOf x).any (fun i => (stream x i).gapDue)
    let def' := (streamsOf x).any (fun i => (stream x i).gapDeferred)
    startGap k x.trim.runDue (est || (x.trim.runDue && def')) x
  else x

/-! ### The window boundary (R39, R40, R47 to R51, R80, R82, R353) -/

/-- The run grant of a Zoetrope in W (R351). -/
def runGrant (s : State) (z : Nat) : Nat := (look s.pwr.quads z {}).run

/-- The credit bucket at symbol k, in quarter credits (R353). -/
def fillCredits (g k : Nat) (x : Zoe) : Zoe :=
  { x with credits4 := min 32768 (x.credits4 + g * (k - x.creditAt)), creditAt := max k x.creditAt }

/-- The sequencer halts a queue at a descriptor it cannot run (R49). -/
def dscFail (z q code : Nat) (s : State) : State :=
  let i := (stream (zoe s z) q).pos.toNat
  let s := modStream z q (fun r => { r with qstate := .error, err := BitVec.ofNat 6 code }) s
  raiseFault 0x0201 0 z ((quadPart s z).getD 0xFF) (code * 65536 + i) s

/-- The reads of a window that met a bank of another owner, one for each channel: dropped and logged, with a Contained fault; those of
a Bag in reset only give code 0 (R50, R144, R186). -/
def feedFaults (z : Nat) (banks : List Nat) (s : State) : State :=
  forAll banks (fun b s => if tagPass (feedTag s z) (bank s b) then s else
    raiseFault 0x0202 0 z ((quadPart s z).getD 0xFF) b (dropAccess b 2 (feedTag s z) s)) s

/-- A window selected for audit joins the pending ones; the oldest of 16 is missed (R80, R82). -/
def pendWindow (q : Nat) (tag : BitVec 16) (x : Zoe) : Zoe :=
  let r := stream x q
  let full := decide (16 ≤ r.pend.length)
  let x := onStream q (fun r => { r with pend := (if full then r.pend.drop 1 else r.pend) ++ [{ wtag := tag }] }) x
  if full then { x with prec := { x.prec with audMiss := x.prec.audMiss + 1 } } else x

/-- A WINDOW descriptor begins at symbol t0 (R38, R47, R51, R54, R80). -/
def beginWindow (z q : Nat) (d : BitVec 128) (t0 : Nat) (s : State) : State :=
  let x := zoe s z
  let r := stream x q
  let f := feedWindow s z q d t0
  let n := 2 ^ x.prec.audLog.toNat
  let sel := decide (x.prec.audLog ≠ 0) && decide ((r.audIndex + x.prec.phase.toNat) % n = 0)
  let w := { f.1 with
    audit := sel, forcedGap := r.forcedNext
    thrFlag := x.prec.thrFlag, thrGap := x.prec.thrGap, thrFence := x.prec.thrFence }
  let s := feedFaults z f.2 (useFrees (chanFree * 388 + 128) s)
  modZoe z (fun x =>
    let x := onStream q (fun r => { r with
      integ := some w, pos := r.pos + 1, audIndex := r.audIndex + 1, forcedNext := false, paused := false, boundAt := t0 }) x
    let x := if sel then pendWindow q (wdTag d) x else x
    { x with state := .running, credits4 := x.credits4 - 4 * wdK d }) s

/-- A stream waits for grant from symbol k on, at first for one Marble cycle (R353). -/
def pauseAt (k : Nat) (r : StreamSt) : StreamSt := { r with paused := true, pausedAt := k + 16 }

/-- The whole Marble cycles that a paused stream waits beyond those counted, up to now (R353, R365). -/
def pauseCycles (s : State) (r : StreamSt) : Nat := if r.paused then (nowSym s - r.pausedAt + 15) / 16 else 0

/-- The pause of a stream brought up to now and counted in PWR_ZPAUSE (R353, R365). -/
def countPause (z q : Nat) (s : State) : State :=
  let n := pauseCycles s (stream (zoe s z) q)
  if n = 0 then s
  else modStream z q (fun r => { r with pausedAt := r.pausedAt + 16 * n }) { s with pwr.zpause := s.pwr.zpause + BitVec.ofNat 48 n }

/-- The symbol at which a stream's next window may begin: the boundary it has reached, or the end of its pause (R40, R353). -/
def startSym (s : State) (r : StreamSt) : Nat := if r.paused then r.pausedAt else boundarySym s r

/-- The descriptor that a stream runs next: NOPs passed over, at most `fuel`; the index wraps at the end of the RAM (R47; log entry
34). -/
def peekDesc (fuel : Nat) (x : Zoe) (pos : BitVec 14) : BitVec 128 :=
  match fuel with
  | 0 => 0
  | n + 1 =>
    let d := look x.ram pos.toNat 0
    if wdType d = 0 then peekDesc n x (pos + 1) else d

/-- Whether the next window of a stream lacks its grant or its credits (R40, R353). -/
def lacksGrant (s : State) (z q : Nat) : Bool :=
  let x := zoe s z
  let r := stream x q
  let d := peekDesc 16384 x r.pos
  let g := runGrant s z
  decide (r.qstate = .running ∧ dscError x.modeApplied q d = 0)
    && ((decide (wdType d = 1) && (decide (g = 0) || decide ((fillCredits g (startSym s r) x).credits4 < 4 * wdK d)))
      || (decide (wdType d = 2 ∧ x.state ≠ .running) && decide (g = 0)))

/-- A throttling pause: the stream waits at its boundary (R39, R40, R353). -/
def pauseStream (z q : Nat) (s : State) : State :=
  let k := boundarySym s (stream (zoe s z) q)
  if (stream (zoe s z) q).paused then s
  else { (modZoe z (fun x => { (onStream q (pauseAt k) x) with
      state := if runGrant s z = 0 then x.state else .running }) s) with pwr.zpause := s.pwr.zpause + 1 }

/-- What a stream that lacks no grant does with its next descriptor at a boundary, NOPs passed over, at most `fuel`. Descriptors
follow one another to the end of the RAM, in Twin mode too, and wrap there (R47 to R49, R58; log entry 34). -/
def nextDescriptor (fuel z q : Nat) (s : State) : State :=
  match fuel with
  | 0 => s
  | n + 1 =>
    let x := zoe s z
    let r := stream x q
    let d := look x.ram r.pos.toNat 0
    let e := dscError x.modeApplied q d
    let k := startSym s r
    if e ≠ 0 then dscFail z q e s
    else match wdType d with
      | 0 => nextDescriptor n z q (modStream z q (fun r => { r with pos := r.pos + 1 }) s)
      | 3 =>
        let s := modStream z q (fun r => { r with pos := r.pos + 1, paused := false, boundAt := k }) s
        let s := if r.gapDeferred then
            modZoe z (fun x => stopForGap k q (onStream q (fun r => { r with gapDue := true, gapDeferred := false, qstate := .idle }) x)) s
          else s
        sceneDone z q s
      | 2 => modZoe z (fun x => { (onStream q (fun r => { r with
          idle := some (k + idCount d), pos := r.pos + 1, paused := false }) x) with state := .running }) s
      | _ => beginWindow z q d k (modZoe z (fillCredits (runGrant s z) k) s)

/-- A Zoetrope with nothing running and nothing to run is Ready again (R58). -/
def settleReady (x : Zoe) : Zoe :=
  if x.state = .running ∧ (streamsOf x).all (fun q =>
      let r := stream x q
      r.integ.isNone && r.post.isEmpty && r.idle.isNone && decide (r.qstate ≠ .running)) then { x with state := .ready }
  else x

/-- A stream at its boundary in a Zoetrope called to calibration halts, and when every stream has, the Zoetrope enters Trimming (R102;
log entry 93). -/
def startCal (z now q : Nat) (x : Zoe) : Zoe :=
  let x := onStream q (fun r => { r with qstate := if r.qstate = .running then .halted else r.qstate, paused := false }) x
  if (streamsOf x).all (fun i => streamStill (stream x i)) then
    let x := moveWraps z (cutGap now x)
    { x with
      state := .trimming, calDue := false, halt0 := true, halt1 := true
      trim := { x.trim with cause := 1, since := now } }
  else { x with halt0 := true, halt1 := true }

/-- Compute light is lost and every stream has come to its boundary: the Zoetrope enters Trimming, waiting for light (R39, R57,
R58). -/
def fallDark (now : Nat) (x : Zoe) : Zoe :=
  if (streamsOf x).all (fun i => (stream x i).integ.isNone) then
    let dim (r : StreamSt) : StreamSt := { r with stopped := false, paused := false }
    let x := cutGap now x
    { x with
      state := .trimming, st0 := dim x.st0, st1 := dim x.st1
      trim := { x.trim with cause := if x.trim.light then 4 else 3, lightDue := false, since := now } }
  else x

/-- A stream stops because its Show does: at a window boundary when a fault stops it or an orderly stop runs (R152, R361). -/
def stopStream (z q : Nat) (s : State) : State :=
  let r := stream (zoe s z) q
  let s := modZoe z (fun x => settleReady (onStream q (fun r => { r with qstate := .idle, thread := none, paused := false }) x)) s
  match r.thread, quadPart s z with
  | some t, some p => abandonIdle p t.val (modThread z t.val (fun y => { y with running := false }) s)
  | _, _ => s

/-- What happens at a window boundary of a stream, in the order of R39: fencing, loss of light, a gap, a pause, a halt, the
next descriptor; while an orderly stop runs, and when a fault stops the Show, the stream stops (R39 to R41, R47 to R51, R58,
R63, R79, R97, R102, R152, R361). -/
def boundary (z q : Nat) (s : State) : State :=
  let s := modZoe z (fun x => triggerRun (triggerGap q (triggerFence q x))) (countPause z q s)
  let x := zoe s z
  let r := stream x q
  let p := quadPart s z
  if (x.state ≠ .ready ∧ x.state ≠ .running) ∨ r.integ.isSome ∨ r.idle.isSome ∨ blockHeld s .zoetrope z then s
  else if x.fenceReq ≠ 0 then fenceZoe z x.fenceReq s
  else if r.fenceDue then fenceZoe z 2 s
  else if !x.trim.light ∨ x.trim.lightDue then modZoe z (fallDark (timeNs s)) s
  else if x.calDue then modZoe z (startCal z (timeNs s) q) s
  else if r.gapDue ∨ x.trim.runDue ∨ (streamsOf x).any (fun i => (stream x i).gapDue) then
    modZoe z (stopForGap (startSym s r) q) s
  else if s.pwr.stopRun ∨ (p.bind (find s.shows)).any (·.faulted) then
    if r.qstate ≠ .running then modZoe z settleReady s
    else p.elim (stopStream z q s) (fun p => settleStop p (stopStream z q s))
  else if lacksGrant s z q then pauseStream z q s
  else if haltBit x q ∧ r.qstate = .running then
    modZoe z (fun x => settleReady (onStream q (fun r => { r with qstate := .halted, paused := false }) x)) s
  else if r.qstate ≠ .running then modZoe z settleReady s
  else
    let s := modZoe z settleReady (nextDescriptor 16384 z q s)
    p.elim s (fun p => settleStop p s)

/-- WINDOW_BOUNDARY: a stream is at a window boundary (R39). -/
def execWindowBoundary (z : ZoeId) (q : Stream) (s : State) : Host.Outcome State Fault Refusal :=
  .next (boundary z.val (streamNo q) s)

/-- IDLE_END: an IDLE's count has passed, and the stream is at a boundary (R47). -/
def execIdleEnd (z : ZoeId) (q : Stream) (s : State) : Host.Outcome State Fault Refusal :=
  .next (
    match (stream (zoe s z.val) (streamNo q)).idle with
    | none => s
    | some k => boundary z.val (streamNo q)
        (modStream z.val (streamNo q) (fun r => { r with idle := none, boundAt := k }) (advanceSym k s)))

end Sys2Proof.Machine
end

