-- ==== Sys2Proof/Machine/Zoetrope.lean ====
section
/-! DEFINITION. The end of a window, the reference check, the results, the expectation slots, the audit, and the ports of
space 01 (R38, R52 to R56, R65, R79, R81, R82, R98, R134, R136, R138, R141). -/

namespace Sys2Proof.Machine

open Sys2Proof

/-! ### The end of integration (R38, R51, R53, R98) -/

/-- FS_SHIFT of an output scale register (R55, R64). -/
def fsShift (x : Zoe) (osel : Nat) : Nat := (x.outScale.toList.getD osel 16).toNat

/-- The code-product sum of a weight channel and an activation channel. -/
def dotCodes (w a : List Int) : Int := (List.zipWith (· * ·) w a).foldl (· + ·) 0

/-- The result of a cell: the exact sum in LSB, with the cell's optical error, clamped to the ADC's range (R53, R55; log entry
35). -/
def cellValue (fs : Nat) (err : Int) (d : Int) : Int := clampInt (-512) 511 (rneShift d (fs - 9) + err)

/-- The physical modulator of a channel: its own, or the spare that is mapped to it (R29, R42). -/
def physMod (x : Zoe) (ch : Nat) : Nat :=
  let mapped (en lo w base : Nat) : Bool := x.spare.getLsbD en && decide (bitsOf x.spare.toNat (lo + w - 1) lo = ch - base)
  if ch < 128 then (if mapped 23 16 7 0 then 260 else ch)
  else if ch < 256 then (if mapped 31 24 7 128 then 261 else ch)
  else if ch < 260 then ch
  else if ch < 324 then (if mapped 7 0 6 260 then 390 else ch + 2)
  else (if mapped 15 8 6 324 then 391 else ch + 2)

/-- The index into a modulator's predistortion table: the code of width b shifted left by 8 − b, as an 8-bit two's-complement number
(R42). -/
def dacIndex (b : Nat) (code : Int) : Byte := BitVec.ofInt 8 (code * 2 ^ (8 - b))

/-- The DAC drive codes of a channel's codes (R42). -/
def driveCodes (x : Zoe) (ch b : Nat) (codes : List Int) : List Byte :=
  codes.map (fun c => look x.predist (256 * physMod x ch + (dacIndex b c).toNat) 0)

/-- The values of a window's cells, row after row. -/
def windowValues (x : Zoe) (q free : Nat) (w : WinRun) : List Int :=
  let rows := tileRows x.modeApplied q
  let cols := tileCols x.modeApplied q
  let n := w.aCodes.length
  let fs := fsShift x (wdOsel w.desc)
  let wd := w.wCodes.mapIdx (fun i cs => driveCodes x (rows.getD i 0) (wdWb w.desc) cs)
  let ad := w.aCodes.mapIdx (fun j cs => driveCodes x (260 + cols.getD j 0) (wdAb w.desc) cs)
  ((w.wCodes.zip wd).mapIdx (fun i wc => (w.aCodes.zip ad).mapIdx (fun j ac =>
    cellValue fs (Config.noise (free + n * i + j) wc.2 ac.2) (dotCodes wc.1 ac.1)))).flatten

/-- The symbol from which a channel has no operand: the one its failed read gave, or the first at which it came late (R50, R51). -/
def lateAt (ch : Nat) (late : List (Nat × Nat)) (cut : Option Nat) : Option Nat :=
  (late.filter (fun e => decide (e.1 = ch))).foldl (fun k e => some (min e.2 (k.getD e.2))) cut

/-- A window at the end of its integration: the codes that its channels carried, its column scales and NaN marks, the symbols in
which a code was clamped, and the banks whose loss cut a channel in mid-window (R45, R50, R51, R54, R65, R142, R163). -/
def endWindow (s : State) (z q : Nat) (late : List (Nat × Nat)) (w : WinRun) : (WinRun × List Nat) × List Nat :=
  let x := zoe s z
  let K := wdK w.desc
  let n := (tileRows x.modeApplied q).length
  let runs := w.wRuns ++ w.aRuns
  let cuts := w.wCut ++ w.aCut
  let chans := (streamChans x.modeApplied q).mapIdx (fun i c =>
    let f := chanForm w.desc c.2
    let r := feedEnd s z x i c.1 f.1 f.2.1 K f.2.2 (runs.getD i []) (cuts.getD i none)
    let at' := (lateAt c.1 late none).getD K
    let r := ({ r.1 with codes := cutCodes at' r.1.codes, clamped := r.1.clamped.take at' }, r.2)
    if n ≤ i && w.blank.getD (i - n) false then
      ({ r.1 with codes := List.replicate K 0, clamped := [] }, r.2) else r)
  let ws := (chans.take n).map (·.1)
  let as := (chans.drop n).map (·.1)
  let lost := chans.filterMap (·.2)
  let used := (streamChans x.modeApplied q).map (·.1)
  (({ w with
      wCodes := ws.map (·.codes), aCodes := as.map (·.codes), colScale := as.map (·.scale)
      nanCol := as.map (·.nan), nanRow := ws.any (·.nan)
      underrun := w.underrun || decide (lost ≠ []) || late.any (fun e => used.contains e.1 && decide (e.2 < K)) },
    (List.range K).filterMap (fun i =>
      if chans.any (fun c => c.1.clamped.getD i false) then some (w.t0 + i) else none)), lost)

/-- How many symbols from lo to hi − 1 the other stream's counted windows take up. -/
def overlap (lo hi : Nat) (spans : List WinSpan) : Nat :=
  spans.foldl (fun n p => n + (min hi p.hi - max lo p.lo)) 0

/-- The run symbols and the clamped symbols of a window added to the accounts of stream q; a symbol that both tiles integrate or
clamp in counts once (R65, R98, R99). -/
def countSpan (q : Nat) (p : WinSpan) (x : Zoe) : Zoe :=
  let others := (stream x (1 - q)).spans
  let n := p.hi - p.lo - overlap p.lo p.hi others
  let c := (p.clamps.filter (fun k => !others.any (fun o => o.clamps.contains k))).length
  let x := onStream q (fun r => { r with spans := (r.spans ++ [p]).drop (r.spans.length - 65) }) x
  { x with
    cClamp := x.cClamp + BitVec.ofNat 48 c
    trim := { x.trim with
      owed200 := x.trim.owed200 + 3 * n
      gapRun := satAdd x.trim.gapRun n
      runSym := x.trim.runSym + BitVec.ofNat 64 n } }

/-- INTEGRATION_END: a window's last symbol has passed: its runs as the feeders read them are converted, its cells sampled, and its
run and clamped symbols counted; a channel in `late` had no operand from a symbol on (R38, R42, R45, R50, R51, R65, R98, R142). -/
def execIntegrationEnd (z : ZoeId) (q : Stream) (late : List (Nat × Nat)) (s : State) : Host.Outcome State Fault Refusal :=
  let k := streamNo q
  .next (
    match (stream (zoe s z.val) k).integ with
    | none => s
    | some w =>
      let s := advanceSym (winEnd w) s
      let e := endWindow s z.val k late w
      let x := zoe s z.val
      let w' := { e.1.1 with values := windowValues x k (s.free + chanFree * 388) e.1.1 }
      let s := feedFaults z.val e.2 (useFrees (chanFree * 388 + 260 * 128) s)
      modZoe z.val (fun x => countSpan k { lo := w.t0, hi := winEnd w, clamps := e.1.2 }
        (onStream k (fun r => { r with integ := none, post := r.post ++ [w'], boundAt := winEnd w }) x)) s)

/-! ### The reference check (R53, R56, R77 to R79) -/

/-- Whether cell (row, column) is dead (R32). -/
def cellDead (x : Zoe) (r c : Nat) : Bool := x.dead.any (fun e => decide (e = (r, c)))

/-- Whether a value stands at a limit of the ADC (R53). -/
def isSat (v : Int) : Bool := decide (v = -512) || decide (v = 511)

/-- The value of the cell at row position i and column position j of a window's tile. -/
def valueAt (w : WinRun) (cols i j : Nat) : Int := w.values.getD (cols * i + j) 0

/-- The index of a reference cell's sum in an expectation slot (R56). -/
def expIndex (twin : Bool) (r c : Nat) : Nat :=
  if !twin then (r - 256) * 128 + c
  else if r < 258 then (r - 256) * 64 + c else 128 + (r - 258) * 64 + (c - 64)

/-- The squared differences of the reference cells that count (R31, R56). -/
def refErrors (x : Zoe) (q : Nat) (w : WinRun) (slot : ExpSlot) : List Nat :=
  let rows := tileRows x.modeApplied q
  let cols := tileCols x.modeApplied q
  let fs := fsShift x (wdOsel w.desc)
  (rows.mapIdx (fun i r => (i, r))).flatMap (fun ir =>
    if ir.2 < 256 ∨ x.badRefRows.getLsbD (ir.2 - 256) then []
    else (cols.mapIdx (fun j c => (j, c))).filterMap (fun jc =>
      let v := valueAt w cols.length ir.1 jc.1
      let e := rneShift (look slot.sums (expIndex x.modeApplied ir.2 jc.2) 0).toInt (fs - 9)
      if 511 < e.natAbs ∨ isSat v ∨ cellDead x ir.2 jc.2 then none else some ((v - e).natAbs ^ 2)))

/-- 8 × √(mean), rounded to nearest with ties to even, saturated at 0xFE; 0xFF where no cell remains (R56). -/
def weeOf (es : List Nat) : Byte :=
  let n := es.length
  let t := es.foldl (· + ·) 0
  if n = 0 then 0xFF
  else BitVec.ofNat 8 ((List.range 254).countP (fun k =>
    decide ((2 * k + 1) ^ 2 * n < 256 * t) || (decide ((2 * k + 1) ^ 2 * n = 256 * t) && decide (k % 2 = 1))))

/-- Whether an estimate exceeds a threshold (R78). -/
def exceeds (x : Zoe) (thr wee : Byte) (d : BitVec 128) : Bool :=
  decide (thr ≠ 0) && decide (wee ≠ 0xFF)
    && decide (thr.toNat * (look x.prec.nom (wdOsel d * 8 + wdKlog d) 0xFE).toNat < 16 * wee.toNat)

/-- A stream's run counts after an estimated window (R79). -/
def countRuns (x : Zoe) (wee : Byte) (w : WinRun) (r : StreamSt) : StreamSt :=
  if wee = 0xFF then r
  else { r with
    gapRuns := if r.gapHold.isSome then r.gapRuns else if exceeds x w.thrGap wee w.desc then r.gapRuns + 1 else 0
    fenceRuns := if exceeds x w.thrFence wee w.desc then r.fenceRuns + 1 else 0 }

/-- The precision counters after a window's estimate (R79, R88). -/
def countWee (flag : Bool) (wee : Byte) (p : ZoePrec) : ZoePrec :=
  { p with
    flagged := if flag then p.flagged + 1 else p.flagged
    noest := if wee = 0xFF then p.noest + 1 else p.noest
    hist := if wee = 0xFF then p.hist else modAt p.hist (wee.toNat / 16) 0 (fun c => satAdd c 1) }

/-- The first window sampled and not yet checked, marked. -/
def checkFirst (f : WinRun → WinRun) : List WinRun → List WinRun
  | [] => []
  | w :: ws => if w.checked then w :: checkFirst f ws else f w :: ws

/-- REFERENCE_CHECK: at K + 44 the descriptor's expectation slot gives the window its error estimate, and the thresholds act
on it (R38, R53, R56, R77, R79). -/
def execReferenceCheck (z : ZoeId) (q : Stream) (s : State) : Host.Outcome State Fault Refusal :=
  let x := zoe s z.val
  let k := streamNo q
  .next (
    match (stream x k).post.find? (fun w => !w.checked) with
    | none => s
    | some w =>
      let slot := look x.slots (wdSlot w.desc) {}
      let hit := slot.valid && decide (slot.wtag = wdTag w.desc)
      let wee := if hit then weeOf (refErrors x k w slot) else 0xFF
      let flag := exceeds x w.thrFlag wee w.desc
      modZoe z.val (fun x =>
        let x := onStream k (fun r => countRuns x wee w { r with
          weeLast := wee
          post := checkFirst (fun w => { w with checked := true, wee := wee, refLate := !hit, flagThr := flag }) r.post }) x
        { x with
          slots := if hit then put x.slots (wdSlot w.desc) { slot with valid := false } {} else x.slots
          prec := countWee flag wee x.prec })
        (advanceSym (winEnd w + 44) s))

/-! ### Results (R52 to R54, R65, R134) -/

/-- A result word (R53). A dead cell's value is written as 0 and never stands at a limit: its SAT is 0 (log entry 35). -/
def resultWord (w : WinRun) (dead : Bool) (v : Int) : Word :=
  w.wee ++ BitVec.ofBool (isSat v && !dead) ++ BitVec.ofBool dead ++ BitVec.ofBool w.underrun ++ BitVec.ofBool w.nolight
    ++ (wdTag w.desc).extractLsb' 0 4 ++ BitVec.ofInt 16 (if dead then 0 else v)

/-- The rows of a column's block that carry SAT. -/
def satAny (x : Zoe) (w : WinRun) (rows cols : List Nat) (j : Nat) : Bool :=
  (rows.mapIdx (fun i r => (i, r))).any (fun ir =>
    isSat (valueAt w cols.length ir.1 j) && !cellDead x ir.2 (cols.getD j 0))

/-- The trailer of the block of column position j (R54). -/
def trailer (x : Zoe) (q : Nat) (w : WinRun) (rows cols : List Nat) (j : Nat) : List Byte :=
  let st : Byte := BitVec.ofBool w.flagThr ++ BitVec.ofBool (satAny x w rows cols j) ++ BitVec.ofBool w.nolight
    ++ BitVec.ofBool w.underrun ++ BitVec.ofBool (w.nanRow || w.nanCol.getD j false) ++ BitVec.ofBool w.refLate
    ++ BitVec.ofBool w.forcedGap ++ BitVec.ofBool w.audit
  let mode := wdOsel w.desc * 32 + (if x.modeApplied ∧ q = 1 then 16 else 0) + (if x.modeApplied then 8 else 0) + wdKlog w.desc
  leBytes 2 (wdTag w.desc).toNat ++ [w.colScale.getD j 0, st, w.wee]
    ++ [BitVec.ofNat 8 (rows.countP (fun r => cellDead x r (cols.getD j 0))), BitVec.ofNat 8 mode, 0]
    ++ leBytes 8 (w.t0 / 16)

/-- The result block of column position j (R52). -/
def resultBlock (x : Zoe) (q : Nat) (w : WinRun) (rows cols : List Nat) (j : Nat) : List Byte :=
  let words := (rows.mapIdx (fun i r => (i, r))).flatMap (fun ir =>
    leBytes 4 (resultWord w (cellDead x ir.2 (cols.getD j 0)) (valueAt w cols.length ir.1 j)).toNat)
  let b := words ++ trailer x q w rows cols j
  b ++ List.replicate (blockSize x.modeApplied - b.length) 0

/-- A result block written into a Cluster, granule by granule, under the ownership check (R50, R52, R182). -/
def writeBlock (c o : Nat) (acc : BitVec 20) (bs : List Byte) (s : State) : State :=
  forAll (List.range (bs.length / 32)) (fun i s =>
    let b := clusterByte c (o + 32 * i)
    checkedWrite b.1 b.2 (slice bs (32 * i) 32) 2 acc s) s

/-- The pending audit of a window gets its window-done time and its estimate (R82). -/
def pendDone (tag : BitVec 16) (wee : Byte) (now : Nat) : List PendAudit → List PendAudit
  | [] => []
  | e :: es => if e.wtag = tag ∧ e.done.isNone then { e with wee := wee, done := some now } :: es
    else e :: pendDone tag wee now es

/-- The counters of windows (R65). -/
def countWindow (sat : Bool) (w : WinRun) (x : Zoe) : Zoe :=
  { x with
    cWin := x.cWin + 1
    cSat := if sat then x.cSat + 1 else x.cSat
    cUnderrun := if w.underrun then x.cUnderrun + 1 else x.cUnderrun
    cReflate := if w.refLate then x.cReflate + 1 else x.cReflate
    cNolight := if w.nolight then x.cNolight + 1 else x.cNolight }

/-- WINDOW_DONE: the result blocks of a checked window are in scratch, window-done is posted into every Marble of the Quad,
and the window is counted (R38, R52 to R54, R58, R65, R82, R134). -/
def execWindowDone (z : ZoeId) (q : Stream) (s : State) : Host.Outcome State Fault Refusal :=
  let x := zoe s z.val
  let k := streamNo q
  .next (
    match (stream x k).post with
    | [] => s
    | w :: rest =>
      if !w.checked then s
      else
        let s := advanceSym (winEnd w + 116) s
        let rows := tileRows x.modeApplied k
        let cols := tileCols x.modeApplied k
        let acc := feedTag s z.val
        let s := forAll (cols.mapIdx (fun j c => (j, c))) (fun jc s =>
          writeBlock (feedCluster x z.val (260 + jc.2)) (wdRoff w.desc) acc (resultBlock x k w rows cols jc.1) s) s
        let n := (if k = 0 then x.wdone0 else x.wdone1) + 1
        let s := quadWord z.val (if k = 0 then 0x7CC else 0x7D0) (n ++ wdTag w.desc) s
        let sat := (List.range cols.length).any (satAny x w rows cols)
        modZoe z.val (fun x => settleReady (countWindow sat w (onStream k (fun r => { r with
            post := rest
            pend := if w.audit then pendDone (wdTag w.desc) w.wee (timeNs s) r.pend else r.pend })
          (if k = 0 then { x with wdone0 := n } else { x with wdone1 := n })))) s)

/-! ### Ports of space 01 (R136, R138, R141) -/

/-- What a port offset names (R141, R174, R185). -/
inductive Port where
  | header (slot : Nat)
  | sums (slot first : Nat)
  | audit
  | dma
  | handOver
  | none
  deriving DecidableEq, Repr

/-- What a write of `len` bytes at a port offset reaches (R141). -/
def portAt (off len : Nat) : Port :=
  if off < 0x20000 then
    let k := off / 0x1000
    let o := off % 0x1000
    if o = 0 then (if len = 4 then .header k else .none)
    else if 4 ≤ o ∧ o + len ≤ 0x804 ∧ (o - 4) % 4 = 0 ∧ o % (if len = 32 then 4 else len) = 0
      ∧ (len = 4 ∨ len = 8 ∨ len = 16 ∨ len = 32) then
      .sums k ((o - 4) / 4)
    else .none
  else if off = 0x20000 ∧ len = 16 then .audit
  else if off = 0x30000 ∧ len = 16 then .dma
  else if off = 0x38000 ∧ len = 8 then .handOver
  else .none

/-- Expectation slot k. -/
def expSlot (x : Zoe) (k : Nat) : ExpSlot := look x.slots k {}

/-- Sums written to a slot that is not committed; SLOT_BUSY otherwise (R141). -/
def writeSums (z k first : Nat) (bytes : List Byte) (s : State) : Byte × State :=
  if (expSlot (zoe s z) k).valid then (4, s)
  else (0, modZoe z (fun x => { x with slots := modAt x.slots k {} (fun e => { e with
    sums := ((wordsAt bytes 0 (bytes.length / 4)).mapIdx (fun i w => (first + i, w))).foldl
      (fun m p => put m p.1 p.2 0) e.sums }) }) s)

/-- A header write commits a slot or abandons it (R56, R141). -/
def writeHeader (z k : Nat) (h : Word) (s : State) : Byte × State :=
  (0, modZoe z (fun x => { x with slots := modAt x.slots k {} (fun e => { e with
    valid := h.getLsbD 31, wtag := h.setWidth 16 }) }) s)

/-- The audit accumulators after an accepted record (R82, R88). -/
def addRecord (rec : BitVec 128) (wee : Byte) (p : ZoePrec) : ZoePrec :=
  let f (lo w : Nat) : Nat := (rec.extractLsb' lo w).toNat
  let sum := p.audSum.toInt + (rec.extractLsb' 64 32).toInt
  let est := decide (wee ≠ 0xFF)
  { p with
    audWins := p.audWins + 1
    audCells := satAdd p.audCells (f 32 16)
    audSum := BitVec.ofInt 64 (clampInt (-(2 ^ 63)) (2 ^ 63 - 1) sum)
    audSumsq := satAdd p.audSumsq (f 96 32)
    audWeesq := if est then satAdd p.audWeesq (wee.toNat ^ 2) else p.audWeesq
    audWeen := if est then p.audWeen + 1 else p.audWeen
    audSatrec := if rec.getLsbD 17 then p.audSatrec + 1 else p.audSatrec
    audMax := if p.audMax.toNat < f 48 16 then rec.extractLsb' 48 16 else p.audMax }

/-- The first pending window with a tag removed. -/
def dropPend (tag : BitVec 16) : List PendAudit → List PendAudit
  | [] => []
  | e :: es => if e.wtag = tag then es else e :: dropPend tag es

/-- An audit record: added when its tag and tile match a pending window, else discarded and counted (R81, R82). -/
def auditPort (z : Nat) (rec : BitVec 128) (s : State) : Byte × State :=
  (0, modZoe z (fun x =>
    let q := if rec.getLsbD 16 then 1 else 0
    let tag : BitVec 16 := rec.extractLsb' 0 16
    match (stream x q).pend.find? (fun e => decide (e.wtag = tag)) with
    | none => { x with prec := { x.prec with audBadtag := x.prec.audBadtag + 1 } }
    | some e =>
      let x := onStream q (fun r => { r with pend := dropPend tag r.pend }) x
      { x with prec := addRecord rec e.wee x.prec }) s)

/-- A write of Marble n to a port of Zoetrope z: the status it completes with, none while a hand-over's scrub runs (R138,
R141, R174, R185). -/
def portWrite (n : MarbleId) (z off : Nat) (bytes : List Byte) (s : State) : Option Byte × State :=
  let some' (r : Byte × State) : Option Byte × State := (some r.1, r.2)
  let w (i : Nat) : Word := BitVec.ofNat 32 (fieldAt bytes (4 * i) 4)
  match portAt off bytes.length with
  | .none => (some 3, s)
  | .dma => some' (portDescriptor n z (BitVec.ofNat 128 (leNat bytes)) s)
  | .handOver => portHandOver n z (w 0) (w 1) s
  | k =>
    if !portOwner s n.toNat z then (some 2, s)
    else if blockHeld s .zoetrope z then (some 5, s)
    else match k with
      | .header i => some' (writeHeader z i (w 0) s)
      | .sums i first => some' (writeSums z i first bytes s)
      | _ => some' (auditPort z (BitVec.ofNat 128 (leNat bytes)) s)

/-- A port command: the write takes effect, the store it came from ends, and a status other than OK is recorded. -/
def portCommand (n : MarbleId) (z off : Nat) (bytes : List Byte) (s : State) : State :=
  if !portReach n.toNat z then s
  else
    let r := portWrite n z off bytes s
    match r.1 with
    | some st => endStore n.toNat (portAddr z off) bytes st r.2
    | none => r.2

/-- EXPECTATION_SUM_WRITE: a write to the sums of an expectation slot (R141). -/
def execExpectationSumWrite (n : MarbleId) (z : ZoeId) (off : BitVec 26) (bytes : List Byte) (s : State) :
    Host.Outcome State Fault Refusal :=
  .next (portCommand n z.val off.toNat bytes s)

/-- EXPECTATION_HEADER_WRITE: an RSTW to a slot's header (R56, R141). -/
def execExpectationHeaderWrite (n : MarbleId) (z : ZoeId) (slot : Fin 32) (hdr : Word) (s : State) :
    Host.Outcome State Fault Refusal :=
  .next (portCommand n z.val (0x1000 * slot.val) (leBytes 4 hdr.toNat) s)

/-- AUDIT_RECORD: an RSTV2 to the audit port (R81, R82, R141). -/
def execAuditRecord (n : MarbleId) (z : ZoeId) (rec : BitVec 128) (s : State) : Host.Outcome State Fault Refusal :=
  .next (portCommand n z.val 0x20000 (leBytes 16 rec.toNat) s)

/-- A remote load completes: its status is recorded, and the Marble that waits for it takes the data and goes on (R123). -/
def endLoad (o : Outst) (bytes : List Byte) (st : Byte) (m : Marble) : Marble :=
  let m := recordStatus st m
  match o.op with
  | .load k d _ =>
    if m.waiting ≠ .remote then m
    else
      let m := { m with waiting := .none }
      let v := d.extractLsb' 0 3
      let lo := BitVec.ofNat 64 (leNat (slice bytes 0 8))
      advance (if k = 4 then setM d (BitVec.ofNat 32 (leNat (slice bytes 0 4))) m
        else if k = 8 then setV v lo m
        else setV (v + 1) (BitVec.ofNat 64 (leNat (slice bytes 8 8))) (setV v lo m))
  | _ => m

/-- SPACE01_BAD_ACCESS: an access to space 01 that R141 does not name completes with BAD_ADDR and has no effect (R138, R141,
R175); what a load then returns is free (log entry 36). -/
def execSpace01BadAccess (n : MarbleId) (z : ZoeId) (off : BitVec 26) (acc : Access) (len : Nat) (s : State) :
    Host.Outcome State Fault Refusal :=
  .next (
    if !portReach n.toNat z.val then s
    else match acc with
      | .write =>
        if portAt off.toNat len ≠ .none then s
        else modMarble n.toNat (fun m =>
          let p : Outst → Bool := fun o => match o.op with
            | .store a bs => decide (a.toNat = portAddr z.val off.toNat ∧ bs.length = len)
            | _ => false
          recordStatus 3 { m with outst := removeFirst p m.outst }) s
      | .read => useFrees 16 (modMarble n.toNat (fun m =>
          let p : Outst → Bool := fun o => match o.op with
            | .load k _ a => decide (a.toNat = portAddr z.val off.toNat ∧ k = len)
            | _ => false
          match m.outst.find? p with
          | none => recordStatus 3 m
          | some o => endLoad o (freeBytes s 16) 3 { m with outst := removeFirst p m.outst }) s))

/-- AUDIT_TIMEOUT: the oldest pending window of a stream whose window-done lies 1 ms back has no record: it is missed (R82). -/
def execAuditTimeout (z : ZoeId) (q : Stream) (s : State) : Host.Outcome State Fault Refusal :=
  let k := streamNo q
  .next (
    match (stream (zoe s z.val) k).pend.find? (fun e => e.done.isSome) with
    | none => s
    | some e =>
      let s := advanceTo (e.done.getD 0 + 1000000) s
      modZoe z.val (fun x =>
        let x := onStream k (fun r => { r with pend := dropPend e.wtag r.pend }) x
        { x with prec := { x.prec with audMiss := x.prec.audMiss + 1 } }) s)

end Sys2Proof.Machine
end

