-- ==== Sys2Proof/Machine/MarbleRemote.lean ====
section
/-! DEFINITION. The remote and system instructions of the Marbles, and what ends their waits (R112, R116, R119, R123, R128,
R129, R136 to R140). -/

namespace Sys2Proof.Machine

open Sys2Proof

/-! ### Remote instructions (R123, R137) -/

/-- A remote instruction that executes takes one of the Marble's four outstanding operations; the fifth stalls at issue
(R123). -/
def issueRemote (n : MarbleId) (p : BitVec 2) (legal urgent : Bool) (s : State) (op : Marble → RemoteOp) : State :=
  issue n legal s fun m =>
    if !executes m p then setMarble n.toNat (advance m) s
    else if 4 ≤ m.outst.length then s
    else
      let m' := { m with outst := m.outst ++ [{ op := op m, urgent := urgent }] }
      setMarble n.toNat (match op m with
        | .load _ _ _ => { m' with waiting := .remote }
        | _ => advance m') s

/-- A remote load of `len` bytes (R123). -/
def remoteLoad (n : MarbleId) (urgent : Bool) (f : FmtR) (len : Nat) (legal : Bool) (s : State) :
    Host.Outcome State Fault Refusal :=
  .next (issueRemote n f.p (legal && f.b == 0) urgent s (fun m => .load len f.d (getM m f.a)))

/-- A remote store (R123). -/
def remoteStore (n : MarbleId) (urgent : Bool) (f : FmtR) (legal : Bool) (data : Marble → List Byte) (s : State) :
    Host.Outcome State Fault Refusal :=
  .next (issueRemote n f.p (legal && f.b == 0) urgent s (fun m => .store (getM m f.a) (data m)))

/-- RLDW: 4 bytes into d (R123). -/
def execRldw (n : MarbleId) (urgent : Bool) (f : FmtR) (s : State) : Host.Outcome State Fault Refusal :=
  remoteLoad n urgent f 4 true s

/-- RLDV: 8 bytes into vd (R123). -/
def execRldv (n : MarbleId) (urgent : Bool) (f : FmtR) (s : State) : Host.Outcome State Fault Refusal :=
  remoteLoad n urgent f 8 (vecFieldOk f.d false) s

/-- RLDV2: 16 bytes into vd and vd + 1, vd even (R123). -/
def execRldv2 (n : MarbleId) (urgent : Bool) (f : FmtR) (s : State) : Host.Outcome State Fault Refusal :=
  remoteLoad n urgent f 16 (vecFieldOk f.d true) s

/-- RSTW: 4 bytes from d (R123). -/
def execRstw (n : MarbleId) (urgent : Bool) (f : FmtR) (s : State) : Host.Outcome State Fault Refusal :=
  remoteStore n urgent f true (fun m => leBytes 4 (getM m f.d).toNat) s

/-- RSTV: 8 bytes from vd (R123). -/
def execRstv (n : MarbleId) (urgent : Bool) (f : FmtR) (s : State) : Host.Outcome State Fault Refusal :=
  remoteStore n urgent f (vecFieldOk f.d false) (fun m => leBytes 8 (getV m (vecField f.d)).toNat) s

/-- RSTV2: 16 bytes from vd and vd + 1, vd even (R123). -/
def execRstv2 (n : MarbleId) (urgent : Bool) (f : FmtR) (s : State) : Host.Outcome State Fault Refusal :=
  remoteStore n urgent f (vecFieldOk f.d true)
    (fun m => leBytes 8 (getV m (vecField f.d)).toNat ++ leBytes 8 (getV m (vecField f.d + 1)).toNat) s

/-- RCPY: m[d][16:0] bytes from m[a] to m[b] (R123). -/
def execRcpy (n : MarbleId) (urgent : Bool) (f : FmtR) (s : State) : Host.Outcome State Fault Refusal :=
  .next (issueRemote n f.p true urgent s (fun m => .copy (getM m f.a) (getM m f.b) ((getM m f.d).toNat % 131072)))

/-! ### Waits and system instructions (R119, R123) -/

/-- MWAIT: d takes the dual-port word at m[a] once it differs from m[b] (R116, R123). -/
def execMwait (n : MarbleId) (f : FmtR) (s : State) : Host.Outcome State Fault Refusal :=
  .next (issue n true s fun m =>
    let a := (getM m f.a).toNat
    if !executes m f.p then setMarble n.toNat (advance m) s
    else if a % 4 ≠ 0 ∨ a < 0x780 ∨ 0x7FC < a then stopMarble n.toNat 3 0 s
    else
      let w := scratchWord s n.toNat a
      if w ≠ getM m f.b then setMarble n.toNat (advance (setM f.d w m)) s
      else setMarble n.toNat { m with waiting := .mwait f.d a (getM m f.b) } s)

/-- MWAIT_WAKE: the word that a Marble waits on has changed (R123, R129). -/
def execMwaitWake (n : MarbleId) (s : State) : Host.Outcome State Fault Refusal :=
  let m := marble s n.toNat
  .next (
    match m.waiting with
    | .mwait d a v =>
      let w := scratchWord s n.toNat a
      if !running s n.toNat ∨ w = v then s else setMarble n.toNat (advance (setM d w { m with waiting := .none })) s
    | _ => s)

/-- Whether a remote operation holds a FENCE: a store, a copy, or a hand-over, which is a store (R123, R185). -/
def holdsFence (o : Outst) : Bool :=
  match o.op with
  | .store _ _ => true
  | .copy _ _ _ => true
  | .handOver _ => true
  | _ => false

/-- FENCE: waits until every remote store and copy of the Marble has completed (R123). -/
def execFence (n : MarbleId) (f : FmtR) (s : State) : Host.Outcome State Fault Refusal :=
  .next (issue n (f.d == 0 && f.a == 0 && f.b == 0) s fun m =>
    if executes m f.p ∧ m.outst.any holdsFence then setMarble n.toNat { m with waiting := .fence } s
    else setMarble n.toNat (advance m) s)

/-- FENCE_RELEASE: the stores and copies that a FENCE waits for have completed (R123). -/
def execFenceRelease (n : MarbleId) (s : State) : Host.Outcome State Fault Refusal :=
  let m := marble s n.toNat
  .next (
    if m.waiting = .fence ∧ running s n.toNat ∧ !m.outst.any holdsFence then
      setMarble n.toNat (advance { m with waiting := .none }) s
    else s)

/-- NOP (R123). -/
def execNop (n : MarbleId) (f : FmtR) (s : State) : Host.Outcome State Fault Refusal :=
  .next (issueWhole n f.p (f.d == 0 && f.a == 0 && f.b == 0) (fun m => m) s)

/-- HALT: the Marble stops with cause 1 (R116, R123). -/
def execHalt (n : MarbleId) (f : FmtR) (s : State) : Host.Outcome State Fault Refusal :=
  .next (issue n (f.d == 0 && f.a == 0 && f.b == 0) s fun m =>
    if executes m f.p then stopMarble n.toNat 1 0 s else setMarble n.toNat (advance m) s)

/-- BAR: waits until every Marble of the Cluster that has not stopped has reached a BAR (R123). -/
def execBar (n : MarbleId) (f : FmtR) (s : State) : Host.Outcome State Fault Refusal :=
  .next (issue n (f.d == 0 && f.a == 0 && f.b == 0) s fun m =>
    if executes m f.p then setMarble n.toNat { m with waiting := .bar } s else setMarble n.toNat (advance m) s)

/-- BAR_RELEASE: every running Marble of a Cluster waits at a BAR, and all go on (R123). -/
def execBarRelease (c : ClusterId) (s : State) : Host.Outcome State Fault Refusal :=
  let ns := ((List.range 64).map (64 * c.toNat + ·)).filter (running s)
  .next (
    if ns.all (fun n => decide ((marble s n).waiting = .bar)) then
      forAll ns (fun n => modMarble n (fun m => advance { m with waiting := .none })) s
    else s)

/-- Marble cycles since the last module reset (R119). -/
def cycles (s : State) : DWord := BitVec.ofNat 64 (timeNs s) - s.ident.resetAt

/-- What a CSR reads as; a number not listed reads as 0 (R119). -/
def csrRead (s : State) (n : MarbleId) (m : Marble) (k : BitVec 5) : Word :=
  match k.toNat with
  | 0 => n.setWidth 32
  | 1 => (cycles s).setWidth 32
  | 2 => m.cycHi
  | 3 => m.rstatCount ++ m.rstatLast ++ BitVec.ofNat 8 m.outst.length
  | 4 => m.mflags.setWidth 32
  | _ => 0

/-- RDCSR: d takes CSR b; reading CYC_LO latches CYC_HI (R119, R123). -/
def execRdcsr (n : MarbleId) (f : FmtR) (s : State) : Host.Outcome State Fault Refusal :=
  .next (issueWhole n f.p (f.a == 0) (fun m =>
    let m' := if f.b = 1 then { m with cycHi := (cycles s).extractLsb' 32 32 } else m
    setM f.d (csrRead s n m f.b) m') s)

/-- WRCSR: CSR b takes a; only MFLAGS is writable, by writing ones to clear (R119, R123). -/
def execWrcsr (n : MarbleId) (f : FmtR) (s : State) : Host.Outcome State Fault Refusal :=
  .next (issueWhole n f.p (f.d == 0) (fun m =>
    if f.b = 4 then { m with mflags := m.mflags &&& ~~~((getM m f.a).setWidth 3) } else m) s)

/-- TRAP: the Marble stops with cause 5 and code b (R116, R123). -/
def execTrap (n : MarbleId) (f : FmtR) (s : State) : Host.Outcome State Fault Refusal :=
  .next (issue n (f.d == 0 && f.a == 0) s fun m =>
    if executes m f.p then stopMarble n.toNat 5 f.b s else setMarble n.toNat (advance m) s)

/-! ### Completion of remote operations (R128, R129, R136 to R138, R140) -/

/-- The bank and bank address that Marble n's space 00 fabric address names (R136). -/
def remoteByte (n a : Nat) : Nat × Nat := fabricByte (halfOf n) a

/-- A remote read of `len` bytes: its status and its data; a failing check gives zeros, and what any other failure gives is
free (R136, R138, R369; log entry 36). -/
def remoteRead (n a len align : Nat) (s : State) : Byte × List Byte × State :=
  let open' := freeBytes s 32
  if a / 2 ^ 30 ≠ 0 ∨ a % align ≠ 0 then (3, open', useFrees 32 s)
  else
    let b := remoteByte n a
    let acc := marbleTag s n
    if blockHeld s .bag (b.1 / 8192) then (5, open', useFrees 32 s)
    else if tagPass acc (bank s b.1) then (0, scratchRead s b.1 b.2 len, s)
    else (2, List.replicate len 0, dropAccess b.1 0 acc s)

/-- A remote write, of a store or of a flit of a copy, one router write to each row of 16 bytes; `lost` tells the rows of which the
Marble of the bank wrote the same dual-port word in the same cycle: its status, none while a hand-over's scrub runs (R128, R136,
R138, R141, R369). -/
def remoteWrite (n : MarbleId) (a : Nat) (bytes : List Byte) (align : Nat) (lost : Nat → Bool) (s : State) : Option Byte × State :=
  if a % align ≠ 0 ∨ 2 ≤ a / 2 ^ 30 then (some 3, s)
  else if a / 2 ^ 30 = 1 then
    portWrite n (16 * halfOf n.toNat + bitsOf a 29 26) (a % 67108864) bytes s
  else
    let b := remoteByte n.toNat a
    let acc := marbleTag s n.toNat
    let gone := (List.range ((bytes.length + 15) / 16)).filter (fun i => lost i && decide (0x780 ≤ b.2))
    if blockHeld s .bag (b.1 / 8192) then (some 5, s)
    else if !tagPass acc (bank s b.1) then (some 2, dropAccess b.1 0 acc s)
    else if gone = [] then (some 0, scratchWrite b.1 b.2 bytes s)
    else (some 1, forAll (List.range ((bytes.length + 15) / 16)) (fun i s =>
      if gone.contains i then countLoss b.1 1 s else scratchWrite b.1 (b.2 + 16 * i) ((bytes.drop (16 * i)).take 16) s) s)

/-- The first status other than OK. -/
def firstStatus (a b : Byte) : Byte := if a = 0 then b else a

/-- A copy, flit by flit: its status is that of its first flit that did not complete with OK (R123, R138, R141; log entry 36). -/
def remoteCopy (n : MarbleId) (src dst len : Nat) (lost : List Nat) (s : State) : Byte × State :=
  if len % 32 ≠ 0 ∨ 65536 < len ∨ src % 32 ≠ 0 ∨ dst % 32 ≠ 0 then (3, s)
  else (List.range (len / 32)).foldl (fun acc i =>
    let r := remoteRead n.toNat (src + 32 * i) 32 32 acc.2
    if r.1 = 3 ∨ r.1 = 5 then (firstStatus acc.1 r.1, r.2.2)
    else
      let w := remoteWrite n (dst + 32 * i) r.2.1 32 (fun j => lost.contains (2 * i + j)) r.2.2
      (firstStatus (firstStatus acc.1 r.1) (w.1.getD 0), w.2)) (0, s)

/-- Remote operation i of Marble n completes; posts and hand-overs complete elsewhere (R123, R128, R138, R140, R141). -/
def endRemote (n : MarbleId) (i : Nat) (lost : List Nat) (s : State) : State :=
  let k := n.toNat
  match (marble s k).outst[i]? with
  | none => s
  | some o =>
    let gone (s : State) : State := modMarble k (fun m => { m with outst := m.outst.eraseIdx i }) s
    match o.op with
    | .load len _ a =>
      let r := remoteRead k a.toNat len len s
      modMarble k (endLoad o r.2.1 r.1) (gone r.2.2)
    | .store a bytes =>
      let r := remoteWrite n a.toNat bytes bytes.length (fun j => lost.contains j) s
      match r.1 with
      | some st => modMarble k (recordStatus st) (gone r.2)
      | none => modMarble k (fun m => { m with
          outst := m.outst ++ [{ op := .handOver (fieldAt bytes 0 4 % 1048576), urgent := false }] }) (gone r.2)
    | .copy src dst len =>
      let r := remoteCopy n src.toNat dst.toNat len lost s
      modMarble k (recordStatus r.1) (gone r.2)
    | _ => s

/-- REMOTE_COMPLETION: remote operation i of Marble n completes; `lost` are the rows it wrote, in order, of which the Marble of the
bank wrote the same dual-port word in the same cycle (R123, R128, R138, R140, R141). -/
def execRemoteCompletion (n : MarbleId) (i : Fin 4) (lost : List Nat) (s : State) : Host.Outcome State Fault Refusal :=
  .next (endRemote n i.val lost s)

/-! ### Restart (R116) -/

/-- A Marble cleared as a restart or a Bag block reset clears it, RSTAT with its count of outstanding operations; MID and CYC are
kept (R116, R144). -/
def clearMarble (m : Marble) (cause : BitVec 3) : Marble :=
  { ({} : Marble) with cycHi := m.cycHi, cause := cause }

/-- Marble n's outstanding remote operations complete. -/
def endAllRemote (n : MarbleId) (s : State) : State := forAll [3, 2, 1, 0] (fun i => endRemote n i []) s

/-- CLUSTER_RESTART: the Marionette restarts the stopped Marbles of a Cluster at PC 0; what they had left outstanding has completed
before (R116, R144; log entry 101). -/
def execClusterRestart (c : ClusterId) (s : State) : Host.Outcome State Fault Refusal :=
  let ns := ((List.range 64).map (64 * c.toNat + ·)).filter (fun n => decide ((marble s n).cause ≠ 0))
  .next (
    if blockHeld s .bag (c.toNat / 128) then s
    else forAll ns (fun n s => modMarble n (fun m => clearMarble m 0) (endAllRemote (BitVec.ofNat 20 n) s)) s)

end Sys2Proof.Machine
end

