-- ==== Sys2Proof/Machine/Trim.lean ====
section
/-! DEFINITION. The trim engines, pilot windows and passes, gaps, light, calibration, and the states Off, Warming and
Trimming (R57, R58, R63, R89 to R106). -/

namespace Sys2Proof.Machine

open Sys2Proof

/-! ### Trim elements and visits (R89 to R93, R100) -/

/-- The elements that trim engine n serves, in index order (R91). -/
def engineElems (n : Nat) : List Nat :=
  let cells := (List.range 260).flatMap (fun r => (List.range 8).flatMap (fun c =>
    [2 * (128 * r + 8 * n + c), 2 * (128 * r + 8 * n + c) + 1]))
  let cpl := if n < 4 then (List.range 49).map (fun i => 66560 + 49 * n + i)
    else (List.range 48).map (fun i => 66560 + 196 + 48 * (n - 4) + i)
  cells ++ cpl ++ (if n = 0 then [67332] else [])

/-- Whether cell (row, column) receives light: in Twin mode only the two tiles do (R34, R96). -/
def cellLit (twin : Bool) (r c : Nat) : Bool :=
  !twin || (decide (r < 128 ∨ r = 256 ∨ r = 257) == decide (c < 64))

/-- π × 10^20, rounded, as R92 uses it. -/
def piScaled : Nat := 314159265358979323846

/-- GAIN of element e: of its kind, twice as much during a full calibration and a Show load (R92, R108). -/
def gainOf (t : ZoeTrim) (e : Nat) : Nat :=
  (if 66560 ≤ e then (if e = 67332 then t.gainAtt else t.gainCpl) else if e % 2 = 0 then t.gainPh else t.gainBal).toNat
    * if t.cause = 1 ∨ t.cause = 2 then 2 else 1

/-- Codes per π of element e; for a coupler and the attenuator, of which R92 names no other, those of the phase heaters (R92; log
entry 37). -/
def hpiOf (t : ZoeTrim) (e : Nat) : Nat := (if e < 66560 ∧ e % 2 = 1 then t.hpiBal else t.hpiPh).toNat

/-- RNE(GAIN / 256 × err × HPI / π), where err is `sum` / `n` millionths (R92). -/
def correction (t : ZoeTrim) (e n : Nat) (sum : Int) : Int :=
  rneDiv (sum * (gainOf t e * hpiOf t e * 10 ^ 20 : Nat)) (256 * n * 1000000 * piScaled)

/-- Whether the spare coupler of channel j (weight channels 0 to 255, then activation channels) leads to its spare (R29, R89). -/
def spareOf (x : Zoe) (j : Nat) : Bool :=
  let ch := if j < 256 then j else j + 4
  decide (physMod x ch ≠ if ch < 260 then ch else ch + 2)

/-- The set point of a coupler or of the attenuator in millionths: the even split of Full mode or the one half of Twin mode, the
spare's path where one is mapped, and the detector power, which Twin mode halves at the input (R33 to R35, R92, R94). -/
def setPoint (x : Zoe) (e : Nat) : Int :=
  let j := e - 66560
  if e = 67332 then x.detpwr.toNat * (if x.modeApplied then 5000 else 10000)
  else if 66948 ≤ e then (if spareOf x (e - 66948) then 1000000 else 0)
  else if !x.modeApplied then 500000
  else
    let inA := if j < 260 then j < 128 ∨ j = 256 ∨ j = 257 else j - 260 < 64
    if inA then 1000000 else 0

/-- The pilot results that have accumulated for cell element e since its last visit (R92, R95, R99). -/
def accCount (t : ZoeTrim) (e : Nat) (v : TrimElem) : Nat :=
  if e % 2 = 0 then t.phN - max v.accN t.phFrom else t.balN - max v.accN t.balFrom

/-- A visit to element e: its target moves when it has pilot results, or for a coupler or the attenuator always, from its tap
reading, which is free; its drive is recomputed and kept within its band; a clamped phase heater is marked (R92, R100; log entry
37). -/
def visitElem (z e free : Nat) (x : Zoe) : Zoe :=
  let v := elem x z e
  let t := x.trim
  let isCell := decide (e < 66560)
  if isCell && !cellLit x.modeApplied (e / 2 / 128) (e / 2 % 128) then x
  else
    let n := accCount t e v
    let move := if isCell then (if n = 0 then 0 else correction t e n (Config.pilotSum t.accKey e n))
      else correction t e 1 (Config.tapRatio (free + e) - setPoint x e)
    let target := v.target - move
    let want := target - (if isCell then compensation x z e else 0)
    let out := isCell && e % 2 == 0 && (decide (want < 64) || decide (3900 < want))
    let seen := if e % 2 = 0 then t.phN else t.balN
    let t := setElem z e { v with
      drive := bandDrive e want, target := target, accN := seen, wrap := v.wrap || out } t
    { x with trim := if out && !v.wrap then { t with clamp := t.clamp + 1, wrapCnt := satInc t.wrapCnt } else t }

/-- Whether the trim loops run: not with drives held, for want of light, in Off, Warming or Fenced (R106, R108). -/
def loopsRun (x : Zoe) : Bool := x.trim.light && decide (x.state = .trimming ∨ x.state = .ready ∨ x.state = .running ∨ x.state = .gap)

/-- TRIM_ROUND: trim engine e starts its round and visits each of its elements in index order (R91 to R93, R100). -/
def execTrimRound (z : ZoeId) (e : Fin 16) (us : Byte) (s : State) : Host.Outcome State Fault Refusal :=
  .next (
    if !loopsRun (zoe s z.val) then s
    else
      let free := s.free
      useFrees 67333 (modZoe z.val (fun x =>
        let x := (engineElems e.val).foldl (fun x k => visitElem z.val k free x) x
        { x with trim := { x.trim with engRound := put x.trim.engRound e.val us 0 } }) s))

/-! ### Failed channels (R30, R31, R94) -/

/-- Whether no reference row of the Zoetrope, or of one of its Twin tiles, works (R31). -/
def noRefRow (twin : Bool) (bad : BitVec 4) : Bool :=
  if twin then (bad.getLsbD 0 && bad.getLsbD 1) || (bad.getLsbD 2 && bad.getLsbD 3) else decide (bad = 0xF)

/-- The value at position k of a list in rising order. -/
def nthOf (xs : List Nat) (k : Nat) : Nat :=
  (xs.find? (fun v => decide (xs.countP (fun a => decide (a < v)) ≤ k ∧ k < xs.countP (fun a => decide (a ≤ v))))).getD 0

/-- The channels of one side, from channel `base` on, whose tap power lies below 50 % or above 150 % of the side's median (R94). -/
def sideBad (base : Nat) (taps : List Nat) : List Nat :=
  let m := nthOf taps ((taps.length - 1) / 2) + nthOf taps (taps.length / 2)
  (taps.mapIdx (fun i v => (base + i, v))).filterMap (fun e => if 4 * e.2 < m ∨ 3 * m < 4 * e.2 then some e.1 else none)

/-- The channels out of range by the tap powers last measured (R94). -/
def tapBad (taps : List Nat) : List Nat := sideBad 0 (taps.take 260) ++ sideBad 260 (taps.drop 260)

/-- Channels out of range over a pass: one that has been for eight passes is failed (R94). -/
def channelRuns (t : ZoeTrim) : ZoeTrim × List Nat :=
  let bad := tapBad t.taps
  let runs := bad.map (fun ch => (ch, look t.badRuns ch 0 + 1))
  ({ t with badRuns := runs }, runs.filterMap (fun e => if e.2 = 8 then some e.1 else none))

/-- A channel joins the failed ones. -/
def addFailed (ch : Nat) (xs : List Nat) : List Nat := if xs.contains ch then xs else xs ++ [ch]

/-- The calibration record in force of a Zoetrope (R103). -/
def flashRec (t : ZoeTrim) : CalRec := if t.flashInB then t.flashB else t.flashA

/-- The record in force with the list of failed channels changed (R30). -/
def modFlashFailed (f : List Nat → List Nat) (t : ZoeTrim) : ZoeTrim :=
  if t.flashInB then { t with flashB := { t.flashB with failed := f t.flashB.failed } }
  else { t with flashA := { t.flashA with failed := f t.flashA.failed } }

/-- A failed channel is noted: a reference row is dropped, any other is recorded in module flash (R30, R31). -/
def noteFailed (ch : Nat) (x : Zoe) : Zoe :=
  if 256 ≤ ch ∧ ch < 260 then { x with badRefRows := x.badRefRows ||| BitVec.ofNat 4 (2 ^ (ch - 256)) }
  else { x with trim := modFlashFailed (addFailed ch) { x.trim with failed := addFailed ch x.trim.failed } }

/-- A channel fails: a reference row fences only when no row works, any other fences with cause 9 (R30, R31, R61). -/
def failChannel (z ch : Nat) (s : State) : State :=
  let s := modZoe z (noteFailed ch) s
  if 256 ≤ ch ∧ ch < 260 then
    if noRefRow (zoe s z).modeApplied (zoe s z).badRefRows then requestFence z 6 s else s
  else requestFence z 9 s

/-! ### Pilot windows and gaps (R95 to R99) -/

/-- Whether R101 holds over a pass (R101). -/
def passConverged (r : PilotResult) : Bool :=
  decide (r.phRms.toNat ≤ 40 ∧ r.phMax.toNat ≤ 40 ∧ r.balRms.toNat ≤ 5 ∧ r.balMax.toNat ≤ 20 ∧ r.worstErr.toNat ≤ 10)

/-- A pass is complete (R94, R96, R101). -/
def completePass (now : Nat) (r : PilotResult) (x : Zoe) : Zoe :=
  { x with
    prec := { x.prec with lastPass := some now }
    trim := { x.trim with
      passes := x.trim.passes + 1, passPos := 0, gapPassed := true, conv := passConverged r
      phRms := r.phRms, phMax := r.phMax, balRms := r.balRms, balMax := r.balMax
      cplWorst := r.worst, cplErr := r.worstErr } }

/-- The kinds of pilot windows (R95). -/
inductive Pilot where
  | dark | weight | activation | inPhase | quadrature
  deriving DecidableEq, Repr

/-- The kind of the pilot window at position n of a pass: D, A, I, Q, then W, A, I, Q over and over (R95). -/
def pilotKind (n : Nat) : Pilot :=
  if n = 0 then .dark
  else match n % 4 with
    | 0 => .weight
    | 1 => .activation
    | 2 => .inPhase
    | _ => .quadrature

/-- The code that the weight modulators and the activation modulators are driven with in a pilot window, and whether the activation
side drives one arm only (R95). -/
def pilotCodes (k : Pilot) : Int × Int × Bool :=
  match k with
  | .dark => (0, 0, false)
  | .weight => (127, 0, false)
  | .activation => (0, 127, false)
  | .inPhase => (127, 127, false)
  | .quadrature => (127, 127, true)

/-- FS_SHIFT of a pilot window (R95). -/
def pilotFs : Nat := 22

/-- A pilot window of 256 symbols taken: the gap accounts, the pass, the taps and the results that it adds to the accumulators: Q
completes a phase error, I after W and A a balance error (R92, R94, R95, R96, R98). -/
def takePilot (free : Nat) (r : PilotResult) (x : Zoe) : Zoe :=
  let t := x.trim
  let owed := t.owed200 - 51200
  let pos := t.passPos.toNat
  let k := pilotKind pos
  let w := (List.range 260).map (fun i => r.taps.getD i 0)
  let a := (List.range 128).map (fun i => r.taps.getD (260 + i) 0)
  { x with trim := { t with
    owed200 := owed
    gapRun := if owed < 200 then 0 else t.gapRun
    runDue := t.runDue && decide (200 ≤ owed)
    gapSym := t.gapSym + 256
    phN := if k = .quadrature then t.phN + 1 else t.phN
    balN := if k = .inPhase ∧ 4 ≤ pos then t.balN + 1 else t.balN
    accKey := free
    taps := if k = .weight then w ++ (List.range 128).map (fun i => t.taps.getD (260 + i) 0)
      else if k = .activation then (List.range 260).map (fun i => t.taps.getD i 0) ++ a else t.taps
    pilotAt := t.pilotAt + 256
    passPos := t.passPos + 1
    gapLeft := t.gapLeft - 1 } }

/-- Whether a queue holds a descriptor to run (R58, R97). -/
def queueWaits (x : Zoe) : Bool :=
  (streamsOf x).any (fun q => decide ((stream x q).qstate = .running) && !haltBit x q)

/-- Whether a gap ends after the pilot window just taken (R97). -/
def gapOver (x : Zoe) : Bool :=
  match x.trim.gapKind with
  | .idle => queueWaits x || (decide (owedSym x = 0) && x.trim.gapPassed)
  | _ => decide (x.trim.gapLeft = 0) && (!x.trim.gapNeedsPass || x.trim.gapPassed)

/-- A gap ends at symbol k: Running when a queue holds a descriptor, else Ready; the gap rule's count is held for 1 ms after a gap it
forced (R58, R79). -/
def endGap (k now : Nat) (x : Zoe) : Zoe :=
  let x := cutGap now x
  { x with
    state := if queueWaits x then .running else .ready
    st0 := { x.st0 with boundAt := k }, st1 := { x.st1 with boundAt := k } }

/-- Whether a Zoetrope takes pilot windows: in a gap, or under the continuous pilots of a Trimming with light (R95, R97, R102,
R104). -/
def pilotsRun (x : Zoe) : Bool := (decide (x.state = .gap) && x.trim.pilots) || (decide (x.state = .trimming) && x.trim.light)

/-- A pass completes: its residuals, and the channels that it finds failed (R94, R96). -/
def endPass (z : Nat) (r : PilotResult) (s : State) : State :=
  let s := modZoe z (completePass (timeNs s) r) s
  let c := channelRuns (zoe s z).trim
  forAll c.2 (failChannel z) (modZoe z (fun x => { x with trim := c.1 }) s)

/-- PILOT_WINDOW_END: a pilot window is taken; its 1,024th completes the pass; a gap whose end it is ends, and a fence that is
due acts (R94 to R99, R101). -/
def execPilotWindowEnd (z : ZoeId) (r : PilotResult) (s : State) : Host.Outcome State Fault Refusal :=
  .next (
    if !pilotsRun (zoe s z.val) then s
    else
      let k := (zoe s z.val).trim.pilotAt
      let s := if (zoe s z.val).state = .gap then advanceSym k s else s
      let s := useFree (modZoe z.val (takePilot s.free r) s)
      let s := if (zoe s z.val).trim.passPos = 0 then endPass z.val r s else s
      let x := zoe s z.val
      if x.state ≠ .gap then s
      else if x.fenceReq ≠ 0 then fenceZoe z.val x.fenceReq s
      else if gapOver x then modZoe z.val (endGap k (timeNs s)) s else s)

/-- Time since the last completed pass exceeds 1 ms (R97). -/
def gapAged (s : State) (x : Zoe) : Bool :=
  match x.prec.lastPass with
  | some t => decide (t + 1000000 < timeNs s)
  | none => true

/-- IDLE_GAP_START: a Ready Zoetrope with light takes an idle gap when gap is owed or its last pass is over 1 ms old (R97). -/
def execIdleGapStart (z : ZoeId) (s : State) : Host.Outcome State Fault Refusal :=
  let x := zoe s z.val
  .next (
    if x.state = .ready ∧ x.trim.light ∧ (0 < owedSym x ∨ gapAged s x) ∧ !queueWaits x then
      modZoe z.val (startGap (nowSym s) false false) s
    else s)

/-! ### Light (R57, R58, R99, R106) -/

/-- LIGHT_LOST: the taps find compute light lost. Windows that integrate carry NOLIGHT, and one already sampled does not (log entry
95). A pilot window is discarded; a Ready or Gap Zoetrope, and a Running one at its next boundary, enters Trimming with its drives
held; a fence that is due there acts first (R39, R57, R58, R99). -/
def loseLight (z : Nat) (s : State) : State :=
  let s := modZoe z (fun x =>
    let dim (r : StreamSt) : StreamSt := { r with integ := r.integ.map (fun w => { w with nolight := true }) }
    let runs := decide (x.state = .ready ∨ x.state = .running ∨ x.state = .gap)
    { x with
      st0 := dim x.st0, st1 := dim x.st1
      trim := { x.trim with
        light := false
        lightDue := runs
        cause := if x.trim.cause = 4 then 3 else x.trim.cause } }) s
  let x := zoe s z
  if !x.trim.lightDue ∨ (stream x 0).integ.isSome ∨ (stream x 1).integ.isSome then s
  else if x.fenceReq ≠ 0 then fenceZoe z x.fenceReq s
  else modZoe z (fallDark (timeNs s)) s

/-- LIGHT_LOST (R57). -/
def execLightLost (z : ZoeId) (s : State) : Host.Outcome State Fault Refusal := .next (loseLight z.val s)

/-- LIGHT_RETURN: the taps find compute light again, and a Zoetrope that lost it reconverges (R57, R106, R108). -/
def execLightReturn (z : ZoeId) (s : State) : Host.Outcome State Fault Refusal :=
  .next (modZoe z.val (fun x =>
    if x.state = .off then x
    else { x with trim := { x.trim with
      light := true
      cause := if x.state = .trimming ∧ x.trim.cause = 3 then 4 else x.trim.cause
      since := if x.state = .trimming then timeNs s else x.trim.since } }) s)

/-- A Zoetrope leaves Trimming for Ready (R58, R106). -/
def zoeReady (x : Zoe) : Zoe := { x with state := .ready, trim := { x.trim with cause := 0 } }

/-- A Zoetrope leaves Trimming for Ready, where a fence or a calibration that waited for it acts (R39, R58, R102, R106). -/
def becomeReady (z : Nat) (s : State) : State :=
  let s := modZoe z zoeReady s
  let x := zoe s z
  if x.fenceReq ≠ 0 then fenceZoe z x.fenceReq s
  else if x.calDue then modZoe z (fun x => startCal z (timeNs s) 1 (startCal z (timeNs s) 0 x)) s
  else s

/-- Whether a pass has been completed by pilot windows since time t. -/
def passSince (x : Zoe) (t : Nat) : Bool :=
  match x.prec.lastPass with
  | some k => decide (t ≤ k)
  | none => false

/-- TRIM_CONVERGED: after the return of light or a block reset R101 holds, and the Zoetrope is Ready; where pilot windows have
completed a pass since, that pass decides (R57, R101, R106; log entry 96). -/
def execTrimConverged (z : ZoeId) (s : State) : Host.Outcome State Fault Refusal :=
  let x := zoe s z.val
  .next (
    if x.state = .trimming ∧ (x.trim.cause = 4 ∨ x.trim.cause = 5) ∧ x.trim.light ∧ (passSince x x.trim.since → x.trim.conv) then
      becomeReady z.val (modZoe z.val (fun x => { x with trim := { x.trim with conv := true } }) s)
    else s)

/-- TRIM_TIMEOUT: R101 is not met 50 ms after the return of light or a block reset: Fenced with cause 4 (R106). -/
def execTrimTimeout (z : ZoeId) (s : State) : Host.Outcome State Fault Refusal :=
  let x := zoe s z.val
  .next (
    if x.state = .trimming ∧ (x.trim.cause = 4 ∨ x.trim.cause = 5) ∧ x.trim.light then
      fenceZoe z.val 4 (advanceTo (x.trim.since + 50000000) s)
    else s)

/-! ### Off, Warming, calibration (R36, R100 to R106) -/

/-- The predistortion tables that the factory wrote to module flash (R103, R106). -/
def factoryPredist (z : Nat) : SMap Byte := ofList ((List.range 100352).map (Config.presetPredist z)) 0

/-- The light die's rails are released: presets, matrix and tables are loaded from the record in force, the heaters take their
presets, and the Zoetrope warms (R103, R106). -/
def startWarming (z now : Nat) (x : Zoe) : Zoe :=
  if x.state = .off then
    let rec' := flashRec x.trim
    { x with
      state := .warming
      predist := rec'.predist.getD (factoryPredist z)
      trim := { x.trim with elems := rec'.elems, since := now, cause := 0, wrapCnt := 0 } }
  else x

/-- WARMING_SETTLED: both diodes are steady and light is present: Trimming begins a full calibration (R106). -/
def execWarmingSettled (z : ZoeId) (s : State) : Host.Outcome State Fault Refusal :=
  .next (modZoe z.val (fun x =>
    if x.state = .warming ∧ x.trim.light then
      { x with state := .trimming, trim := { x.trim with cause := 1, since := timeNs s } }
    else x) s)

/-- WARMING_TIMEOUT: no settling within 500 ms of entry: Fenced with cause 7 (R106). -/
def execWarmingTimeout (z : ZoeId) (s : State) : Host.Outcome State Fault Refusal :=
  let x := zoe s z.val
  .next (if x.state = .warming then fenceZoe z.val 7 (advanceTo (x.trim.since + 500000000) s) else s)

/-- A Zoetrope whose light die has no rails is Off; its windows are gone (R106). -/
def zoeOff (x : Zoe) : Zoe :=
  let h (r : StreamSt) : StreamSt := { r with
    integ := none, post := [], idle := none, stopped := false, paused := false
    qstate := if r.qstate = .running then .idle else r.qstate
    gapHold := none, gapDue := false, gapDeferred := false, fenceDue := false, thread := none }
  { x with
    state := .off, fenceCause := 0, fenceReq := 0, calDue := false, st0 := h x.st0, st1 := h x.st1
    trim := { x.trim with light := false, lightDue := false, cause := 0, gapKind := .none, pilots := false } }

/-- LIGHT_DIE_RAILS_REMOVED: every Zoetrope of a half is Off (R106). -/
def execLightDieRailsRemoved (h : Half) (s : State) : Host.Outcome State Fault Refusal :=
  let k := match h with | .east => 0 | .west => 16
  .next (forAll ((List.range 16).map (k + ·)) (fun z s => dropThreads z (modZoe z zoeOff s)) s)

/-- Whether module flash may be written: the board temperature lies from 0 to 85 °C (R363). -/
def flashOk (s : State) : Bool :=
  let t := max (look s.pwr.sensors 154 {}).value (look s.pwr.sensors 155 {}).value
  decide (0 ≤ t ∧ t ≤ 1360)

/-- A flash write that would begin outside that range is deferred and recorded; kind 0 a calibration commit, 1 firmware
(R363). -/
def deferFlash (kind : Nat) (s : State) : State :=
  let s := if s.mrt.deferred.contains kind then s else { s with mrt.deferred := s.mrt.deferred ++ [kind] }
  settleAlert (raiseFault 0x0906 13 0 0xFF kind s)

/-- A calibration record is committed to the flash bank not in force, which is in force from now on (R103). -/
def commitRec (r : CalRec) (t : ZoeTrim) : ZoeTrim :=
  if t.flashInB then { t with flashA := r, flashInB := false, flashPend := none }
  else { t with flashB := r, flashInB := true, flashPend := none }

/-- The calibration records whose commit was deferred are committed (R103, R363). -/
def commitCal (s : State) : State :=
  forAll (List.range 32) (fun z => modZoe z (fun x => match x.trim.flashPend with
    | some r => { x with trim := commitRec r x.trim }
    | none => x)) s

/-- A free spare reaches channel ch (R29): its bit in ZOE_SPARE and the channel field. -/
def mapSpare (ch : Nat) (x : Zoe) : Option Zoe :=
  let (en, lo, w, base) : Nat × Nat × Nat × Nat :=
    if ch < 128 then (23, 16, 7, 0) else if ch < 256 then (31, 24, 7, 128) else if ch < 324 then (7, 0, 6, 260) else (15, 8, 6, 324)
  if x.spare.getLsbD en then none
  else
    let mask : Word := BitVec.ofNat 32 ((2 ^ w - 1) * 2 ^ lo)
    some { x with spare := (x.spare &&& ~~~mask) ||| BitVec.ofNat 32 (2 ^ en + (ch - base) * 2 ^ lo) }

/-- The spares of failed channels mapped in, for reference rows none; the channels that found theirs in use already (R29 to R31). -/
def mapSpares (chs : List Nat) (x : Zoe) : List Nat × Zoe :=
  (chs.filter (fun ch => decide (ch < 256 ∨ 260 ≤ ch))).foldl (fun acc ch =>
    match mapSpare ch acc.2 with
    | some y => (acc.1, y)
    | none => (acc.1 ++ [ch], acc.2)) ([], x)

/-- The compute sources of a half that are in service: one held off by the interlock still is (R290, R308). -/
def laserCount (s : State) (h : Nat) : Nat :=
  ((List.range 5).filter (fun j =>
    let x := look s.las.sources (5 * h + j) {}
    decide (x.slot ≠ 31 ∧ x.state ≠ .failed) && !x.switching)).length

/-- The detector power ceiling of a half, in 10 nW (R290). -/
def detCeil (s : State) (h : Nat) : Nat := 25 * laserCount s h

/-- A detector power setting limited to the ceiling of a half that has a source in service (R290). -/
def limitDet (s : State) (h : Nat) (d : BitVec 7) : BitVec 7 :=
  if detCeil s h = 0 ∨ d.toNat ≤ detCeil s h then d else BitVec.ofNat 7 (detCeil s h)

/-- ceil(log2 n). -/
def log2Up (n : Nat) : Nat := ((List.range 64).find? (fun m => decide (n ≤ 2 ^ m))).getD 64

/-- The nominal estimate of an output scale with code widths bw and ba, FS_SHIFT fs and K = 64 × 2^klog at detector power d / 100:
min(0xFE, round(8 σ)) (R78). Here σ² = N / D is the sum of the trim, noise and shot terms of R78 over one denominator. -/
def nomByte (bw ba fs klog d : Nat) : Byte :=
  let m := log2Up (64 * 2 ^ klog * (2 ^ (bw - 1) - 1) * (2 ^ (ba - 1) - 1))
  let n := 4 ^ m * ((1764 * 50 * d + 25 * 2500 + 196 * d ^ 2) * 16 + 336 * d ^ 2 * 2 ^ klog) + 2 ^ m * 2 ^ fs * 121 * d ^ 2 * 2 ^ klog
    + 8 * 4 ^ fs * d ^ 2 * 2 ^ klog
  let den := 100 * d ^ 2 * 2 ^ klog * 4 ^ fs
  BitVec.ofNat 8 ((List.range 254).countP (fun k =>
    decide ((2 * k + 1) ^ 2 * den < 256 * n) || (decide ((2 * k + 1) ^ 2 * den = 256 * n) && decide (k % 2 = 1))))

/-- The nominal estimate table of a Zoetrope at a detector power: byte OSEL × 8 + KLOG, 0xFE for an output scale that the Show does
not declare and for KLOG 7 (R78). -/
def nomTable (x : Zoe) (det : BitVec 7) : SMap Byte :=
  ofList ((List.range 64).map (fun i =>
    match x.widths.getD (i / 8) none with
    | none => (0xFE : Byte)
    | some w =>
      if i % 8 = 7 then 0xFE
      else nomByte (lwBits (w.toNat / 4)) (lwBits (w.toNat % 4)) (x.outScale.toList.getD (i / 8) 16).toNat (i % 8) det.toNat)) 0xFE

/-- The detector power and mode of the partition or Show take effect, with the nominal table (R36, R71, R78). -/
def applySettings (s : State) (z : Nat) (x : Zoe) : Zoe :=
  let x := { x with modeApplied := x.modeReq }
  match quadPart s z with
  | none => x
  | some p =>
    let det := limitDet s (z / 16) (part s p).detNext
    match find s.shows p with
    | none => { x with detpwr := det }
    | some _ => { x with
        detpwr := det
        prec := { x.prec with nom := nomTable x det } }

/-- The fence cause that a calibration's findings give, 0 for none. Where several apply, the order 3, 5, 9, 6, 4 is the model's choice
(R31, R32, R102; log entry 94). -/
def calCause (leftover : List Nat) (twin conv : Bool) (bad : BitVec 4) (r : CalResult) : Byte :=
  if 64 < r.dead.length then 3
  else if leftover ≠ [] then 5
  else if r.spareFailed then 9
  else if noRefRow twin bad then 6
  else if !(conv && r.errorOk) then 4
  else 0

/-- The fence cause at the 42 ms check of a Show load, 0 for none, in the same order (R31, R32, R104; log entry 94). -/
def reconfigCause (leftover : List Nat) (twin conv : Bool) (bad : BitVec 4) (r : CalResult) : Byte :=
  if 64 < r.dead.length then 3
  else if leftover ≠ [] then 5
  else if noRefRow twin bad then 6
  else if !conv then 4
  else 0

/-- The pass that a calibration or reconfiguration ends with, counted unless pilot windows have given it since time t (R96, R102,
R104; log entry 96). -/
def checkPass (z t : Nat) (r : PilotResult) (s : State) : State :=
  if passSince (zoe s z) t then s
  else endPass z r (modZoe z (fun x => { x with trim :=
    let owed := x.trim.owed200 - 1024 * 51200
    { x.trim with
      gapSym := x.trim.gapSym + 262144
      owed200 := owed
      gapRun := if owed < 200 then 0 else x.trim.gapRun
      runDue := x.trim.runDue && decide (200 ≤ owed)
      phN := x.trim.phN + 256
      balN := x.trim.balN + 255 } }) s)

/-- A measured coefficient replaces the factory's when it lies within 25 % of it (R101). -/
def keepCoef (factory measured : Byte) : Bool :=
  decide ((measured.toInt - factory.toInt).natAbs * 4 ≤ factory.toInt.natAbs)

/-- The coefficients of element e after step C of a calibration, and how many slots kept the factory's value (R93, R101). -/
def refineCoef (z e free : Nat) : BitVec 64 × Nat :=
  let f := inArray e (Config.presetCoef z e)
  let m := inArray e (Config.calCoef z e free)
  let ok (j : Nat) : Bool := keepCoef (f.extractLsb' (8 * j) 8) (m.extractLsb' (8 * j) 8)
  let byte (j : Nat) : Byte := if ok j then m.extractLsb' (8 * j) 8 else f.extractLsb' (8 * j) 8
  (byte 7 ++ byte 6 ++ byte 5 ++ byte 4 ++ byte 3 ++ byte 2 ++ byte 1 ++ byte 0,
    (List.range 8).countP (fun j => (neighbour e j).isSome && !ok j))

/-- Step C of a full calibration: the matrix refined, with the count of kept coefficients (R101, R102). -/
def refineMatrix (z free : Nat) (t : ZoeTrim) : ZoeTrim :=
  (List.range 66560).foldl (fun t e =>
    let c := refineCoef z e free
    { (setElem z e { look t.elems e (presetElem z e) with coef := c.1 } t) with kept := t.kept + c.2 }) { t with kept := 0 }

/-- FULL_CALIBRATION_DONE: a Zoetrope's full calibration, which runs with light at its taps, ends: dead cells, spares, reference
rows, tables, matrix and drives are as found, committed to flash, and the Zoetrope is Ready, or Fenced (R30 to R32, R36, R96, R100
to R103, R106). -/
def execFullCalibrationDone (z : ZoeId) (r : CalResult) (s : State) : Host.Outcome State Fault Refusal :=
  let x := zoe s z.val
  .next (
    if x.state ≠ .trimming ∨ x.trim.cause ≠ 1 ∨ !x.trim.light then s
    else
      let found := r.failed.foldl (fun xs c => addFailed c xs) x.trim.failed
      let sp := mapSpares found x
      let ms := 800 + (if sp.2.spare ≠ x.spare then 250 else 0) + (if r.again then 200 else 0)
      let s := advanceTo (x.trim.since + 1000000 * ms) s
      let free := s.free
      let y := applySettings s z.val { sp.2 with
        dead := r.dead.take 64
        badRefRows := ~~~r.refRows
        predist := ofList ((List.range 100352).map (fun i => Config.calPredist z.val i free)) 0
        trim := { (refineMatrix z.val free sp.2.trim) with failed := sp.1, hpiPh := r.hpiPh, hpiBal := r.hpiBal } }
      let s := checkPass z.val (x.trim.since + 700000000) r.pass (useFree (modZoe z.val (fun _ => y) s))
      let x := zoe s z.val
      let c := calCause sp.1 x.modeApplied x.trim.conv x.badRefRows r
      let rec' : CalRec := { elems := x.trim.elems, predist := some x.predist, spare := x.spare, failed := x.trim.failed }
      let s := if flashOk s then modZoe z.val (fun x => { x with trim := commitRec rec' x.trim }) s
        else deferFlash 0 (modZoe z.val (fun x => { x with trim := { x.trim with flashPend := some rec' } }) s)
      if x.state ≠ .trimming then s
      else if c ≠ 0 then fenceZoe z.val c s
      else becomeReady z.val (modZoe z.val (fun x => { x with prec := { x.prec with lastPass := some (timeNs s) } }) s))

/-- ZOE_RECONFIG_DONE: the 42 ms of a Show load's changes to a Zoetrope end, with light at its taps: mode, spares and detector power
are in force, and the Zoetrope is Ready, or Fenced (R30 to R32, R36, R96, R100, R104, R106, R151). -/
def execZoeReconfigDone (z : ZoeId) (r : CalResult) (s : State) : Host.Outcome State Fault Refusal :=
  let x := zoe s z.val
  .next (
    if x.state ≠ .trimming ∨ x.trim.cause ≠ 2 ∨ !x.trim.light then s
    else
      let s := advanceTo (x.trim.since + 42000000) s
      let sp := mapSpares x.trim.failed x
      let y := applySettings s z.val { sp.2 with
        dead := if r.dead.length ≤ 64 then r.dead else x.dead
        trim := { sp.2.trim with failed := sp.1 } }
      let s := checkPass z.val (x.trim.since + 38000000) r.pass (modZoe z.val (fun _ => y) s)
      let x := zoe s z.val
      let c := reconfigCause sp.1 x.modeApplied x.trim.conv x.badRefRows r
      if x.state ≠ .trimming then s else if c ≠ 0 then fenceZoe z.val c s else becomeReady z.val s)

/-! ### Queue halts (R63, R243) -/

/-- Whether a function reaches the window of Zoetrope z: the PF, or the VF of the partition that owns it (R60, R243). -/
def reachesZoe (s : State) (f : Fn) (z : Nat) : Bool :=
  match f with
  | .pf => true
  | .vf p => fnOn s f && ownsQuad s p.val z

/-- Whether a host register access to a block of a half cannot reach it: the West half lies across the inter-hub link, which is in
reset (R13, R321, R369; log entry 105). -/
def cutOff (s : State) (half : Nat) : Bool := s.d2d.ihlReset && decide (half = 1)

/-- ZOE_QCTL_HALT: the host sets a HALT bit; the queue stops at its next window boundary (R13, R60, R63). -/
def execZoeQctlHalt (f : Fn) (z : ZoeId) (q : Stream) (s : State) : Host.Outcome State Fault Refusal :=
  .next (
    if !reachesZoe s f z.val || cutOff s (z.val / 16) then s
    else modZoe z.val (fun x => match q with
      | .s0 => { x with halt0 := true }
      | .s1 => { x with halt1 := true }) s)

/-- ZOE_QCTL_RESUME: the host clears a HALT bit; the queue resumes at the next descriptor (R13, R60, R63). -/
def execZoeQctlResume (f : Fn) (z : ZoeId) (q : Stream) (s : State) : Host.Outcome State Fault Refusal :=
  .next (
    if !reachesZoe s f z.val || cutOff s (z.val / 16) then s
    else modZoe z.val (fun x =>
      let x := match q with
        | .s0 => { x with halt0 := false }
        | .s1 => { x with halt1 := false }
      onStream (streamNo q) (fun r => if r.qstate = .halted then { r with qstate := .running } else r) x) s)

end Sys2Proof.Machine
end

