-- ==== Sys2Proof/Machine/Lanes.lean ====
section
/-! DEFINITION. Lanes: their states, serialiser slices, allocation, release, margin tests, Idle, Dormant, health, and the
codewords that arrive on them (R269 to R278, R295 to R303). -/

namespace Sys2Proof.Machine

open Sys2Proof

/-! ### Slices (R269, R319) -/

/-- The UCIe modules of a chiplet's port that are up (R319, R325). -/
def kalModsUp (s : State) (c : Nat) : Nat :=
  ((List.range 4).filter (fun i =>
    let st := (look s.d2d.mods (65 * (c / 4) + 48 + 4 * (c % 4) + i) {}).state
    decide (st = 2 ∨ st = 3))).length

/-- The slices a chiplet may hold: min(112, 32 × modules up) (R269, R319). -/
def sliceLimit (s : State) (c : Nat) : Nat := min 112 (32 * kalModsUp s c)

/-- The positions of a chiplet (R312). -/
def chipLanes (c : Nat) : List Nat := (List.range 128).map (128 * c + ·)

/-- Whether a lane holds a slice. -/
def hasSlice (x : Lane) : Bool := decide (x.slice ≠ 127)

/-- The slices that a chiplet holds (R313). -/
def slicesHeld (s : State) (c : Nat) : Nat := ((chipLanes c).filter (fun l => hasSlice (lane s l))).length

/-- A free slice of a chiplet within its limit: the lowest (R269). -/
def freeSlice (s : State) (c : Nat) : Option (BitVec 7) :=
  if sliceLimit s c ≤ slicesHeld s c then none
  else ((List.range 112).find? (fun k =>
    (chipLanes c).all (fun l => decide ((lane s l).slice.toNat ≠ k)))).map (BitVec.ofNat 7)

/-! ### Credits of a lane (R277) -/

/-- A lane's share of the credit pool of a virtual channel (R277). -/
def laneShare (c : Nat) : Nat := if c = 0 then 4 else 32

/-- A lane's buffers join the pair's pools (R277). -/
def poolJoin (m : Nat) (s : State) : State :=
  forAll [0, 1, 2] (fun c => modVc m c (fun v => { v with pool := v.pool + laneShare c, credits := v.credits + laneShare c })) s

/-- A lane's buffers leave the pair's pools (R277). -/
def poolLeave (m : Nat) (s : State) : State :=
  forAll [0, 1, 2] (fun c => modVc m c (fun v => { v with pool := v.pool - laneShare c, credits := v.credits - laneShare c })) s

/-- Whether credits equal to a lane's share have come back unspent (R271, R277). -/
def shareBack (s : State) (m : Nat) : Bool := [0, 1, 2].all (fun c => decide ((laneShare c : Int) ≤ (vc s m c).credits))

/-! ### Resends (R271, R275) -/

/-- The lane on which a payload is resent: a Lit lane of its holder, for control any, with room in its retry buffer (R275,
R277). -/
def resendLane (s : State) (m : Nat) (u : Unacked) : Option Nat :=
  (if u.vc = 0 then litLanes s m else heldLit s m u.part).find? (fun l => decide ((lane s l).buf.length < 64))

/-- Payloads of module m's pair that wait to be resent go out, in order, on lanes with room (R271, R275). -/
def flushResend (m : Nat) (s : State) : State :=
  forAll (s.fab.resendQ.filter (fun e => decide (e.1 = m))) (fun e s =>
    match resendLane s m e.2 with
    | none => s
    | some l =>
      let u := { e.2 with lseq := (lane s l).txSeq }
      let s := modLane l (fun x => { x with txSeq := x.txSeq + 1, buf := x.buf ++ [u], idle := false }) s
      emit (.resend l u) { s with
        fab.retx := s.fab.retx + 1
        fab.resendQ := s.fab.resendQ.erase e }) s

/-- Payloads of a pair go out: those to be resent, then new ones (R275, R277). -/
def pumpPair (m : Nat) (s : State) : State := pump m (flushResend m s)

/-- A lane leaves its pair's striping at once: its unacknowledged payloads are resent on the pair's other lanes (R271). -/
def laneLeave (l : Nat) (s : State) : State :=
  match lanePartner s l with
  | none => s
  | some m =>
    let us := (lane s l).buf
    let s := modLane l (fun x => { x with buf := [], idle := false, nak := false, seen := [] }) s
    { s with fab.resendQ := s.fab.resendQ ++ us.map (fun u => (m, u)) }

/-- Whether a lane's buffers are in its pair's pools. -/
def inPool (x : Lane) : Bool := decide (x.state = .lit ∨ x.state = .draining)

/-- A lane leaves traffic for another state: its payloads are resent and its share of credits withdrawn (R271, R277). -/
def laneOut (l : Nat) (st : LState) (s : State) : State :=
  match lanePartner s l with
  | none => modLane l (fun x => { x with state := st }) s
  | some m =>
    let s := if inPool (lane s l) then poolLeave m (laneLeave l s) else s
    pumpPair m (modLane l (fun x => { x with state := st }) s)

/-! ### States (R295) -/

/-- A lane returns to Dark: its slice and its holder are free (R269, R295). -/
def laneDark (l : Nat) (s : State) : State :=
  modLane l (fun x => { x with
    slice := 127, holder := 0xE, fresh := true, afterComb := false, toDormant := false, relock := false, underTest := false })
    (laneOut l .dark s)

/-- A test of a lane ends without a result: the position is as it was before (R305). -/
def laneTestOff (l : Nat) (s : State) : State :=
  modLane l (fun x => { x with state := x.before, underTest := false, slice := 127, holder := 0xE }) s

/-- A lane is taken to Dark by an interlock hold, a chiplet reset or the loss of its pair; a Spared one stays, one under test
is as it was before (R295, R305). -/
def laneKill (l : Nat) (s : State) : State :=
  let x := lane s l
  if x.underTest then laneTestOff l s
  else if x.state = .dark ∨ x.state = .spared then s
  else laneDark l s

/-- The offset of a lane's register within the KAL_ block (R312, R380). -/
def kalOffset (l : Nat) : Nat := 1024 * (l / 128) + 4 * (l % 128)

/-- A lane enters Lit: its buffers join the pair's pools and payloads enter its striping; the first training lane to be Lit
starts IDENT (R265, R277, R298). -/
def laneLit (l : Nat) (s : State) : State :=
  match lanePartner s l with
  | none => s
  | some m =>
    let s := modLane l (fun x => { x with
      state := .lit, fresh := false, afterComb := false, relock := false, toDormant := false, idle := false
      txSeq := 0, rxAck := 1023, nak := false, seen := [], buf := [], skips := 0 }) s
    let s := modPeer m (fun p => if p.slot = .training ∧ p.phase = 0 then { p with phase := 1 } else p) s
    pumpPair m (poolJoin m s)

/-- Whether a lane is a training lane of a pair in training (R265). -/
def isTraining (s : State) (l : Nat) : Bool :=
  match lanePartner s l with
  | none => false
  | some m => decide ((peer s m).slot = .training) && decide (l % 16 = 0)

/-! ### Allocation (R270, R272, R303) -/

/-- A Dark position reserves a slice at this end and starts Tuning (R270, R295). -/
def laneReserve (l : Nat) (h : BitVec 4) (s : State) : State :=
  match freeSlice s (l / 128) with
  | none => s
  | some k => modLane l (fun x => { x with
      state := .tuning, slice := k, holder := h, fresh := true, afterComb := false, toDormant := false, relock := false, cause := 0 }) s

/-- Whether the chiplet at the far end of a position has a free slice: the partner knows (R269, R270; log entry 106). -/
def farSlice (s : State) (l : Nat) : Bool := (Config.freeValue (s.free + l)).getLsbD 0

/-- Whether a position could carry a lane: Dark, on a fibre that was not refused (R262, R270). -/
def positionOpen (s : State) (l : Nat) : Bool := decide ((lane s l).state = .dark) && !s.fab.refusedFibres.contains (lanePlan l)

/-- Whether the allocator may choose a position: one that could carry a lane, with a free slice at both ends (R262, R270). -/
def positionFree (s : State) (l : Nat) : Bool := positionOpen s l && (freeSlice s (l / 128)).isSome && farSlice s l

/-- The positions that a request for `n` lanes of a pair reserves, one by one, and the state after (R270). -/
def reserveLanes (m : Nat) (h : BitVec 4) : Nat → List Nat → State → List Nat × State
  | 0, acc, s => (acc, s)
  | n + 1, acc, s =>
    match (pairLanes s m).find? (positionFree s) with
    | none => (acc, s)
    | some l => reserveLanes m h n (acc ++ [l]) (laneReserve l h s)

/-- The keep-alive lane of a pair: a Lit lane that the module holds (R272). -/
def keepAlive (s : State) (m : Nat) : Option Nat := (litLanes s m).find? (fun l => decide ((lane s l).holder = 0xF))

/-- A partition's first lane of a pair is the keep-alive lane, handed over in place, when no partition holds one (R272). -/
def takeKeepAlive (m : Nat) (h : BitVec 4) (s : State) : List Nat × State :=
  match keepAlive s m with
  | none => ([], s)
  | some l =>
    if h = 0xF ∨ (pairLanes s m).any (fun k => decide ((lane s k).holder.toNat < 12)) then ([], s)
    else ([l], modLane l (fun x => { x with holder := h }) s)

/-- A holder asks for `n` lanes of a pair: this end reserves the positions and sends the list, or as the end that is not the
allocator its request; the lanes it gets, and the state (R270, R272). -/
def askLanes (m : Nat) (h : BitVec 4) (n : Nat) (s : State) : List Nat × State :=
  let k := if n = 0 then ([], s) else takeKeepAlive m h s
  let r := reserveLanes m h (n - k.1.length) [] k.2
  let s := useFrees 1024 r.2
  let s := if s.fab.gid.toNat < m then sendCtrl m (.laneList m r.1) s else sendCtrl m (.laneReq m false h n) s
  (k.1 ++ r.1, s)

/-- The allocator lights a replacement for a holder's lane of a pair, where a position is free; the other end reserves what it names
(R270, R303). -/
def replaceLane (m : Nat) (h : BitVec 4) (s : State) : State :=
  let r := reserveLanes m h 1 [] s
  let t := useFrees 1024 r.2
  if s.fab.gid.toNat < m ∧ r.1 ≠ [] then sendCtrl m (.laneList m r.1) t else t

/-- A Lit lane starts to drain (R271). -/
def laneDrain (l : Nat) (s : State) : State :=
  modLane l (fun x => if x.state = .lit then { x with state := .draining, idle := false } else x) s

/-- The lanes of a holder on a pair that a release of `n` names, highest position first; the lowest Lit lane of a pair on
which no partition will hold a lane stays as the module's keep-alive (R271, R272). -/
def releaseNames (s : State) (m : Nat) (h : BitVec 4) (n : Nat) : List Nat × Option Nat :=
  let held := (heldLit s m h).reverse.take n
  let rest := (pairLanes s m).filter (fun l => decide ((lane s l).holder.toNat < 12) && !held.contains l)
  if rest = [] ∧ (keepAlive s m = none ∨ h = 0xF) then
    match (litLanes s m).head? with
    | some l => if held.contains l then (held.filter (fun k => decide (k ≠ l)), some l) else (held, none)
    | none => (held, none)
  else (held, none)

/-- A holder releases `n` lanes of a pair; how many it gives up (R271, R272). -/
def giveLanes (m : Nat) (h : BitVec 4) (n : Nat) (s : State) : Nat × State :=
  let r := releaseNames s m h n
  let s := if s.fab.gid.toNat < m then s else sendCtrl m (.laneReq m true h n) s
  let s := forAll r.1 (fun l s => sendCtrl m (.laneMsg l (.drain ⟨l % 1024, Nat.mod_lt _ (by decide)⟩)) (laneDrain l s)) s
  let s := match r.2 with
    | some l => modLane l (fun x => { x with holder := 0xF }) s
    | none => s
  (r.1.length, s)

/-- One piece of lane allocation carried out (R270, R271, R303). -/
def doAsk (a : LaneAsk) (s : State) : State :=
  match a.kind with
  | .request => (askLanes a.pair a.holder a.count s).2
  | .release => (giveLanes a.pair a.holder a.count s).2
  | .replace => replaceLane a.pair a.holder s

/-- Lane allocation is the Marionette's: with no holder of the lease, or while a new one rebuilds its state, it waits (R333). -/
def allocate (a : LaneAsk) (s : State) : State :=
  if mrtServes s then doAsk a s else { s with fab.asks := s.fab.asks ++ [a] }

/-- In its first tick a new Active carries out what lane allocation has waited (R333, R338). -/
def resumeAsks (s : State) : State := forAll s.fab.asks doAsk { s with fab.asks := [] }

/-- A lane becomes Spared: it leaves its pair, frees its slice, is counted and recorded; one that a partition held, and a keep-alive
lane, is replaced for the same holder (R302, R303). -/
def laneSpare (l : Nat) (cause : BitVec 4) (s : State) : State :=
  let x := lane s l
  let kept := (lanePartner s l).bind (keepAlive s) == some l
  let s := laneOut l .spared s
  let s := modLane l (fun y => { y with
    cause := cause, slice := 127, holder := 0xE, fresh := true, afterComb := false, toDormant := false, relock := false }) s
  let s := { s with fab.kSpared := s.fab.kSpared + 1 }
  let p := if x.holder.toNat < 12 then x.holder.toNat else 0xFF
  let s := raiseFault 0x0603 10 l p (kalOffset l + 65536 * cause.toNat) s
  match lanePartner s l with
  | none => s
  | some m => if x.holder.toNat < 12 ∨ kept then allocate ⟨.replace, m, x.holder, 1⟩ s else s

/-- LANE_REQUEST: the allocator of a pair receives a request, reserves positions and slices, and sends the list (R270). -/
def execLaneRequest (m : ModuleId) (holder : BitVec 4) (count : Nat) (s : State) : Host.Outcome State Fault Refusal :=
  ifFitted s (if s.fab.gid.toNat < m.val ∧ isMember s m.val then allocate ⟨.request, m.val, holder, count⟩ s else s)

/-- LANE_RELEASE: the allocator names the lanes to release, highest position first, and they drain (R271). -/
def execLaneRelease (m : ModuleId) (holder : BitVec 4) (count : Nat) (s : State) : Host.Outcome State Fault Refusal :=
  ifFitted s (if s.fab.gid.toNat < m.val then allocate ⟨.release, m.val, holder, count⟩ s else s)

/-- DRAIN_COMPLETE: every flit of a Draining lane is acknowledged and its credits are withdrawn: it is Dark, or Dormant
(R271, R277, R301). -/
def execDrainComplete (l : LaneId) (s : State) : Host.Outcome State Fault Refusal :=
  let x := lane s l.val
  ifFitted s (
    match lanePartner s l.val with
    | none => s
    | some m =>
      if x.state ≠ .draining ∨ x.buf ≠ [] ∨ !shareBack s m then s
      else if x.toDormant then modLane l.val (fun y => { y with toDormant := false }) (laneOut l.val .dormant s)
      else laneDark l.val s)

/-! ### Lighting (R295 to R297, R301, R302) -/

/-- RING_LOCKED: the ring heaters hold the line at both ends: Tuning goes to Locking (R295). -/
def execRingLocked (l : LaneId) (s : State) : Host.Outcome State Fault Refusal :=
  ifFitted s (modLane l.val (fun x => if x.state = .tuning then { x with state := .locking } else x) s)

/-- LANE_LOCKED: clock recovery and alignment hold at both ends: the lane is Lit, unless a margin test is due or it is under
test (R295, R297, R302). -/
def execLaneLocked (l : LaneId) (s : State) : Host.Outcome State Fault Refusal :=
  let x := lane s l.val
  ifFitted s (if x.state = .locking ∧ !x.underTest ∧ (x.tested ∨ x.relock ∨ x.afterComb) then laneLit l.val s else s)

/-- MARGIN_TEST_DONE: at most 640 errors in each direction pass: TESTED and Lit, or Dark again in step 9 of the
release order; else Spared with cause 1 (R297, R370). -/
def execMarginTestDone (l : LaneId) (errTx errRx : Nat) (s : State) : Host.Outcome State Fault Refusal :=
  let x := lane s l.val
  ifFitted s (
    if x.state ≠ .locking ∨ x.underTest ∨ x.relock then s
    else if s.rst.stepNine ∧ !hasSlice x ∧ errTx ≤ 640 ∧ errRx ≤ 640 then
      modLane l.val (fun x => { x with state := .dark, tested := true }) s
    else if errTx ≤ 640 ∧ errRx ≤ 640 then laneLit l.val (modLane l.val (fun x => { x with tested := true }) s)
    else laneSpare l.val 1 { s with fab.kMarginFail := s.fab.kMarginFail + 1 })

/-- LIGHTING_TIMEOUT: not Lit 5 ms after leaving Dark, or 8 ms after a comb failure: Spared with cause 2; a training lane and
one under test are exempt (R295). -/
def execLightingTimeout (l : LaneId) (s : State) : Host.Outcome State Fault Refusal :=
  let x := lane s l.val
  ifFitted s (
    if (x.state = .tuning ∨ x.state = .locking) ∧ !x.underTest ∧ !isTraining s l.val ∧ (x.fresh ∨ x.afterComb) then laneSpare l.val 2 s
    else s)

/-- IDLE_ENTRY: a direction with nothing to send for 1 µs enters Idle where IDLE_EN allows it (R300). -/
def execIdleEntry (l : LaneId) (s : State) : Host.Outcome State Fault Refusal :=
  ifFitted s (modLane l.val (fun x =>
    if x.state = .lit ∧ s.fab.idleEn ∧ x.buf = [] ∧ !x.nak then { x with idle := true } else x) s)

/-- DORMANT_TIMEOUT: a Lit lane without data for DORM_MS drains towards Dormant; never the lowest Lit lane of its holder on
the pair, nor a keep-alive lane (R301). -/
def execDormantTimeout (l : LaneId) (s : State) : Host.Outcome State Fault Refusal :=
  let x := lane s l.val
  ifFitted s (
    match lanePartner s l.val with
    | none => s
    | some m =>
      if s.fab.dormMs = 0 ∨ x.state ≠ .lit ∨ x.holder = 0xF ∨ (heldLit s m x.holder).head? = some l.val then s
      else modLane l.val (fun y => { y with toDormant := true }) (laneDrain l.val s))

/-- A Dormant lane is woken: it tunes again, without a margin test (R296, R301). -/
def laneWake (l : Nat) (s : State) : State :=
  if (lane s l).state = .dormant then
    { (modLane l (fun x => { x with state := .tuning, fresh := false }) s) with fab.kDorm := s.fab.kDorm + 1 }
  else s

/-- DORMANT_WAKE (R301). -/
def execDormantWake (l : LaneId) (s : State) : Host.Outcome State Fault Refusal := ifFitted s (laneWake l.val s)

/-- Whether a limit of R302 applies to a lane: it is Lit, Draining or Dormant, and the cause is one of those that spare it. -/
def limitApplies (x : Lane) (cause : BitVec 4) : Bool :=
  (inPool x || decide (x.state = .dormant)) && decide (cause = 3 ∨ cause = 4 ∨ cause = 5 ∨ cause = 7)

/-- A limit of R302 broken on a lane in Lit, Draining or Dormant: it is Spared with the limit's cause. -/
def laneLimit (l : Nat) (cause : BitVec 4) (s : State) : State :=
  if limitApplies (lane s l) cause then laneSpare l cause s else s

/-- LANE_HEALTH_LIMIT: this end finds a limit broken, reports it in LINK, and the lane is Spared (R302). -/
def execLaneHealthLimit (l : LaneId) (cause : BitVec 4) (s : State) : Host.Outcome State Fault Refusal :=
  ifFitted s (
    if limitApplies (lane s l.val) cause then laneSpare l.val cause (emit (.laneMsg l.val (.limit l cause)) s) else s)

/-- A Lit lane that has lost its clock goes back to Locking, its slice kept (R302). -/
def laneUnlock (l : Nat) (s : State) : State :=
  if (lane s l).state = .lit then modLane l (fun x => { x with relock := true }) (laneOut l .locking s) else s

/-- CLOCK_UNLOCK: clock recovery is unlocked for 10 µs (R302). -/
def execClockUnlock (l : LaneId) (s : State) : Host.Outcome State Fault Refusal :=
  ifFitted s (if (lane s l.val).state = .lit then laneUnlock l.val (emit (.laneMsg l.val (.limit l 6)) s) else s)

/-- RELOCK_TIMEOUT: not relocked within 1 ms: Spared with cause 6 (R302). -/
def execRelockTimeout (l : LaneId) (s : State) : Host.Outcome State Fault Refusal :=
  let x := lane s l.val
  ifFitted s (if x.state = .locking ∧ x.relock then laneSpare l.val 6 s else s)

/-! ### Codewords (R273 to R278) -/

/-- One bit of the CRC-32 of IEEE 802.3, reflected (R274). -/
def crcBit (c : Word) : Word := if c.getLsbD 0 then (c >>> 1) ^^^ 0xEDB88320 else c >>> 1

/-- One byte of the CRC-32. -/
def crcByte (c : Word) (b : Byte) : Word :=
  let x := c ^^^ b.setWidth 32
  crcBit (crcBit (crcBit (crcBit (crcBit (crcBit (crcBit (crcBit x)))))))

/-- The CRC-32 of IEEE 802.3 of a list of bytes (R274). -/
def crc32 (bs : List Byte) : Word := ~~~(bs.foldl crcByte 0xFFFFFFFF)

/-- The payload that a received codeword decodes to; empty where it does not (R273, R274). -/
def payloadOf (cw : Codeword) : List Byte := ((rsDecode cw.raw).map (·.1)).getD []

/-- Whether a received codeword passes decode: the RS decode and the CRC (R273, R274). -/
def codewordOk (cw : Codeword) : Bool :=
  (rsDecode cw.raw).isSome && decide (fieldAt (payloadOf cw) 124 4 = (crc32 (slice (payloadOf cw) 0 124)).toNat)

/-- The counts of a received codeword: discarded, or corrected (R275, R289). -/
def countCodeword (l : Nat) (cw : Codeword) (s : State) : State :=
  if !codewordOk cw then { (modLane l (fun x => { x with nak := true }) s) with fab.cwBad := s.fab.cwBad + 1 }
  else if (rsDecode cw.raw).map (·.2) = some 0 then s
  else { s with fab.cwCorr := s.fab.cwCorr + 1 }

/-- Whether an LSEQ is covered by an ACK (R274, R275). -/
def ackCovers (ack lseq : BitVec 10) : Bool := decide ((ack - lseq).toNat < 512)

/-- The link word of an accepted payload: acknowledgements, a NAK and its resend, returned credits (R274, R275, R277). -/
def linkWord (l m : Nat) (w : Nat) (s : State) : State :=
  let ack : BitVec 10 := BitVec.ofNat 10 (bitsOf w 21 12)
  let s := modLane l (fun x => { x with buf := x.buf.filter (fun u => !ackCovers ack u.lseq) }) s
  let s := if w / 2048 % 2 = 1 then
      match (lane s l).buf.find? (fun u => decide (u.lseq = ack + 1)) with
      | some u => emit (.resend l u) { s with fab.retx := s.fab.retx + 1 }
      | none => s
    else s
  let n := bitsOf w 8 0
  let s := if bitsOf w 10 9 = 3 then s
    else modVc m (bitsOf w 10 9) (fun v => { v with credits := v.credits + n, got := v.got + BitVec.ofNat 32 n }) s
  pumpPair m s

/-- The LSEQs accepted beyond a gap closed up: the last one in order, and those still beyond, at most `fuel` (R274, R275). -/
def closeGap (fuel : Nat) (a : BitVec 10) (seen : List (BitVec 10)) : BitVec 10 × List (BitVec 10) :=
  match fuel with
  | 0 => (a, seen)
  | n + 1 => if seen.contains (a + 1) then closeGap n (a + 1) (seen.erase (a + 1)) else (a, seen)

/-- Whether an LSEQ has been accepted already (R275). -/
def lseqSeen (x : Lane) (q : BitVec 10) : Bool := ackCovers x.rxAck q || x.seen.contains q

/-- An LSEQ accepted on a lane (R274, R275). -/
def lseqTake (q : BitVec 10) (x : Lane) : Lane :=
  let r := closeGap 512 x.rxAck (x.seen ++ [q])
  { x with rxAck := r.1, seen := r.2, nak := decide (r.2 ≠ []) }

/-- A Parcel payload accepted at the receiving hub: held for its Parcel; one of a Parcel that is refused, a duplicate or dead
is discarded and its credit returned (R279 to R283). -/
def parcelPayload (m : Nat) (kind : Nat) (part : BitVec 4) (tag : BitVec 12) (index : Nat) (bs : List Byte) (s : State) : State :=
  let s := modVc m 1 (fun v => { v with rcvd := v.rcvd + 1 }) s
  if tagDead s m tag then (if kind = 1 then s else freeBuffers m 1 1 s)
  else
    let fresh : RxParcel := { partner := m, tag := tag, part := part }
    let old := (rxFind s m tag).getD fresh
    let r := if kind = 1 ∧ (old.delivered ∨ old.dup) then fresh else old
    if r.dup ∨ r.delivered then freeBuffers m 1 1 s
    else rxPut { r with got := ins r.got index (if kind = 1 then slice bs 40 84 else slice bs 8 116) } s

/-- A payload of a DATA slot with a new LSEQ: Parcel payloads go to the receiving hub, bulk payloads free their buffer at their
destination, control payloads act by their own commands (R274, R277). -/
def takePayload (m : Nat) (bs : List Byte) (s : State) : State :=
  let w := fieldAt bs 4 4
  let vch := bitsOf w 31 30
  let kind := bitsOf w 29 28
  if kind = 3 ∨ vch = 3 then s
  else if vch = 1 ∧ kind ≠ 2 then
    parcelPayload m kind (BitVec.ofNat 4 (bitsOf w 27 24)) (BitVec.ofNat 12 (bitsOf w 23 12)) (bitsOf w 11 0) bs s
  else freeBuffers m vch 1 (modVc m vch (fun v => { v with rcvd := v.rcvd + 1 }) s)

/-- Whether a lane receives codewords. -/
def receives (x : Lane) : Bool := inPool x

/-- A codeword of slot 0, a LINK or a SKIP slot: counted, and its link word acted on (R273, R274). -/
def slotCodeword (l : Nat) (cw : Codeword) (act : Nat → State → State) (s : State) : State :=
  match lanePartner s l with
  | none => s
  | some m =>
    if !receives (lane s l) then s
    else
      let s := countCodeword l cw s
      if !codewordOk cw then s
      else act m (linkWord l m (fieldAt (payloadOf cw) 0 4) (modPeer m (fun p => { p with ctrlUp := true }) s))

/-- DATA: a DATA or IDLE codeword arrives: counted, its link word acted on, its payload accepted once (R273 to R277). -/
def execData (l : LaneId) (cw : Codeword) (s : State) : Host.Outcome State Fault Refusal :=
  ifFitted s (slotCodeword l.val cw (fun m s =>
    let q : BitVec 10 := BitVec.ofNat 10 (bitsOf (fieldAt (payloadOf cw) 0 4) 31 22)
    if lseqSeen (lane s l.val) q then s
    else takePayload m (payloadOf cw) (modLane l.val (lseqTake q) s)) s)

/-- RETRY_TIMEOUT: a payload is unacknowledged 430 ns after its latest transmission and is resent (R275). -/
def execRetryTimeout (l : LaneId) (lseq : BitVec 10) (s : State) : Host.Outcome State Fault Refusal :=
  ifFitted s (
    match (lane s l.val).buf.find? (fun u => decide (u.lseq = lseq)) with
    | some u => emit (.resend l.val u) { s with fab.retx := s.fab.retx + 1 }
    | none => s)

/-- LINK: a LINK codeword arrives: a lane-health message takes the lane out of service, a lane-change message drains it (R295,
R302). -/
def execLink (l : LaneId) (cw : Codeword) (msg : LinkMsg) (s : State) : Host.Outcome State Fault Refusal :=
  ifFitted s (slotCodeword l.val cw (fun _ s =>
    match msg with
    | .none => s
    | .limit k cause => if cause = 6 then laneUnlock k.val s else laneLimit k.val cause s
    | .drain k => laneDrain k.val s) s)

/-- SKIP: the SKIP slot is deleted or repeated to keep the elastic buffer half full; a second adjustment within one superframe
takes the lane out of service (R276, R302). -/
def execSkip (l : LaneId) (cw : Codeword) (adj : SkipAdj) (s : State) : Host.Outcome State Fault Refusal :=
  ifFitted s (slotCodeword l.val cw (fun _ s =>
    if adj = .keep then s
    else
      let s := { (modLane l.val (fun x => { x with skips := x.skips + 1 }) s) with fab.skipAdj := s.fab.skipAdj + 1 }
      if 2 ≤ (lane s l.val).skips then laneLimit l.val 5 (emit (.laneMsg l.val (.limit l 5)) s) else s) s)

/-! ### Credit ledgers (R278) -/

/-- Whether a ledger keeps the balance of R278 against the receiver's own counts: nothing received that was not sent, no credit
received that was not returned, and no more outstanding than the pool. -/
def ledgerOk (v : VcCredit) (g : Ledger) : Bool :=
  decide ((g.sent - v.rcvd).toNat < 2 ^ 31) && decide ((v.freed - g.credits).toNat < 2 ^ 31)
    && decide ((g.sent - g.credits).toNat ≤ v.pool)

/-- The credit state of a pair at its initial values: the pools of its Lit lanes, every count 0 (R265, R277). -/
def resetCredit (m : Nat) (s : State) : State :=
  let n := (litLanes s m).length
  modPeer m (fun p => { p with credit := [0, 1, 2].map (fun c =>
    (c, ({ pool := n * laneShare c, credits := ((n * laneShare c : Nat) : Int) } : VcCredit))) }) s

/-- A pair is torn down: its lanes go Dark and its transfers end with REFUSED (R264, R267, R281, R295). -/
def tearDown (m : Nat) (s : State) : State :=
  let s := refusePair m s
  let s := forAll (pairLanes s m) laneKill s
  let s := { s with
    fab.resendQ := s.fab.resendQ.filter (fun e => decide (e.1 ≠ m))
    fab.rx := s.fab.rx.filter (fun r => decide (r.partner ≠ m)) }
  modPeer m (fun p => { p with trained := false, ctrlUp := false, credit := [], lastFail := none }) s

/-- Whether this module is the front module of its declared group (R260). -/
def isFront (s : State) : Bool := s.fab.declared && decide (s.fab.gid = 0)

/-- A pair is lost: torn down; the front module marks the member Absent, another member reports the loss to it (R267). -/
def losePair (m : Nat) (s : State) : State :=
  let p := peer s m
  if !p.trained then s
  else
    let s := tearDown m s
    if isFront s then
      if p.slot = .member then { (modPeer m (fun p => { p with slot := .absent }) s) with fab.dirChanged := true } else s
    else if m = 0 then s
    else sendCtrl 0 (.lossReport s.fab.gid.toNat m) s

/-- A ledger has failed at two successive MARKs: counted, a Contained fault, the pair back at CREDIT, its transfers ended with
DEADLINE; a second failure within 1 ms loses the pair (R267, R278). -/
def ledgerFail (m c : Nat) (s : State) : State :=
  let again := match (peer s m).lastFail with
    | some t => decide (timeNs s ≤ t.toNat + 1000000)
    | none => false
  let s := raiseFault 0x0502 13 0 0xFF (m + 256 * c) { s with fab.credErr := s.fab.credErr + 1 }
  let s := deadlinePair m s
  if again then losePair m s
  else modPeer m (fun p => { p with phase := 3, lastFail := some (mtime s) }) (resetCredit m s)

/-- One ledger of a MARK checked. -/
def checkLedger (m c : Nat) (g : Ledger) (s : State) : State :=
  if ledgerOk (vc s m c) g then modVc m c (fun v => { v with bad := 0 }) s
  else if (vc s m c).bad = 0 then modVc m c (fun v => { v with bad := 1 }) s
  else ledgerFail m c s

/-- MARK: a superframe begins on a lane, and the receiver checks the credit ledgers (R273, R278). -/
def execMark (l : LaneId) (cw : Codeword) (ledgers : List Ledger) (s : State) : Host.Outcome State Fault Refusal :=
  ifFitted s (slotCodeword l.val cw (fun m s =>
    let s := modLane l.val (fun x => { x with skips := 0 }) s
    forAll ((ledgers.take 3).mapIdx (fun i g => (i, g))) (fun e => checkLedger m e.1 e.2) s) s)

end Sys2Proof.Machine
end

