-- ==== Sys2Proof/Machine/Fabric.lean ====
section
/-! DEFINITION. Groups: the training of pairs, the group epoch, losses, and group time (R262 to R268). -/

namespace Sys2Proof.Machine

open Sys2Proof

/-! ### Training (R262, R265, R266) -/

/-- The training lanes of a pair: wavelength 0 of each of its planned fibres (R265). -/
def trainLanes (s : State) (m : Nat) : List Nat :=
  (planOf (groupN s) s.fab.gid.toNat m).map (fun i => planLane i 0)

/-- Training of the pair with module m starts at this end: its training lanes are lit, and its fibres are to be identified
afresh (R262, R265). -/
def startTraining (m : Nat) (s : State) : State :=
  let s := { s with fab.refusedFibres := s.fab.refusedFibres.filter (fun i => planPartner (groupN s) s.fab.gid.toNat i ≠ some m) }
  let s := modPeer m (fun p => { p with
    slot := .training, trained := false, phase := 0, attempts := 0, backoff := false, refused := 0, okFibre := false }) s
  forAll (trainLanes s m) (fun l s => if (lane s l).state = .dark then laneReserve l 0xF s else s) s

/-- The training of a pair ends with the partner Absent: its lanes return to Dark (R265). -/
def trainAbsent (m : Nat) (s : State) : State :=
  let s := tearDown m s
  let s := modPeer m (fun p => { p with slot := .absent, backoff := false }) s
  { s with
    fab.dirChanged := true
    fab.train := s.fab.train.map (fun t => { t with pending := t.pending.filter (fun k => decide (k ≠ m)) }) }

/-- The plan index that the partner m of plan index i sends: j′F + k (R261, R262). -/
def farPlan (s : State) (m i : Nat) : Nat :=
  let N := groupN s
  let F := fibresPer N
  partnerIndex N m s.fab.gid.toNat * F + (i - partnerIndex N s.fab.gid.toNat m * F)

/-- PROBE: identification on the fibre of plan index i: the fibre is accepted, or it is refused, goes Dark, is counted and
recorded; a PROBE of a module that is not training here starts the training of the pair at this end (R262, R265; log entry
38). -/
def execProbe (i : Fin 64) (pr : ProbeMsg) (s : State) : Host.Outcome State Fault Refusal :=
  ifFitted s (
    match planPartner (groupN s) s.fab.gid.toNat i.val with
    | none => s
    | some m =>
      let s := if (peer s m).slot = .training ∨ (peer s m).slot = .member ∨ s.fab.refusedFibres.contains i.val then s
        else
          let s := startTraining m s
          modPeer m (fun p => { p with phase := 1 }) (laneLit (planLane i.val 0) s)
      let p := peer s m
      if p.slot ≠ .training ∨ p.phase ≠ 1 ∨ p.backoff ∨ s.fab.refusedFibres.contains i.val then s
      else if pr.modId = m ∧ pr.gn = groupN s ∧ pr.plan = farPlan s m i.val then modPeer m (fun p => { p with okFibre := true }) s
      else
        let s := { s with fab.refusedFibres := s.fab.refusedFibres ++ [i.val] }
        let s := forAll ((List.range 16).map (planLane i.val)) laneKill s
        raiseFault 0x0501 10 (planLane i.val 0) 0xFF i.val (modPeer m (fun p => { p with refused := satInc p.refused }) s))

/-- A pair is trained: every fibre was identified, aligned, its credits set, and both ends report it (R265, R266). -/
def pairTrained (m : Nat) (s : State) : State :=
  let s := modPeer m (fun p => { p with trained := true, ctrlUp := true }) s
  { s with fab.train := s.fab.train.map (fun t => { t with
      pending := t.pending.filter (fun k => decide (k ≠ m)), trained := t.trained ||| BitVec.ofNat 64 (2 ^ m) }) }

/-- A named module that has passed ALIGN is asked to train its pairs with the members and the other named modules (R266). -/
def askTrain (m : Nat) (s : State) : State :=
  match s.fab.train with
  | some t => if t.mask.getLsbD m then sendCtrl m (.trainReq m t.mask) s else s
  | none => s

/-- TRAINING_PHASE_DONE: the phase of a pair's training completes at both ends and the next begins: IDENT when a fibre was
accepted, ALIGN with a round trip of at most 400 ns, CREDIT, JOIN (R265, R266). -/
def execTrainingPhaseDone (m : ModuleId) (rtt : BitVec 16) (s : State) : Host.Outcome State Fault Refusal :=
  let p := peer s m.val
  ifFitted s (
    if (p.slot ≠ .training ∧ p.slot ≠ .member) ∨ p.backoff then s
    else match p.phase.toNat with
      | 1 => if p.okFibre then modPeer m.val (fun p => { p with phase := 2, attempts := 0 }) s else s
      | 2 =>
        if rtt.toNat ≤ 400 then askTrain m.val (modPeer m.val (fun p => { p with phase := 3, attempts := 0, rtt := rtt }) s) else s
      | 3 => modPeer m.val (fun p => { p with phase := 4, attempts := 0 }) (resetCredit m.val s)
      | 4 => if p.slot = .training ∧ !p.trained then pairTrained m.val s else s
      | _ => s)

/-- TRAINING_TIMEOUT: an attempt times out: it is counted and backs off, or after the fourth the partner is Absent (R265,
R289). -/
def execTrainingTimeout (m : ModuleId) (s : State) : Host.Outcome State Fault Refusal :=
  let p := peer s m.val
  ifFitted s (
    if p.slot ≠ .training ∨ p.trained ∨ p.backoff then s
    else
      let s := { s with fab.trainFail := s.fab.trainFail + 1 }
      if 4 ≤ p.attempts + 1 then trainAbsent m.val s
      else modPeer m.val (fun p => { p with attempts := p.attempts + 1, backoff := true, phase := if p.phase = 0 then 1 else p.phase }) s)

/-- TRAINING_RETRY: the backoff ends and the phase is attempted again (R265). -/
def execTrainingRetry (m : ModuleId) (s : State) : Host.Outcome State Fault Refusal :=
  ifFitted s (modPeer m.val (fun p => { p with backoff := false }) s)

/-- PARTNER_TRAIN_EXPIRY: training that has not completed 12 ms after the write of CMD_GO ends with the partner Absent
(R265). -/
def execPartnerTrainExpiry (s : State) : Host.Outcome State Fault Refusal :=
  ifFitted s (
    match s.fab.train with
    | none => s
    | some t => forAll t.pending trainAbsent (advanceTo (t.started.toNat + 12000000) s))

/-! ### The epoch (R263, R264, R266) -/

/-- The code of a directory slot (R288). -/
def Slot.code : Slot → BitVec 3
  | .none => 0 | .self => 1 | .untrained => 2 | .training => 3 | .member => 4 | .absent => 5

/-- The directory slot of module m as this module reports it (R263): SELF, NONE beyond N. -/
def slotOf (s : State) (m : Nat) : Slot :=
  if !s.fab.declared then .none
  else if isSelf s m then .self
  else if groupN s ≤ m then .none
  else match (peer s m).slot with
    | .none => .untrained
    | x => x

/-- The members of the group other than this module. -/
def members (s : State) : List Nat := (List.range 64).filter (fun m => !isSelf s m && decide (slotOf s m = .member))

/-- The directory as the front module sends it, by module ID. -/
def directory (s : State) : List (BitVec 3) := (List.range 64).map (fun m => (slotOf s m).code)

/-- What partition p owns, as the 48 bytes of PART_CREATE (R229). -/
def partBytes (s : State) (p : Nat) : List Byte :=
  let x := part s p
  let bitmap := ((ownedPchs s p).map (fun c => 2 ^ c)).sum
  leBytes 4 p ++ leBytes 4 x.quads.toNat ++ leBytes 24 bitmap ++ leBytes 2 x.qbase ++ leBytes 2 x.qcount
    ++ leBytes 2 x.vecCount ++ leBytes 2 x.litBudget ++ leBytes 2 x.ceil ++ leBytes 2 (look s.hbm.ways p 0).toNat ++ leBytes 4 0

/-- The partition table is pushed to a joining member before it carries traffic (R238). -/
def pushParts (m : Nat) (s : State) : State :=
  forAll ((List.range 12).filter (fun p => (part s p).exist)) (fun p s => emit (.partTable m (partBytes s p)) s) s

/-- The front module commits: the epoch rises by one, every member gets the epoch and the directory, vector 3 is sent (R264,
R267). -/
def commitEpoch (s : State) : State :=
  let s := { s with fab.epoch := s.fab.epoch + 1, fab.dirChanged := false, fab.front := s.fab.front || !(members s).isEmpty }
  signalVec .pf 3 (forAll (members s) (fun m s => sendCtrl m (.epoch m s.fab.epoch (directory s)) s) s)

/-- EPOCH_COMMIT: the front module commits the changes of its directory, while a Marionette holds the lease (R264, R333). -/
def execEpochCommit (s : State) : Host.Outcome State Fault Refusal :=
  ifFitted s (if isFront s ∧ s.fab.dirChanged ∧ s.mrt.holder.isSome ∧ !s.mrt.rebuild then commitEpoch s else s)

/-- A member has left the group: the Show of every partition stops under R157; each session of a Show of more than one module
held part of its state there and is Closed with MEMBER_LOST. -/
def memberGone (m : Nat) (s : State) : State :=
  forAll (List.range 12) (fun p s =>
    match find s.shows p with
    | none => s
    | some w => faultStop p m (if 1 < w.hdr.groupN then 0x0A else 0x15) (decide (1 < w.hdr.groupN)) s) s

/-- Module m leaves the directory of this module: its pair is torn down and the Shows stop (R157, R264). -/
def dropMember (m : Nat) (s : State) : State :=
  let was := decide ((peer s m).slot = .member)
  let s := modPeer m (fun p => { p with slot := .absent }) (tearDown m s)
  if was then memberGone m s else s

/-- A directory slot of a received epoch taken over. -/
def takeSlot (m : Nat) (c : BitVec 3) (s : State) : State :=
  if isSelf s m ∨ groupN s ≤ m then s
  else if c = 4 then modPeer m (fun p => { p with slot := .member }) s
  else if c = 5 then dropMember m s
  else if (peer s m).slot = .member then dropMember m s
  else if c = 3 then s
  else if c = 2 then modPeer m (fun p => if p.slot = .training then p else { p with slot := .untrained }) s
  else s

/-- EPOCH_MESSAGE: a member receives a new epoch and directory: pairs with removed modules are torn down from now on (R263,
R264, R157). -/
def execEpochMessage (epoch : Word) (dir : List (BitVec 3)) (s : State) : Host.Outcome State Fault Refusal :=
  ifFitted s (
    if isFront s ∨ epoch = s.fab.epoch then s
    else forAll (dir.mapIdx (fun i c => (i, c))) (fun e => takeSlot e.1 e.2) { s with fab.epoch := epoch })

/-- Whether module a is trained with module b, as far as this module knows: its own pairs, and for pairs of two others, which
the partners report, a free value of the counter reading `free` (R266; log entry 38). -/
def pairUp (free : Nat) (a b : Nat) : Bool := (Config.freeValue (free + 64 * min a b + max a b)).getLsbD 0

/-- The candidates of a PARTNER_TRAIN that share trained pairs with one another and with every member: those with the fewest
trained pairs, and among equals the highest ID, are dropped one by one (R266). -/
def chooseMembers (fuel free : Nat) (ms : List Nat) (cs : List Nat) : List Nat :=
  match fuel with
  | 0 => cs
  | n + 1 =>
    let all := ms ++ cs
    let deg (c : Nat) : Nat := (all.filter (fun d => decide (d ≠ c) && pairUp free c d)).length
    if cs.all (fun c => decide (deg c + 1 = all.length)) then cs
    else
      let low := cs.foldl (fun best c => match best with
        | none => some c
        | some b => if deg c < deg b ∨ (deg c = deg b ∧ b < c) then some c else some b) (none : Option Nat)
      match low with
      | none => cs
      | some c => chooseMembers n free ms (cs.filter (fun d => decide (d ≠ c)))

/-! ### Losses (R267) -/

/-- PAIR_LOST: no codeword of a pair has passed decode for 100 µs (R267). -/
def execPairLost (m : ModuleId) (s : State) : Host.Outcome State Fault Refusal :=
  ifFitted s (
    let gone := isFront s && decide ((peer s m.val).slot = .member) && (peer s m.val).trained
    let s := losePair m.val (modPeer m.val (fun p => { p with ctrlUp := false }) s)
    if gone then memberGone m.val s else s)

/-- LOSS_REPORT: the front module is told of a lost pair: the member that lost its pair with the front module, or of two members
the higher ID, is Absent (R267). -/
def execLossReport (a b : ModuleId) (s : State) : Host.Outcome State Fault Refusal :=
  ifFitted s (
    if !isFront s then s
    else
      let hi := max a.val b.val
      let m := if (peer s hi).slot = .member then hi else min a.val b.val
      if (peer s m).slot = .member ∧ a ≠ b then { (dropMember m s) with fab.dirChanged := true } else s)

/-- This module takes itself out of the group: every Show stops with MEMBER_LOST, every lane goes Dark, its members are Absent
(R157, R267). -/
def leaveGroup (s : State) : State :=
  let s := forAll (List.range 12) (fun p => faultStop p s.fab.gid.toNat 0x0A true) s
  let ms := members s
  let s := forAll (List.range 64) (fun m s => if isSelf s m then s else tearDown m s) s
  { (forAll ms (fun m => modPeer m (fun p => { p with slot := .absent })) s) with fab.front := false }

/-- MEMBER_LEAVE: a member without a trained pair with the front module for 100 µs leaves the group (R267). -/
def execMemberLeave (s : State) : Host.Outcome State Fault Refusal :=
  ifFitted s (if isFront s ∨ !s.fab.declared ∨ groupN s ≤ 1 ∨ (peer s 0).trained ∨ (peer s 0).slot ≠ .member then s else leaveGroup s)

/-! ### Group time (R268) -/

/-- GRP_TICK: the front module sends its module time on the control channel of each of its pairs (R268). -/
def execGrpTick (s : State) : Host.Outcome State Fault Refusal :=
  ifFitted s (
    if !isFront s then s
    else forAll ((List.range 64).filter (fun m => (peer s m).trained)) (fun m => sendCtrl m (.grpTick m (mtime s))) s)

/-- An offset correction as CORR reports it: signed, saturating (R288). -/
def corrField (d : Int) : BitVec 16 := BitVec.ofInt 16 (clampInt (-32768) 32767 d)

/-- GRP_TICK_RECEIVED: a member computes offset = tick + RTT / 2 − arrival and slews toward it; a correction above 10 µs is
recorded, and stepped when it is forward, else met at half rate (R268). -/
def execGrpTickReceived (t : DWord) (s : State) : Host.Outcome State Fault Refusal :=
  ifFitted s (
    if isFront s ∨ !s.fab.declared ∨ !(peer s 0).trained then s
    else
      let off : Int := (t.toNat : Int) + ((peer s 0).rtt.toNat / 2 : Nat) - timeNs s
      let now := gtOffsetNow s
      let d := off - now
      let big := decide (10000 < d.natAbs)
      let s := { s with
        fab.missed := 0, fab.corr := corrField d
        fab.gtOffset := if big && decide (0 < d) then off else now
        fab.gtTarget := off, fab.gtAt := timeNs s, fab.gtHalf := big && decide (d < 0) }
      if big then raiseFault 0x0503 13 0 0xFF ((BitVec.ofInt 32 (clampInt (-2147483648) 2147483647 d)).toNat) s else s)

/-- TICK_MISSED: ten consecutive ticks are missed: a Corrected fault, and the last offset stays (R268). -/
def execTickMissed (s : State) : Host.Outcome State Fault Refusal :=
  ifFitted s (
    if isFront s ∨ !s.fab.declared ∨ (peer s 0).slot ≠ .member then s
    else raiseFault 0x0503 13 0 0xFF s.fab.corr.toNat { s with fab.missed := satAdd s.fab.missed 10 })

end Sys2Proof.Machine
end

