-- ==== Sys2Proof/Machine/Lasers.lean ====
section
/-! DEFINITION. Laser sources, spares, the interlock, and the fencing of a half (R24 to R26, R290 to R293, R307 to R310). -/

namespace Sys2Proof.Machine

open Sys2Proof

/-! ### Halves (R24 to R26) -/

/-- Whether the inter-hub link is up: all 48 groups trained in each direction (R321). -/
def interHubUp (s : State) : Bool := (List.range 96).all (fun g => (look s.d2d.groups g {}).trained)

/-- The Quads of a half whose Zoetrope is not Fenced (R14). -/
def quadsUp (s : State) (h : Nat) : Nat :=
  ((List.range 16).filter (fun i => decide ((zoe s (16 * h + i)).state ≠ .fenced))).length

/-- The HBM stacks of a half (R1, R12). -/
def halfStacks (s : State) (h : Nat) : List Nat := if s.ident.ml then [2 * h, 2 * h + 1] else [3 * h, 3 * h + 1, 3 * h + 2]

/-- Whether a half can serve: not fenced, a Quad not Fenced, a stack up, a compute source in service, the rails on, and for
the West half the inter-hub link (R24). -/
def halfServes (s : State) (h : Nat) : Bool :=
  !halfFenced s h && decide (0 < quadsUp s h) && (halfStacks s h).any (fun k => (hstack s k).up)
    && decide (0 < laserCount s h) && s.pwr.railsOn && (decide (h = 0) || interHubUp s)

/-- Whether the East hub's PCIe controller is present: its hub's core domain, number 35, has not been removed (R24, R349; log
entry 62). -/
def pcieUp (s : State) : Bool := !s.pwr.domainsOff.contains 35

/-- Whether the minimum service set of R24 is available but for the lease holder. -/
def unitsServe (s : State) : Bool := pcieUp s && (halfServes s 0 || halfServes s 1)

/-- What membership of a group larger than one needs in addition: a Kaleidoscope chiplet of a half that serves with a lit lane to
partner m, fed by an I/O comb (R24). -/
def groupLane (s : State) (m : Nat) : Bool :=
  (pairLanes s m).any (fun l => decide ((lane s l).state = .lit) && halfServes s (l / 512))

/-- MIN_SET (R14, R24). -/
def minSet (s : State) : Bool := unitsServe s && s.mrt.holder.isSome

/-- A PARTNER_TRAIN whose pairs have all ended: candidates with a lit lane in a half that serves become members, the others Absent,
unused pairs are darkened, the partition table goes to the new members, the epoch is committed once, and the result waits for the
command (R24, R238, R266). -/
def settleTrain (s : State) : State :=
  match s.fab.train with
  | none => s
  | some t =>
    if t.pending ≠ [] then s
    else
      let named := (List.range 64).filter (fun m => t.mask.getLsbD m)
      let cs := named.filter (fun m => (t.trained.getLsbD m && groupLane s m) || decide ((peer s m).slot = .member))
      let ms := (members s).filter (fun m => !named.contains m)
      let new := chooseMembers 64 s.free ms cs
      let s := useFrees 4096 s
      let gone := named.filter (fun m => !new.contains m)
      let s := forAll gone (fun m s => modPeer m (fun p => { p with slot := .absent }) (tearDown m s)) s
      let s := forAll (new.filter (fun m => decide ((peer s m).slot ≠ .member))) pushParts s
      let s := forAll new (fun m => modPeer m (fun p => { p with slot := .member })) s
      let bits (ms : List Nat) : DWord := ms.foldl (fun b m => b ||| BitVec.ofNat 64 (2 ^ m)) 0
      let s := { s with fab.train := none, fab.trainRes := some (bits new, bits gone) }
      commitEpoch s

/-- The partitions that own a Quad in a half. -/
def halfParts (s : State) (h : Nat) : List Nat :=
  (List.range 12).filter (fun p => (quadsOf s p).any (fun q => decide (q / 16 = h)))

/-- A half is fenced: Shows with a Quad in it stop, and the sessions of their partitions are Parked where a parked slot in the other
half can take their state, else Closed; its Zoetropes are Fenced with cause 8; the other half's cache drops its lines; the module is
Degraded, or Fault-held when no half serves (R25, R26, R61, R180, R207). -/
def fenceHalf (h : Nat) (s : State) : State :=
  if halfFenced s h then s
  else
    let s := if h = 0 then { s with rst.fencedEast := true } else { s with rst.fencedWest := true }
    let s := forAll (halfParts s h) (fun p s =>
      let s := faultEnd p s.fab.gid.toNat s
      settleStop p (forAll (sessionsOf s p) (moveSession p (1 - h)) s)) s
    let s := forAll ((List.range 16).map (16 * h + ·)) (fun z => fenceZoe z 8) s
    let s := cacheDrop (1 - h) (fun l => decide (pchHalf s l.pch = h)) s
    if s.rst.service = .serving then setService .degraded (100 + h) s else s

/-! ### Sources (R290 to R293) -/

/-- Source n of R312. -/
def source (s : State) (n : Nat) : Source := look s.las.sources n {}

/-- The state with a source changed. -/
def modSource (n : Nat) (f : Source → Source) (s : State) : State :=
  { s with las.sources := modAt s.las.sources n {} f }

/-- Whether a source is a spare (R312). -/
def isSpare (n : Nat) : Bool := decide (n = 4 ∨ n = 9 ∨ 26 ≤ n)

/-- How many laser sources the build has: without the I/O laser bank only the compute sources (R1, R312). -/
def sourceCount (s : State) : Nat := if s.ident.ml then 10 else 30

/-- The roles of the sources at step 8 of the release order: a source without a slot that has not failed fills its own slot, a
spare is in standby (R290, R292, R312). -/
def laserRoles (s : State) : State :=
  forAll (List.range (sourceCount s)) (fun n => modSource n (fun x =>
    if x.state = .failed ∨ x.slot ≠ 31 then x
    else if isSpare n then { x with state := .standby }
    else { x with slot := BitVec.ofNat 5 (if n < 10 then n % 5 else n - 10) })) s

/-- Every source that fills a slot starts, and LASER_ON goes high, once the interlock allows it and the release order has
reached the lasers (R309). -/
def startBanks (s : State) : State :=
  if s.las.off ∨ !s.las.allowed then s
  else
    let s := forAll (List.range (sourceCount s)) (fun n => modSource n (fun x =>
      if x.state = .off ∧ x.slot ≠ 31 then { x with state := .starting } else x)) s
    { s with side.laserOn := true }

/-- Every source that gives light is off; Zoetropes lose light and lanes go Dark (R308, R310). -/
def stopBanks (s : State) : State :=
  let s := forAll (List.range 30) (fun n => modSource n (fun x =>
    if x.state = .starting ∨ x.state = .inService then { x with state := .off, out := 0 } else x)) s
  let s := { s with side.laserOn := false }
  let s := forAll (List.range 32) loseLight s
  forAll (List.range 1024) laneKill s

/-- LASER_SOURCE_STABLE: a starting source gives stable light and is in service; its monitored output is free (R309, R313; log
entry 41). -/
def execLaserSourceStable (k : Fin 30) (s : State) : Host.Outcome State Fault Refusal :=
  .next (
    let x := source s k.val
    if k.val < sourceCount s ∧ x.state = .starting ∧ !x.switching then
      useFree (modSource k.val (fun x => { x with state := .inService, out := (freeVal s).setWidth 16 }) s)
    else s)

/-- A partition above a lowered ceiling runs at the ceiling: ZOE_DETPWR and ZOE_WEE_NOM are rewritten (R78, R291). -/
def applyCeil (h : Nat) (s : State) : State :=
  forAll ((List.range 16).map (16 * h + ·)) (fun z s =>
    let x := zoe s z
    let d := limitDet s h x.detpwr
    if d = x.detpwr then s
    else modZoe z (fun x => { x with
      detpwr := d
      prec := { x.prec with nom := match (quadPart s z).bind (find s.shows) with
        | some _ => nomTable x d
        | none => x.prec.nom } }) s) s

/-- A spare is switched into the slot of a failed source (R291, R293). -/
def switchSpare (spare : Nat) (slot : BitVec 5) (s : State) : State :=
  modSource spare (fun x => { x with slot := slot, switching := true, state := .starting }) s

/-- COMPUTE_SOURCE_FAILURE: a compute source fails and is switched off; its half's spare takes its slot, or the ceiling falls;
the loss of the last source fences the half (R290, R291). -/
def execComputeSourceFailure (k : Fin 10) (s : State) : Host.Outcome State Fault Refusal :=
  let x := source s k.val
  let h := k.val / 5
  let spare := 5 * h + 4
  .next (
    if x.state ≠ .inService ∧ x.state ≠ .starting then s
    else
      let s := modSource k.val (fun x => { x with state := .failed, slot := 31, out := 0, degrading := false, switching := false }) s
      let lit := decide (0 < laserCount s h)
      let dim (s : State) : State := forAll ((List.range 16).map (16 * h + ·)) loseLight s
      if (source s spare).state = .standby then
        let s := switchSpare spare x.slot s
        if lit then s else dim s
      else
        let s := raiseFault 0x0602 9 k.val 0xFF k.val s
        if lit then applyCeil h s else fenceHalf h (dim s))

/-- SOURCE_DEGRADING: a source's drive is above 90 % of its limit (R291). -/
def execSourceDegrading (k : Fin 30) (s : State) : Host.Outcome State Fault Refusal :=
  .next (
    if k.val < sourceCount s ∧ (source s k.val).state = .inService then
      raiseFault 0x0601 9 k.val 0xFF k.val (modSource k.val (fun x => { x with degrading := true }) s)
    else s)

/-- The lanes whose transmit fibre comb slot c feeds (R292). -/
def combLanes (c : Nat) : List Nat := (List.range 64).map (128 * (c / 2) + 64 * (c % 2) + ·)

/-- What a failed comb does to one lane: with a spare, Lit goes to Locking with its slice and Draining to Dark; without one it
is Spared with cause 8 (R293, R295). -/
def combLane (spare : Bool) (l : Nat) (s : State) : State :=
  let x := lane s l
  if spare then
    if x.state = .lit then modLane l (fun x => { x with afterComb := true }) (laneOut l .locking s)
    else if x.state = .draining then laneDark l s
    else s
  else if inPool x ∨ x.state = .dormant then laneSpare l 8 s
  else s

/-- COMB_FAILURE: a comb fails; its spare takes its slot where it is free (R292, R293). -/
def execCombFailure (k : Fin 20) (s : State) : Host.Outcome State Fault Refusal :=
  let n := k.val + 10
  let x := source s n
  let c := x.slot.toNat
  let spare := 26 + c / 4
  ifFitted s (
    if x.state ≠ .inService ∧ x.state ≠ .starting then s
    else
      let s := modSource n (fun x => { x with state := .failed, slot := 31, out := 0, degrading := false, switching := false }) s
      let ok := decide ((source s spare).state = .standby)
      let s := if ok then switchSpare spare x.slot s else s
      forAll (combLanes c) (combLane ok) s)

/-- SPARE_SWITCH_DONE: the switch of a spare is complete: it fills the slot, in service unless the interlock holds it off;
LAS_SWAPS advances and the replacement is recorded (R291, R293, R311). -/
def execSpareSwitchDone (k : Fin 30) (s : State) : Host.Outcome State Fault Refusal :=
  let x := source s k.val
  .next (
    if !x.switching then s
    else
      let on := !s.las.off && s.las.allowed
      let s := modSource k.val (fun x => { x with switching := false, state := if on then .inService else .off }) s
      let old := if k.val < 10 then 5 * (k.val / 5) + x.slot.toNat else 10 + x.slot.toNat
      raiseFault 0x0601 9 old 0xFF old { s with las.swaps := s.las.swaps + 1 })

/-! ### The interlock (R307 to R309) -/

/-- The DETAIL of an interlock fault: bit 0 A open, bit 1 B open (R380). -/
def openBits (s : State) : Nat := (if s.las.aClosed then 0 else 1) + (if s.las.bClosed then 0 else 2)

/-- A channel's recognised state and current. -/
def setChannel (ch : Channel) (closed : Bool) (ma : Byte) (s : State) : State :=
  match ch with
  | .a => { s with las.aClosed := closed, las.aMa := ma }
  | .b => { s with las.bClosed := closed, las.bMa := ma }

/-- Whether a channel is recognised closed. -/
def chClosed (s : State) : Channel → Bool
  | .a => s.las.aClosed
  | .b => s.las.bClosed

/-- When the channels' recognised states began to differ (R309). -/
def trackDiffer (s : State) : State :=
  if s.las.aClosed = s.las.bClosed then { s with las.differSince := none }
  else { s with las.differSince := some (s.las.differSince.getD (mtime s)) }

/-- INTERLOCK_OPEN: a channel is recognised open: every source is off, LAS_OPENS advances, the opening is recorded, the rearm
delay starts over (R307 to R310). -/
def execInterlockOpen (ch : Channel) (ma : Byte) (s : State) : Host.Outcome State Fault Refusal :=
  let was := chClosed s ch
  let t := trackDiffer (setChannel ch false ma s)
  .next (
    if !was then t
    else
      let t := { t with las.opens := t.las.opens + 1, las.rearm := false }
      let t := raiseFault 0x0604 13 0 0xFF (openBits t) t
      if t.las.off then t else stopBanks { t with las.off := true })

/-- The rearm delay starts from zero (R309). -/
def startRearm (s : State) : State := { s with las.rearm := true, las.rearmStart := mtime s }

/-- INTERLOCK_CLOSE: a channel is recognised closed; with both closed and no latch the rearm delay starts (R307, R309). -/
def execInterlockClose (ch : Channel) (ma : Byte) (s : State) : Host.Outcome State Fault Refusal :=
  let was := chClosed s ch
  let t := trackDiffer (setChannel ch true ma s)
  .next (if !was && t.las.aClosed && t.las.bClosed && !t.las.latch && t.las.off then startRearm t else t)

/-- DISAGREEMENT_LATCH: the channels have differed for more than 10 ms: LATCH is set and a Contained fault raised (R309). -/
def execDisagreementLatch (s : State) : Host.Outcome State Fault Refusal :=
  .next (
    match s.las.differSince with
    | none => s
    | some t =>
      if s.las.latch then s
      else
        let s := advanceTo (t.toNat + 10000000) s
        raiseFault 0x0605 13 0 0xFF (openBits s)
          { s with las.latch := true, las.rearm := false, las.disagree := s.las.disagree + 1 })

/-- REARM_DELAY_END: 1.0 s has passed with both channels closed: LASERS_OFF clears and the banks start (R309). -/
def execRearmDelayEnd (s : State) : Host.Outcome State Fault Refusal :=
  .next (
    if !s.las.rearm || s.las.latch || !s.las.aClosed || !s.las.bClosed then s
    else
      let s := advanceTo (s.las.rearmStart.toNat + 1000000000) s
      startBanks { s with las.rearm := false, las.off := false })

end Sys2Proof.Machine
end

