-- ==== Sys2Proof/Machine/DieLinks.lean ====
section
/-! DEFINITION. UCIe ports, the inter-hub link and loop-backs (R180, R316 to R326). -/

namespace Sys2Proof.Machine

open Sys2Proof

/-! ### UCIe ports (R317 to R319, R322) -/

/-- The index of a half. -/
def halfNo : Half → Nat
  | .east => 0
  | .west => 1

/-- UCIe module m of half h. -/
def ucie (s : State) (h m : Nat) : Ucie := look s.d2d.mods (65 * h + m) {}

/-- The state with a UCIe module changed. -/
def modUcie (h m : Nat) (f : Ucie → Ucie) (s : State) : State :=
  { s with d2d.mods := modAt s.d2d.mods (65 * h + m) {} f }

/-- Whether a UCIe module is up, with or without lane repair (R326). -/
def ucieUp (x : Ucie) : Bool := decide (x.state = 2 ∨ x.state = 3)

/-- The modules of the port that module m belongs to: logic die, a Kaleidoscope chiplet, the guest site (R325). -/
def portMods (m : Nat) : List Nat :=
  if m < 48 then List.range 48 else if m < 64 then (List.range 4).map (48 + 4 * ((m - 48) / 4) + ·) else [64]

/-- The modules of a port that are up. -/
def portUp (s : State) (h m : Nat) : Nat := ((portMods m).filter (fun i => ucieUp (ucie s h i))).length

/-- Modules of a port begin to train (R318). -/
def trainMods (h : Nat) (ms : List Nat) (s : State) : State := forAll ms (fun m => modUcie h m (fun x => { x with state := 1 })) s

/-- Guest site g. -/
def guest (s : State) (g : Nat) : Guest := if g = 0 then s.sec.guest0 else s.sec.guest1

/-- The state with a guest site changed. -/
def modGuest (g : Nat) (f : Guest → Guest) (s : State) : State :=
  if g = 0 then { s with sec.guest0 := f s.sec.guest0 } else { s with sec.guest1 := f s.sec.guest1 }

/-- Partition number p. -/
def toPart (p : Nat) : Option Part := if h : p < 12 then some ⟨p, h⟩ else none

/-- A hub's read of the guest ends without data: the host gets all ones (R256; log entry 57). -/
def onesToHost (g : Nat) (s : State) : State :=
  match toPart (guest s g).part.toNat with
  | some p => emit (.targetRead p (List.replicate 32 0xFF)) s
  | none => s

/-- The hub's outstanding reads of a guest complete without data (R256, R258, R369). -/
def endTrds (g : Nat) (s : State) : State :=
  modGuest g (fun x => { x with trds := [] }) (forAll (guest s g).trds (fun _ => onesToHost g) s)

/-- The lanes of a chiplet beyond its slice limit, highest position first, leave it (R271, R319). -/
def darkenExcess (c : Nat) (s : State) : State :=
  let held := (chipLanes c).filter (fun l => hasSlice (lane s l) && decide ((lane s l).state ≠ .draining))
  forAll (held.reverse.take (slicesHeld s c - sliceLimit s c)) (fun l s =>
    if (lane s l).state = .lit then
      let s := match lanePartner s l with
        | some m => sendCtrl m (.laneMsg l (.drain ⟨l % 1024, Nat.mod_lt _ (by decide)⟩)) s
        | none => s
      laneDrain l s
    else laneKill l s) s

/-- What a port's state means for the units behind it, once none of its modules trains (R319; log entry 42). -/
def settlePort (h m : Nat) (s : State) : State :=
  if (portMods m).any (fun i => decide ((ucie s h i).state = 1)) then s
  else if m < 48 then
    if portUp s h m < 24 ∧ !halfFenced s h then
      fenceHalf h (raiseFault 0x0701 7 h 0xFF (portUp s h m) s)
    else s
  else if m < 64 then darkenExcess (4 * h + (m - 48) / 4) s
  else if portUp s h m = 0 then modGuest h (fun g => { g with link := 0 }) (endTrds h s)
  else s

/-- UCIE_MODULE_TRAINED: a module finishes training or retraining: up at 32 GT/s, or failed; a logic die that negotiates
other than UCIe is Fatal in ZHJ1-A (R318, R319, R322; log entry 42). -/
def execUcieModuleTrained (h : Half) (m : Fin 65) (rep : UcieReport) (s : State) : Host.Outcome State Fault Refusal :=
  .next (
    if (ucie s (halfNo h) m.val).state ≠ 1 then s
    else
      let wrong := decide (m.val < 48) && !s.ident.ml && rep.bridge
      let ok := rep.rateOk && (decide (48 ≤ m.val) || rep.dieOk) && !wrong
      let s := modUcie (halfNo h) m.val (fun x => { x with
        state := if !ok then 4 else if rep.repaired = 0 then 2 else 3
        proto := rep.bridge
        repaired := rep.repaired }) s
      let s := if wrong then raiseFault 0x0703 7 (halfNo h) 0xFF (halfNo h) s else s
      let s := if m.val = 64 ∧ ok then
          modGuest (halfNo h) (fun g => { g with link := if g.link = 0 then 1 else g.link }) s
        else s
      settlePort (halfNo h) m.val s)

/-- UCIE_MODULE_DROP: a module drops out; its adapter retrains it and holds its flits; the adapter's retries move by a free
amount (R319, R326; log entry 42). -/
def execUcieModuleDrop (h : Half) (m : Fin 65) (s : State) : Host.Outcome State Fault Refusal :=
  .next (
    if ucieUp (ucie s (halfNo h) m.val) then
      useFree (modUcie (halfNo h) m.val (fun x => { x with state := 1, retry := x.retry + (freeVal s).setWidth 16 }) s)
    else s)

/-- UCIE_RETRAIN_TIMEOUT: a module has not retrained within 100 µs: it is failed, and its port is narrower (R319). -/
def execUcieRetrainTimeout (h : Half) (m : Fin 65) (s : State) : Host.Outcome State Fault Refusal :=
  .next (
    if (ucie s (halfNo h) m.val).state = 1 then settlePort (halfNo h) m.val (modUcie (halfNo h) m.val (fun x => { x with state := 4 }) s)
    else s)

/-! ### The inter-hub link (R180, R320, R321) -/

/-- A group in the direction that half h receives. -/
def ihl (s : State) (h g : Nat) : IhlGroup := look s.d2d.groups (48 * h + g) {}

/-- The state with a group changed. -/
def modIhl (h g : Nat) (f : IhlGroup → IhlGroup) (s : State) : State :=
  { s with d2d.groups := modAt s.d2d.groups (48 * h + g) {} f }

/-- The event times with `now`, those of the last millisecond. -/
def lastMs (now : Nat) (ts : List Nat) : List Nat := ts.filter (fun t => decide (now < t + 1000000)) ++ [now]

/-- The link goes down for training, as a block reset of it: every cached remote line is dropped (R180, R321). -/
def interHubDown (s : State) : State :=
  let s := forAll (List.range 96) (fun k s => modIhl (k / 48) (k % 48) (fun x => { x with
    trained := false, retrainDue := false, ueTimes := [], wires := [] }) s) s
  cacheDropBoth (fun _ => true) { s with d2d.ihlReset := true }

/-- IHL_CORRECTED_BEAT: counted; a wire with more than 16 in a millisecond takes the group's spare at the next replay, and a
group without a spare is due to be retrained (R321). -/
def execIhlCorrectedBeat (h : Half) (g : Fin 48) (wire : Fin 138) (s : State) : Host.Outcome State Fault Refusal :=
  let x := ihl s (halfNo h) g.val
  .next (
    if !x.trained then s
    else
      let ts := lastMs (timeNs s) (look x.wires wire.val [])
      let y := { x with wires := put x.wires wire.val ts [] }
      let y := if ts.length ≤ 16 ∨ (x.spareFor = some wire.val ∧ !x.spareUsed) then y
        else if x.spareFor = none then { y with spareFor := some wire.val }
        else { y with retrainDue := true }
      modIhl (halfNo h) g.val (fun _ => y) { s with d2d.ihlCe := s.d2d.ihlCe + 1 })

/-- IHL_UNCORRECTABLE_BEAT: counted; the receiver asks for a replay, at which a due spare wire is steered in; more than four
in a millisecond make retraining due (R321). -/
def execIhlUncorrectableBeat (h : Half) (g : Fin 48) (s : State) : Host.Outcome State Fault Refusal :=
  let x := ihl s (halfNo h) g.val
  .next (
    if !x.trained then s
    else
      let ts := lastMs (timeNs s) x.ueTimes
      let steer := x.spareFor.isSome && !x.spareUsed
      let y := { x with
        ueTimes := ts
        retrainDue := x.retrainDue || decide (4 < ts.length)
        spareUsed := x.spareUsed || x.spareFor.isSome
        wires := if steer then put x.wires (x.spareFor.getD 0) [] [] else x.wires }
      emit (.replay h g.val) (modIhl (halfNo h) g.val (fun _ => y) { s with d2d.ihlUe := s.d2d.ihlUe + 1 }))

/-- IHL_RETRAIN: a group over its limit, or without the spare it needs, is retrained, which takes the link down (R321). -/
def execIhlRetrain (h : Half) (g : Fin 48) (s : State) : Host.Outcome State Fault Refusal :=
  .next (
    if !(ihl s (halfNo h) g.val).retrainDue then s
    else
      let s := interHubDown s
      { s with d2d.retrains := satInc s.d2d.retrains, d2d.ihlTraining := true })

/-- IHL_TRAINED: training of the link ends: every group is trained, or one has failed, which is Fatal (R180, R321; log entry
43). -/
def execIhlTrained (failed : Option (Fin 48)) (s : State) : Host.Outcome State Fault Refusal :=
  .next (
    if !s.d2d.ihlTraining then s
    else
      let s := forAll (List.range 96) (fun k s => modIhl (k / 48) (k % 48) (fun x => { x with
        trained := decide (failed.map (·.val) ≠ some k) }) s) { s with d2d.ihlTraining := false }
      match failed with
      | none => { s with d2d.ihlReset := false }
      | some g => raiseFault 0x0702 5 0 0xFF g.val s)

/-! ### Loop-backs (R323, R324, R326) -/

/-- Whether the port that a loop-back names carries no traffic: its modules, or the link's group, are failed or down. -/
def lbIdle (s : State) (point half m : Nat) : Bool :=
  if point = 0 then (portMods 0).all (fun i => !ucieUp (ucie s half i) && decide ((ucie s half i).state ≠ 1))
  else if point = 1 then
    decide (m ≤ 64) && (portMods m).all (fun i => !ucieUp (ucie s half i) && decide ((ucie s half i).state ≠ 1))
  else decide (point = 2 ∧ m < 48) && !(ihl s half m).trained && !s.d2d.ihlTraining

/-- D2D_LB_CTL: the fields are stored; GO starts a loop-back on a port that is down or failed and is otherwise ignored
(R324, R326; log entry 44). -/
def execD2dLbCtl (v : Word) (s : State) : Host.Outcome State Fault Refusal :=
  let point := bitsOf v.toNat 28 24
  let half := bitsOf v.toNat 23 23
  let m := bitsOf v.toNat 22 16
  let ms := bitsOf v.toNat 15 0
  .next (
    if s.d2d.lbRunning then s
    else
      let s := { s with
        d2d.lbPoint := BitVec.ofNat 5 point, d2d.lbHalf := decide (half = 1), d2d.lbModule := BitVec.ofNat 7 m
        d2d.lbMs := BitVec.ofNat 16 ms }
      if v.getLsbD 31 && decide (point ≤ 2 ∧ 1 ≤ ms ∧ ms ≤ 1000) && lbIdle s point half m then
        { s with d2d.lbRunning := true, d2d.lbDone := false, d2d.lbPass := false, d2d.lbStart := timeNs s }
      else s)

/-- LOOPBACK_DONE: a loop-back's duration has passed, and its results are set (R323, R324, R326). -/
def execLoopbackDone (bits errs : BitVec 48) (s : State) : Host.Outcome State Fault Refusal :=
  .next (
    if !s.d2d.lbRunning then s
    else
      let s := advanceTo (s.d2d.lbStart + 1000000 * s.d2d.lbMs.toNat) s
      { s with
        d2d.lbRunning := false, d2d.lbDone := true, d2d.lbPass := decide (errs = 0)
        d2d.lbBits := bits, d2d.lbErr := errs })

end Sys2Proof.Machine
end

