-- ==== Sys2Proof/Machine/Partition.lean ====
section
/-! DEFINITION. What partitions are made of: the hand-over of a Quad's banks, function-level resets, and the PCIe events of
the functions (R183, R192, R193, R214, R216 to R218, R227). -/

namespace Sys2Proof.Machine

open Sys2Proof

/-- Every bank of Quad z handed to tag t without KEEP, its Marbles having stopped (R183). -/
def handQuad (z : Nat) (t : BitVec 20) (s : State) : State :=
  { s with mrb.banks := mapBlock s.mrb.banks (32768 * z) 32768 .free (fun
      | .free => if t = 0 then .free else .owned t
      | .owned _ => .scrubbing t 0
      | .scrubbing _ k => .scrubbing t k
      | .retired x => .retired x) }

/-- The queues of partition p's range (R196). -/
def partQueues (s : State) (p : Nat) : List Nat := (List.range (part s p).qcount).map ((part s p).qbase + ·)

/-- A queue at its reset values, its rate limit kept (R197, R216). -/
def queueClear (x : Queue) : Queue := { ({} : Queue) with rate := x.rate, burst := x.burst }

/-- The requests of a queue are ended inside the module by a function-level reset: their tags are quarantined, and what comes
late goes to the AER log only, which q + 8192 marks (R214, R216). -/
def flrTags (q : Nat) (s : State) : State :=
  { s with
    host.tags := s.host.tags.map (fun e => if e.2.q = q then (e.1, { e.2 with q := q + 8192, quarantined := true }) else e)
    host.freed := s.host.freed.map (fun e => if e.2 = q then (e.1, q + 8192) else e) }

/-- What a function-level reset does to the function's command window: reset values, the counters of R219 kept; a command in
progress ends with FUNC_RESET, one that an earlier reset has cut off is not ended again (R219, R227; log entry 45). -/
def flrWindow (f : Fn) (keep : Bool) (s : State) : State :=
  modWindow f (fun w =>
    let y : Window := { ignored := w.ignored, done := w.done }
    match w.run with
    | none => y
    | some r =>
      if w.status ≠ 1 then { y with status := w.status, rtag := w.rtag, elapsed := w.elapsed, run := w.run }
      else { y with
        status := 0x18, rtag := w.tag, elapsed := BitVec.ofNat 32 ((timeNs s - r.started.toNat) / 1000)
        done := w.done + 1, run := if keep then some r else none }) s

/-- A function's configuration space reset; keys of IDE streams are kept (R192, R216, R217). -/
def flrConfig (f : Fn) (busy : Bool) (s : State) : State :=
  modFnCfg f (fun c => { ({} : FnCfg) with enabled := c.enabled, ideKeys := c.ideKeys, inReset := busy }) s

/-- The other members of the group. -/
def otherMembers (s : State) : List Nat := (List.range (groupN s)).filter (fun m => !isSelf s m && isMember s m)

/-- The Show of partition p is stopped without parking and every session Closed without a completion; its Marbles stop
(R152, R216). -/
def flrStop (p : Nat) (s : State) : State :=
  let s := forAll (sessionsOf s p) (fun e => removeSession p (sidOf e.1)) s
  let s := removeShow p s
  forAll (quadsOf s p) (fun z s =>
    stopQuad z (modZoe z (fun x => { x with
      halt0 := true, halt1 := true, st0 := { x.st0 with thread := none }, st1 := { x.st1 with thread := none } }) s)) s

/-- The arrival counters of a partition's Quads and its filter entries are cleared together (R151, R216, R283). -/
def clearArrivals (p : Nat) (s : State) : State :=
  let s := { s with fab.filter := s.fab.filter.filter (fun e => decide (e.1 / 4194304 % 16 ≠ p)) }
  forAll (quadsOf s p) (fun z => modZoe z (fun x => { x with scn := { x.scn with arrivals := [] } })) s

/-- A function-level reset of partition p and its VF, sent to every member: everything up to its completion at 25 ms (R180, R183,
R216, R258; log entry 48). -/
def flrStart (p : Part) (s : State) : State :=
  let s := flrConfig (.vf p) true (flrWindow (.vf p) false s)
  let s := forAll (otherMembers s) (fun m => emit (.partReset m p.val)) s
  if !(part s p.val).exist then s
  else
    let s := modPart p.val (fun x => { x with resetting := true }) s
    let s := forAll (partQueues s p.val) (fun q s =>
      modQueue q (fun x => { (queueClear x) with
        state := .resetting, sqLog := x.sqLog, cqLog := x.cqLog, late := x.late, timeouts := x.timeouts }) (flrTags q s)) s
    let s := flrStop p.val s
    let s := forAll (quadsOf s p.val) (fun z => handQuad z (tagOf p.val 0xFFFF)) s
    let s := cacheDropBoth (fun l => decide (l.part.toNat = p.val)) s
    let s := clearArrivals p.val s
    forAll [0, 1] (fun g s =>
      if (guest s g).en ∧ (guest s g).part.toNat = p.val then endTrds g s else s) s

/-- VF_FUNCTION_LEVEL_RESET: a function-level reset of the VF that serves partition p, or its D3hot-to-D0 transition (R193,
R216, R218). -/
def execVfFunctionLevelReset (p : Part) (s : State) : Host.Outcome State Fault Refusal :=
  .next (if fnOn s (.vf p) then flrStart p s else s)

/-- A function-level reset is complete: the partition's queues are disabled at reset values (R216). -/
def flrEnd (p : Part) (s : State) : State :=
  let s := modFnCfg (.vf p) (fun c => { c with inReset := false }) s
  if (part s p.val).resetting then
    modPart p.val (fun x => { x with resetting := false }) (forAll (partQueues s p.val) (fun q => modQueue q queueClear) s)
  else s

/-- FLR_COMPLETE: 25 ms after the function-level reset began (R216). -/
def execFlrComplete (p : Part) (s : State) : Host.Outcome State Fault Refusal :=
  .next (if (fnCfg s (.vf p)).inReset ∨ (part s p.val).resetting then flrEnd p s else s)

/-- The partitions, as a list. -/
def allParts : List Part := List.finRange 12

/-- Queues are disabled at their reset values, but for those that a function-level reset holds; `tags` says where what comes late
for their reads is counted (R197, R214, R217). -/
def disableQueues (tags : Nat → State → State) (s : State) : State :=
  forAll (s.host.queues.map (·.1)) (fun q s =>
    let busy : Bool := match queuePart s q with
      | some p => (part s p).resetting
      | none => false
    if (queue s q).state = .resetting ∧ busy then s else modQueue q queueClear (tags q s)) s

/-- VF Enable is cleared: every partition whose VF was enabled is reset, and every queue is disabled (R217). -/
def clearVfEnable (tags : Nat → State → State) (s : State) : State :=
  let on := allParts.filter (fun p => fnOn s (.vf p))
  let s := disableQueues tags (forAll on flrStart s)
  { s with host.vfEnable := false }

/-- PF_FUNCTION_LEVEL_RESET: the PF is reset, VF Enable cleared; the module itself is not (R217, R219, R227). -/
def execPfFunctionLevelReset (s : State) : Host.Outcome State Fault Refusal :=
  .next (failImage (flrConfig .pf false (flrWindow .pf true (clearVfEnable flrTags s))))

/-- The VFs that NumVFs asks for, of those the build has (R191, R192). -/
def vfCount (s : State) (n : Nat) : Nat := min n (capValues s .pf).totalVfs

/-- VF_ENABLE_CHANGE: the host writes VF Enable and NumVFs; a change of VF Enable disables every queue (R191, R197, R217). -/
def execVfEnableChange (enable : Bool) (numVfs : Fin 13) (s : State) : Host.Outcome State Fault Refusal :=
  let n := vfCount s numVfs.val
  .next (
    if enable then
      if s.host.vfEnable then s
      else
        let s := disableQueues quarantineQueue s
        forAll allParts (fun p => modFnCfg (.vf p) (fun c => { c with enabled := decide (p.val < n) }))
          { s with host.vfEnable := true, host.numVfs := n }
    else if s.host.vfEnable then
      forAll allParts (fun p => modFnCfg (.vf p) (fun c => { c with enabled := false })) (clearVfEnable quarantineQueue s)
    else { s with host.numVfs := n })

/-- D3HOT_ENTRY: the function issues no request until it returns to D0 (R193). -/
def execD3hotEntry (f : Fn) (s : State) : Host.Outcome State Fault Refusal :=
  .next (if fnOn s f then modFnCfg f (fun c => { c with d3 := true }) s else s)

/-- IDE_KEY_PROGRAMMING: the host programs the keys of a function's selective IDE stream (R192, R247). -/
def execIdeKeyProgramming (f : Fn) (s : State) : Host.Outcome State Fault Refusal :=
  .next (if fnOn s f then modFnCfg f (fun c => { c with ideKeys := true }) s else s)

end Sys2Proof.Machine
end

