-- ==== Sys2Proof/Machine/CmdCore.lean ====
section
/-! DEFINITION. Command windows: starting, checking and ending a command (R219 to R227, R237). -/

namespace Sys2Proof.Machine

open Sys2Proof

set_option linter.unusedVariables false

/-! ### Digests (R245) -/

/-- The 48-byte SHA-384 digest of what an identity names; zeros of nothing (R245). -/
def digestOf (x : Option Nat) : List Byte :=
  match x with
  | some n => (List.range 48).map (Config.digestByte n)
  | none => List.replicate 48 0

/-- The identity of an image or of any byte string: its bytes, as a number (R245). -/
def imageId (bs : List Byte) : Nat := leNat (bs ++ [1])

/-- The SHA-384 digest of a byte string. -/
def sha384 (bs : List Byte) : List Byte := digestOf (some (imageId bs))

/-! ### Starting (R220, R221) -/

/-- Whether a window ignores CMD_GO: a command runs, or the function is in a function-level reset (R221, R227). -/
def winBusy (s : State) (w : Fn) : Bool := (window s w).run.isSome || (fnCfg s w).inReset

/-- Whether a window ignores every write: STATUS reads CMD_BUSY, or the function is in a function-level reset; an operation that
a PF function-level reset has cut off from its window keeps only CMD_GO out (R221, R227). -/
def winLocked (s : State) (w : Fn) : Bool := decide ((window s w).status = 1) || (fnCfg s w).inReset

/-- Writes to a window that were ignored are counted (R221). -/
def ignoreWrites (w : Fn) (n : Nat) (s : State) : State :=
  modWindow w (fun x => { x with ignored := x.ignored + BitVec.ofNat 48 n }) s

/-- The register writes of a packet: OPCODE, PLEN, TAG, CMD_GO and the parameter dwords (log entry 47). -/
def packetWrites (pk : Packet) : Nat := 4 + (pk.params.length + 3) / 4

/-- The registers and parameters of a packet as the host writes them; parameter bytes that it did not write stay as they were
(R220). -/
def fillWindow (w : Fn) (opcode : BitVec 16) (pk : Packet) (s : State) : State :=
  modWindow w (fun x => { x with
    opcode := opcode, flags := pk.flags, plen := pk.plen, tag := pk.tag, params := pk.params ++ x.params.drop pk.params.length }) s

/-- A packet and its CMD_GO written to a window that ignores CMD_GO: every write is ignored and counted, or only CMD_GO (R221,
R227). -/
def ignorePacket (w : Fn) (opcode : BitVec 16) (pk : Packet) (s : State) : State :=
  if winLocked s w then ignoreWrites w (packetWrites pk) s else ignoreWrites w 1 (fillWindow w opcode pk s)

/-- The packet in the window and CMD_GO written: busy, RLEN 0, and the command runs on the parameters as they are (R220). -/
def startCmd (w : Fn) (opcode : BitVec 16) (pk : Packet) (s : State) : State :=
  modWindow w (fun x => { x with
    status := 1, rlen := 0
    run := some {
      opcode := opcode, started := mtime s, noirq := pk.flags.getLsbD 0, params := slice x.params 0 pk.plen.toNat } })
    (fillWindow w opcode pk s)

/-- The parameter bytes of a running command: PLEN of them (R220). -/
def cmdParams (s : State) (w : Fn) : List Byte :=
  match (window s w).run with
  | some r => r.params
  | none => []

/-! ### Ending (R220, R227) -/

/-- A command ends: reply, RLEN, RTAG, ELAPSED, STATUS, and vector 0 unless NOIRQ; an operation that a PF function-level reset
has cut off from its window ends unseen (R220, R227). -/
def endCmd (w : Fn) (st : Nat) (reply : List Byte) (s : State) : State :=
  let x := window s w
  match x.run with
  | none => s
  | some r =>
    if x.status ≠ 1 then modWindow w (fun x => { x with run := none }) s
    else
      let s := modWindow w (fun x => { x with
        status := BitVec.ofNat 16 st, rlen := BitVec.ofNat 11 reply.length, rtag := x.tag
        elapsed := BitVec.ofNat 32 ((timeNs s - r.started.toNat) / 1000)
        done := x.done + 1, reply := reply, run := none }) s
      if r.noirq then s else signalVec w 0 s

/-- A command ends with an error and an empty reply. -/
def failCmd (w : Fn) (st : Nat) (s : State) : State := endCmd w st [] s

/-! ### Checks (R222, R223) -/

/-- Whether CAL_FULL runs on the module. -/
def calRuns (s : State) : Bool :=
  match (window s .pf).run with
  | some r => decide (r.opcode = 0x0400)
  | none => false

/-- The opcodes that the spec lists (R228 to R235). -/
def listedOpcodes : List Nat :=
  [0x0100, 0x0101, 0x0102, 0x0103, 0x0104, 0x0200, 0x0201, 0x0202, 0x0203, 0x0204, 0x0205, 0x0206, 0x0207, 0x0208,
   0x0300, 0x0301, 0x0302, 0x0303, 0x0304, 0x0400, 0x0401, 0x0402, 0x0403, 0x0404, 0x0405,
   0x0500, 0x0501, 0x0502, 0x0503, 0x0504, 0x0505, 0x0506, 0x0600, 0x0601, 0x0602, 0x0603,
   0x0700, 0x0701, 0x0702, 0x0703, 0x0800, 0x0801, 0x0802, 0x0803, 0x0804]

/-- Whether the service state lets a window accept an opcode (R223; Cold as Booting). -/
def serviceAllows (s : State) (w : Fn) (op : Nat) : Bool :=
  (match s.rst.service with
    | .cold => decide (op = 0x0100 ∨ op = 0x0101)
    | .booting => decide (op = 0x0100 ∨ op = 0x0101)
    | .calibrating => decide (op ≠ 0x0302 ∧ op ≠ 0x0400)
    | .faultHeld => decide (op / 256 = 1 ∨ op / 256 = 7 ∨ op = 0x0800 ∨ op = 0x0802)
    | .stopping => decide (op = 0x0100 ∨ op = 0x0101 ∨ op = 0x0600 ∨ op / 256 = 7 ∨ (op = 0x0603 ∧ w = .pf))
    | _ => true)
  && !(decide (op = 0x0302 ∧ w ≠ .pf) && calRuns s)

/-- The status of the first check of R222 that fails, none when all pass. -/
def checkCmd (s : State) (w : Fn) (op : Nat) (len : Nat → Bool) (pfOnly hasPart : Bool) (ok : List Byte → Bool) : Option Nat :=
  let x := window s w
  let ps := cmdParams s w
  if 2048 < x.plen.toNat ∨ !len x.plen.toNat then some 0x12
  else if x.flags.toNat / 2 ≠ 0 then some 0x10
  else if w ≠ .pf ∧ (pfOnly ∨ (hasPart ∧ ps.getD 0 0 ≠ 0xFF)) then some 0x13
  else if !serviceAllows s w op then some 0x16
  else if s.rst.service = .restricted ∧ (op = 0x0300 ∨ op = 0x0302) then some 0x15
  else if !ok ps then some 0x11
  else none

/-- A command written into a window and started: ignored and counted where the window is busy; without a lease holder it stays
busy; else it ends at the first check that fails, or `act` carries it out (R220 to R225, R333). -/
def command (w : Fn) (pk : Packet) (op : Nat) (len : Nat → Bool) (pfOnly hasPart : Bool) (ok : List Byte → Bool)
    (act : List Byte → State → State) (s : State) : State :=
  if !fnOn s w then s
  else if winBusy s w then ignorePacket w (BitVec.ofNat 16 op) pk s
  else
    let s := startCmd w (BitVec.ofNat 16 op) pk s
    if !mrtServes s then s
    else match checkCmd s w op len pfOnly hasPart ok with
      | some st => failCmd w st s
      | none => act (cmdParams s w) s

/-- A parameter byte as a number. -/
def pByte (ps : List Byte) (i : Nat) : Nat := (ps.getD i 0).toNat

/-- The partition that a PART field names: the window's own in a partition window (R228). -/
def cmdPart (w : Fn) (ps : List Byte) : Nat :=
  match w with
  | .pf => pByte ps 0
  | .vf p => p.val

/-- Whether a PART field names a partition (R228, R238); 4 partitions on ZHJ1-L. -/
def partOk (s : State) (w : Fn) (ps : List Byte) : Bool := decide (cmdPart w ps < if s.ident.ml then 4 else 12)

/-- Whether a MODULE field names a member of the group (R228). -/
def moduleOk (s : State) (ps : List Byte) : Bool := decide (pByte ps 0 < 64) && isMember s (pByte ps 0)

/-- A PLEN that the opcode's table gives (R222). -/
def plenIs (n : Nat) : Nat → Bool := fun k => decide (k = n)

/-- A command relayed to the other members (R219; log entry 48). -/
def relayAll (op : Nat) (ps : List Byte) (s : State) : State :=
  forAll (otherMembers s) (fun m => emit (.relay m (BitVec.ofNat 16 op) ps)) s

/-- A command for another member, m, is relayed: it ends with what the partner answers, OK or one of the statuses `also` that the
opcode's group gives; the `n` bytes of the reply, empty with an error, are free here too (log entry 48). -/
def relayTo (w : Fn) (m op n : Nat) (also : List Nat) (ps : List Byte) (s : State) : State :=
  let st := (0 :: also).getD ((freeVal s).toNat % (also.length + 1)) 0
  let s := useFree (emit (.relay m (BitVec.ofNat 16 op) ps) s)
  if st = 0 ∨ st = 0x1B then endCmd w st (freeBytes s n) (useFrees n s) else failCmd w st s

/-- A query of the member that MODULE names, relayed. -/
def relayQuery (w : Fn) (op n : Nat) (ps : List Byte) (s : State) : State := relayTo w (pByte ps 0) op n [] ps s

/-- Whether every partner reports success of a command that runs on every member; free where there are partners (log entry
48). -/
def partnersAgree (s : State) : Bool × State :=
  if otherMembers s = [] then (true, s) else ((freeVal s).getLsbD 0, useFree s)

/-! ### Ignored writes and the window's own limit (R221, R224) -/

/-- CMD_GO_IGNORED: a write to a busy window, a CMD_GO beside an operation that a PF function-level reset has cut off, or a CMD_GO
not equal to 1 is ignored and counted (R221, R227). -/
def execCmdGoIgnored (w : Fn) (off : BitVec 12) (v : Word) (s : State) : Host.Outcome State Fault Refusal :=
  .next (if fnOn s w ∧ (winLocked s w ∨ (off = 0x00C ∧ (winBusy s w ∨ v ≠ 1))) then ignoreWrites w 1 s else s)

/-- The maximum busy time of an opcode in µs (R228 to R235). -/
def maxBusyUs (op : Nat) : Nat :=
  if op = 0x0103 then 60000 else if op = 0x0104 then 2000
  else if op ≤ 0x0101 then 200 else if op = 0x0102 then 100
  else if 0x0200 ≤ op ∧ op ≤ 0x0202 then 25000
  else if op = 0x0203 then 30000 else if op = 0x0207 then 5000 else if op = 0x0208 then 100
  else if op / 256 = 2 then 200
  else if op = 0x0300 then 2000 else if op = 0x0301 then 1000 else if op = 0x0302 then 45000 else if op = 0x0303 then 8000
  else if op / 256 = 3 then 200
  else if op = 0x0400 then 1500000 else if op = 0x0403 then 500 else if op / 256 = 4 then 200
  else if op = 0x0500 then 1000 else if op = 0x0501 then 12000 else if op = 0x0502 then 5000 else if op = 0x0503 then 1000
  else if op = 0x0504 then 200 else if op = 0x0505 then 45000 else if op = 0x0506 then 100
  else if op = 0x0600 then 200 else if op = 0x0603 then 60000 else if op / 256 = 6 then 100
  else if op = 0x0700 ∨ op = 0x0702 then 500 else if op / 256 = 7 then 100
  else if op = 0x0800 then 10000 else if op = 0x0801 then 5000 else if op = 0x0802 then 1000 else if op = 0x0803 then 80000
  else 12000000

/-- COMMAND_TIMEOUT: a command is still busy at twice its maximum: the window ends it with INTERNAL, and a Contained fault is
raised (R224). -/
def execCommandTimeout (w : Fn) (s : State) : Host.Outcome State Fault Refusal :=
  .next (
    match (window s w).run with
    | none => s
    | some r =>
      let s := advanceTo (r.started.toNat + 2000 * maxBusyUs r.opcode.toNat) s
      let p := match w with
        | .pf => 0xFF
        | .vf p => p.val
      if (window s w).status ≠ 1 then failCmd w 0x19 s
      else raiseFault 0x0103 14 (winKey w) p r.opcode.toNat (failCmd w 0x19 s))

end Sys2Proof.Machine
end

