-- ==== Sys2Proof/Machine/CmdPart.lean ====
section
/-! DEFINITION. The commands of the 0x02xx group: partitions and queues (R172, R183, R196 to R200, R226, R229, R238 to R241,
R258, R404). -/

namespace Sys2Proof.Machine

open Sys2Proof

/-! ### The resource fields of PART_CREATE (R229) -/

/-- The Quads of a Quad mask. -/
def psQuads (ps : List Byte) : List Nat := (List.range 32).filter (fun q => (fieldAt ps 4 4).testBit q)
/-- The pseudo-channels of a bitmap. -/
def psPchs (ps : List Byte) : List Nat := (List.range 192).filter (fun c => (fieldAt ps 8 24).testBit c)
/-- QBASE. -/
def psQbase (ps : List Byte) : Nat := fieldAt ps 32 2
/-- QCOUNT. -/
def psQcount (ps : List Byte) : Nat := fieldAt ps 34 2
/-- The VF vectors. -/
def psVecs (ps : List Byte) : Nat := fieldAt ps 36 2
/-- The lit-wavelength budget. -/
def psLit (ps : List Byte) : Nat := fieldAt ps 38 2
/-- The power ceiling in W. -/
def psCeil (ps : List Byte) : Nat := fieldAt ps 40 2
/-- The way mask. -/
def psWays (ps : List Byte) : BitVec 16 := BitVec.ofNat 16 (fieldAt ps 42 2)

/-- The reserved bytes are 0, PART names a partition, and no pseudo-channel is named that the build lacks (R2, R222). -/
def resourceFields (s : State) (w : Fn) (ps : List Byte) : Bool :=
  zeroBytes ps 1 4 && zeroBytes ps 44 48 && partOk s w ps && (psPchs ps).all (fun c => decide (c < if s.ident.ml then 128 else 192))

/-- The number of queues of the build (R1). -/
def queueCount (s : State) : Nat := if s.ident.ml then 1024 else 4096

/-- The partitions other than p that exist. -/
def otherParts (s : State) (p : Nat) : List Nat := (List.range 12).filter (fun i => decide (i ≠ p) && (part s i).exist)

/-- Whether a Quad or a pseudo-channel named is owned by another partition (R229, R238). -/
def ownedElsewhere (s : State) (p : Nat) (ps : List Byte) : Bool :=
  (psQuads ps).any (fun q => decide (quadPart s q ≠ none ∧ quadPart s q ≠ some p))
    || (psPchs ps).any (fun c => (pch s c).valid && decide ((pch s c).part.toNat ≠ p))

/-- Whether a queue range overlaps another partition's, or passes the last queue (R229). -/
def rangeBad (s : State) (p base n : Nat) : Bool :=
  decide (queueCount s < base + n)
    || (otherParts s p).any (fun i => decide (base < (part s i).qbase + (part s i).qcount ∧ (part s i).qbase < base + n))

/-- The wavelength budgets of all partitions with p's set to n. -/
def budgetSum (s : State) (p n : Nat) : Nat := ((otherParts s p).map (fun i => (part s i).litBudget)).sum + n

/-- The vectors of all partitions with p's set to n. -/
def vecSum (s : State) (p n : Nat) : Nat := ((otherParts s p).map (fun i => (part s i).vecCount)).sum + n

/-- Whether the block of n vectors from b is free of every partition's block (R404). -/
def blockFree (s : State) (b n : Nat) : Bool :=
  decide (b + n ≤ 8192) && (List.range 12).all (fun i =>
    !(part s i).exist || decide (b + n ≤ (part s i).vecBase) || decide ((part s i).vecBase + (part s i).vecCount ≤ b))

/-- The lowest-numbered free block of n vectors (R404). -/
def lowBlock (s : State) (n : Nat) : Option Nat :=
  let ends := 0 :: ((List.range 12).filter (fun i => (part s i).exist)).map (fun i => (part s i).vecBase + (part s i).vecCount)
  (ends.filter (fun b => blockFree s b n)).foldl (fun best b => some (match best with
    | none => b
    | some x => min x b)) none

/-- The lanes that partition p holds (R238, R404). -/
def lanesHeld (s : State) (p : Nat) : Nat := s.fab.lanes.countP (fun e => decide (e.2.holder.toNat = p))

/-! ### Units handed over (R172, R183) -/

/-- Quads given to partition p: their banks go to its shared context (R183, R238). -/
def giveQuads (p : Nat) (qs : List Nat) (s : State) : State :=
  forAll qs (fun z s => handQuad z (tagOf p 0xFFFF) (modZoe z (fun x => { x with part := BitVec.ofNat 4 p }) s)) s

/-- Quads taken from a partition: their Marbles stop with cause 7, their banks go to 0 (R116, R183). -/
def takeQuads (qs : List Nat) (s : State) : State :=
  forAll qs (fun z s => handQuad z 0 (stopQuad z (modZoe z (fun x => { x with part := 0xF }) s))) s

/-- A partition's way mask set; its lines in ways removed leave both caches (R177, R229). -/
def setWays (p : Nat) (mask : BitVec 16) (s : State) : State :=
  let gone := look s.hbm.ways p 0 &&& ~~~mask
  cacheDropBoth (fun l => decide (l.part.toNat = p) && gone.getLsbD l.way) { s with hbm.ways := put s.hbm.ways p mask 0 }

/-- The command waits for the zeroing of pseudo-channels and the scrubs of Quads' banks: it ends when both are over. -/
def waitUnits (w : Fn) (pchs quads : List Nat) (s : State) : State :=
  modWindow w (fun x => { x with run := x.run.map (fun r => { r with arg := 1, xs := pchs ++ quads.map (· + 192) }) }) s

/-- Whether every unit a command waits for is ready (R172, R183). -/
def unitsDone (s : State) (xs : List Nat) : Bool :=
  let quads := (xs.filter (fun k => decide (192 ≤ k))).map (· - 192)
  (xs.filter (fun k => decide (k < 192))).all (fun c => !(pch s c).zeroing)
    && s.mrb.banks.all (fun e => !quads.contains (quadOf e.1) || (match e.2 with
      | .scrubbing _ _ => false
      | _ => true))

/-! ### PART_CREATE, PART_GRANT, PART_RELEASE (R229, R238, R404; log entry 49) -/

/-- A command on partitions as the other members meet it: relayed, and whether none of them answers that another partition owns what
it names, which is free (R238; log entry 48). -/
def askMembers (op : Nat) (ps : List Byte) (s : State) : Bool × State := partnersAgree (relayAll op ps s)

/-- PART_CREATE: a partition with its resources, on every member; its memory key is drawn (R229, R238, R247, R404). -/
def execPartCreate (w : Fn) (pk : Packet) (s : State) : Host.Outcome State Fault Refusal :=
  .next (command w pk 0x0200 (plenIs 48) true true
    (fun ps => resourceFields s w ps && decide (psQuads ps ≠ [] ∧ psPchs ps ≠ [] ∧ 1 ≤ psQcount ps ∧ 2 ≤ psVecs ps ∧ psVecs ps ≤ 2048
      ∧ psLit ps ≤ 896 ∧ 1 ≤ psCeil ps ∧ psCeil ps ≤ 1000))
    (fun ps s =>
      let p := cmdPart w ps
      if (part s p).exist ∨ ownedElsewhere s p ps then failCmd w 0x28 s
      else if rangeBad s p (psQbase ps) (psQcount ps) ∨ 8192 < vecSum s p (psVecs ps) ∨ 896 < budgetSum s p (psLit ps) then
        failCmd w 0x11 s
      else match lowBlock s (psVecs ps) with
        | none => failCmd w 0x11 s
        | some b =>
          let a := askMembers 0x0200 ps s
          let s := a.2
          if !a.1 then failCmd w 0x28 s else
          let s := modPart p (fun _ => {
            exist := true, quads := BitVec.ofNat 32 (fieldAt ps 4 4), qbase := psQbase ps, qcount := psQcount ps
            vecBase := b, vecCount := psVecs ps, litBudget := psLit ps, ceil := psCeil ps, memKey := s.sec.draws })
            { s with sec.draws := s.sec.draws + 1 }
          let s := giveQuads p (psQuads ps) (setWays p (psWays ps) s)
          let s := forAll (psPchs ps) (fun c => pchAssign c (some p)) s
          waitUnits w (psPchs ps) (psQuads ps) s) s)

/-- Where PART_GRANT's queue range leaves the partition's range; none for a range that does not fit (R404). -/
def grantRange (s : State) (p : Nat) (ps : List Byte) : Option (Nat × Nat) :=
  let x := part s p
  let b := psQbase ps
  let n := psQcount ps
  if n = 0 ∨ (x.qbase ≤ b ∧ b + n ≤ x.qbase + x.qcount) then some (x.qbase, x.qcount)
  else if rangeBad s p b n then none
  else if b = x.qbase + x.qcount then some (x.qbase, x.qcount + n)
  else if b + n = x.qbase then some (b, x.qcount + n)
  else none

/-- Where PART_GRANT's vector count leaves the block: extended upward, or moved; none when it does not fit (R404). -/
def grantVecs (s : State) (p n : Nat) : Option (Nat × Nat) :=
  let x := part s p
  if n = 0 ∨ n = x.vecCount then some (x.vecBase, x.vecCount)
  else if n < x.vecCount ∨ 2048 < n ∨ 8192 < vecSum s p n then none
  else if blockFree s (x.vecBase + x.vecCount) (n - x.vecCount) then some (x.vecBase, n)
  else (lowBlock s n).map (fun b => (b, n))

/-- Whether a guest site is enabled for partition p (R258). -/
def guestOn (s : State) (p : Nat) : Bool := [0, 1].any (fun g => (guest s g).en && decide ((guest s g).part.toNat = p))

/-- PART_GRANT: resources are added to a partition; those it already owns are left as they are (R229, R258, R404). -/
def execPartGrant (w : Fn) (pk : Packet) (s : State) : Host.Outcome State Fault Refusal :=
  .next (command w pk 0x0201 (plenIs 48) true true (resourceFields s w) (fun ps s =>
    let p := cmdPart w ps
    let x := part s p
    let lit := if psLit ps = 0xFFFF then x.litBudget else psLit ps
    let ceil := if psCeil ps = 0 then x.ceil else psCeil ps
    if !x.exist then failCmd w 0x11 s
    else if ownedElsewhere s p ps ∨ (psPchs ps ≠ [] ∧ guestOn s p) then failCmd w 0x28 s
    else if lit < x.litBudget ∨ 896 < lit ∨ 896 < budgetSum s p lit ∨ ceil < x.ceil ∨ 1000 < ceil then failCmd w 0x11 s
    else match grantRange s p ps, grantVecs s p (psVecs ps) with
      | some r, some v =>
        let qs := (psQuads ps).filter (fun q => !x.quads.getLsbD q)
        let cs := (psPchs ps).filter (fun c => !(pch s c).valid)
        let a := askMembers 0x0201 ps s
        let s := a.2
        if !a.1 then failCmd w 0x28 s else
        let s := modPart p (fun x => { x with
          quads := x.quads ||| BitVec.ofNat 32 (fieldAt ps 4 4), qbase := r.1, qcount := r.2, vecBase := v.1, vecCount := v.2
          litBudget := lit, ceil := ceil }) s
        let s := giveQuads p qs (setWays p (look s.hbm.ways p 0 ||| psWays ps) s)
        let s := forAll cs (fun c => pchAssign c (some p)) s
        waitUnits w cs qs s
      | _, _ => failCmd w 0x11 s) s)

/-- Where PART_RELEASE's queue range leaves the partition's range, with the queues removed; none for a range that does not
lie at one end or leaves no queue (R404). -/
def releaseRange (s : State) (p : Nat) (ps : List Byte) : Option (Nat × Nat × List Nat) :=
  let x := part s p
  let b := psQbase ps
  let n := psQcount ps
  let gone := (List.range n).map (b + ·)
  if n = 0 then some (x.qbase, x.qcount, [])
  else if b + n ≤ x.qbase ∨ x.qbase + x.qcount ≤ b then
    if rangeBad s p b n then none else some (x.qbase, x.qcount, [])
  else if x.qcount ≤ n then none
  else if b = x.qbase then some (b + n, x.qcount - n, gone)
  else if b + n = x.qbase + x.qcount then some (x.qbase, x.qcount - n, gone)
  else none

/-- Whether the loaded Show of partition p maps a Quad or a pseudo-channel named: the first QUADS and the first PCH of those
it owns (R149, R173, R229). -/
def showMaps (s : State) (p : Nat) (ps : List Byte) : Bool :=
  match find s.shows p with
  | none => false
  | some w => ((quadsOf s p).take w.hdr.quads).any (fun q => (psQuads ps).contains q)
      || ((ownedPchs s p).take w.hdr.pch).any (fun c => (psPchs ps).contains c)

/-- Whether a partition's window is busy (R226). -/
def partWindowBusy (s : State) (p : Nat) : Bool := (look s.windows (p + 1) {}).run.isSome

/-- Whether a queue or a guest site of partition p uses a vector at or above n (R404). -/
def vecUsed (s : State) (p n : Nat) : Bool :=
  (partQueues s p).any (fun q => decide ((queue s q).state ≠ .disabled ∧ n ≤ (queue s q).vector.toNat))
    || [0, 1].any (fun g => (guest s g).en && decide ((guest s g).part.toNat = p ∧ n ≤ (guest s g).nvec.toNat))

/-- PART_RELEASE: resources are removed from a partition (R226, R229, R258, R404). -/
def execPartRelease (w : Fn) (pk : Packet) (s : State) : Host.Outcome State Fault Refusal :=
  .next (command w pk 0x0202 (plenIs 48) true true (resourceFields s w) (fun ps s =>
    let p := cmdPart w ps
    let x := part s p
    let lit := if psLit ps = 0xFFFF then x.litBudget else psLit ps
    let ceil := if psCeil ps = 0 then x.ceil else psCeil ps
    let vecs := if psVecs ps = 0 then x.vecCount else psVecs ps
    if !x.exist then failCmd w 0x11 s
    else if partWindowBusy s p then failCmd w 0x2A s
    else if ownedElsewhere s p ps ∨ showMaps s p ps ∨ (psPchs ps ≠ [] ∧ guestOn s p) then failCmd w 0x28 s
    else if x.litBudget < lit ∨ x.ceil < ceil ∨ x.vecCount < vecs ∨ vecs < 2 then failCmd w 0x11 s
    else match releaseRange s p ps with
      | none => failCmd w 0x11 s
      | some r =>
        if lit < lanesHeld s p ∨ vecUsed s p vecs ∨ r.2.2.any (fun q => decide ((queue s q).state ≠ .disabled)) then failCmd w 0x28 s
        else
          let qs := (psQuads ps).filter (fun q => x.quads.getLsbD q)
          let cs := (psPchs ps).filter (fun c => (pch s c).valid)
          let a := askMembers 0x0202 ps s
          let s := a.2
          if !a.1 then failCmd w 0x28 s else
          let s := takeQuads qs s
          let s := modPart p (fun x => { x with
            quads := x.quads &&& ~~~BitVec.ofNat 32 (fieldAt ps 4 4), qbase := r.1, qcount := r.2.1, vecCount := vecs
            litBudget := lit, ceil := ceil }) s
          let s := setWays p (look s.hbm.ways p 0 &&& ~~~psWays ps) s
          let s := forAll cs (fun c => pchAssign c none) s
          waitUnits w cs qs s) s)

/-! ### PART_DESTROY (R226, R241) -/

/-- A partition's resources are released and it no longer exists: keys erased, guest site disabled, IDE keys invalid, lines
dropped, staged images gone (R240, R241). -/
def destroyPart (p : Part) (s : State) : State :=
  let qs := quadsOf s p.val
  let s := forAll (partQueues s p.val) (fun q s => modQueue q (fun _ => {}) (quarantineQueue q s)) s
  let cs := ownedPchs s p.val
  let s := takeQuads qs s
  let s := cacheDropBoth (fun l => decide (l.part.toNat = p.val)) { s with hbm.ways := drop s.hbm.ways p.val }
  let s := forAll cs (fun c => pchAssign c none) s
  let s := forAll [0, 1] (fun g s => modGuest g (fun x =>
    if x.en ∧ x.part.toNat = p.val then { x with en := false } else x) (if (guest s g).en ∧ (guest s g).part.toNat = p.val then endTrds g s else s)) s
  let s := modFnCfg (.vf p) (fun c => { c with ideKeys := false }) s
  { s with
    staged := s.staged.filter (fun e => decide (e.1 / 256 ≠ p.val))
    sec.meas := drop s.sec.meas (16 + p.val)
    sessions := s.sessions.filter (fun e => decide (e.1 / 16777216 ≠ p.val))
    parts := drop s.parts p.val }

/-- The resources of a partition are released, and the command waits for their zeroing and scrubs. -/
def destroyNow (w : Fn) (p : Nat) (s : State) : State :=
  match toPart p with
  | none => s
  | some q => waitUnits w (ownedPchs s p) (quadsOf s p) (destroyPart q s)

/-- PART_DESTROY: with FORCE a function-level reset comes first; without it a loaded Show or a session refuses (R226, R229,
R241). -/
def execPartDestroy (w : Fn) (pk : Packet) (s : State) : Host.Outcome State Fault Refusal :=
  .next (command w pk 0x0203 (plenIs 4) true true (fun ps => partOk s w ps && decide (pByte ps 1 < 2) && zeroBytes ps 2 4) (fun ps s =>
    let p := cmdPart w ps
    let t := relayAll 0x0203 ps s
    if !(part s p).exist then failCmd w 0x11 s
    else if pByte ps 1 = 1 then
      match toPart p with
      | none => s
      | some q => modWindow w (fun x => { x with run := x.run.map (fun r => { r with arg := 2, xs := [p] }) }) (flrStart q t)
    else if partWindowBusy s p then failCmd w 0x2A s
    else if (find s.shows p).isSome ∨ sessionsOf s p ≠ [] then failCmd w 0x28 s
    else destroyNow w p t) s)

/-- PART_QUERY: what the partition owns now, as the 48 bytes of PART_CREATE (R229). -/
def execPartQuery (w : Fn) (pk : Packet) (s : State) : Host.Outcome State Fault Refusal :=
  .next (command w pk 0x0204 (plenIs 4) false true (fun ps => partOk s w ps && zeroBytes ps 1 4) (fun ps s =>
    let p := cmdPart w ps
    if !(part s p).exist then failCmd w 0x11 s
    else
      endCmd w 0 (partBytes s p) s) s)

/-- PART_SETTINGS: DELEGATE acts at once, the rest at the next Show load (R229). -/
def execPartSettings (w : Fn) (pk : Packet) (s : State) : Host.Outcome State Fault Refusal :=
  .next (command w pk 0x0205 (plenIs 16) false true
    (fun ps => partOk s w ps && decide (pByte ps 1 < 2 ∧ pByte ps 2 < 2 ∧ 10 ≤ fieldAt ps 4 4 ∧ fieldAt ps 4 4 ≤ 10000) && zeroBytes ps 3 4)
    (fun ps s =>
      let p := cmdPart w ps
      if !(part s p).exist then failCmd w 0x11 s
      else endCmd w 0 [] (relayAll 0x0205 ps (modPart p (fun x => { x with
        mixNext := decide (pByte ps 1 = 1), delegate := decide (pByte ps 2 = 1)
        swaitNext := fieldAt ps 4 4, parkingNext := fieldAt ps 8 8 }) s))) s)

/-! ### Queues (R197, R200, R218, R229) -/

/-- The queue that a command names: absolute in the PF window, in the partition's range in its window (R229). -/
def cmdQueue (s : State) (w : Fn) (ps : List Byte) : Option Nat :=
  let q := fieldAt ps 0 2
  match w with
  | .pf => if q < queueCount s then some q else none
  | .vf p => if (part s p.val).exist ∧ q < (part s p.val).qcount then some ((part s p.val).qbase + q) else none

/-- QUEUE_CREATE: a disabled queue is enabled with its rings, vector, PASID and capability tag, and everything else of it at its reset
value, its rate limit too (R197, R201, R229; log entry 50). -/
def execQueueCreate (w : Fn) (pk : Packet) (s : State) : Host.Outcome State Fault Refusal :=
  .next (command w pk 0x0206 (plenIs 40) false false
    (fun ps => (cmdQueue s w ps).isSome
      && decide (4 ≤ pByte ps 2 ∧ pByte ps 2 ≤ 16 ∧ 4 ≤ pByte ps 3 ∧ pByte ps 3 ≤ 16 ∧ fieldAt ps 4 2 < 2048
        ∧ 1 ≤ fieldAt ps 6 2 ∧ fieldAt ps 6 2 ≤ 256 ∧ fieldAt ps 8 2 < 1024 ∧ pByte ps 10 < 2 ∧ fieldAt ps 12 4 < 1048576
        ∧ fieldAt ps 24 8 % 4096 = 0 ∧ fieldAt ps 32 8 % 4096 = 0)
      && zeroBytes ps 11 12 && zeroBytes ps 18 24)
    (fun ps s =>
      match cmdQueue s w ps with
      | none => failCmd w 0x11 s
      | some q =>
        if (queue s q).state ≠ .disabled then failCmd w 0x28 s
        else endCmd w 0 [] (modQueue q (fun _ => { ({} : Queue) with
          state := .enabled
          sqLog := BitVec.ofNat 5 (pByte ps 2), cqLog := BitVec.ofNat 5 (pByte ps 3), vector := BitVec.ofNat 11 (fieldAt ps 4 2)
          ithr := BitVec.ofNat 9 (fieldAt ps 6 2), itime := BitVec.ofNat 10 (fieldAt ps 8 2)
          pasidEn := decide (pByte ps 10 = 1), pasid := BitVec.ofNat 20 (fieldAt ps 12 4), capTag := BitVec.ofNat 16 (fieldAt ps 16 2)
          sqBase := BitVec.ofNat 64 (fieldAt ps 24 8), cqBase := BitVec.ofNat 64 (fieldAt ps 32 8)
          tokens := 1, refilled := timeNs s }) s)) s)

/-- QUEUE_DESTROY: the queue is disabled; Resident sessions homed on it are Parked after their step, Open ones and those that
no parked slot takes are Closed, without completions (R197, R218, R229; log entry 51). -/
def execQueueDestroy (w : Fn) (pk : Packet) (s : State) : Host.Outcome State Fault Refusal :=
  .next (command w pk 0x0207 (plenIs 4) false false (fun ps => (cmdQueue s w ps).isSome && zeroBytes ps 2 4) (fun ps s =>
    match cmdQueue s w ps with
    | none => failCmd w 0x11 s
    | some q =>
      let homed := homedOn s q
      let s := modQueue q queueClear (quarantineQueue q s)
      let open' := homed.filter (fun e => decide (e.2.state = .opened))
      let res := (homed.filter (fun e => decide (e.2.state = .resident))).map (·.1)
      let s := forAll open' (fun e => removeSession (e.1 / 16777216) (sidOf e.1)) s
      let s := forAll res (fun k => forcePark (k / 16777216) (sidOf k) 0) s
      modWindow w (fun x => { x with run := x.run.map (fun r => { r with arg := open'.length, xs := res }) }) s) s)

/-- QUEUE_RATE: the token bucket's rate and burst (R200, R229). -/
def execQueueRate (w : Fn) (pk : Packet) (s : State) : Host.Outcome State Fault Refusal :=
  .next (command w pk 0x0208 (plenIs 8) true false
    (fun ps => (cmdQueue s w ps).isSome && decide (1 ≤ fieldAt ps 4 2) && zeroBytes ps 6 8)
    (fun ps s =>
      match cmdQueue s w ps with
      | none => failCmd w 0x11 s
      | some q => endCmd w 0 [] (modQueue q (fun x =>
          let y := refill (timeNs s) x
          { y with rate := BitVec.ofNat 16 (fieldAt ps 2 2), burst := BitVec.ofNat 16 (fieldAt ps 4 2)
                   tokens := min y.tokens (fieldAt ps 4 2) }) s)) s)

end Sys2Proof.Machine
end

