-- ==== Sys2Proof/Machine/CmdShow.lean ====
section
/-! DEFINITION. The commands of the 0x03xx group: Show images, staging, loading and stopping (R84, R104, R148 to R153, R230,
R251 to R253, R272, R308, R311). -/

namespace Sys2Proof.Machine

open Sys2Proof

/-! ### Images (R148, R149) -/

/-- The header of a Show image; none where MAGIC, FORMAT or a field fails (R148). -/
def hdrOf (b : List Byte) : Option ShowHdr :=
  let h : ShowHdr := {
    flags := BitVec.ofNat 16 (fieldAt b 6 2), showId := BitVec.ofNat 64 (fieldAt b 8 8), imageLen := BitVec.ofNat 64 (fieldAt b 16 8)
    groupN := fieldAt b 0x18 2, quads := fieldAt b 0x1A 2, pch := fieldAt b 0x1C 2, threads := fieldAt b 0x1E 2
    ifMrt := fieldAt b 0x20 2, ifTrim := fieldAt b 0x22 2, ifKal := fieldAt b 0x24 2, batchCols := fieldAt b 0x26 2
    stateBytes := fieldAt b 0x28 4, stateFmt := BitVec.ofNat 32 (fieldAt b 0x2C 4), lit := fieldAt b 0x30 2
    scenes := fieldAt b 0x32 2, sections := fieldAt b 0x34 4 }
  if fieldAt b 0 4 = 0x5A485331 ∧ fieldAt b 4 2 = 1 ∧ h.flags.toNat < 8
      ∧ 1 ≤ h.groupN ∧ h.groupN ≤ 64 ∧ 1 ≤ h.quads ∧ h.quads ≤ 32 ∧ 1 ≤ h.pch ∧ h.pch ≤ 192
      ∧ 1 ≤ h.threads ∧ h.threads ≤ 8 ∧ 1 ≤ h.batchCols ∧ h.batchCols ≤ 128
      ∧ h.stateBytes % 4096 = 0 ∧ h.stateBytes ≤ 2097152 ∧ h.lit ≤ 896 ∧ 1 ≤ h.scenes ∧ h.scenes ≤ 1024
      ∧ fieldAt b 0x38 8 = 0 then some h
  else none

/-- An entry of the section table: TYPE, MODULE, QUAD, its index and its bytes' place, and its nonce (R149, R252). -/
structure SectEntry where
  typ : Nat
  module : Nat
  quad : Nat
  index : Nat
  off : Nat
  len : Nat
  nonce : List Byte
  deriving DecidableEq, Repr

/-- Entry i of the section table of an image. -/
def sectAt (b : List Byte) (i : Nat) : SectEntry :=
  let o := 64 + 32 * i
  { typ := fieldAt b o 2, module := fieldAt b (o + 2) 1, quad := fieldAt b (o + 3) 1, index := i
    off := fieldAt b (o + 4) 8, len := fieldAt b (o + 12) 8, nonce := slice b (o + 20) 12 }

/-- The section table of an image. -/
def sectsOf (b : List Byte) (h : ShowHdr) : List SectEntry := (List.range h.sections).map (sectAt b)

/-- Whether every section has a type of R149. -/
def sectsOk (b : List Byte) (h : ShowHdr) : Bool := (sectsOf b h).all (fun e => decide (1 ≤ e.typ ∧ e.typ ≤ 10))

/-- The half of the Marionette that holds the lease (R327). -/
def mrtHalf (s : State) : Nat := if s.mrt.holder = some .m1 then 1 else 0

/-- Bytes of a pseudo-channel, those of a line with an uncorrectable error zero (R175, R206; log entry 87). -/
def lineBytes (s : State) (c o len : Nat) : List Byte :=
  if s.hbm.badLines = [] then hbmBytes s c o len
  else (hbmBytes s c o len).mapIdx (fun i b => if s.hbm.badLines.any (fun e => decide (e = (c, (o + i) / 128))) then 0 else b)

/-- `len` bytes of partition memory as the Marionette reads them, none where the address is not mapped, or lies in the other half
while the inter-hub link is in reset (R173, R180). -/
def pmaRead (s : State) (p pma len : Nat) : Option (List Byte) :=
  (pmaMap s p pma len).bind (fun c =>
    if s.d2d.ihlReset && decide (pchHalf s c.1 ≠ mrtHalf s) then none else some (lineBytes s c.1 c.2 len))

/-- What the stacks find as the Marionette reads the lines of an image (R169, R187; log entry 87). -/
def pmaScan (p pma len : Nat) (s : State) : State :=
  match pmaMap s p pma len with
  | none => s
  | some co => (memReadLines p co.1 co.2 ((len + 127) / 128) s).2

/-- Whether a section is for this module and logical Quad i (R149). -/
def sectFor (s : State) (i : Nat) (e : SectEntry) : Bool :=
  decide ((e.module = 0xFF ∨ e.module = s.fab.gid.toNat) ∧ (e.quad = 0xFF ∨ e.quad = i))

/-- The plaintext of a section; none where its tag fails (R252). -/
def sectPlain (s : State) (p : Nat) (h : ShowHdr) (b : List Byte) (e : SectEntry) : Option (List Byte) :=
  if h.flags.getLsbD 0 then Config.sectionPlain (part s p).imageKey h.showId e.index e.nonce (slice b e.off e.len)
  else some (slice b e.off e.len)

/-- The plaintexts of the sections of a type for logical Quad i; one whose tag fails is left out. -/
def sectBytes (s : State) (p : Nat) (h : ShowHdr) (b : List Byte) (typ i : Nat) : List (List Byte) :=
  ((sectsOf b h).filter (fun e => decide (e.typ = typ) && sectFor s i e)).filterMap (sectPlain s p h b)

/-! ### The checks of a load (R50, R150, R153, R251) -/

/-- Whether a Scene table entry keeps the form of R153. -/
def sceneOk (twin : Bool) (e : BitVec 128) : Bool :=
  let half := decide (8192 ≤ (scPos e).toNat)
  decide (scStart e ≠ 3) && (decide (scStart e ≠ 2) || scEntry e) && decide (scXid e ≤ 1023)
    && (!twin || half == decide (4 ≤ scThread e))

/-- The 16-byte entries of a section. -/
def words128 (b : List Byte) (n : Nat) : List (BitVec 128) := (List.range n).map (fun i => BitVec.ofNat 128 (fieldAt b (16 * i) 16))

/-- Feeder map entries in order, a later one replacing an earlier one of its channel. -/
def mapOf (m : List (Nat × BitVec 9)) : SMap (BitVec 9) :=
  m.foldl (fun (t : SMap (BitVec 9)) (e : Nat × BitVec 9) => ins t e.1 e.2) []

/-- Whether two activation channels of a feeder map share a Cluster (R50). -/
def mapClash (m : SMap (BitVec 9)) : Bool :=
  m.any (fun a => m.any (fun b => decide (260 ≤ a.1 ∧ 260 ≤ b.1 ∧ a.1 ≠ b.1 ∧ a.2 = b.2)))

/-- Whether a Show image's signature block is whole and verifies under the partition's signer hash (R251). -/
def signatureOk (signer b : List Byte) : Bool :=
  let body := b.take (b.length - 512)
  let k := b.drop (b.length - 512)
  decide (512 ≤ b.length ∧ fieldAt k 0 4 = 0x5A485347) && zeroBytes k 101 104 && zeroBytes k 200 512
    && decide (sha384 (slice k 4 97) = signer) && Config.ecdsaVerifies (slice k 4 97) (sha384 body) (slice k 104 96)

/-- Check 1 of R150: the header and section table, the feeder maps, the Scene tables, the signature under the partition's key
blob. -/
def imageOk (s : State) (p : Nat) (g : Staged) (b : List Byte) : Bool :=
  decide (hdrOf b = some g.hdr) && sectsOk b g.hdr
    && (List.range g.hdr.quads).all (fun i =>
      !mapClash (mapOf ((sectBytes s p g.hdr b 5 i).flatMap Config.feederMap))
      && (sectBytes s p g.hdr b 6 i).all (fun x => (words128 x g.hdr.scenes).all (sceneOk (g.hdr.flags.getLsbD 1))))
    && (part s p).hasKey && signatureOk (part s p).signer b

/-- The running version of an image kind: Marionette, trim, Kaleidoscope. -/
def runVer (s : State) (k : Nat) : BitVec 48 := (look s.mrt.images k 0).setWidth 48

/-- The manifest that is in force (R340, R341). -/
def manifest (s : State) : Nat := s.mrt.manifest

/-- The entries of a tested-set manifest; none where its header or its length is not as R341 lays it out. -/
def manifestEntries (b : List Byte) : List (List Byte) :=
  let n := fieldAt b 6 2
  if fieldAt b 0 4 = 0x5A484D31 ∧ fieldAt b 4 2 = 1 ∧ 1 ≤ n ∧ n ≤ 64 ∧ zeroBytes b 12 32 ∧ b.length = 32 + 32 * n + 512 then
    (List.range n).map (fun k => slice b (32 + 32 * k) 32)
  else []

/-- The interface levels that three running versions are tested with, in the manifest of an identity: the lowest and highest a Show
may require of the Marionette, of trim and of Kaleidoscope; none where no entry has the three (R341). -/
def testedWith (m : Nat) (v0 v1 v2 : BitVec 48) : Option (List Nat) :=
  ((manifestEntries (Config.manifestBytes m)).find? (fun e =>
      decide (fieldAt e 0 6 = v0.toNat ∧ fieldAt e 6 6 = v1.toNat ∧ fieldAt e 12 6 = v2.toNat))).map
    (fun e => (List.range 6).map (fun k => fieldAt e (18 + 2 * k) 2))

/-- The interface levels that the running combination is tested with; none where it is not tested (R341). -/
def testedLevels (s : State) : Option (List Nat) := testedWith (manifest s) (runVer s 0) (runVer s 1) (runVer s 2)

/-- Check 2 of R150: the combination is tested and each level lies in its range, or an allowance names the combination (R341,
R343). -/
def levelsOk (s : State) (h : ShowHdr) : Bool :=
  s.mrt.allowed || (match testedLevels s with
    | none => false
    | some v =>
      decide (v.getD 0 0 ≤ h.ifMrt ∧ h.ifMrt ≤ v.getD 1 0) && decide (v.getD 2 0 ≤ h.ifTrim ∧ h.ifTrim ≤ v.getD 3 0)
        && decide (v.getD 4 0 ≤ h.ifKal ∧ h.ifKal ≤ v.getD 5 0))

/-- How many members the current epoch has (R263). -/
def memberCount (s : State) : Nat := ((List.range 64).filter (isMember s)).length

/-- The mapped Quads of a Show: the first QUADS of those the partition owns, in a half that serves (R25, R149). -/
def mappedQuads (s : State) (p : Nat) (h : ShowHdr) : List Nat :=
  ((quadsOf s p).filter (fun z => !halfFenced s (z / 16))).take h.quads

/-- Check 4 of R150 on this member. -/
def resourcesOk (s : State) (p : Nat) (h : ShowHdr) : Bool :=
  decide (h.quads ≤ ((quadsOf s p).filter (fun z => decide ((zoe s z).state ≠ .fenced))).length)
    && decide (h.pch ≤ (ownedPchs s p).length) && decide (h.lit ≤ (part s p).litBudget)

/-- Whether two lists have the same elements. -/
def sameCells (a b : List (Nat × Nat)) : Bool := a.all (fun x => b.contains x) && b.all (fun x => a.contains x)

/-- The first mapped Zoetrope whose dead-cell list differs from the one that section 0x0A was built for (R32, R150). -/
def deadDiffer (s : State) (p : Nat) (h : ShowHdr) (b : List Byte) : Option Nat :=
  (((mappedQuads s p h).mapIdx (fun i z => (i, z))).find? (fun e =>
    !sameCells ((sectBytes s p h b 10 e.1).flatMap Config.fixupDead) (zoe s e.2).dead)).map (·.2)

/-- The Parked sessions of partition p. -/
def parkedOf (s : State) (p : Nat) : List (Nat × Session) := (sessionsOf s p).filter (fun e => decide (e.2.state = .parked))

/-- The Resident sessions of partition p. -/
def residentOf (s : State) (p : Nat) : List (Nat × Session) := (sessionsOf s p).filter (fun e => decide (e.2.state = .resident))

/-- The first check of R150 that fails on this member, as its place in the order; 8 where all pass, 0 for an empty slot. -/
def loadCheck (s : State) (p slot : Nat) (discard : Bool) : Nat :=
  match find s.staged (stageKey p slot) with
  | none => 0
  | some g =>
    match pmaRead s p g.pma g.len with
    | none => 1
    | some b =>
      if !imageOk s p g b then 1
      else if !levelsOk s g.hdr then 2
      else if memberCount s ≠ g.hdr.groupN then 3
      else if !resourcesOk s p g.hdr then 4
      else if residentOf s p ≠ [] then 5
      else if parkedOf s p ≠ [] ∧ (part s p).fmt ≠ some g.hdr.stateFmt ∧ !discard then 6
      else if (deadDiffer s p g.hdr b).isSome then 7
      else 8

/-- The status of a place in the order of R150. -/
def loadStatus (k : Nat) : Nat := [0x29, 0x20, 0x21, 0x22, 0x23, 0x24, 0x25, 0x26].getD k 0

/-! ### The reply of a load (R230; log entry 53) -/

/-- The reply of SHOW_LOAD: SHOW_ID, Zoetropes that passed through Trimming, sessions Closed, failing member and Zoetrope. -/
def loadReply (showId : DWord) (zoes closed member z : Nat) : List Byte :=
  leBytes 8 showId.toNat ++ leBytes 2 zoes ++ leBytes 2 closed ++ leBytes 1 member ++ leBytes 1 z

/-- This module's ID. -/
def selfId (s : State) : Nat := s.fab.gid.toNat

/-! ### Staging (R230, R253) -/

/-- The parameters of SHOW_STAGE are in range: a partition, a slot, a PMA that is a multiple of 4,096. -/
def stageParams (s : State) (w : Fn) (ps : List Byte) : Bool :=
  partOk s w ps && decide (pByte ps 1 < 4) && zeroBytes ps 2 8 && decide (fieldAt ps 8 8 % 4096 = 0)

/-- Whether a slot holds the loaded Show. -/
def slotLoaded (s : State) (p slot : Nat) : Bool :=
  match find s.shows p with
  | some w => decide (w.slot = slot)
  | none => false

/-- SHOW_STAGE: the image's header and section table are checked on every member, and the slot holds it, write-protected (R148,
R149, R230, R253; log entry 52). -/
def execShowStage (w : Fn) (pk : Packet) (s : State) : Host.Outcome State Fault Refusal :=
  .next (command w pk 0x0300 (plenIs 24) false true (stageParams s w) (fun ps s =>
    let p := cmdPart w ps
    let pma := fieldAt ps 8 8
    let len := fieldAt ps 16 8
    if !(part s p).exist then failCmd w 0x11 s
    else if slotLoaded s p (pByte ps 1) then failCmd w 0x28 s
    else
      let s := pmaScan p pma (min len 1125000000) s
      match pmaRead s p pma (min len 1125000000) with
      | none => failCmd w 0x11 s
      | some b =>
        match hdrOf b with
        | none => failCmd w 0x20 s
        | some h =>
          let others := partnersAgree (relayAll 0x0300 ps s)
          if !sectsOk b h ∨ !others.1 then failCmd w 0x20 others.2
          else if len ≠ h.imageLen.toNat then failCmd w 0x29 others.2
          else endCmd w 0 (leBytes 8 h.showId.toNat ++ leBytes 2 h.groupN)
            { others.2 with staged := ins others.2.staged (stageKey p (pByte ps 1)) { pma := pma, len := len, hdr := h } }) s)

/-- SHOW_UNSTAGE: a slot is emptied; the loaded Show's is IN_USE (R230, R253). -/
def execShowUnstage (w : Fn) (pk : Packet) (s : State) : Host.Outcome State Fault Refusal :=
  .next (command w pk 0x0301 (plenIs 4) false true
    (fun ps => partOk s w ps && decide (pByte ps 1 < 4) && zeroBytes ps 2 4) (fun ps s =>
    let p := cmdPart w ps
    if !(part s p).exist then failCmd w 0x11 s
    else if slotLoaded s p (pByte ps 1) then failCmd w 0x28 s
    else endCmd w 0 [] (relayAll 0x0301 ps { s with staged := drop s.staged (stageKey p (pByte ps 1)) })) s)

/-! ### Loading (R36, R71, R78, R80, R84, R104, R151, R272) -/

/-- Whether the cause for which a Zoetrope is Fenced has been removed, so that a load with mode `twin` may take it: its half serves,
reference rows work, and no failed channel lacks a spare; more than 64 dead cells stay (R30 to R32, R58). -/
def fenceCured (s : State) (twin : Bool) (z : Nat) (x : Zoe) : Bool :=
  !halfFenced s (z / 16) && decide (x.fenceCause ≠ 3) && !noRefRow twin x.badRefRows
    && (decide (x.fenceCause ≠ 5) || decide ((mapSpares x.trim.failed x).1 = []))

/-- Whether a load changes the light paths of a Zoetrope: its mode, its spares, its detector power or its couplers; one that is
Fenced, its cause removed, or still in Trimming for another cause goes through the load's Trimming too (R36, R58, R104). -/
def loadChanges (s : State) (p : Nat) (old : DWord) (h : ShowHdr) (z : Nat) : Bool :=
  let x := zoe s z
  decide (x.state = .fenced ∨ (x.state = .trimming ∧ x.trim.cause ≠ 1)) || decide (x.modeApplied ≠ h.flags.getLsbD 1)
    || decide (x.trim.failed ≠ [])
    || decide (x.detpwr ≠ limitDet s (z / 16) (part s p).detNext) || Config.couplersMove old h.showId z

/-- A Zoetrope whose light paths a load changes enters Trimming, where a full calibration does not hold it there; `cured` tells of a
Fenced one that its cause has been removed (R36, R58, R104). -/
def enterReconfig (now : Nat) (cured : Bool) (x : Zoe) : Zoe :=
  if x.state = .ready ∨ x.state = .running ∨ x.state = .gap ∨ (x.state = .fenced ∧ cured) ∨ (x.state = .trimming ∧ x.trim.cause ≠ 1) then
    let x := cutGap now x
    { x with
      state := .trimming, fenceCause := 0
      trim := { x.trim with cause := 2, lightDue := false, since := now } }
  else x

/-- The counters and accumulators of R88 cleared. -/
def precClear (p : ZoePrec) : ZoePrec :=
  { p with
    flagged := 0, weeGaps := 0, noest := 0, audWins := 0, audCells := 0, audSum := 0, audSumsq := 0, audWeesq := 0
    audWeen := 0, audMiss := 0, audBadtag := 0, audSatrec := 0, audMax := 0, hist := [] }

/-- What a load does to a stream: its queue is idle, nothing is due, and ERR reads 0 again; windows whose audit records are
outstanding stay pending (R63, R80, R82, R151; log entries 97 and 98). -/
def loadStream (r : StreamSt) : StreamSt :=
  { r with
    audIndex := 0, thread := none, qstate := .idle, err := 0, gapRuns := 0, fenceRuns := 0, gapDue := false, gapDeferred := false
    fenceDue := false, stopped := false, paused := false }

/-- What a load sets in a mapped Zoetrope before its sections: the mode asked for, the audit selection, the policy and
thresholds, the wraps moved, and the counters of R88 and R159 cleared; the counts of WDONE and SDONE go on (R78, R80, R84, R88,
R100, R159; log entry 98). -/
def loadZoe (z : Nat) (pt : PartSt) (sh : ShowSt) (changed cured : Bool) (now : Nat) (phase : BitVec 16) (x : Zoe) : Zoe :=
  let y : Zoe := { x with
    modeReq := sh.hdr.flags.getLsbD 1
    st0 := loadStream x.st0, st1 := loadStream x.st1
    prec := { (precClear x.prec) with
      mix := pt.mixNext, audLog := pt.audNext, phase := phase, thrFlag := pt.thrFlag, thrGap := pt.thrGap, cntGap := pt.cntGap
      thrFence := pt.thrFence, cntFence := pt.cntFence }
    scn := { ({} : SceneSt) with arrivals := [], showId := sh.hdr.showId.setWidth 32 } }
  let y := moveWraps z y
  if changed then enterReconfig now cured y else y

/-- The wavelengths that a Show's section 0x07 grants to partner m (R149, R272). -/
def laneWanted (s : State) (p : Nat) (h : ShowHdr) (b : List Byte) (m : Nat) : Nat :=
  ((sectBytes s p h b 7 0xFF).map (fun x => Config.laneGrant x m)).sum

/-- The lanes of a pair that partition p holds. -/
def laneCount (s : State) (p m : Nat) : Nat :=
  ((pairLanes s m).filter (fun l => decide ((lane s l).holder.toNat = p))).length

/-- A pair's lanes of partition p brought to `n` (R270 to R272). -/
def setLanes (p m n : Nat) (s : State) : State :=
  let have' := laneCount s p m
  if have' < n then (askLanes m (BitVec.ofNat 4 p) (n - have') s).2
  else if n < have' then (giveLanes m (BitVec.ofNat 4 p) (have' - n) s).2
  else s

/-- The steps of a load from 3 ms on, up to the settling of what changes: settings, banks, lanes, Zoetropes (R151). -/
def startLoad (p slot : Nat) (discard : Bool) (g : Staged) (s : State) : State :=
  let closing := discard && decide ((part s p).fmt ≠ some g.hdr.stateFmt)
  let gone := if closing then parkedOf s p else []
  let s := forAll gone (fun e => forceClose p (sidOf e.1) 9) s
  let old := (find s.shows p).elim 0 (·.hdr.showId)
  let s := removeShow p s
  let qs := mappedQuads s p g.hdr
  let changed := qs.filter (loadChanges s p old g.hdr)
  let sh : ShowSt := { slot := slot, hdr := g.hdr, loading := true, changed := changed, closed := gone.length }
  let pt := part s p
  let now := timeNs s
  let s := { s with shows := ins s.shows p sh }
  let s := forAll qs (fun z s =>
    useFree (modZoe z (loadZoe z pt sh (changed.contains z) (fenceCured s (sh.hdr.flags.getLsbD 1) z (zoe s z)) now
      ((freeVal s).setWidth 16)) (handQuad z (tagOf p 0xFFFF) (stopQuad z s)))) s
  let s := clearArrivals p (modPart p (fun x => { x with
    mix := x.mixNext, swait := x.swaitNext, parking := x.parkingNext, fmt := some g.hdr.stateFmt }) s)
  match pmaRead s p g.pma g.len with
  | none => s
  | some b => forAll (otherMembers s) (fun m s => setLanes p m (laneWanted s p g.hdr b m) s) s

/-- The partition's earlier Show is gone and the load goes on; under the interlock's hold it ends, with no Show (R151, R311). -/
def beginLoad (w : Fn) (p slot : Nat) (discard : Bool) (s : State) : State :=
  match find s.staged (stageKey p slot) with
  | none => failCmd w 0x29 s
  | some g =>
    if s.las.off then endCmd w 0x34 (loadReply g.hdr.showId 0 0 (selfId s) 0xFF) (removeShow p s)
    else modWindow w (fun x => { x with run := x.run.map (fun r => { r with arg := 1 }) }) (startLoad p slot discard g s)

/-- SHOW_LOAD: the checks of R150, here and on every partner; then the running Show stops and the load runs (R150, R151,
R230). -/
def execShowLoad (w : Fn) (pk : Packet) (s : State) : Host.Outcome State Fault Refusal :=
  .next (command w pk 0x0302 (plenIs 8) false true
    (fun ps => partOk s w ps && decide (pByte ps 1 < 4 ∧ pByte ps 2 < 2) && zeroBytes ps 3 8) (fun ps s =>
    let p := cmdPart w ps
    let slot := pByte ps 1
    let discard := decide (pByte ps 2 = 1)
    if !(part s p).exist then failCmd w 0x11 s
    else
      let s := match find s.staged (stageKey p slot) with
        | some g => pmaScan p g.pma g.len s
        | none => s
      let own := loadCheck s p slot discard
      let t := relayAll 0x0302 ps s
      let others := if otherMembers s = [] then (8, t) else ((freeVal t).toNat % 9, useFree t)
      let k := min own others.1
      let name := (find s.staged (stageKey p slot)).elim 0 (·.hdr.showId)
      if k < 8 then
        let member := if own = k then (if k = 3 then 0xFF else selfId s) else (freeVal others.2).toNat % 64
        let z := if own = 7 ∧ k = 7 then
            (match find s.staged (stageKey p slot) with
              | some g => ((pmaRead s p g.pma g.len).bind (deadDiffer s p g.hdr)).getD 0xFF
              | none => 0xFF)
          else 0xFF
        endCmd w (loadStatus k) (if k = 0 then [] else loadReply name 0 0 member z) (useFree others.2)
      else
        match find s.shows p with
        | none => beginLoad w p slot discard others.2
        | some x =>
          if x.loading then beginLoad w p slot discard (removeShow p others.2)
          else settleStop p (beginStop p false others.2)) s)

/-! ### The end of a load (R78, R149, R151, R153, R252) -/

/-- The window that runs a load of partition p. -/
def loadWindow (s : State) (p : Part) : Option Fn :=
  [Fn.pf, Fn.vf p].find? (fun w => match (window s w).run with
    | some r => decide (r.opcode = 0x0302 ∧ r.arg = 1) && decide (cmdPart w (cmdParams s w) = p.val)
    | none => false)

/-- A list of FS_SHIFT settings, and of declared widths, as the eight output scales take them. -/
def scaleRegs (os : List (Fin 15)) : Vector (BitVec 5) 8 :=
  Vector.ofFn (fun i : Fin 8 => match os[i.val]? with
    | some k => BitVec.ofNat 5 (12 + k.val)
    | none => 16)

/-- The sequencer memories of a Quad from the sections of a Show; a thread is on the Quad when its Scene table holds an ENTRY Scene
of it; the estimate table follows the output scales (R64, R78, R149, R151). -/
def writeZoe (threads scenes : Nat) (now : Nat) (desc scene : List (BitVec 128)) (s5 : List (List Byte)) (x : Zoe) : Zoe :=
  let x := { x with
    ram := ofList (desc.take 16384) 0
    fmap := (mapOf (s5.flatMap Config.feederMap)).filter (fun e => decide (e.2 ≠ 0))
    outScale := scaleRegs (s5.flatMap Config.outScales)
    widths := (List.range 8).map (fun k => (s5.filterMap (fun b => Config.scaleWidths b k)).head?)
    scn := { x.scn with table := ofList scene 0 } }
  let x := { x with prec := { x.prec with nom := nomTable x x.detpwr } }
  { x with scn := { x.scn with threads := (List.range threads).map (fun t =>
      (t, ({ used := (List.range scenes).any (fun k => scEntry (sceneEntry x k) && decide (scThread (sceneEntry x k) = t))
             next := firstEntry x scenes t, since := now } : ThreadSt))) } }

/-- A program with a word put at an address. -/
def setInstr (prog : List Word) (e : Nat × Word) : List Word :=
  (List.range (max prog.length (e.1 + 1))).map (fun i => if i = e.1 then e.2 else prog.getD i 0)

/-- The instruction RAM of Cluster c of a Quad: its program with the dead-cell fix-ups in it (R32, R115, R149). -/
def clusterProgram (s3 sA : List (List Byte)) (c : Nat) : Option (List Word) :=
  s3.head?.map (fun x => (sA.flatMap (fun b => Config.fixupProgram b c)).foldl setInstr (Config.programs x c) |>.take 16384)

/-- The sections of logical Quad i written into Quad z, scratch by the Marionette under the ownership check; none where a tag fails
(R149, R151, R182, R252). -/
def writeQuad (p : Nat) (h : ShowHdr) (b : List Byte) (i z : Nat) (s : State) : Option State :=
  if ((sectsOf b h).filter (sectFor s i)).any (fun e => (sectPlain s p h b e).isNone) then none
  else
    let get (t : Nat) : List (List Byte) := sectBytes s p h b t i
    let s := modZoe z (writeZoe h.threads h.scenes (timeNs s)
      ((get 4).flatMap (fun x => words128 x (x.length / 16))) ((get 6).flatMap (fun x => words128 x h.scenes)) (get 5)) s
    let s := forAll (List.range 512) (fun c s =>
      match clusterProgram (get 3) (get 10) c with
      | none => s
      | some x => { s with mrb.iram := put s.mrb.iram (512 * z + c) x [] }) s
    let cells := (get 2).flatMap (fun x => Config.scratchCells 2 x ((get 1).flatten)) ++ (get 9).flatMap (fun x => Config.scratchCells 9 x [])
    some (mrtWrite (cells.map (fun e => (67108864 * z + e.1 % 67108864, e.2))) s)

/-- The sections of a Show written into its mapped Quads. -/
def writeQuads (p : Nat) (h : ShowHdr) (b : List Byte) : List (Nat × Nat) → State → Option State
  | [], s => some s
  | e :: es, s => (writeQuad p h b e.1 e.2 s).bind (writeQuads p h b es)

/-- A load fails after its checks: the partition has no Show, and what was written is scrubbed (R151, R252). -/
def abortLoad (w : Fn) (p st z : Nat) (sh : ShowSt) (s : State) : State :=
  let qs := mappedQuads s p sh.hdr
  let s := forAll qs (fun z => handQuad z (tagOf p 0xFFFF)) (removeShow p s)
  endCmd w st (loadReply sh.hdr.showId sh.changed.length sh.closed (selfId s) z) s

/-- Whether a load waits: a changed Zoetrope is in Trimming, or a bank of a mapped Quad is Scrubbing (R151). -/
def loadWaits (s : State) (p : Nat) (sh : ShowSt) : Bool :=
  let qs := mappedQuads s p sh.hdr
  qs.any (fun z => decide ((zoe s z).state = .trimming ∨ (zoe s z).state = .warming))
    || !unitsDone s (qs.map (· + 192))

/-- Whether a pair that the plan names has no Lit lane of the partition (R272). -/
def planUnmet (s : State) (p : Nat) (h : ShowHdr) (b : List Byte) : Bool :=
  (otherMembers s).any (fun m => decide (0 < laneWanted s p h b m) && (heldLit s m (BitVec.ofNat 4 p)).isEmpty)

/-- The mailbox of Marble n as the Marionette prepares it at a Show load: RXACK 0xFFFF, RXN0 to RXN3 zero, arrival sequences from 0
(R133). -/
def prepareMailbox (n : Nat) (s : State) : State :=
  let cells := (leBytes 4 0xFFFF).mapIdx (fun i b => (2048 * n + 0x7C8 + i, b)) ++ (List.range 32).map (fun i => (2048 * n + 0x7E0 + i, 0))
  modMailbox n (fun m => { m with seq := 0 }) (mrtWrite cells s)

/-- The mailboxes of every Marble of partition p's Quads are prepared (R133). -/
def prepareMailboxes (p : Nat) (s : State) : State :=
  forAll (quadsOf s p) (fun z => forAll (List.range 32768) (fun b => prepareMailbox (32768 * z + b))) s

/-- A load ends on this member. -/
def finishLoad (w : Fn) (p : Nat) (sh : ShowSt) (s : State) : State :=
  let qs := mappedQuads s p sh.hdr
  if s.las.off then abortLoad w p 0x34 0xFF sh s
  else if loadWaits s p sh then s
  else match qs.find? (fun z => decide ((zoe s z).state = .fenced)) with
    | some z => abortLoad w p 0x27 z sh s
    | none =>
      let s := match find s.staged (stageKey p sh.slot) with
        | some g => pmaScan p g.pma g.len s
        | none => s
      match (find s.staged (stageKey p sh.slot)).bind (fun g => pmaRead s p g.pma g.len) with
      | none => abortLoad w p 0x20 0xFF sh s
      | some b =>
        if planUnmet s p sh.hdr b then abortLoad w p 0x23 0xFF sh s
        else match writeQuads p sh.hdr b (qs.mapIdx (fun i z => (i, z))) s with
          | none => abortLoad w p 0x20 0xFF sh s
          | some t =>
            let t := prepareMailboxes p t
            let lost := ((quadsOf t p).map (fun z => (zoe t z).scn.lost.toNat)).sum
            let t := { t with
              shows := ins t.shows p { sh with
                loading := false, lost0 := lost
                layout := (qs.mapIdx (fun i z => (z, (sectBytes s p sh.hdr b 8 i).flatten)))
                plan := sectBytes s p sh.hdr b 7 0xFF }
              sec.meas := ins t.sec.meas (16 + p) (imageId b)
              pwr.quads := qs.foldl (fun (m : SMap QuadPwr) (z : Nat) => modAt m z {} (fun x => { x with ramp := 0 })) t.pwr.quads }
            endCmd w 0 (loadReply sh.hdr.showId sh.changed.length sh.closed 0xFF 0xFF) (noteReady p t)

/-- SHOW_LOAD_DONE: the load of partition p's Show ends, once what it changes has settled (R151). -/
def execShowLoadDone (p : Part) (s : State) : Host.Outcome State Fault Refusal :=
  .next (
    match loadWindow s p, find s.shows p.val with
    | some w, some sh => if sh.loading then finishLoad w p.val sh s else s
    | _, _ => s)

/-! ### Stopping and asking (R152, R230) -/

/-- SHOW_STOP: the Show stops; with PARK its Resident sessions are Parked first, without it they refuse the command (R152,
R230). -/
def execShowStop (w : Fn) (pk : Packet) (s : State) : Host.Outcome State Fault Refusal :=
  .next (command w pk 0x0303 (plenIs 4) false true
    (fun ps => partOk s w ps && decide (pByte ps 1 < 2) && zeroBytes ps 2 4) (fun ps s =>
    let p := cmdPart w ps
    let res := residentOf s p
    if !(part s p).exist then failCmd w 0x11 s
    else match find s.shows p with
      | none => endCmd w 0 (leBytes 4 0) s
      | some x =>
        if pByte ps 1 = 0 ∧ res ≠ [] then failCmd w 0x24 s
        else if x.loading then endCmd w 0 (leBytes 4 0) (removeShow p (relayAll 0x0303 ps s))
        else
          let s := beginStop p false (relayAll 0x0303 ps s)
          let s := forAll res (fun e => forcePark p (sidOf e.1) 0x15) s
          modWindow w (fun y => { y with run := y.run.map (fun r => { r with xs := res.map (·.1) }) }) (settleStop p s)) s)

/-- The steps that partition p's Show has lost since its load (R157, R230). -/
def lostSteps (s : State) (p : Nat) (sh : ShowSt) : Nat :=
  ((quadsOf s p).map (fun z => (zoe s z).scn.lost.toNat)).sum - sh.lost0

/-- SHOW_QUERY: the loaded Show, its state and its sessions (R230). -/
def execShowQuery (w : Fn) (pk : Packet) (s : State) : Host.Outcome State Fault Refusal :=
  .next (command w pk 0x0304 (plenIs 4) false true (fun ps => partOk s w ps && zeroBytes ps 1 4) (fun ps s =>
    let p := cmdPart w ps
    if !(part s p).exist then failCmd w 0x11 s
    else
      let tail := leBytes 4 (residentOf s p).length ++ leBytes 4 (parkedOf s p).length
      match (find s.shows p).filter (fun x => !x.loading) with
      | none => endCmd w 0 (leBytes 12 0 ++ tail ++ leBytes 4 0) s
      | some x =>
        endCmd w 0 (leBytes 8 x.hdr.showId.toNat ++ leBytes 1 (1 + (if x.stopping then 2 else 0)) ++ leBytes 1 x.hdr.threads
          ++ leBytes 2 0 ++ tail ++ leBytes 4 (lostSteps s p x)) s) s)

end Sys2Proof.Machine
end

