-- ==== Sys2Proof/Machine/CmdCal.lean ====
section
/-! DEFINITION. The commands of the 0x04xx group: calibration, precision, trim, fencing (R25, R58, R61, R86 to R88, R102, R108,
R226, R231, R308, R311). -/

namespace Sys2Proof.Machine

open Sys2Proof

/-! ### Registers that the replies carry (R61, R87, R88, R108) -/

/-- The code of a Zoetrope's state (R61). -/
def ZState.code : ZState → Nat
  | .off => 0 | .warming => 1 | .trimming => 2 | .ready => 3 | .running => 4 | .gap => 5 | .fenced => 6

/-- The code of a gap kind (R108). -/
def GapKind.code : GapKind → Nat
  | .none => 0 | .idle => 1 | .run => 2 | .estimate => 3

/-- ZOE_STATE (R61). -/
def regZoeState (x : Zoe) : Word :=
  x.fenceCause ++ x.part ++ (0 : BitVec 17) ++ BitVec.ofNat 3 x.state.code

/-- HOLD: the drives are held (R108). -/
def zoeHold (x : Zoe) : Bool := !x.trim.light || decide (x.state = .off ∨ x.state = .warming ∨ x.state = .fenced)

/-- STEP of ZOE_TRIM_STATE: the step of R102 or R104 that the time since its origin gives, 0 outside them and while light is absent;
from the end of the table on the last (R102, R104, R108; log entry 96). -/
def trimStep (now : Nat) (x : Zoe) : BitVec 4 :=
  let ns := now - x.trim.since
  let at' (ms : List Nat) : BitVec 4 := BitVec.ofNat 4 (1 + ms.countP (fun m => decide (1000000 * m ≤ ns)))
  if x.state ≠ .trimming ∨ !x.trim.light then 0
  else if x.trim.cause = 1 then at' [30, 250, 600, 700, 800]
  else if x.trim.cause = 2 then (if ns = 0 then 1 else 1 + at' [1, 16, 38, 42])
  else 0

/-- ZOE_TRIM_STATE (R108). -/
def regTrimState (now : Nat) (x : Zoe) : Word :=
  x.trim.cause ++ trimStep now x ++ (0 : BitVec 6) ++ BitVec.ofNat 2 x.trim.gapKind.code ++ BitVec.ofBool x.trim.light
    ++ BitVec.ofBool x.trim.conv ++ BitVec.ofBool (zoeHold x) ++ (0 : BitVec 1) ++ x.trim.wrapCnt

/-- ZOE_GAP_AGE (R87). -/
def regGapAge (s : State) (x : Zoe) : Word :=
  match x.prec.lastPass with
  | none => 0xFFFFFFFF
  | some t => BitVec.ofNat 32 (min 0xFFFFFFFF ((timeNs s - t) / 1000))

/-- The twelve counters and accumulators of R88, in offset order. -/
def precCounts (p : ZoePrec) : List Nat :=
  [p.flagged.toNat, p.weeGaps.toNat, p.noest.toNat, p.audWins.toNat, p.audCells.toNat, p.audSum.toNat, p.audSumsq.toNat,
    p.audWeesq.toNat, p.audWeen.toNat, p.audMiss.toNat, p.audBadtag.toNat, p.audSatrec.toNat]

/-! ### CAL_FULL (R25, R102, R226, R231) -/

/-- The Zoetropes of a mask, 0 naming all (R231). -/
def maskZoes (m : Nat) : List Nat := (List.range 32).filter (fun z => decide (m = 0) || m.testBit z)

/-- Whether a partition window's command touches one of the Zoetropes named (R226). -/
def touched (s : State) (zs : List Nat) : Bool :=
  (List.range 12).any (fun p => (look s.windows (p + 1) {}).run.isSome && zs.any (fun z => ownsQuad s p z))

/-- A Zoetrope enters Trimming for a full calibration at once: its wraps are moved (R100, R102). -/
def enterCal (z now : Nat) (x : Zoe) : Zoe :=
  let x := moveWraps z (cutGap now x)
  { x with
    state := .trimming, fenceCause := 0
    trim := { x.trim with cause := 1, lightDue := false, since := now } }

/-- A full calibration called on a Zoetrope: one that runs enters Trimming at its next boundary, queues halted; one that is
Fenced outside a fenced half starts over; Off and Warming stay (R58, R102, R106). -/
def callCal (now z : Nat) (s : State) : State :=
  modZoe z (fun x =>
    match x.state with
    | .running => { x with calDue := true }
    | .gap => { x with calDue := true }
    | .ready => enterCal z now x
    | .trimming => enterCal z now x
    | .fenced => if halfFenced s (z / 16) then x else enterCal z now x
    | _ => x) s

/-- Halves that wait to be unfenced are unfenced (R25, R228). -/
def unfenceHalves (s : State) : State :=
  let s := if s.rst.unfence.contains .east then { s with rst.fencedEast := false } else s
  let s := if s.rst.unfence.contains .west then { s with rst.fencedWest := false } else s
  { s with rst.unfence := [] }

/-- CAL_FULL begins on this module. -/
def beginCal (w : Fn) (zs : List Nat) (s : State) : State :=
  let s := unfenceHalves s
  let s := forAll zs (callCal (timeNs s)) s
  modWindow w (fun x => { x with run := x.run.map (fun r => { r with arg := 1, xs := zs }) }) s

/-- The byte of CAL_FULL's reply for a Zoetrope of this module (R231). -/
def calByte (x : Zoe) : Nat :=
  match x.state with
  | .ready => 0
  | .fenced => x.fenceCause.toNat
  | _ => 0xFF

/-- The mask of the Zoetropes of this module that are not Ready. -/
def notReady (s : State) : Nat := ((List.range 32).map (fun z => if (zoe s z).state = .ready then 0 else 2 ^ z)).sum

/-- Whether a calibration of the Zoetropes named has still to end. -/
def calWaits (s : State) (zs : List Nat) : Bool :=
  zs.any (fun z => (zoe s z).calDue || decide ((zoe s z).state = .trimming ∧ (zoe s z).trim.cause = 1))

/-- The masks of Zoetropes not Ready on the 64 members: this module's own, the partners' free, 0 for a slot without a member
(log entry 54). -/
def calMasks (s : State) : List Nat :=
  (List.range 64).map (fun m =>
    if isSelf s m then notReady s
    else if isMember s m then (Config.freeValue (s.free + 1 + m)).toNat % 2 ^ 32 else 0)

/-- The byte of a Zoetrope in the reply for every member: of the lowest-numbered member on which it is not Ready. -/
def calByteAll (s : State) (masks : List Nat) (z : Nat) : Nat :=
  match (List.range 64).find? (fun m => (masks.getD m 0).testBit z) with
  | none => 0
  | some m => if isSelf s m then calByte (zoe s z) else (Config.freeValue (s.free + 65 + z)).toNat % 256

/-- CAL_FULL ends once every Zoetrope named has: PARTIAL unless all are Ready; the module serves on both halves again once
neither is fenced (R102, R231). -/
def endCal (w : Fn) (everywhere : Bool) (zs : List Nat) (s : State) : State :=
  if calWaits s zs then s
  else
    let kept := (zs.map (fun z => (zoe s z).trim.kept)).sum
    let deferred := if s.mrt.deferred.contains 0 then 1 else 0
    let s := if s.rst.service = .degraded ∧ !halfFenced s 0 ∧ !halfFenced s 1 then setService .serving 1 s else s
    if everywhere ∧ otherMembers s ≠ [] then
      let masks := calMasks s
      let k := (freeVal s).toNat
      let bytes := (List.range 32).flatMap (fun z => leBytes 1 (calByteAll s masks z))
        ++ leBytes 4 (kept + k % 65536) ++ leBytes 1 (if deferred = 1 ∨ k / 65536 % 2 = 1 then 1 else 0) ++ leBytes 3 0
        ++ masks.flatMap (leBytes 4)
      let part := masks.any (fun m => zs.any (fun z => m.testBit z))
      endCmd w (if part then 0x1B else 0) bytes (useFrees 97 s)
    else
      let own := (List.range 32).flatMap (fun z => leBytes 1 (calByte (zoe s z))) ++ leBytes 4 kept ++ leBytes 1 deferred ++ leBytes 3 0
      let bytes := if everywhere then own ++ (List.range 64).flatMap (fun m => leBytes 4 (if isSelf s m then notReady s else 0)) else own
      endCmd w (if zs.all (fun z => decide ((zoe s z).state = .ready)) then 0 else 0x1B) bytes s

/-- CAL_FULL: a full calibration of the Zoetropes named, on this module, another member or all; under the interlock's hold it
ends with INTERLOCK (R102, R226, R231, R311). -/
def execCalFull (w : Fn) (pk : Packet) (s : State) : Host.Outcome State Fault Refusal :=
  .next (command w pk 0x0400 (plenIs 8) true false
    (fun ps => (decide (pByte ps 0 = 0xFF) || moduleOk s ps) && zeroBytes ps 1 4) (fun ps s =>
    let zs := maskZoes (fieldAt ps 4 4)
    if pByte ps 0 ≠ 0xFF ∧ !isSelf s (pByte ps 0) then relayTo w (pByte ps 0) 0x0400 40 [0x1B, 0x34] ps s
    else if s.las.off then failCmd w 0x34 s
    else
      let s := if pByte ps 0 = 0xFF then relayAll 0x0400 ps s else s
      if touched s zs then s else beginCal w zs s) s)

/-! ### Precision (R71, R79, R80, R231) -/

/-- The parameters of PREC_SET are in range (R80, R231). -/
def precParams (s : State) (w : Fn) (ps : List Byte) : Bool :=
  partOk s w ps && decide (25 ≤ pByte ps 1 ∧ pByte ps 1 ≤ 100 ∧ (pByte ps 2 = 0 ∨ (6 ≤ pByte ps 2 ∧ pByte ps 2 ≤ 16)))
    && zeroBytes ps 3 4 && zeroBytes ps 9 12

/-- PREC_SET: the thresholds act at the next window, detector power and audit rate at the next Show load (R71, R79, R80,
R231). -/
def execPrecSet (w : Fn) (pk : Packet) (s : State) : Host.Outcome State Fault Refusal :=
  .next (command w pk 0x0401 (plenIs 12) false true (precParams s w) (fun ps s =>
    let p := cmdPart w ps
    let b (i : Nat) : Byte := ps.getD i 0
    if !(part s p).exist then failCmd w 0x11 s
    else
      let s := modPart p (fun x => { x with
        detNext := BitVec.ofNat 7 (pByte ps 1), audNext := BitVec.ofNat 5 (pByte ps 2)
        thrFlag := b 4, thrGap := b 5, cntGap := b 6, thrFence := b 7, cntFence := b 8 }) s
      let s := forAll (quadsOf s p) (fun z => modZoe z (fun x => { x with prec := { x.prec with
        thrFlag := b 4, thrGap := b 5, cntGap := b 6, thrFence := b 7, cntFence := b 8 } })) s
      endCmd w 0 [] (relayAll 0x0401 ps s)) s)

/-- Whether a window reaches Zoetrope z: the PF's, or that of the partition that owns it (R231). -/
def winReaches (s : State) (w : Fn) (z : Nat) : Bool :=
  match w with
  | .pf => true
  | .vf p => ownsQuad s p.val z

/-- The reply of PREC_READ (R231). -/
def precReply (s : State) (x : Zoe) : List Byte :=
  (precCounts x.prec).flatMap (leBytes 8) ++ leBytes 4 x.prec.audMax.toNat ++ leBytes 4 (regGapAge s x).toNat
    ++ (List.range 16).flatMap (fun i => leBytes 8 (look x.prec.hist i 0).toNat)

/-- PREC_READ with or without CLEAR: the counters of a Zoetrope, cleared in the same step with CLEAR (R88, R231). -/
def precRead (w : Fn) (pk : Packet) (s : State) : State :=
  command w pk 0x0402 (plenIs 4) false false (fun ps => decide (pByte ps 0 < 32 ∧ pByte ps 1 < 2) && zeroBytes ps 2 4) (fun ps s =>
    let z := pByte ps 0
    if !winReaches s w z then failCmd w 0x13 s
    else
      let bytes := precReply s (zoe s z)
      let s := if pByte ps 1 = 1 then modZoe z (fun x => { x with prec := precClear x.prec }) s else s
      endCmd w 0 bytes s) s

/-- The packet with bit 0 of parameter byte i set to `b`: what tells two commands of one opcode apart. -/
def fixBit (i : Nat) (b : Bool) (pk : Packet) : Packet :=
  let v := (pk.params.getD i 0 &&& 0xFE) ||| (if b then 1 else 0)
  { pk with params := (pk.params ++ List.replicate (i + 1 - pk.params.length) 0).set i v }

/-- The packet with parameter byte i set to `v` where it is one of the `n` values that tell the commands of its opcode apart; any other
value stays, for the command to refuse (R222). -/
def fixByte (i v n : Nat) (pk : Packet) : Packet :=
  if (pk.params.getD i 0).toNat < n then
    { pk with params := (pk.params ++ List.replicate (i + 1 - pk.params.length) 0).set i (BitVec.ofNat 8 v) }
  else pk

/-- PREC_READ without CLEAR (R231). -/
def execPrecRead (w : Fn) (pk : Packet) (s : State) : Host.Outcome State Fault Refusal := .next (precRead w (fixBit 1 false pk) s)

/-- PREC_READ with CLEAR (R88, R231). -/
def execPrecReadClear (w : Fn) (pk : Packet) (s : State) : Host.Outcome State Fault Refusal := .next (precRead w (fixBit 1 true pk) s)

/-! ### Trim, fencing, states (R89, R93, R231) -/

/-- The 16 bytes of TRIM_READ for an element (R231). -/
def trimEntry (z : Nat) (x : Zoe) (e : Nat) : List Byte :=
  let v := elem x z e
  leBytes 2 v.drive.toNat ++ leBytes 2 (v.target % 65536).toNat ++ leBytes 2 (if e < 66560 then min 65535 (accCount x.trim e v) else 0)
    ++ leBytes 2 (if v.wrap then 1 else 0) ++ leBytes 8 (if e < 66560 then v.coef.toNat else 0)

/-- TRIM_READ: drives, targets, accumulators and coefficients of up to 120 elements (R89, R231). -/
def execTrimRead (w : Fn) (pk : Packet) (s : State) : Host.Outcome State Fault Refusal :=
  .next (command w pk 0x0403 (plenIs 8) false false
    (fun ps => decide (pByte ps 0 < 32 ∧ 1 ≤ pByte ps 7 ∧ pByte ps 7 ≤ 120 ∧ fieldAt ps 4 3 + pByte ps 7 ≤ 67333) && zeroBytes ps 1 4)
    (fun ps s =>
      let z := pByte ps 0
      if !winReaches s w z then failCmd w 0x13 s
      else endCmd w 0 ((List.range (pByte ps 7)).flatMap (fun i => trimEntry z (zoe s z) (fieldAt ps 4 3 + i))) s) s)

/-- ZOE_FENCE: a Zoetrope of this module or another member is fenced with cause 1, once no partition command touches it (R226,
R231). -/
def execZoeFence (w : Fn) (pk : Packet) (s : State) : Host.Outcome State Fault Refusal :=
  .next (command w pk 0x0404 (plenIs 4) true false
    (fun ps => moduleOk s ps && decide (pByte ps 1 < 32) && zeroBytes ps 2 4) (fun ps s =>
    if !isSelf s (pByte ps 0) then relayQuery w 0x0404 0 ps s
    else if touched s [pByte ps 1] then s
    else endCmd w 0 [] (requestFence (pByte ps 1) 1 s)) s)

/-- ZOE_QUERY: ZOE_STATE and ZOE_TRIM_STATE of a member's Zoetropes; in a partition window those of its own alone (R231). -/
def execZoeQuery (w : Fn) (pk : Packet) (s : State) : Host.Outcome State Fault Refusal :=
  .next (command w pk 0x0405 (plenIs 4) false false (fun ps => moduleOk s ps && zeroBytes ps 1 4) (fun ps s =>
    let own (z : Nat) (f : Zoe → Word) : List Byte := leBytes 4 (if winReaches s w z then (f (zoe s z)).toNat else 0)
    if !isSelf s (pByte ps 0) then
      let bs := freeBytes s 256
      let bytes := bs.mapIdx (fun i b => if winReaches s w (i / 4 % 32) then b else 0)
      endCmd w 0 bytes (useFrees 256 (emit (.relay (pByte ps 0) 0x0405 ps) s))
    else endCmd w 0 ((List.range 32).flatMap (fun z => own z regZoeState) ++ (List.range 32).flatMap (fun z => own z (regTrimState (timeNs s)))) s) s)

end Sys2Proof.Machine
end

