-- ==== Sys2Proof/Machine/CmdGroup.lean ====
section
/-! DEFINITION. The commands of the 0x05xx group: the group, lanes, lane tests, laser rearm (R232, R260 to R266, R270 to R272,
R299, R305, R309). -/

namespace Sys2Proof.Machine

open Sys2Proof

/-! ### Declaration (R260) -/

/-- Whether a declaration is one of R260: N a power of two up to 64, 1 on ZHJ1-L, and an ID below N. -/
def declOk (s : State) (n id : Nat) : Bool :=
  ([1, 2, 4, 8, 16, 32, 64] : List Nat).contains n && decide (id < n) && (!s.ident.ml || decide (n = 1))

/-- A declaration stored in module flash; a different one tears every pair down; the sensor mode follows N
unless it has been set (R260, R357; log entry 55). -/
def declare (n id : Nat) (s : State) : State :=
  let s := { s with pwr.round := if s.pwr.modeSet then s.pwr.round else decide (16 ≤ n) }
  if s.fab.declared ∧ s.fab.gn.toNat = n ∧ s.fab.gid.toNat = id then s
  else
    let s := forAll ((List.range 64).filter (fun m => has s.fab.peers m)) tearDown s
    { s with
      fab.declared := true, fab.gn := BitVec.ofNat 7 n, fab.gid := BitVec.ofNat 6 id, fab.front := false
      fab.peers := [], fab.refusedFibres := [], fab.train := none }

/-- GROUP_DECLARE: the group's size and this module's ID, declared to module flash; IN_USE while a Show is loaded (R232,
R260). -/
def execGroupDeclare (w : Fn) (pk : Packet) (s : State) : Host.Outcome State Fault Refusal :=
  .next (command w pk 0x0500 (plenIs 4) true false (fun ps => declOk s (pByte ps 0) (pByte ps 1) && zeroBytes ps 2 4) (fun ps s =>
    if s.shows ≠ [] then failCmd w 0x28 s
    else endCmd w 0 [] (declare (pByte ps 0) (pByte ps 1) s)) s)

/-! ### PARTNER_TRAIN (R262, R265, R266) -/

/-- The modules of a mask. -/
def maskMods (ps : List Byte) : List Nat := (List.range 64).filter (fun m => (fieldAt ps 0 8).testBit m)

/-- Whether a module ID names a partner of this module's declared group. -/
def isPartner (s : State) (m : Nat) : Bool := s.fab.declared && decide (m < groupN s) && !isSelf s m

/-- PARTNER_TRAIN, written to the front module: the pairs with the modules named train, the members are asked to train theirs; it ends
at the commit (R262, R265,
R266; log entry 55). -/
def execPartnerTrain (w : Fn) (pk : Packet) (s : State) : Host.Outcome State Fault Refusal :=
  .next (command w pk 0x0501 (plenIs 8) true false
    (fun ps => (maskMods ps).all (isPartner s) && ((maskMods ps).isEmpty || isFront s)) (fun ps s =>
    let ms := maskMods ps
    if ms = [] then endCmd w 0 (leBytes 16 0 ++ leBytes 4 s.fab.epoch.toNat) s
    else
      let new := ms.filter (fun m => !(peer s m).trained)
      let s := forAll new startTraining s
      let s := forAll (members s) (fun m s => sendCtrl m (.trainReq m (BitVec.ofNat 64 (fieldAt ps 0 8))) s) s
      { s with
        fab.trainRes := none
        fab.train := some { mask := BitVec.ofNat 64 (fieldAt ps 0 8), pending := new, started := mtime s
                            trained := ms.foldl (fun b m => if new.contains m then b else b ||| BitVec.ofNat 64 (2 ^ m)) 0 } }) s)

/-- PARTNER_TRAIN ends: PLAN_MISMATCH where a fibre was refused, else TRAIN_FAIL where a partner is Absent (R232, R262). -/
def endTrain (w : Fn) (s : State) : State :=
  match s.fab.trainRes with
  | none => s
  | some r =>
    let ms := (List.range 64).filter (fun m => (r.1 ||| r.2).getLsbD m)
    let st := if ms.any (fun m => decide ((peer s m).refused ≠ 0)) then 0x33 else if r.2 ≠ 0 then 0x30 else 0
    endCmd w st (leBytes 8 r.1.toNat ++ leBytes 8 r.2.toNat ++ leBytes 4 s.fab.epoch.toNat) { s with fab.trainRes := none }

/-! ### Lanes (R270 to R272, R299, R301) -/

/-- The parameters of LANES_LIGHT and LANES_DARK: a partner and a number of wavelengths. -/
def laneParams (s : State) (ps : List Byte) : Bool := isPartner s (pByte ps 0) && zeroBytes ps 1 2 && zeroBytes ps 4 8

/-- Whether lanes of a pair were denied for want of a slice: a position that could carry a lane is left (R270). -/
def slicesOut (s : State) (m : Nat) : Bool := (pairLanes s m).any (positionOpen s)

/-- What LANES_LIGHT remembers while it waits: how many lanes were asked, and 65,536 more where the slices ran out. -/
def lightArg (m want : Nat) (r : List Nat × State) : Nat := want + if r.1.length < want ∧ slicesOut r.2 m then 65536 else 0

/-- LANES_LIGHT: lanes of a pair are reserved and lit for the module, and its Dormant ones woken (R232, R270, R299, R301). -/
def execLanesLight (w : Fn) (pk : Packet) (s : State) : Host.Outcome State Fault Refusal :=
  .next (command w pk 0x0502 (plenIs 8) true false (laneParams s) (fun ps s =>
    let m := pByte ps 0
    if s.las.off then failCmd w 0x34 s
    else if !isMember s m then failCmd w 0x16 s
    else
      let s := forAll (pairLanes s m) laneWake s
      let r := askLanes m 0xF (fieldAt ps 2 2) s
      modWindow w (fun x => { x with run := x.run.map (fun r' => { r' with arg := lightArg m (fieldAt ps 2 2) r, xs := r.1 }) }) r.2) s)

/-- LANES_LIGHT ends once every lane reserved is Lit or Spared; under the interlock's hold the lanes return to Dark (R232,
R299). -/
def endLight (w : Fn) (arg : Nat) (xs : List Nat) (s : State) : State :=
  let num (st : LState) : Nat := (xs.filter (fun l => decide ((lane s l).state = st))).length
  if s.las.off then failCmd w 0x34 (forAll xs laneKill s)
  else if 0 < num .tuning + num .locking then s
  else
    let lit := num .lit
    let st := if 65536 ≤ arg then 0x32 else if lit < arg then 0x31 else 0
    endCmd w st (leBytes 2 lit ++ leBytes 2 (num .spared)) s

/-- LANES_DARK: lanes that the module holds on a pair are released (R232, R271, R272). -/
def execLanesDark (w : Fn) (pk : Packet) (s : State) : Host.Outcome State Fault Refusal :=
  .next (command w pk 0x0503 (plenIs 8) true false (laneParams s) (fun ps s =>
    if !isMember s (pByte ps 0) then failCmd w 0x16 s
    else
      let r := giveLanes (pByte ps 0) 0xF (fieldAt ps 2 2) s
      endCmd w 0 (leBytes 2 r.1) r.2) s)

/-- GROUP_QUERY: epoch, size, members and lit counts (R232). -/
def execGroupQuery (w : Fn) (pk : Packet) (s : State) : Host.Outcome State Fault Refusal :=
  .next (command w pk 0x0504 (plenIs 0) true false (fun _ => true) (fun _ s =>
    let mask := if s.fab.declared then (((List.range 64).filter (isMember s)).map (fun m => 2 ^ m)).sum else 0
    endCmd w 0 (leBytes 4 s.fab.epoch.toNat ++ leBytes 1 s.fab.gn.toNat ++ leBytes 3 0 ++ leBytes 8 mask
      ++ (List.range 64).flatMap (fun m => leBytes 2 (if isPartner s m then (litLanes s m).length else 0))) s) s)

/-! ### LANE_TEST (R297, R305) -/

/-- The lane that LANE_TEST names. -/
def testLane (ps : List Byte) : Nat := 128 * pByte ps 0 + 16 * pByte ps 1 + pByte ps 2

/-- LANE_TEST: a Dark or Spared position of a trained partner is lit under test (R232, R305). -/
def execLaneTest (w : Fn) (pk : Packet) (s : State) : Host.Outcome State Fault Refusal :=
  .next (command w pk 0x0505 (plenIs 8) true false
    (fun ps => decide (pByte ps 0 < 8 ∧ pByte ps 1 < 8 ∧ pByte ps 2 < 16 ∧ 1 ≤ fieldAt ps 4 2 ∧ fieldAt ps 4 2 ≤ 40)
      && zeroBytes ps 3 4 && zeroBytes ps 6 8) (fun ps s =>
    let l := testLane ps
    let x := lane s l
    if s.las.off then failCmd w 0x34 s
    else if !((lanePartner s l).elim false (fun m => isMember s m && !isSelf s m)) then failCmd w 0x16 s
    else if x.state ≠ .dark ∧ x.state ≠ .spared then failCmd w 0x28 s
    else match freeSlice s (l / 128) with
      | none => failCmd w 0x32 s
      | some k =>
        if !farSlice s l then failCmd w 0x32 (useFrees 1024 s)
        else
        let s := useFrees 1024 s
        let s := modLane l (fun x => { x with before := x.state, state := .tuning, underTest := true, slice := k, holder := 0xF }) s
        let s := { s with fab.prbs := modAt s.fab.prbs l {} (fun e => { e with bits := 0, errs := 0, inj := 0 }) }
        modWindow w (fun y => { y with run := y.run.map (fun r => { r with xs := [l] }) }) s) s)

/-- The window whose LANE_TEST runs on lane l. -/
def testWindow (s : State) (l : Nat) : Option Fn :=
  match (window s .pf).run with
  | some r => if r.opcode = 0x0505 ∧ r.xs = [l] then some .pf else none
  | none => none

/-- LANE_TEST_DONE: the test's duration has passed: at most 10⁻⁵ errors a bit pass and the position is Dark; else it is Spared,
with cause 9 where it was Dark (R302, R304, R305, R313; log entry 55). -/
def execLaneTestDone (l : LaneId) (bits errs : BitVec 64) (s : State) : Host.Outcome State Fault Refusal :=
  let x := lane s l.val
  ifFitted s (
    if !x.underTest ∨ x.state ≠ .locking then s
    else
      let e : PrbsEng := look s.fab.prbs l.val {}
      let s := { s with fab.prbs := put s.fab.prbs l.val { e with
        bits := bits.setWidth 48, errs := errs.setWidth 48, inj := if e.injMode = 0 then 0 else (freeVal s).setWidth 48 } {} }
      let s := if e.injMode = 0 then s else useFree s
      let off (st : LState) (cause : BitVec 4) : State :=
        modLane l.val (fun x => { x with state := st, underTest := false, slice := 127, holder := 0xE, cause := cause }) s
      let s :=
        if errs.toNat * 100000 ≤ bits.toNat then off .dark 0
        else if x.before = .spared then off .spared x.cause
        else laneSpare l.val 9 (off .locking x.cause)
      match testWindow s l.val with
      | none => s
      | some w => endCmd w 0 (leBytes 8 bits.toNat ++ leBytes 8 errs.toNat) s)

/-- LANE_TEST ends without a result: INTERLOCK under the hold, else the partner is no longer there (R305; log entry 55). -/
def endTest (w : Fn) (xs : List Nat) (s : State) : State :=
  if xs.any (fun l => (lane s l).underTest) then s else failCmd w (if s.las.off then 0x34 else 0x16) s

/-! ### LASER_REARM (R232, R309) -/

/-- LASER_REARM: with the latch set and both channels closed, the latch clears, the rearm delay runs and the disagreement's
quiet period starts; else nothing changes (R232, R309, R377). -/
def execLaserRearm (w : Fn) (pk : Packet) (s : State) : Host.Outcome State Fault Refusal :=
  .next (command w pk 0x0506 (plenIs 4) true false (fun ps => decide (fieldAt ps 0 4 = 0x5EC0DE02)) (fun _ s =>
    let bits := (if s.las.aClosed then 1 else 0) + (if s.las.bClosed then 2 else 0)
    let s :=
      if s.las.latch ∧ s.las.aClosed ∧ s.las.bClosed then
        startRearm { s with las.latch := false, flt := startQuiet ⟨13, 0⟩ (mtime s) s.flt }
      else s
    endCmd w 0 (leBytes 1 bits) s) s)

end Sys2Proof.Machine
end

