-- ==== Sys2Proof/Machine/Roles.lean ====
section
/-! DEFINITION. The Marionettes' roles and resets, the images they boot, and the Top lease's claim (R329 to R332, R336, R339,
R340, R345). -/

namespace Sys2Proof.Machine

open Sys2Proof

/-- The other Marionette. -/
def otherMrt : Mrt → Mrt
  | .m0 => .m1
  | .m1 => .m0

/-- The number of a Marionette. -/
def mrtNo : Mrt → Nat
  | .m0 => 0
  | .m1 => 1

/-- Marionette m. -/
def mrtOf (s : State) : Mrt → MrtSt
  | .m0 => s.mrt.m0
  | .m1 => s.mrt.m1

/-- The state with Marionette m changed. -/
def modMrt (m : Mrt) (f : MrtSt → MrtSt) (s : State) : State :=
  match m with
  | .m0 => { s with mrt.m0 := f s.mrt.m0 }
  | .m1 => { s with mrt.m1 := f s.mrt.m1 }

/-- A Marionette becomes Out with a cause: counted and recorded; one that is Out already keeps its entry (R336). -/
def mrtOut (m : Mrt) (cause : BitVec 4) (s : State) : State :=
  if (mrtOf s m).role = .out then s
  else
    let s := modMrt m (fun x => { x with role := .out, cause := cause, armed := false, copied := 0 }) s
    raiseFault 0x0801 6 (mrtNo m) 0xFF cause.toNat { s with mrt.outs := s.mrt.outs + 1 }

/-- A Marionette is held in reset: it runs nothing until it is released and has booted (R329, R369). -/
def holdMrt (m : Mrt) (s : State) : State :=
  modMrt m (fun x => { x with isHeld := true, booting := false, booted := false, armed := false, copied := 0 }) s

/-- A Marionette released from reset begins to boot (R336). -/
def freeMrt (m : Mrt) (s : State) : State := modMrt m (fun x => { x with isHeld := false, booting := true, booted := false }) s

/-- The bank that the boot pointer of an image kind names: false A, true B (R340). -/
def bootBankOf (s : State) (kind : Nat) : Bool := look s.mrt.bootBank kind false

/-- The image of a kind at a place: the working image of bank A (0) or B (1), or the golden image (2); version in [47:0],
interface level in [63:48] (R339, R340). -/
def flashImage (s : State) (kind place : Nat) : BitVec 64 :=
  if place = 2 then Config.factoryImage kind 2 else look s.mrt.flash (2 * kind + place) (Config.factoryImage kind place)

/-- The identity of what lies at a place: an image, or with kind 3 the manifest (R245, R339, R340). -/
def flashIdOf (s : State) (kind place : Nat) : Nat :=
  if place = 2 then Config.factoryId kind 2
  else look (if kind = 3 then s.mrt.manIds else s.mrt.flashId) (if kind = 3 then place else 2 * kind + place) (Config.factoryId kind place)

/-- Whether what lies at a place may run: its signature verifies and its security version meets the fused minimum; the golden
images always may (R245, R340, R345; log entry 56). -/
def bootable (s : State) (kind place : Nat) : Bool :=
  decide (place = 2) || (Config.imageVerifies kind (flashIdOf s kind place)
    && decide (look s.mrt.minSec kind 0 ≤ Config.imageSecurity kind (flashIdOf s kind place)))

/-- The bank that is tried first: of the boot pointer, for the manifest that of the Marionette image (R340). -/
def firstBank (s : State) (kind : Nat) : Nat := if bootBankOf s (if kind = 3 then 0 else kind) then 1 else 0

/-- Where an image boots from: the named bank, else the other, else golden (R340). -/
def bootPlace (s : State) (kind : Nat) : Nat :=
  let b := firstBank s kind
  if bootable s kind b then b else if bootable s kind (1 - b) then 1 - b else 2

/-- How many images of a kind the boot refuses (R245, R340). -/
def bootRefused (s : State) (kind : Nat) : Nat :=
  let b := firstBank s kind
  if bootable s kind b then 0 else if bootable s kind (1 - b) then 1 else 2

/-- The image of a kind that boots (R340; log entry 56). -/
def bootImage (s : State) (kind : Nat) : BitVec 64 := flashImage s kind (bootPlace s kind)

/-- The identity of the image of a kind that boots, or of the manifest (R245, R340). -/
def bootId (s : State) (kind : Nat) : Nat := flashIdOf s kind (bootPlace s kind)

/-- The source code of MRT_IMG for a kind: 0 bank A, 1 bank B, 2 golden (R347). -/
def bootSrc (s : State) (kind : Nat) : BitVec 2 := BitVec.ofNat 2 (bootPlace s kind)

/-- The refusals of a boot are recorded (R245). -/
def noteRefused (kinds : List Nat) (s : State) : State :=
  { s with sec.refused := satAdd s.sec.refused ((kinds.map (bootRefused s)).sum) }

/-- A Marionette has booted the image and the manifest of R340, and runs beside the running trim and Kaleidoscope images (R340,
R345). -/
def loadMrt (m : Mrt) (s : State) : State :=
  let ids := (0, bootId s 0) :: [5, 6].filterMap (fun i => (find s.sec.meas i).map (fun n => (i - 4, n)))
  modMrt m (fun x => { x with
    version := (bootImage s 0).setWidth 48, level := (bootImage s 0).extractLsb' 48 16
    image := bootId s 0, src := bootSrc s 0, man := bootId s 3, manSrc := bootSrc s 3
    ran := x.ran ++ ids.filter (fun e => !x.ran.contains e) }) s

/-- The images that run are those of the Active: where its image is another than the one that ran, it is measured, and an
allowance ends (R245, R340, R343; log entry 56). -/
def runImages (m : Mrt) (s : State) : State :=
  let x := mrtOf s m
  let t := { s with
    mrt.images := ins s.mrt.images 0 (x.level ++ x.version), mrt.mrtSrc := x.src, mrt.manSrc := x.manSrc, mrt.manifest := x.man
    sec.meas := ins s.sec.meas 4 x.image }
  if find s.sec.meas 4 = some x.image then t
  else { t with mrt.allowed := false, mrt.allowance := [], mrt.restricted := (testedLevels t).isNone }

/-- The next module-time multiple of 20 µs from t on (R327). -/
def tickFrom (t : Nat) : Nat := (t + 19999) / 20000 * 20000

/-- The lease is claimed: the claimant is Active, on its image; after a takeover its ticks begin at the claim (R327, R330, R331,
R340). -/
def takeLease (m : Mrt) (takeover : Bool) (s : State) : State :=
  let s := runImages m (modMrt m (fun x => { x with role := .active, cause := 0, armed := false, lastKick := mtime s }) s)
  { s with
    mrt.holder := some m, mrt.claimed := true, mrt.expiredAt := none, mrt.lastRenewal := mtime s, mrt.stopped := false, mrt.auth := none
    mrt.authImage := 0, mrt.handAt := none, mrt.commit := if s.mrt.deferred.contains 1 then s.mrt.commit else none
    mrt.pendRenewal := none, mrt.unconfRun := 0, mrt.firstTick := true, mrt.lastAck := mtime s
    mrt.nextTick := if takeover then timeNs s else tickFrom (timeNs s) }

end Sys2Proof.Machine
end

