-- ==== Sys2Proof/Machine/CmdModule.lean ====
section
/-! DEFINITION. The commands of the 0x01xx group: identity, service, module reset, halves, block resets (R3, R14, R25, R59,
R144, R226, R228, R316, R318, R368, R369). -/

namespace Sys2Proof.Machine

open Sys2Proof

/-! ### Identity and service (R3, R14, R228) -/

/-- MOD_BUILD (R3). -/
def regBuild (s : State) : Word :=
  (0x4A31 : BitVec 16) ++ (if s.ident.ml then (2 : Byte) else 1) ++ s.ident.hubStep ++ s.ident.logicStep

/-- ACTIVE_MRT (R14). -/
def activeCode (s : State) : BitVec 2 :=
  match s.mrt.holder with
  | none => 0
  | some .m0 => 1
  | some .m1 => 2

/-- MOD_HALFSTAT; what the Active Marionette writes into it reads as at reset until a Marionette has held the lease, and follows at
once from then on (R14; log entry 102). -/
def regHalfstat (s : State) : Word :=
  let n (h : Nat) : BitVec 5 := if s.mrt.claimed then BitVec.ofNat 5 (quadsUp s h) else 0
  (0 : BitVec 10) ++ n 1 ++ n 0 ++ (0 : BitVec 2)
    ++ BitVec.ofBool (minSet s) ++ BitVec.ofBool (s.mrt.claimed && interHubUp s && !s.d2d.ihlReset) ++ activeCode s
    ++ BitVec.ofBool s.rst.fencedWest ++ BitVec.ofBool s.rst.fencedEast ++ (0 : BitVec 2)
    ++ BitVec.ofBool s.rst.presentWest ++ BitVec.ofBool s.rst.presentEast

/-- The parameters of a query of a member: a MODULE and three zero bytes. -/
def queryParams (s : State) (ps : List Byte) : Bool := moduleOk s ps && zeroBytes ps 1 4

/-- GET_IDENTITY: build, serial, running images, module ID and group size of a member (R228). -/
def execGetIdentity (w : Fn) (pk : Packet) (s : State) : Host.Outcome State Fault Refusal :=
  .next (command w pk 0x0100 (plenIs 4) false false (queryParams s) (fun ps s =>
    if !isSelf s (pByte ps 0) then relayQuery w 0x0100 38 ps s
    else endCmd w 0 (leBytes 4 (regBuild s).toNat ++ leBytes 8 s.ident.serial.toNat
      ++ [0, 1, 2].flatMap (fun k => leBytes 8 (look s.mrt.images k 0).toNat)
      ++ leBytes 1 (selfId s) ++ leBytes 1 s.fab.gn.toNat) s) s)

/-- GET_SERVICE: service state, MOD_HALFSTAT and the cause of the last state change of a member (R228). -/
def execGetService (w : Fn) (pk : Packet) (s : State) : Host.Outcome State Fault Refusal :=
  .next (command w pk 0x0101 (plenIs 4) false false (queryParams s) (fun ps s =>
    if !isSelf s (pByte ps 0) then relayQuery w 0x0101 12 ps s
    else endCmd w 0 (leBytes 4 s.rst.service.code ++ leBytes 4 (regHalfstat s).toNat ++ leBytes 4 s.rst.cause.toNat) s) s)

/-- A module reset 1 ms from now, unless one waits already (R228, R362). -/
def resetSoon (s : State) : State :=
  if s.rst.resetDue.isSome then s else { s with rst.resetDue := some (mtime s + 1000000), rst.resetSrc := 2 }

/-- MODULE_RESET: the command ends, and the module reset begins 1 ms later (R228, R368). -/
def execModuleReset (w : Fn) (pk : Packet) (s : State) : Host.Outcome State Fault Refusal :=
  .next (command w pk 0x0102 (plenIs 4) true false (fun ps => decide (fieldAt ps 0 4 = 0x5EC0DE01)) (fun _ s =>
    endCmd w 0 [] (resetSoon s)) s)

/-! ### Halves (R25, R226, R228) -/

/-- The Zoetropes of half h. -/
def halfZoes (h : Nat) : List Nat := (List.range 16).map (16 * h + ·)

/-- The sessions of the partitions that own a Quad in half h. -/
def halfSessions (s : State) (h : Nat) : List (Nat × Session) := (halfParts s h).flatMap (sessionsOf s)

/-- Whether the session of a key is being parked at the module's own wish. -/
def isParking (s : State) (k : Nat) : Bool :=
  match find s.sessions k with
  | some x => (match x.op with
    | .forced _ => true
    | _ => false)
  | none => false

/-- A half is fenced by command: the command waits for the parks, which it counts, with the sessions closed at once. -/
def beginFence (w : Fn) (h : Nat) (s : State) : State :=
  let before := (halfSessions s h).map (·.1)
  let t := fenceHalf h s
  let left := before.filter (fun k => (find t.sessions k).isSome)
  let parking := left.filter (isParking t)
  modWindow w (fun x => { x with run := x.run.map (fun r => { r with arg := 1 + (before.length - left.length), xs := parking }) }) t

/-- FENCE_HALF ends once no session of it is being parked: those Parked and those Closed (R25, R228). -/
def endFence (w : Fn) (arg : Nat) (xs : List Nat) (s : State) : State :=
  let st (k : Nat) : Option SessState := (find s.sessions k).map (·.state)
  if xs.any (isParking s) then s
  else
    let parked := (xs.filter (fun k => decide (st k = some .parked))).length
    endCmd w 0 (leBytes 2 parked ++ leBytes 2 (arg - 1 + xs.length - parked)) s

/-- FENCE_HALF with action 0: the half is fenced once no partition command touches its Zoetropes (R25, R226, R228). -/
def execFenceHalf (w : Fn) (pk : Packet) (s : State) : Host.Outcome State Fault Refusal :=
  .next (command w (fixByte 1 0 2 pk) 0x0103 (plenIs 4) true false (fun ps => decide (pByte ps 0 < 2 ∧ pByte ps 1 < 2) && zeroBytes ps 2 4) (fun ps s =>
    if touched s (halfZoes (pByte ps 0)) then s else beginFence w (pByte ps 0) s) s)

/-- FENCE_HALF with action 1: the half is unfenced at the next full calibration (R228). -/
def execUnfenceHalf (w : Fn) (pk : Packet) (s : State) : Host.Outcome State Fault Refusal :=
  .next (command w (fixByte 1 1 2 pk) 0x0103 (plenIs 4) true false (fun ps => decide (pByte ps 0 < 2 ∧ pByte ps 1 < 2) && zeroBytes ps 2 4) (fun ps s =>
    let h : Half := if pByte ps 0 = 0 then .east else .west
    endCmd w 0 (leBytes 4 0) (if halfFenced s (pByte ps 0) ∧ !s.rst.unfence.contains h then
      { s with rst.unfence := s.rst.unfence ++ [h] } else s)) s)

/-! ### Block resets (R59, R144, R228, R369) -/

/-- A stream after its Zoetrope's block reset: idle at descriptor 0, its windows abandoned. An audited window that had posted its
window-done stays pending, one abandoned before leaves uncounted; what the gap rule had counted and asked for is gone (R59, R79, R82;
log entry 103). -/
def resetStream (r : StreamSt) : StreamSt :=
  { ({} : StreamSt) with
    audIndex := r.audIndex, weeLast := r.weeLast, pend := r.pend.filter (fun e => e.done.isSome) }

/-- A Zoetrope in block reset. What asks for a fence or a calibration at the next boundary still does, and acts as the Zoetrope leaves
Trimming (R59, R61, R63, R99, R108; log entries 56 and 103). -/
def resetZoe (now : Nat) (x : Zoe) : Zoe :=
  let fall := decide (x.state = .ready ∨ x.state = .running ∨ x.state = .gap ∨ x.state = .trimming)
  { x with
    state := if fall then .trimming else x.state
    halt0 := false, halt1 := false, st0 := resetStream x.st0, st1 := resetStream x.st1
    slots := mapVals x.slots {} (fun e => { e with valid := false })
    fenceReq := if x.fenceReq = 0 ∧ (x.st0.fenceDue ∨ x.st1.fenceDue) then 2 else x.fenceReq
    scn := { x.scn with threads := x.scn.threads.map (fun e => (e.1, { e.2 with running := false })) }
    trim := { x.trim with
      cause := if fall then 5 else x.trim.cause, gapKind := .none, pilots := false, lightDue := false, gapLeft := 0
      owed200 := 0, gapRun := 0, runDue := false, passPos := 0, phFrom := x.trim.phN, balFrom := x.trim.balN
      since := if fall then now else x.trim.since } }

/-- Whether a byte of scratch that Marble n reaches at a fabric address lies in Bag b, for a range of `len` bytes. -/
def inBag (n b a len : Nat) : Bool :=
  decide (a / 2 ^ 30 = 0) && (List.range ((len + 31) / 32)).any (fun i => decide ((remoteByte n (a + 32 * i)).1 / 8192 = b))

/-- Whether a remote operation of Marble n starts or ends in Bag b. -/
def opInBag (n b : Nat) (o : Outst) : Bool :=
  decide (n / 8192 = b) || (match o.op with
    | .load len _ a => inBag n b a.toNat len
    | .store a bytes => inBag n b a.toNat bytes.length
    | .copy src dst len => inBag n b src.toNat len || inBag n b dst.toNat len
    | _ => false)

/-- Every router transfer of Marble n that starts or ends in Bag b completes with BLOCK_RESET and moves nothing; a load's data is free
(R144, R369). -/
def cutRemote (b n : Nat) (s : State) : State :=
  forAll [3, 2, 1, 0] (fun i s =>
    match (marble s n).outst[i]? with
    | some o =>
      if opInBag n b o then
        useFrees 32 (modMarble n (fun m => endLoad o (freeBytes s 32) 5 { m with outst := m.outst.eraseIdx i }) s)
      else s
    | none => s) s

/-- The operand runs of a window that its feeders read from Bag b carry code 0 from symbol k of the window on (R51, R144). -/
def cutFeed (x : Zoe) (z q b k : Nat) (w : WinRun) : WinRun :=
  let hit := (streamChans x.modeApplied q).map (fun c => decide (feedCluster x z c.1 / 128 = b))
  let n := (tileRows x.modeApplied q).length
  let cut (off : Nat) (cs : List (Option Nat)) : List (Option Nat) :=
    cs.mapIdx (fun i c => if hit.getD (off + i) false then some (min k (c.getD k)) else c)
  if k < wdK w.desc ∧ hit.any (fun h => h) then { w with wCut := cut 0 w.wCut, aCut := cut n w.aCut, underrun := true } else w

/-- The DMA descriptors open at Zoetrope z's port that satisfy `p` complete with BLOCK_RESET (R369). -/
def cutDma (p : DmaOp → Bool) (z : Nat) (s : State) : State :=
  let gone := (dmaOpen (zoe s z)).filter p
  let s := modZoe z (fun x => { x with dma := x.dma.filter (fun o => o.finished || !p o) }) s
  forAll gone (fun o => dmaComplete o 5) s

/-- A Bag in block reset, while its wrapper answers BLOCK_RESET: transfers end, feeder reads in flight give code 0, its Marbles stop
with cause 6, its Parcels wait for the end of the reset and are aborted (R116, R144, R282, R284). -/
def resetBag (b : Nat) (s : State) : State :=
  let s := forAll (s.mrb.marbles.map (·.1)) (cutRemote b) s
  let s := cutDma (fun o => decide (4 * (b / 4) + bitsOf (dmaSaddr o.desc) 25 24 = b)) (b / 4) s
  let k := nowSym s
  let s := modZoe (b / 4) (fun x =>
    let cut (q : Nat) (r : StreamSt) : StreamSt := { r with integ := r.integ.map (fun w => cutFeed x (b / 4) q b (k - w.t0) w) }
    { x with st0 := cut 0 x.st0, st1 := cut 1 x.st1 }) s
  let s := { s with mrb.marbles := mapBlock s.mrb.marbles (8192 * b) 8192 {} (fun m => clearMarble m 6) }
  let mine (p : TxParcel) : Bool := decide (p.n.toNat / 8192 = b) && !p.blocked
  let cut := s.fab.tx.filter mine
  let s := { s with fab.tx := s.fab.tx.map (fun p => if mine p then { p with blocked := true } else p) }
  forAll cut (fun p => sendCtrl p.partner (.abort p.partner p.tag)) s

/-- A Bag leaves reset: the Parcels posted from it complete with BLOCK_RESET (R144). -/
def freeBag (b : Nat) (s : State) : State :=
  forAll (s.fab.tx.filter (fun p => decide (p.n.toNat / 8192 = b) && p.blocked))
    (fun p s => completePost p.n.toNat p.slot p.seq 5 0 (txDrop p.partner p.tag s)) s

/-- The UCIe modules of Kaleidoscope chiplet c within its half (R325). -/
def kalMods (c : Nat) : List Nat := (List.range 4).map (48 + 4 * (c % 4) + ·)

/-- A Kaleidoscope port in block reset: every lane of the chiplet leaves its pair for Dark (R271, R295, R369). -/
def resetKal (c : Nat) (s : State) : State :=
  let s := forAll (chipLanes c) laneKill s
  forAll (kalMods c) (fun m => modUcie (c / 4) m (fun _ => {})) s

/-- An HBM controller in block reset: its stack is in self-refresh and not up (R369). -/
def resetHbm (k : Nat) (s : State) : State :=
  let s := modStack k (fun x => { x with up := false }) s
  forAll (List.range 32) (cutDma (fun o => match pmaMap s (tagPart o.tag) (dmaPma o.desc) 0 with
    | some co => decide (co.1 / 32 = k)
    | none => false)) s

/-- A guest port in block reset: a held port is released, the descriptor is required again (R255, R257, R259, R369). -/
def resetGuest (g : Nat) (s : State) : State :=
  let s := modGuest g (fun x => { x with isHeld := false, link := 0, reason := 0, desc := [], descOk := false, denials := 0, denyMs := none }) (endTrds g s)
  modUcie g 64 (fun _ => {}) s

/-- The effect of a block reset of kind k and index i, its wrapper already answering BLOCK_RESET (R369). -/
def blockReset (k : BlockKind) (i : Nat) (s : State) : State :=
  match k with
  | .zoetrope => modZoe i (resetZoe (timeNs s)) s
  | .bag => resetBag i s
  | .kaleidoscope => resetKal i s
  | .hbm => resetHbm i s
  | .guest => resetGuest i s
  | .interhub => interHubDown s
  | .marionette =>
    let m : Mrt := if i = 0 then .m0 else .m1
    modMrt m (fun x => { x with resets := [], given := false }) (mrtOut m 6 (holdMrt m s))

/-- The bond test of a Zoetrope: what it finds is free; failed channels and cells act as R30 to R32 say, for a Zoetrope that is Off
once it warms (R316; log entry 56). -/
def bondTest (z : Nat) (s : State) : State :=
  let n := s.free
  let s := useFree { s with
    d2d.bondSpares := put s.d2d.bondSpares z (Config.bondSpares z n) 0
    d2d.bondFailed := put s.d2d.bondFailed z (Config.bondFailed z n) 0 }
  let off := decide ((zoe s z).state = .off)
  let fence (c : Byte) (s : State) : State := if off then modZoe z (fun x => { x with fenceReq := c }) s else requestFence z c s
  let s := forAll (Config.bondChannels z n) (fun c s => if off then modZoe z (noteFailed c.val) s else failChannel z c.val s) s
  let cells := (Config.bondCells z n).map (fun e => (e.1.val, e.2.val))
  let dead := (zoe s z).dead ++ cells.filter (fun e => !(zoe s z).dead.contains e)
  let s := modZoe z (fun x => { x with dead := dead.take 64 }) s
  let s := if 64 < dead.length then fence 3 s else s
  if Config.bondTrimFails z n then fence 9 s else s

/-- The wrapper of a block is opened: the block leaves reset to the state of R369 (log entry 56). -/
def blockRelease (k : BlockKind) (i : Nat) (s : State) : State :=
  match k with
  | .zoetrope => if (zoe s i).state = .off then s else bondTest i s
  | .bag => freeBag i s
  | .kaleidoscope => trainMods (i / 4) (kalMods i) s
  | .hbm => modStack i (fun x => { x with up := true }) s
  | .guest => trainMods i [64] s
  | .interhub => { s with d2d.ihlTraining := true }
  | .marionette => freeMrt (if i = 0 then .m0 else .m1) s

/-- The kind number of a block (R228). -/
def kindNo : BlockKind → Nat
  | .zoetrope => 0 | .bag => 1 | .kaleidoscope => 2 | .hbm => 3 | .guest => 4 | .interhub => 5 | .marionette => 6

/-- How many blocks of a kind the build has (R1, R12). -/
def kindCount (s : State) : BlockKind → Nat
  | .zoetrope => 32
  | .bag => 128
  | .kaleidoscope => if s.ident.ml then 0 else 8
  | .hbm => if s.ident.ml then 4 else 6
  | .guest => if s.ident.ml then 0 else 2
  | .interhub => 1
  | .marionette => 2

/-- How long a block is held in reset, in ns (R369). -/
def holdNs : BlockKind → Nat
  | .zoetrope => 10000
  | .bag => 10000
  | .marionette => 0
  | _ => 100000

/-- BLOCK_RESET of a kind: the block enters reset, and the command ends as it leaves it; the Active Marionette is refused (R228,
R369). -/
def blockCommand (k : BlockKind) (w : Fn) (pk : Packet) (s : State) : State :=
  command w (fixByte 0 (kindNo k) 7 pk) 0x0104 (plenIs 8) true false
    (fun ps => decide (pByte ps 0 < 7 ∧ fieldAt ps 4 2 < kindCount s k) && zeroBytes ps 1 4 && zeroBytes ps 6 8) (fun ps s =>
    let i := fieldAt ps 4 2
    if k = .marionette ∧ s.mrt.holder = some (if i = 0 then .m0 else .m1) then failCmd w 0x13 s
    else
      let s := if blockHeld s k i then s else { s with rst.blocks := s.rst.blocks ++ [(k, i)] }
      let s := blockReset k i s
      modWindow w (fun x => { x with run := x.run.map (fun r => { r with xs := [kindNo k, i] }) }) s) s

/-- BLOCK_RESET of a Zoetrope (R59, R228). -/
def execBlockResetZoetrope (w : Fn) (pk : Packet) (s : State) : Host.Outcome State Fault Refusal := .next (blockCommand .zoetrope w pk s)

/-- BLOCK_RESET of a Bag (R144, R228). -/
def execBlockResetBag (w : Fn) (pk : Packet) (s : State) : Host.Outcome State Fault Refusal := .next (blockCommand .bag w pk s)

/-- BLOCK_RESET of a Kaleidoscope chiplet's port (R228, R369). -/
def execBlockResetKaleidoscope (w : Fn) (pk : Packet) (s : State) : Host.Outcome State Fault Refusal :=
  .next (blockCommand .kaleidoscope w pk s)

/-- BLOCK_RESET of an HBM controller (R228, R369). -/
def execBlockResetHbm (w : Fn) (pk : Packet) (s : State) : Host.Outcome State Fault Refusal := .next (blockCommand .hbm w pk s)

/-- BLOCK_RESET of a guest port (R228, R257). -/
def execBlockResetGuest (w : Fn) (pk : Packet) (s : State) : Host.Outcome State Fault Refusal := .next (blockCommand .guest w pk s)

/-- BLOCK_RESET of the inter-hub link (R180, R228, R321). -/
def execBlockResetInterhub (w : Fn) (pk : Packet) (s : State) : Host.Outcome State Fault Refusal :=
  .next (blockCommand .interhub w pk s)

/-- BLOCK_RESET of the Marionette that is not Active (R228, R336). -/
def execBlockResetMarionette (w : Fn) (pk : Packet) (s : State) : Host.Outcome State Fault Refusal :=
  .next (blockCommand .marionette w pk s)

/-- BLOCK_RESET_RELEASE: the hold of a block ends, it leaves reset, and the command that reset it ends (R144, R228, R369). -/
def execBlockResetRelease (k : BlockKind) (i : Nat) (s : State) : Host.Outcome State Fault Refusal :=
  .next (
    if !blockHeld s k i then s
    else
      let cmd := (window s .pf).run.filter (fun r => decide (r.opcode = 0x0104 ∧ r.xs = [kindNo k, i]))
      let s := match cmd with
        | some r => advanceTo (r.started.toNat + holdNs k) s
        | none => s
      let s := blockRelease k i { s with rst.blocks := s.rst.blocks.filter (fun e => decide (e ≠ (k, i))) }
      if cmd.isSome then endCmd .pf 0 [] s else s)

end Sys2Proof.Machine
end

