-- ==== Sys2Proof/Machine/Power.lean ====
section
/-! DEFINITION. The power governor, the sensors and the orderly stop (R105, R233, R349 to R361, R363, R364). -/

namespace Sys2Proof.Machine

open Sys2Proof

/-! ### Accounts (R350, R351) -/

/-- A Quad's power. -/
def quadPwr (s : State) (z : Nat) : QuadPwr := look s.pwr.quads z {}

/-- The state with a Quad's power changed. -/
def modQuadPwr (z : Nat) (f : QuadPwr → QuadPwr) (s : State) : State := { s with pwr.quads := modAt s.pwr.quads z {} f }

/-- A Zoetrope's standing allowance in W: ceil(3.5 + 0.7 × DET / 50), plus 1 while Trimming, 0 while Off (R351). -/
def allowanceOf (x : Zoe) : Nat :=
  if x.state = .off then 0 else (3500 + 14 * x.detpwr.toNat + 999) / 1000 + (if x.state = .trimming then 1 else 0)

/-- What Quad z commits, in W. -/
def quadWatts (s : State) (z : Nat) : Nat := (quadPwr s z).allow + (quadPwr s z).run + (quadPwr s z).marble

/-- What partition p commits, in W (R351). -/
def partWatts (s : State) (p : Nat) : Nat := ((quadsOf s p).map (quadWatts s)).sum

/-- What the module commits, in die W, the fixed reserve of 310 W included (R351). -/
def committed (s : State) : Nat := 310 + ((List.range 32).map (quadWatts s)).sum

/-- The pool in die W: floor(envelope / CONV), less what R355 has taken (R350). -/
def poolOf (s : State) : Nat := s.pwr.env.toNat * 100 / s.pwr.conv.toNat - s.pwr.poolCut

/-- Whether a Quad's grants are requested: from the load of its owner's Show until that Show stops (R351). -/
def wanted (s : State) (z : Nat) : Bool :=
  match (quadPart s z).bind (find s.shows) with
  | some w => !w.loading
  | none => false

/-- SHORT: a grant is below its request (R366). -/
def shortOf (s : State) (z : Nat) : Bool := wanted s z && decide ((quadPwr s z).run < 4 ∨ (quadPwr s z).marble < 6)

/-! ### The grant round (R105, R352, R354) -/

/-- A Marble grant set: the ramp cap falls with it at once (R105, R354). -/
def setMarbleGrant (g : Nat) (x : QuadPwr) : QuadPwr := { x with marble := g, ramp := min x.ramp (10 * g) }

/-- Step 1: grants of stopped Shows at 0, allowances recomputed. -/
def grantReset (s : State) : State :=
  forAll (List.range 32) (fun z s =>
    modQuadPwr z (fun x =>
      let x := { x with allow := allowanceOf (zoe s z) }
      if wanted s z then x else { (setMarbleGrant 0 x) with run := 0 }) s) s

/-- How far partition p is over its ceiling. -/
def overBy (s : State) (p : Nat) : Int := (partWatts s p : Int) - (part s p).ceil

/-- The partition furthest over of those listed; the lower number at a tie. -/
def furthest (s : State) : List Nat → Option Nat
  | [] => none
  | p :: ps =>
    match furthest s ps with
    | none => some p
    | some q => if overBy s q ≤ overBy s p then some p else some q

/-- The partitions that must give: those over their ceiling, or every one while the pool is exceeded. -/
def givers (s : State) : List Nat :=
  (List.range 12).filter (fun p => (part s p).exist && (decide (0 < overBy s p) || decide (poolOf s < committed s)))

/-- Step 2: one watt less on every Quad of the partition furthest over, Marble grants first, until everything fits. -/
def grantLower : Nat → State → State
  | 0, s => s
  | n + 1, s =>
    let gs := givers s
    match furthest s (gs.filter (fun p => (quadsOf s p).any (fun z => decide (0 < (quadPwr s z).marble)))) with
    | some p => grantLower n (forAll (quadsOf s p) (fun z => modQuadPwr z (fun x => setMarbleGrant (x.marble - 1) x)) s)
    | none =>
      match furthest s (gs.filter (fun p => (quadsOf s p).any (fun z => decide (0 < (quadPwr s z).run)))) with
      | some p => grantLower n (forAll (quadsOf s p) (fun z => modQuadPwr z (fun x => { x with run := x.run - 1 })) s)
      | none => s

/-- Step 3 for one partition: a watt more on every one of its Quads below the request, run before Marble, when all of it fits
the pool and the ceiling. -/
def grantRaise (p : Nat) (s : State) : State :=
  let qs := (quadsOf s p).filter (wanted s)
  let low := qs.filter (fun z => decide ((quadPwr s z).run < 4))
  let up := if low.isEmpty then qs.filter (fun z => decide ((quadPwr s z).marble < 6)) else low
  let n := up.length
  if n = 0 ∨ poolOf s < committed s + n ∨ (part s p).ceil < partWatts s p + n then s
  else forAll up (fun z => modQuadPwr z (fun x =>
    if low.isEmpty then setMarbleGrant (x.marble + 1) x else { x with run := x.run + 1 })) s

/-- Whether Quad z runs throttled: a grant is below its request, a thermal throttle acts, or its meter holds its Marbles (R352,
R354, R359; log entry 63). -/
def throttledQuad (s : State) (z : Nat) : Bool :=
  let q := quadPwr s z
  shortOf s z || q.thrLight || q.thrLogic || q.paused

/-- When Quad z ran throttled is noted (R233). -/
def noteThrottle (z : Nat) (s : State) : State :=
  if throttledQuad s z then modQuadPwr z (fun x => { x with thrAt := some (mtime s) }) s else s

/-- The grant round (R352); the order of the partitions rotates by one place each tick. -/
def grantRound (s : State) : State :=
  let s := grantLower 132 (grantReset (forAll (List.range 32) noteThrottle s))
  forAll (List.range 32) noteThrottle (forAll ((List.range 12).map (fun i => (i + s.mrt.tick) % 12)) grantRaise s)

/-! ### The meter and the thermal cap (R354, R360) -/

/-- The cap on a Quad's Marble power in 0.1 W: the least of grant, ramp and thermal cap (R354). -/
def marbleCap (x : QuadPwr) : Nat := min (10 * x.marble) (min x.ramp x.thermal)

/-- MARBLE_POWER_METER: 64 Marble cycles have passed; the energy of the last 1 µs, in nJ, is compared with the cap, and the
Quad's Marbles issue nothing while it is over (R354; log entry 60). -/
def execMarblePowerMeter (z : ZoeId) (energy : Nat) (s : State) : Host.Outcome State Fault Refusal :=
  let x := quadPwr s z.val
  .next (noteThrottle z.val (useFree (modQuadPwr z.val (fun x => { x with
      paused := decide (100 * marbleCap x < energy), metered := (freeVal s).setWidth 8 })
    (noteThrottle z.val (if x.paused then { s with pwr.mpause := s.pwr.mpause + 64 } else s)))))

/-- A sensor. -/
def sensor (s : State) (k : Nat) : Sensor := look s.pwr.sensors k {}

/-- The state with a sensor changed. -/
def modSensor (k : Nat) (f : Sensor → Sensor) (s : State) : State := { s with pwr.sensors := modAt s.pwr.sensors k {} f }

/-- The light-die diodes of Zoetrope z, then the logic-die diodes of its Quad (R356). -/
def lightDiodes (z : Nat) : List Nat := [72 * (z / 16) + 2 * (z % 16), 72 * (z / 16) + 2 * (z % 16) + 1]

/-- The logic-die diodes of Quad z (R356). -/
def logicDiodes (z : Nat) : List Nat := (lightDiodes z).map (· + 32)

/-- Degrees Celsius in the 1/16 °C that sensors read. -/
def deg (c : Int) : Int := 16 * c

/-- A throttle flag: set above its threshold, cleared 2 °C below it (R359). -/
def throttle (s : State) (was : Bool) (ds : List Nat) (th : Int) : Bool :=
  ds.any (fun k => decide (deg th < (sensor s k).value)) ||
    (was && ds.any (fun k => decide (deg (th - 2) < (sensor s k).value)))

/-- What a Quad's thermal cap loses in a millisecond, in 0.1 W: 0.5 W above the light die's threshold, 1 W above the logic
die's, both when both are (R360; log entry 60). -/
def throttleFall (s : State) (z : Nat) : Nat :=
  let above (ds : List Nat) (th : Int) : Bool := ds.any (fun k => decide (deg th < (sensor s k).value))
  max (if above (lightDiodes z) 62 then 5 else 0) (if above (logicDiodes z) 95 then 10 else 0)

/-- THERMAL_CAP_UPDATE: a millisecond of a Quad's thermal cap: it falls while a diode is above its threshold, holds between
there and the release point, and rises to 6 W below; the ramp cap rises by 0.5 W toward the grant (R105, R354, R359, R360,
R364). -/
def execThermalCapUpdate (z : ZoeId) (s : State) : Host.Outcome State Fault Refusal :=
  let q := quadPwr s z.val
  let light := throttle s q.thrLight (lightDiodes z.val) 62
  let logic := throttle s q.thrLogic (logicDiodes z.val) 95
  let fall := throttleFall s z.val
  let cap := if 0 < fall then max 10 (q.thermal - fall) else if light || logic then q.thermal else min 60 (q.thermal + 5)
  .next (settleAlert (noteThrottle z.val (modQuadPwr z.val (fun x => { x with
    thrLight := light, thrLogic := logic, thermal := cap, ramp := min (10 * x.marble) (x.ramp + 5) }) (noteThrottle z.val s))))

/-! ### Sensors (R356 to R359) -/

/-- What a sensor watches: those of R356, and the report of an HBM stack (log entry 87). -/
inductive SensorPlace where
  | light (h i : Nat)
  | logic (h i : Nat)
  | hub (h i : Nat)
  | thermistor (first last : Nat)
  | hbm (k : Nat)
  deriving DecidableEq, Repr

/-- The place of sensor k: a diode with its position on its die, or a thermistor with its group (R356); sensor 156 + k is stack
k's own report (log entry 87). -/
def sensorPlace (k : Nat) : SensorPlace :=
  if k < 144 then
    let j := k % 72
    if j < 32 then .light (k / 72) (j / 2) else if j < 64 then .logic (k / 72) ((j - 32) / 2) else .hub (k / 72) (j - 64)
  else if k < 148 then .thermistor 144 147 else if k < 152 then .thermistor 148 151
  else if k < 154 then .thermistor 152 153 else if k < 156 then .thermistor 154 155 else .hbm (k - 156)

/-- The grid positions next to position i in row or column (R356, R358). -/
def gridNext (i : Nat) : List Nat :=
  (List.range 16).filter (fun j =>
    decide ((j / 4 = i / 4 ∧ (j % 4 + 1 = i % 4 ∨ i % 4 + 1 = j % 4)) ∨ (j % 4 = i % 4 ∧ (j / 4 + 1 = i / 4 ∨ i / 4 + 1 = j / 4))))

/-- The neighbours of a diode (R358). -/
def neighboursOf (k : Nat) : List Nat :=
  let around (base i : Nat) : List Nat :=
    [base + 2 * i, base + 2 * i + 1].filter (· ≠ k) ++ (gridNext i).flatMap (fun j => [base + 2 * j, base + 2 * j + 1])
  match sensorPlace k with
  | .light h i => around (72 * h) i
  | .logic h i => around (72 * h + 32) i
  | .hub h _ => ((List.range 8).map (72 * h + 64 + ·)).filter (· ≠ k)
  | .thermistor _ _ => []
  | .hbm _ => []

/-- The diodes of the die that a diode lies on. -/
def dieOf (k : Nat) : List Nat :=
  match sensorPlace k with
  | .light h _ => (List.range 32).map (72 * h + ·)
  | .logic h _ => (List.range 32).map (72 * h + 32 + ·)
  | .hub h _ => (List.range 8).map (72 * h + 64 + ·)
  | .thermistor _ _ => []
  | .hbm _ => []

/-- A reading put into a rising list. -/
def insertInt (x : Int) : List Int → List Int
  | [] => [x]
  | y :: ys => if x ≤ y then x :: y :: ys else y :: insertInt x ys

/-- A list of readings in rising order. -/
def sortInts : List Int → List Int
  | [] => []
  | x :: xs => insertInt x (sortInts xs)

/-- The median: the middle reading, or the mean of the two middle ones; none of no readings (log entry 61). -/
def medianOf (xs : List Int) : Option Int :=
  let ys := sortInts xs
  let n := ys.length
  if n = 0 then none
  else if n % 2 = 1 then some (ys.getD (n / 2) 0)
  else some ((ys.getD (n / 2 - 1) 0 + ys.getD (n / 2) 0) / 2)

/-- The readings of the non-suspect sensors of a list that have been sampled. -/
def goodReadings (s : State) (ks : List Nat) : List Int :=
  (ks.filter (fun k => (sensor s k).sampled && !(sensor s k).suspect)).map (fun k => (sensor s k).temp)

/-- The highest reading of a list of sensors' good readings. -/
def hottest (s : State) (ks : List Nat) : Option Int :=
  match goodReadings s ks with
  | [] => none
  | t :: ts => some (ts.foldl max t)

/-- The diodes of a die that are not suspect. -/
def goodCount (s : State) (ks : List Nat) : Nat := (ks.filter (fun k => !(sensor s k).suspect)).length

/-- A sensor is marked suspect: counted and recorded; a die left with fewer than 8 good diodes raises a Contained fault
(R358). -/
def markSuspect (k : Nat) (s : State) : State :=
  if (sensor s k).suspect then s
  else
    let s := modSensor k (fun x => { x with suspect := true, since := none }) { s with pwr.suspects := s.pwr.suspects + 1 }
    let s := raiseFault 0x0903 8 k 0xFF k s
    if dieOf k ≠ [] ∧ goodCount s (dieOf k) = 7 then raiseFault 0x0904 8 k 0xFF k s else s

/-- Whether a reading is outside −40 to 150 °C (R358). -/
def openOrShort (t : Int) : Bool := decide (t < deg (-40) ∨ deg 150 < t)

/-- What a failed thermistor reads as: the hottest working one of its group, else of all; its own last value where none works
(R358). -/
def thermistorValue (s : State) (k first last : Nat) : Int :=
  let group := (List.range (last + 1 - first)).map (first + ·)
  match hottest s group with
  | some t => t
  | none => (hottest s ((List.range 12).map (144 + ·))).getD (sensor s k).value

/-- A die diode's suspicion after a reading t, with the median m of its neighbours (R358). -/
def diodeSuspicion (k : Nat) (t m : Int) (s : State) : State :=
  let x := sensor s k
  let apart := (t - m).natAbs
  if x.failed then s
  else if !x.suspect then if 128 < apart then markSuspect k s else s
  else if 64 < apart then modSensor k (fun x => { x with since := none }) s
  else match x.since with
    | none => modSensor k (fun x => { x with since := some (mtime s) }) s
    | some a =>
      if a.toNat + 1000000000 ≤ timeNs s then modSensor k (fun x => { x with suspect := false, since := none }) s else s

/-- The value used in every comparison (R358): a good reading itself, a suspect diode's the median, a die with fewer than 8
good diodes at its hottest good reading plus 8 °C. -/
def valueUsed (s : State) (k : Nat) (m : Option Int) : Int :=
  let x := sensor s k
  match sensorPlace k with
  | .thermistor a b => if x.failed then thermistorValue s k a b else x.temp
  | .hbm _ => x.temp
  | _ =>
    if goodCount s (dieOf k) < 8 then ((hottest s (dieOf k)).map (· + 128)).getD x.value
    else if x.suspect then m.getD x.value else x.temp

/-- The thresholds of a sensor in °C (R359). -/
def thresholdsOf (k : Nat) : List Int :=
  match sensorPlace k with
  | .light _ _ => [60, 62, 75, 85]
  | .logic _ _ => [95, 105, 115]
  | .hub _ _ => [105, 115]
  | .hbm _ => [85, 95]
  | .thermistor a _ => if a = 154 then [110] else if a = 152 then [] else [70]

/-- The orderly-stop threshold of a sensor (R359). -/
def stopThreshold (k : Nat) : Option Int :=
  match sensorPlace k with
  | .light _ _ => some 75
  | .logic _ _ => some 105
  | .hub _ _ => some 105
  | .hbm _ => some 95
  | .thermistor a _ => if a = 154 then some 110 else if a = 152 then none else some 70

/-- The hard-trip threshold of a sensor (R359). -/
def tripThreshold (k : Nat) : Option Int :=
  match sensorPlace k with
  | .light _ _ => some 85
  | .logic _ _ => some 115
  | .hub _ _ => some 115
  | .thermistor _ _ => none
  | .hbm _ => none

/-- Whether a sensor's value is above a threshold. -/
def aboveDeg (s : State) (k : Nat) (th : Option Int) : Bool :=
  match th with
  | some c => decide (deg c < (sensor s k).value)
  | none => false

/-- A reading of sensor k, in 1/16 °C: failure, suspicion, the value used, and NEAR (R357, R358). -/
def takeSample (k : Nat) (t : Int) (s : State) : State :=
  let s := modSensor k (fun x => { x with sampled := true, temp := t, failed := x.failed || openOrShort t }) s
  let s := if (sensor s k).failed then markSuspect k s else s
  let m := medianOf (goodReadings s (neighboursOf k))
  let s := match m with
    | some v => diodeSuspicion k t v s
    | none => s
  let v := valueUsed s k m
  modSensor k (fun x => { x with
    value := v
    near := !s.pwr.round && (thresholdsOf k).any (fun c => decide (deg (c - 5) ≤ v ∧ v ≤ deg c)) }) s

/-- An HBM stack's report of its temperature, in 1/16 °C: TEMP in whole °C, refresh doubled above 85 °C, and the value that its
threshold acts on (R169, R188, R359; log entry 87). -/
def takeReport (k : Nat) (t : Int) (s : State) : State :=
  modStack k (fun x => { x with temp := BitVec.ofInt 8 (max 0 (min 255 (t / 16))), refx2 := decide (deg 85 < t) })
    (modSensor (156 + k) (fun x => { x with sampled := true, temp := t, value := t }) s)

/-! ### The orderly stop (R233, R361, R378) -/

/-- The sessions that are Resident, or being parked, by key. -/
def residentKeys (s : State) : List Nat := (s.sessions.filter (fun e => decide (e.2.state = .resident))).map (·.1)

/-- A SHOW_LOAD or CAL_FULL in progress ends with NOT_READY, the load's partition with no Show (R361). -/
def stopCommand (w : Fn) (s : State) : State :=
  match (window s w).run with
  | none => s
  | some r =>
    if r.opcode = 0x0302 then
      let p := cmdPart w (cmdParams s w)
      match find s.shows p with
      | some sh => if sh.loading then abortLoad w p 0x16 0xFF sh s else failCmd w 0x16 s
      | none => failCmd w 0x16 s
    else if r.opcode = 0x0400 then failCmd w 0x16 s
    else s

/-- Partition p's Show stops with its sessions Parked; each session gets SESSION_EVENT with SHOW_STOPPED (R152, R207, R361). -/
def stopShow (p : Nat) (s : State) : State :=
  let s := forAll (sessionsOf s p) (fun e s =>
    if e.2.state = .resident then s else sessionEvent e.2.home (sidOf e.1) 0x15 e.2.step (decide (e.2.exts ≠ [])) s) s
  let s := forAll (List.range 8) (abandonStep p) (beginStop p true s)
  let s := forAll ((sessionsOf s p).filter (fun e => decide (e.2.state = .resident))) (fun e => forcePark p (sidOf e.1) 0x15) s
  settleStop p s

/-- An orderly stop begins: the service state becomes Stopping, unless a Fatal fault holds the module in Fault-held (R361,
R378; log entry 58). -/
def beginOrderly (c : StopCause) (s : State) : State :=
  let s := { s with pwr.stop := some c, pwr.stopRun := true, pwr.stopAt := mtime s, pwr.stopped := false }
  let s := if s.rst.fatalHeld then s else setService .stopping 200 s
  let s := forAll (Fn.pf :: allParts.map Fn.vf) stopCommand s
  settleAlert (forAll (List.range 12) stopShow s)

/-- What asks for an orderly stop: it begins, or waits for a Marionette (R333, R361); nothing starts in a module without core
rails, or again while one runs or has ended in Fault-held. -/
def askStop (c : StopCause) (s : State) : State :=
  if !s.pwr.railsOn ∨ s.pwr.stopRun ∨ s.pwr.stopped ∨ s.pwr.stop.isSome then s
  else if mrtServes s then beginOrderly c s
  else { s with pwr.stop := some c }

/-- Sensor k is above its orderly-stop threshold: it joins the causes of the stop (R361). -/
def stopBySensor (k : Nat) (s : State) : State :=
  askStop (.sensor k) (if s.pwr.stopHeld.contains k ∨ !s.pwr.railsOn then s else { s with pwr.stopHeld := s.pwr.stopHeld ++ [k] })

/-- The source of the record of an orderly stop: the sensor, the stack that reported, or the module (R361, R380; log entry
87). -/
def stopSource : StopCause → FaultSource
  | .sensor k => if k < 156 then ⟨8, BitVec.ofNat 16 k⟩ else ⟨3, BitVec.ofNat 16 (k - 156)⟩
  | _ => ⟨13, 0⟩

/-- The DETAIL of the record of an orderly stop: the sensor, 0xFFFF for a supply; a stack has no sensor number (R380; log entry
87). -/
def stopDetail (s : State) : StopCause → Nat
  | .sensor k => if k < 156 then k else (freeVal s).toNat
  | _ => 0xFFFF

/-- Sensor k reads 10 °C below its threshold: it no longer holds the record; when none does, a quiet period starts (R361,
R377). -/
def coolSensor (k : Nat) (s : State) : State :=
  match stopThreshold k with
  | none => s
  | some c =>
    if s.pwr.stopHeld.contains k ∧ !s.pwr.stopRun ∧ (sensor s k).value ≤ deg (c - 10) then
      let s := { s with pwr.stopHeld := s.pwr.stopHeld.filter (· ≠ k) }
      match s.pwr.stop with
      | some (.sensor j) =>
        if s.pwr.stopHeld = [] then { s with flt := startQuiet (stopSource (.sensor j)) (mtime s) s.flt } else s
      | _ => s
    else s

/-- Every command that waits for the stop in progress ends OK with the sessions Parked that it counted (R223, R361). -/
def endStopWindow (s : State) : State :=
  match (window s .pf).run with
  | none => s
  | some r =>
    if r.opcode = 0x0603 then
      let n := (r.xs.filter (fun k => (find s.sessions k).any (fun x => decide (x.state = .parked)))).length
      endCmd .pf 0 (leBytes 4 n) s
    else s

/-- Parks that have not ended are ended, and every Show is gone. -/
def finishStops (s : State) : State :=
  let s := forAll (residentKeys s) (fun k s =>
    match find s.sessions k with
    | some x =>
      let s := parkNow (k / 16777216) (sidOf k) x s
      (match x.op with
        | .forced st => sessionEvent x.home (sidOf k) st x.step (decide (x.exts ≠ [])) s
        | _ => s)
    | none => s) s
  forAll (List.range 12) removeShow s

/-- The service state that a module goes to when nothing holds it in Fault-held any more: Serving, or the state that the rest of
its state demands (R6, R25, R342, R361, R378; log entry 58). -/
def resumedService (s : State) : Service :=
  if s.rst.step.toNat < 7 then .booting
  else if s.mrt.restricted ∧ !s.mrt.allowed then .restricted
  else if !s.rst.calDone then .calibrating
  else if anyFenced s then .degraded
  else .serving

/-- The module returns to service after an orderly stop; its lasers start again (R361, R378; log entry 58). -/
def resumeService (s : State) : State :=
  startBanks (setService (resumedService s) 201 { s with pwr.stop := none, pwr.stopRun := false, pwr.stopped := false })

/-- ORDERLY_STOP_COMPLETE: 50 ms after its start the stop ends: out of the group, lanes and lasers dark, grants 0, Marbles
stopped, drives held; Serving after ORDERLY_STOP, else Fault-held with a Contained fault naming the sensor or the supply
(R361, R380). -/
def execOrderlyStopComplete (s : State) : Host.Outcome State Fault Refusal :=
  .next (
    match s.pwr.stop with
    | none => s
    | some c =>
      if !s.pwr.stopRun then s
      else
        let s := finishStops (advanceTo (s.pwr.stopAt.toNat + 50000000) s)
        let s := forAll (List.range 32) (fun z s => stopQuad z (modQuadPwr z (fun x => { (setMarbleGrant 0 x) with run := 0 }) s)) s
        let s := stopBanks (leaveGroup s)
        settleAlert (endStopWindow (match c with
          | .command _ => if s.rst.fatalHeld then { s with pwr.stop := none, pwr.stopRun := false } else resumeService s
          | c =>
            let src := stopSource c
            raiseFault 0x0904 src.kind.toNat src.index.toNat 0xFF (stopDetail s c)
              (useFree (setService .faultHeld 202 { s with pwr.stopRun := false, pwr.stopped := true })))))

/-! ### Measured input and domains (R349, R355) -/

/-- The 54 V input as measured, in 0.1 V: MAIN_OK, the time from which it lies from 56 to 58 V, and the quiet period that starts
when it is back in range (R377, R390, R391). -/
def inputNow (dv : Nat) (s : State) : State :=
  let ok := decide (500 ≤ dv ∧ dv ≤ 560)
  let t := { s with
    pwr.inputDv := dv, pwr.mainOk := ok
    pwr.overAt := if 560 < dv ∧ dv ≤ 580 then some (s.pwr.overAt.getD (mtime s)) else none }
  if ok ∧ !s.pwr.mainOk ∧ s.pwr.stop = some .supply then { t with flt := startQuiet ⟨13, 0⟩ (mtime s) t.flt } else t

/-- INPUT_POWER_SAMPLE: the board stage's measurement of the last 1 ms, W and 0.1 V: 10 ms above the envelope lower the pool,
1 s below it restores it (R355, R364, R366, R390). -/
def execInputPowerSample (watts : Nat) (dv : Nat) (s : State) : Host.Outcome State Fault Refusal :=
  let env := s.pwr.env.toNat
  let above := if env < watts then s.pwr.overMs + 1 else 0
  let under := if watts < env then s.pwr.underMs + 1 else 0
  let t := { s with
    pwr.pin := BitVec.ofNat 10 (min 1023 watts), pwr.volt := BitVec.ofNat 10 (min 1023 dv)
    pwr.overMs := above % 10, pwr.underMs := min 1000 under }
  let t := if s.pwr.holdup then t else inputNow dv t
  let t := if 1000 ≤ under then { t with pwr.poolCut := 0 } else t
  .next (settleAlert (
    if above = 10 then
      let excess := watts - env
      let cut := (100 * excess + s.pwr.conv.toNat - 1) / s.pwr.conv.toNat
      raiseFault 0x0902 13 0 0xFF excess { t with pwr.poolCut := t.pwr.poolCut + cut }
    else t))

/-- The number of a guest site. -/
def siteNo : Site → Nat
  | .g0 => 0
  | .g1 => 1

/-- The number of a core domain in a fault's DETAIL and in `domainsOff` (log entry 62). -/
def domainNo : Domain → Nat
  | .quad z => z.val
  | .uncore h => 32 + 4 * halfNo h
  | .lightAnalogue h => 33 + 4 * halfNo h
  | .lightDigital h => 34 + 4 * halfNo h
  | .hubCore h => 35 + 4 * halfNo h
  | .kaleidoscope c => 40 + c.val
  | .hbm k => 48 + k.val
  | .guest g => 54 + siteNo g

/-- The Zoetropes of half h go Off (R106). -/
def lightOff (h : Nat) (s : State) : State := forAll (halfZoes h) (fun z => modZoe z zoeOff) s

/-- The blocks that a removed domain supplies are fenced as failed blocks (R349; log entry 62). -/
def dropDomain (d : Domain) (s : State) : State :=
  match d with
  | .quad z => fenceZoe z.val (BitVec.ofNat 8 (1 + (Config.domainCause z.val).val)) (stopQuad z.val s)
  | .uncore h => fenceHalf (halfNo h) s
  | .lightAnalogue h => lightOff (halfNo h) (fenceHalf (halfNo h) s)
  | .lightDigital h => lightOff (halfNo h) (fenceHalf (halfNo h) s)
  | .hubCore h => fenceHalf (halfNo h) s
  | .kaleidoscope c =>
    forAll (kalMods c.val) (fun m => modUcie (c.val / 4) m (fun x => { x with state := 4 })) (forAll (chipLanes c.val) laneKill s)
  | .hbm k => resetHbm k.val s
  | .guest g =>
    modGuest (siteNo g) (fun x => { x with isHeld := true, link := 0 }) (endTrds (siteNo g) s)

/-- Whether the build has a core domain: without Kaleidoscopes, guest sites and stacks 4 and 5 it has not theirs (R1, R348). -/
def domainFitted (s : State) : Domain → Bool
  | .kaleidoscope _ => !s.ident.ml
  | .guest _ => !s.ident.ml
  | .hbm k => !s.ident.ml || decide (k.val < 4)
  | _ => true

/-- DOMAIN_OUT_OF_REGULATION: a core domain has left ±5 % for 10 µs: it is removed and its blocks are fenced (R1, R349). -/
def execDomainOutOfRegulation (d : Domain) (s : State) : Host.Outcome State Fault Refusal :=
  .next (
    if !domainFitted s d ∨ !s.pwr.railsOn ∨ s.pwr.domainsOff.contains (domainNo d) then s
    else
      let s := raiseFault 0x0901 13 0 0xFF (domainNo d) { s with pwr.domainsOff := s.pwr.domainsOff ++ [domainNo d] }
      dropDomain d s)

/-! ### The commands of the 0x06xx group (R233, R238, R350, R355, R357, R361) -/

/-- The hottest value of a list of sensors, in whole °C, rounded down. -/
def hottestDeg (s : State) (ks : List Nat) : Int :=
  match ks with
  | [] => 0
  | k :: ks => (ks.foldl (fun t j => max t (sensor s j).value) (sensor s k).value) / 16

/-- The light-die diodes of both halves (R356). -/
def allLight : List Nat := (List.range 32).flatMap lightDiodes

/-- The logic-die diodes of both halves (R356). -/
def allLogic : List Nat := (List.range 32).flatMap logicDiodes

/-- Whether any of those Quads runs throttled or did within the last second (R233). -/
def throttledLately (s : State) (qs : List Nat) : Bool :=
  qs.any (fun z => throttledQuad s z || (match (quadPwr s z).thrAt with
    | some t => decide ((mtime s).toNat ≤ t.toNat + 1000000000)
    | none => false))

/-- POWER_QUERY: granted W, ceiling, throttled µs of the last second and the hottest dies, of a partition or of the module; the
throttled time is 0 where no Quad ran throttled, else free (R233; log entry 63). -/
def execPowerQuery (w : Fn) (pk : Packet) (s : State) : Host.Outcome State Fault Refusal :=
  .next (command w pk 0x0600 (plenIs 4) false true
    (fun ps => (decide (w = .pf ∧ pByte ps 0 = 0xFE) || partOk s w ps) && zeroBytes ps 1 4) (fun ps s =>
    let p := cmdPart w ps
    let all := decide (w = .pf ∧ pByte ps 0 = 0xFE)
    if !all ∧ !(part s p).exist then failCmd w 0x11 s
    else
      endCmd w 0 (leBytes 2 (if all then committed s else partWatts s p)
        ++ leBytes 2 (if all then s.pwr.env.toNat else (part s p).ceil)
        ++ leBytes 4 (if throttledLately s (if all then List.range 32 else quadsOf s p) then (freeVal s).toNat % 1000001 else 0)
        ++ leBytes 2 (hottestDeg s allLight % 65536).toNat ++ leBytes 2 (hottestDeg s allLogic % 65536).toNat) (useFree s)) s)

/-- POWER_CEILING: a partition's ceiling, on every member, or with PART 0xFE this module's envelope; acted on at the next grant
round (R233, R238, R350, R355; log entry 63). -/
def execPowerCeiling (w : Fn) (pk : Packet) (s : State) : Host.Outcome State Fault Refusal :=
  .next (command w pk 0x0601 (plenIs 4) true false (fun ps =>
      pByte ps 1 = 0 && (if pByte ps 0 = 0xFE then decide (600 ≤ fieldAt ps 2 2 ∧ fieldAt ps 2 2 ≤ 1000)
        else partOk s w ps && decide (1 ≤ fieldAt ps 2 2 ∧ fieldAt ps 2 2 ≤ 1000))) (fun ps s =>
    let p := pByte ps 0
    let v := fieldAt ps 2 2
    if p = 0xFE then endCmd w 0 [] { s with pwr.env := BitVec.ofNat 10 v }
    else if !(part s p).exist then failCmd w 0x11 s
    else endCmd w 0 [] (relayAll 0x0601 ps (modPart p (fun x => { x with ceil := v }) s))) s)

/-- THERMAL_MODE: Watchful or Round sensing (R233, R357). -/
def execThermalMode (w : Fn) (pk : Packet) (s : State) : Host.Outcome State Fault Refusal :=
  .next (command w pk 0x0602 (plenIs 4) true false (fun ps => decide (pByte ps 0 < 2) && zeroBytes ps 1 4) (fun ps s =>
    endCmd w 0 [] { s with pwr.round := decide (pByte ps 0 = 1), pwr.modeSet := true }) s)

/-- The sessions that an ORDERLY_STOP counts are noted with the command, and the stop begins, as the one that already waits for a
Marionette where there is one (R361). -/
def commandStop (w : Fn) (s : State) : State :=
  let keys := residentKeys s
  let s := modWindow w (fun x => { x with run := x.run.map (fun r => { r with arg := 1, xs := keys }) }) s
  if s.pwr.stopRun then s else beginOrderly (if s.pwr.stopped then .command w else s.pwr.stop.getD (.command w)) s

/-- ORDERLY_STOP: an orderly stop, once no partition command touches a Zoetrope; written while Stopping it ends with the stop in
progress (R223, R226, R233, R361). -/
def execOrderlyStop (w : Fn) (pk : Packet) (s : State) : Host.Outcome State Fault Refusal :=
  .next (command w pk 0x0603 (plenIs 4) true false (fun ps => decide (fieldAt ps 0 4 = 0x5EC0DE03)) (fun _ s =>
    if !s.pwr.stopRun ∧ touched s (List.range 32) then s else commandStop w s) s)

end Sys2Proof.Machine
end

