-- ==== Sys2Proof/Machine/CmdFault.lean ====
section
/-! DEFINITION. The commands of the 0x07xx group and the quiet period: fault records, the ownership logs (R186, R234, R361,
R375 to R378). -/

namespace Sys2Proof.Machine

open Sys2Proof

/-! ### Fault records (R234, R375) -/

/-- Byte 18 of a fault record: the classes and the CLEARED, RECOVERED and INJECTED bits (R375). -/
def recClass (r : FaultRec) : Nat :=
  r.cls.toNat + 4 * r.high.toNat + (if r.cleared then 16 else 0) + (if r.recovered then 32 else 0)
    + (if r.injected then 64 else 0)

/-- The 32 bytes of a fault record (R375). -/
def recBytes (r : FaultRec) : List Byte :=
  leBytes 8 r.mtime.toNat ++ leBytes 8 r.gtime.toNat ++ leBytes 2 r.code.toNat ++ leBytes 1 (recClass r)
    ++ leBytes 1 r.part.toNat ++ leBytes 1 r.src.kind.toNat ++ leBytes 1 0 ++ leBytes 2 r.src.index.toNat
    ++ leBytes 2 r.merge.toNat ++ leBytes 2 r.lastUs.toNat ++ leBytes 4 r.detail.toNat

/-- The record at a log index as the Toybox holds it: zeros where none has been written (R373). -/
def recAt (s : State) (i : Nat) : List Byte :=
  match find s.flt.log i with
  | some r => recBytes r
  | none => List.replicate 32 0

/-- The records a FAULT_READ returns: those at consecutive indices of the ring from `first`; in a partition window only those
that name the partition, others skipped and not counted (R234; log entry 64). -/
def recList (s : State) (w : Fn) (first n : Nat) : List Byte :=
  match w with
  | .pf => (List.range n).flatMap (fun i => recAt s ((first + i) % 512))
  | .vf p =>
    let mine := ((List.range 512).map (fun i => (first + i) % 512)).filter (fun i =>
      match find s.flt.log i with
      | some r => decide (r.part.toNat = p.val)
      | none => false)
    (mine.take n).flatMap (recAt s)

/-- The parameters of a log read are in range: a first index below `size`, 1 to 60 records. -/
def logParams (size : Nat) (ps : List Byte) : Bool :=
  decide (fieldAt ps 2 2 < size ∧ 1 ≤ pByte ps 4 ∧ pByte ps 4 ≤ 60) && zeroBytes ps 1 2 && zeroBytes ps 5 8

/-- FAULT_READ: fault records of a member; how many of its records a partner returns is free (R234; log entries 48 and 64). -/
def execFaultRead (w : Fn) (pk : Packet) (s : State) : Host.Outcome State Fault Refusal :=
  .next (command w pk 0x0700 (plenIs 8) false false (fun ps => moduleOk s ps && logParams 512 ps) (fun ps s =>
    if !isSelf s (pByte ps 0) then relayQuery w 0x0700 (8 + 32 * ((freeVal s).toNat % (pByte ps 4 + 1))) ps (useFree s)
    else endCmd w 0 (leBytes 4 s.flt.ovf.toNat ++ leBytes 4 s.flt.newest.toNat
      ++ recList s w (fieldAt ps 2 2) (pByte ps 4)) s) s)

/-! ### Clearing (R361, R377, R378, R390) -/

/-- Whether a record is held: the disagreement's while LATCH is 1, an orderly stop's while a sensor that caused it has not
cooled, the supply's while the input lies outside 50 to 56 V (R377). -/
def recHeld (s : State) (r : FaultRec) : Bool :=
  (decide (r.code = 0x0605) && s.las.latch)
  || (decide (r.code = 0x0904 ∧ r.src.kind ≠ 13 ∧ s.pwr.stopHeld ≠ []) && (match s.pwr.stop with
      | some c => decide (stopSource c = r.src)
      | none => false))
  || decide (r.code = 0x0904 ∧ r.src.kind = 13 ∧ (s.pwr.inputDv < 500 ∨ 560 < s.pwr.inputDv))

/-- The records changed by `f`, those overwritten in the log included; what an overwritten record keeps is dropped once it is
cleared (R382). -/
def mapRecs (f : FaultRec → FaultRec) (x : FltSys) : FltSys :=
  { x with log := x.log.map (fun e => (e.1, f e.2)), lost := (x.lost.map f).filter (fun r => !r.cleared) }

/-- The module returns to Serving when the record of the orderly stop that put it into Fault-held has cleared (R361, R378). -/
def afterClear (s : State) : State :=
  match s.pwr.stop with
  | some c =>
    if s.pwr.stopped ∧ s.rst.service = .faultHeld ∧ !s.rst.fatalHeld
        ∧ !(uncleared s.flt).any (fun r => decide (r.code = 0x0904 ∧ r.src = stopSource c)) then resumeService s
    else s
  | none => s

/-- FAULT_CLEAR: a Contained record that nothing holds is CLEARED; a Fatal one is not, and a Corrected record or an empty index
is left (R234, R378). -/
def execFaultClear (w : Fn) (pk : Packet) (s : State) : Host.Outcome State Fault Refusal :=
  .next (command w pk 0x0701 (plenIs 8) true false
    (fun ps => moduleOk s ps && decide (fieldAt ps 2 2 < 512) && zeroBytes ps 1 2 && zeroBytes ps 4 8) (fun ps s =>
    let i := fieldAt ps 2 2
    if !isSelf s (pByte ps 0) then relayTo w (pByte ps 0) 0x0701 0 [0x13] ps s
    else match find s.flt.log i with
      | none => endCmd w 0 [] s
      | some r =>
        if r.high = 2 ∨ (r.high = 1 ∧ !r.cleared ∧ recHeld s r) then failCmd w 0x13 s
        else if r.high = 0 then endCmd w 0 [] s
        else endCmd w 0 [] (afterClear { s with flt.log := ins s.flt.log i { r with cleared := true } })) s)

/-- Whether a quiet period's end clears a record: uncleared, Contained, of the source, and not held (R377). -/
def recovers (s : State) (src : FaultSource) (r : FaultRec) : Bool :=
  decide (r.src = src ∧ r.high = 1) && !r.cleared && !recHeld s r

/-- QUIET_PERIOD_END: a source has raised no fault for the quiet period: its Contained records are CLEARED and RECOVERED, save
those held; suspended while no Marionette serves (R333, R377). -/
def execQuietPeriodEnd (src : FaultSource) (s : State) : Host.Outcome State Fault Refusal :=
  .next (
    match s.flt.quiets.find? (fun q => decide (q.src = src)) with
    | none => s
    | some q =>
      if !mrtServes s then s
      else
        let s := advanceTo (q.start.toNat + 1000000 * s.flt.quiet.toNat) s
        let n := ((uncleared s.flt).filter (recovers s src)).length
        let x := mapRecs (fun r => if recovers s src r then { r with cleared := true, recovered := true } else r) s.flt
        afterClear { s with flt := { x with
          recov := satAdd x.recov n, quiets := x.quiets.filter (fun q => decide (q.src ≠ src)) } })

/-- QUIET_SET: the quiet period, of every period that runs (R234, R377). -/
def execQuietSet (w : Fn) (pk : Packet) (s : State) : Host.Outcome State Fault Refusal :=
  .next (command w pk 0x0703 (plenIs 4) true false (fun ps => decide (100 ≤ fieldAt ps 0 4 ∧ fieldAt ps 0 4 ≤ 60000))
    (fun ps s => endCmd w 0 [] { s with flt.quiet := BitVec.ofNat 16 (fieldAt ps 0 4) }) s)

/-! ### The ownership logs (R186, R234) -/

/-- A tag as a window may see it: in a partition window the tag of another partition or of the Marionette reads 0 (R234). -/
def seenTag (w : Fn) (t : BitVec 20) : Nat :=
  match w with
  | .pf => t.toNat
  | .vf p => if t ≠ mrtTag ∧ tagPart t = p.val then t.toNat else 0

/-- Whether an entry names the window's partition: its ACC_TAG or BANK_TAG does, and is not the Marionette's (R234). -/
def entryNames (w : Fn) (e : OwnEntry) : Bool :=
  match w with
  | .pf => true
  | .vf p => [e.accTag, e.bankTag].any (fun t => decide (t ≠ mrtTag ∧ tagPart t = p.val))

/-- The 32 bytes of an ownership-log entry (R186). -/
def entryBytes (w : Fn) (e : OwnEntry) : List Byte :=
  leBytes 8 e.mtime.toNat ++ leBytes 8 e.gtime.toNat ++ leBytes 4 e.bank.toNat ++ leBytes 1 e.master.toNat
    ++ leBytes 1 e.reason.toNat ++ leBytes 2 0 ++ leBytes 4 (seenTag w e.accTag) ++ leBytes 4 (seenTag w e.bankTag)

/-- The entry at index i of an ownership log's ring, where it is written. -/
def entryAt (l : OwnLog) (i : Nat) : Option OwnEntry :=
  let back := (l.next + 256 - i - 1) % 256
  if back < l.entries.length then l.entries[l.entries.length - 1 - back]? else none

/-- The entries an OWNLOG_READ returns, as FAULT_READ returns records (R234; log entry 64). -/
def entryList (l : OwnLog) (w : Fn) (first n : Nat) : List Byte :=
  match w with
  | .pf => (List.range n).flatMap (fun i => ((entryAt l ((first + i) % 256)).map (entryBytes w)).getD (List.replicate 32 0))
  | .vf _ => ((((List.range 256).filterMap (fun i => entryAt l ((first + i) % 256))).filter (entryNames w)).take n).flatMap
      (entryBytes w)

/-- OWNLOG_READ: entries of a half's ownership log (R186, R234; log entry 64). -/
def execOwnlogRead (w : Fn) (pk : Packet) (s : State) : Host.Outcome State Fault Refusal :=
  .next (command w pk 0x0702 (plenIs 8) false false (fun ps => decide (pByte ps 0 < 2) && logParams 256 ps) (fun ps s =>
    let l := if pByte ps 0 = 0 then s.mrb.logEast else s.mrb.logWest
    endCmd w 0 (leBytes 4 l.overflow.toNat ++ leBytes 4 ((l.next + 255) % 256 % (if l.entries = [] then 1 else 256))
      ++ entryList l w (fieldAt ps 2 2) (pByte ps 4)) s) s)

end Sys2Proof.Machine
end

