-- ==== Sys2Proof/Machine/CmdSec.lean ====
section
/-! DEFINITION. The commands of the 0x08xx and 0x0Fxx groups: allowance, keys, measurements, firmware (R235, R236, R245, R249,
R250, R343, R344, R363). -/

namespace Sys2Proof.Machine

open Sys2Proof

/-! ### Measurements and allowances (R235, R245, R343) -/

/-- The digest at a measurement index (R245). -/
def measurement (s : State) (i : Nat) : List Byte := digestOf (find s.sec.meas i)

/-- The digests of the running Marionette, trim and Kaleidoscope images (R235, R343). -/
def imageDigests (s : State) : List Byte := [4, 5, 6].flatMap (measurement s)

/-- The Show digest of MEASUREMENTS: the window's partition's; in the PF window that of the one loaded Show, and free where
several are loaded (R235, R245; log entry 65). -/
def showDigest (s : State) (w : Fn) : List Byte :=
  match w with
  | .vf p => measurement s (16 + p.val)
  | .pf =>
    match (List.range 12).filter (fun p => has s.sec.meas (16 + p)) with
    | [] => digestOf none
    | [p] => measurement s (16 + p)
    | _ => freeBytes s 48

/-- MEASUREMENTS: the digests of a member's firmware images and of its loaded Show (R235, R245; log entry 65). -/
def execMeasurements (w : Fn) (pk : Packet) (s : State) : Host.Outcome State Fault Refusal :=
  .next (command w pk 0x0802 (plenIs 4) false false (queryParams s) (fun ps s =>
    if !isSelf s (pByte ps 0) then relayQuery w 0x0802 192 ps s
    else endCmd w 0 (imageDigests s ++ showDigest s w) (useFrees 48 s)) s)

/-- An allowance's length, magic and reserved word, which the format fixes (R343; log entry 66). -/
def allowanceForm (a : List Byte) : Bool :=
  decide (a.length = 256 ∧ fieldAt a 0 4 = 0x5A484131 ∧ fieldAt a 4 4 = 0)

/-- Whether an allowance's signature verifies over its bytes 0 to 159 (R343). -/
def allowanceSigned (a : List Byte) : Bool := Config.ecdsaVerifies Config.zaornKey (sha384 (a.take 160)) (slice a 160 96)

/-- The module leaves Restricted: for Calibrating, or for Serving once start calibration has completed, Degraded where a half is
fenced (R25, R343; log entry 66). -/
def leaveRestricted (s : State) : State :=
  if s.rst.service ≠ .restricted then s
  else if !s.rst.calDone then setService .calibrating 301 s
  else setService (if anyFenced s then .degraded else .serving) 301 s

/-- ALLOWANCE: a signed allowance for the running combination is accepted and lifts Restricted (R235, R343; log entry 66). -/
def execAllowance (w : Fn) (pk : Packet) (s : State) : Host.Outcome State Fault Refusal :=
  .next (command w pk 0x0800 (fun k => decide (8 ≤ k ∧ k ≤ 1032)) true false (fun ps => zeroBytes ps 0 8) (fun ps s =>
    let a := ps.drop 8
    if !allowanceForm a ∨ !allowanceSigned a ∨ fieldAt a 8 8 ≠ s.ident.serial.toNat then failCmd w 0x40 s
    else if slice a 16 144 ≠ imageDigests s then failCmd w 0x11 s
    else
      let s := leaveRestricted { s with mrt.allowance := a, mrt.allowed := true }
      endCmd w 0 (leBytes 1 s.rst.service.code) s) s)

/-! ### Keys (R249, R250) -/

/-- A key blob's length, magic and reserved bytes (R249). -/
def blobForm (b : List Byte) : Bool :=
  decide (b.length = 228 ∧ fieldAt b 0 4 = 0x5A484B31) && zeroBytes b 17 20 && zeroBytes b 117 120

/-- Whether a key blob unwraps, SERIAL and PART apart: it was wrapped to the key import key of this reset, and its tag verifies
(R249; log entry 65). -/
def blobOpens (s : State) (b : List Byte) : Bool := decide (Config.blobDraw b = s.sec.importKey) && Config.blobTag b

/-- The 80 bytes that a key blob unwraps to: the image key, then the Show-signer hash (R249). -/
def blobKeys (b : List Byte) : List Byte := (List.range 80).map (Config.blobPlain b)

/-- Whether a partition is in use for KEY_INSTALL: a Show loaded, a session not Closed, or an image staged (R250). -/
def keyInUse (s : State) (p : Nat) : Bool :=
  (find s.shows p).isSome || sessionsOf s p != [] || s.staged.any (fun e => decide (e.1 / 256 = p))

/-- A new memory key of partition p is drawn: what its pseudo-channels held reads as unpredictable data, and its cached lines are dropped
(R171, R180, R247, R250). -/
def newMemoryKey (p : Nat) (s : State) : State :=
  let s := cacheDropBoth (fun l => decide (l.part.toNat = p)) s
  let s := modPart p (fun x => { x with memKey := s.sec.draws }) { s with sec.draws := s.sec.draws + 1 }
  forAll (ownedPchs s p) (fun c s =>
    let s := useFree { s with hbm.mem := dropRange s.hbm.mem (hbmKey c 0) (hbmKey (c + 1) 0) }
    modPch c (fun x => { x with fill := .stale s.free }) s) s

/-- KEY_INSTALL: a key blob is unwrapped; image key, signer hash and a new memory key are installed (R235, R249, R250). -/
def execKeyInstall (w : Fn) (pk : Packet) (s : State) : Host.Outcome State Fault Refusal :=
  .next (command w pk 0x0801 (fun k => decide (8 ≤ k ∧ k ≤ 520)) true false
    (fun ps => partOk s w ps && zeroBytes ps 1 8) (fun ps s =>
    let p := pByte ps 0
    let b := ps.drop 8
    let gen := fieldAt b 4 4
    if !(part s p).exist ∨ !blobForm b then failCmd w 0x11 s
    else if keyInUse s p then failCmd w 0x28 s
    else if !blobOpens s b ∨ fieldAt b 8 8 ≠ s.ident.serial.toNat ∨ fieldAt b 16 1 ≠ p then failCmd w 0x40 s
    else if gen ≤ (part s p).keygen.toNat then failCmd w 0x11 s
    else
      let s := modPart p (fun x => { x with keygen := BitVec.ofNat 32 gen, hasKey := true, imageKey := (blobKeys b).take 32, signer := (blobKeys b).drop 32 }) s
      endCmd w 0 (leBytes 4 gen) (newMemoryKey p s)) s)

/-! ### Staging firmware (R235, R340) -/

/-- The next read of a firmware image from the host; it waits where no tag is free, and fails where the PF may not issue
requests (R215, R235). -/
def stageRead (ps : List Byte) (done : Nat) (s : State) : State :=
  let addr := fieldAt ps 8 8 + done
  if !fnDma s .pf then modWindow .pf (fun w => { w with run := w.run.map (fun r => { r with xs := [1] }) }) s
  else (hostReadReq 4096 .image addr (readLen s 4096 addr (fieldAt ps 16 8 - done)) s).getD s

/-- Whether a read of a firmware image is outstanding. -/
def imageReading (s : State) : Bool := s.host.tags.any (fun e => decide (e.2.kind = .image) && !e.2.quarantined)

/-- A firmware image that has arrived whole is verified and staged (R235, R245). -/
def stageDone (w : Fn) (kind : Nat) (bs : List Byte) (s : State) : State :=
  if !Config.imageVerifies kind (imageId bs) then failCmd w 0x40 s
  else
    let v := Config.imageVersion bs
    endCmd w 0 (leBytes 8 (v.toNat % 2 ^ 48) ++ leBytes 2 (v.toNat / 2 ^ 48))
      { s with mrt.staged := ins s.mrt.staged kind v, mrt.stagedId := ins s.mrt.stagedId kind (imageId bs) }

/-- FW_STAGE goes on: with HOST_ERROR after a failed read, with the check of the image when it is whole, else with its next
read (R235). -/
def settleStage (s : State) : State :=
  match (window s .pf).run with
  | none => s
  | some r =>
    let ps := cmdParams s .pf
    if r.opcode ≠ 0x0803 ∨ !mrtServes s then s
    else if r.xs = [1] then failCmd .pf 0x1C s
    else if r.acc.length = fieldAt ps 16 8 then stageDone .pf (pByte ps 0) r.acc s
    else if imageReading s then s
    else stageRead ps r.acc.length s

/-- FW_STAGE: a firmware image is read from host memory and verified (R235). -/
def execFwStage (w : Fn) (pk : Packet) (s : State) : Host.Outcome State Fault Refusal :=
  .next (command w pk 0x0803 (plenIs 24) true false
    (fun ps => decide (pByte ps 0 < 3 ∧ fieldAt ps 16 8 ≤ 8388608) && zeroBytes ps 1 8) (fun _ s => settleStage s) s)

/-! ### Committing firmware (R339 to R344, R363) -/

/-- The bank that a kind's running image was not booted from (R340, R344). -/
def spareBank (s : State) (kind : Nat) : Bool :=
  decide ((if kind = 0 then s.mrt.mrtSrc else if kind = 1 then s.mrt.trimSrc else s.mrt.kalSrc) ≠ 1)

/-- The staged image of a kind is written to the working area of the bank not booted, with its manifest, and the boot pointer set
(R339, R341, R344). -/
def writeFirmware (kind : Nat) (s : State) : State :=
  let b := spareBank s kind
  let k := 2 * kind + (if b then 1 else 0)
  let id := look s.mrt.stagedId kind 0
  { s with
    mrt.flash := ins s.mrt.flash k (look s.mrt.staged kind 0)
    mrt.flashId := ins s.mrt.flashId k id
    mrt.manIds := if kind = 0 then ins s.mrt.manIds (if b then 1 else 0) id else s.mrt.manIds
    mrt.bootBank := put s.mrt.bootBank kind b false
    mrt.commit := none }

/-- Whether a staged Marionette image gives a tested combination with the running trim and Kaleidoscope images, under the manifest
that it carries or the one in force (R341, R344). -/
def commitTested (s : State) : Bool :=
  let v := (look s.mrt.staged 0 0).setWidth 48
  [look s.mrt.stagedId 0 0, manifest s].any (fun m => (testedWith m v (runVer s 1) (runVer s 2)).isSome)

/-- The Marionette that is Standby. -/
def standbyMrt (s : State) : Option Mrt := [Mrt.m0, Mrt.m1].find? (fun m => decide ((mrtOf s m).role = .standby))

/-- FW_COMMIT on this module: the write, or its deferral; for the Marionette image the Standby is then reset and boots the new
image, and the command ends when it has (R344, R363; log entry 67). -/
def commitHere (w : Fn) (kind : Nat) (s : State) : State :=
  let bank := leBytes 1 (if spareBank s kind then 1 else 0)
  if !has s.mrt.staged kind then failCmd w 0x29 s
  else if kind = 0 ∧ !commitTested s then failCmd w 0x21 s
  else if !flashOk s then failCmd w 0x1A (deferFlash 1 { s with mrt.commit := some kind })
  else
    let s := writeFirmware kind s
    match standbyMrt s with
    | none => endCmd w 0 bank s
    | some m =>
      if kind ≠ 0 then endCmd w 0 bank s
      else
        let s := modMrt m (fun x => { x with role := .resyncing }) (holdMrt m s)
        modWindow w (fun x => { x with run := x.run.map (fun r => { r with arg := 1, acc := bank }) })
          (freeMrt m { s with mrt.commit := some 0 })

/-- FW_COMMIT: a staged image is committed on a member, or on all (R235, R344; log entry 67). -/
def execFwCommit (w : Fn) (pk : Packet) (s : State) : Host.Outcome State Fault Refusal :=
  .next (command w pk 0x0804 (plenIs 4) true false
    (fun ps => decide (pByte ps 0 < 3) && (decide (pByte ps 1 = 0xFF) || moduleOk s (ps.drop 1)) && zeroBytes ps 2 4) (fun ps s =>
    let m := pByte ps 1
    if m ≠ 0xFF ∧ !isSelf s m then relayTo w m 0x0804 1 [0x1A, 0x29, 0x21] ps s
    else commitHere w (pByte ps 0) (if m = 0xFF then relayAll 0x0804 ps s else s)) s)

/-- The Standby that FW_COMMIT reset has booted, or has failed to: on the new image, Out with cause 2, it is authorised to take
the lease; the command ends, and the hand-over follows 1 ms later (R344). -/
def endCommit (m : Mrt) (s : State) : State :=
  if s.mrt.commit ≠ some 0 ∨ s.mrt.deferred.contains 1 then s
  else
    let x := mrtOf s m
    let new := look s.mrt.stagedId 0 0
    let ok := decide (x.role = .out ∧ x.cause = 2 ∧ x.image = new)
    let s := if ok then { s with mrt.auth := some m, mrt.authImage := new, mrt.handAt := some (mtime s + 1000000) }
      else { s with mrt.commit := none }
    match (window s .pf).run with
    | some r => if r.opcode = 0x0804 then endCmd .pf 0 r.acc s else s
    | none => s

/-- HAND_OVER_STOP: 1 ms after FW_COMMIT ended the Active writes the hand-over record and stops renewing (R344). -/
def execHandOverStop (s : State) : Host.Outcome State Fault Refusal :=
  .next (
    match s.mrt.auth, s.mrt.handAt with
    | some _, some t =>
      if !mrtServes s then s
      else
        let s := advanceTo t.toNat s
        { s with mrt.stopped := true, mrt.handAt := none, rst.handover := true }
    | _, _ => s)

/-- FLASH_WRITE_RESUME: the board temperature has stayed from 2 to 83 °C for 10 s: deferred writes take place (R103, R344,
R363, R364). -/
def execFlashWriteResume (s : State) : Host.Outcome State Fault Refusal :=
  let t := max (sensor s 154).value (sensor s 155).value
  .next (
    if s.mrt.deferred = [] ∨ t < deg 2 ∨ deg 83 < t then s
    else
      let s := if s.mrt.deferred.contains 0 then commitCal s else s
      let s := if s.mrt.deferred.contains 1 then
          (match s.mrt.commit with
            | some k => writeFirmware k s
            | none => s)
        else s
      settleAlert { s with mrt.deferred := [] })

/-! ### Factory opcodes (R222, R236) -/

/-- FACTORY_OPCODE: an opcode that no other command carries. One of 0x0F00 to 0x0FFF ends with FACTORY_ONLY in the field, and the
first of a second raises a Corrected fault; what it does in factory mode is not laid out. Any other opcode that the spec does not
list ends with BAD_OPCODE (R222, R236, R403). -/
def execFactoryOpcode (w : Fn) (op : BitVec 16) (pk : Packet) (s : State) : Host.Outcome State Fault Refusal :=
  let code := op.toNat
  if code / 256 = 15 ∧ s.sec.factory then .refused .factoryMode
  else .next (
    if !fnOn s w ∨ listedOpcodes.contains code then s
    else if winBusy s w then ignorePacket w op pk s
    else
      let s := startCmd w op pk s
      if !mrtServes s then s
      else if 2048 < (window s w).plen.toNat then failCmd w 0x12 s
      else if code / 256 ≠ 15 then failCmd w 0x10 s
      else
        let p := match w with
          | .pf => 0xFF
          | .vf p => p.val
        raiseFirst 13 1000000000 0x0104 14 (winKey w) p code (failCmd w 0x14 s))

end Sys2Proof.Machine
end

