-- ==== Sys2Proof/Machine/Pcie.lean ====
section
/-! DEFINITION. Completions of the module's reads of host memory (R212, R214, R235). -/

namespace Sys2Proof.Machine

open Sys2Proof

/-- A completion that no read waits for: reported as advisory non-fatal, and counted in QP_LATE of the queue that made the
request, unless a function-level reset came between (R214). -/
def lateCpl (q tag : Nat) (aer : Bool) (s : State) : State :=
  let s := if aer ∨ 8192 ≤ q then emit (.aerUnexpected (queueFn s (q % 8192)) tag) s else s
  if q < 4096 then modQueue q (fun x => { x with late := x.late + 1 }) s else s

/-- The data of a read goes where it was read for (R199, R203, R204, R235). -/
def readDone (u : TagUse) (bytes : List Byte) (s : State) : State :=
  match u.kind with
  | .fetch first n => fetchDone u.q first n bytes s
  | .tokens id => tokensArrive u.q id bytes s
  | .memSrc id => memArrive u.q id bytes s
  | .image =>
    settleStage (modWindow .pf (fun w => { w with run := w.run.map (fun r =>
      { r with acc := r.acc ++ bytes.take (fieldAt r.params 16 8 - r.acc.length) }) }) s)

/-- HOST_READ_COMPLETION: a completion for a module read is used; one with UR, CA or poisoned data fails the read; one for a
quarantined tag is discarded and releases it; one for a tag not in use is unexpected; a read that waited for a tag takes one that
is free again (R194, R212, R214; log entries 27 and 68). -/
def execHostReadCompletion (tag : HostTag) (st : CplStatus) (bytes : List Byte) (s : State) : Host.Outcome State Fault Refusal :=
  let t := tag.val
  .next (
    match find s.host.tags t with
    | none =>
      match find s.host.freed t with
      | some q => lateCpl q t true s
      | none => emit (.aerUnexpected .pf t) s
    | some u =>
      if u.quarantined then retryRead (releaseTag t (lateCpl u.q t false s))
      else
        let s := releaseTag t s
        retryRead (match st with
        | .ok => readDone u bytes s
        | st => settleStage (readFailed u 2 0x10 (emit (.aerAbort (queueFn s u.q) t st) s))))

/-- TAG_QUARANTINE_END: twice the timeout has passed since the request, and the tag is free again (R194, R214; log entry 27). -/
def execTagQuarantineEnd (tag : HostTag) (s : State) : Host.Outcome State Fault Refusal :=
  .next (
    match find s.host.tags tag.val with
    | none => s
    | some u =>
      if u.quarantined then
        retryRead (releaseTag tag.val (advanceTo (u.issued + 2 * timeoutNs (fnCfg s (queueFn s (u.q % 8192)))) s))
      else s)

end Sys2Proof.Machine
end

