-- ==== Sys2Proof/Machine/Spdm.lean ====
section
/-! DEFINITION. The SPDM responder on the PF's DOE mailbox (R245, R247, R254; log entry 69: request codes, the order of requests
and the contents of messages are SPDM 1.2's). -/

namespace Sys2Proof.Machine

open Sys2Proof

/-- The responder's state changed. -/
def modSpdm (f : Spdm → Spdm) (s : State) : State := { s with sec.spdm := f s.sec.spdm }

/-- A request answered, or refused with an error. -/
def answer (req : Byte) (ok : Bool) (body : List Byte) (s : State) : State := emit (.spdm req ok (if ok then body else [])) s

/-- Whether version, capabilities and algorithms have been agreed. -/
def negotiated (s : State) : Bool := s.sec.spdm.version && s.sec.spdm.caps && s.sec.spdm.algs

/-- GET_VERSION: version 1.2; what was agreed before, and every session, is dropped (R254). -/
def execGetVersion (s : State) : Host.Outcome State Fault Refusal :=
  .next (answer 0x84 true [0x12] (modSpdm (fun _ => { version := true }) s))

/-- GET_CAPABILITIES: the capabilities of R254, as SPDM 1.2 encodes them: CERT, CHAL, MEAS with signature, ENCRYPT, MAC, KEY_EX,
HBEAT, KEY_UPD. -/
def execGetCapabilities (s : State) : Host.Outcome State Fault Refusal :=
  let ok := s.sec.spdm.version
  .next (answer 0xE1 ok (leBytes 4 0x62D6) (modSpdm (fun x => { x with caps := x.caps || ok }) s))

/-- NEGOTIATE_ALGORITHMS: agreed where the requester offers ECDSA P-384, SHA-384, secp384r1 and AES-256-GCM (R254). -/
def execNegotiateAlgorithms (offered : SpdmAlgs) (s : State) : Host.Outcome State Fault Refusal :=
  let ok := s.sec.spdm.version && s.sec.spdm.caps && offered.ecdsaP384 && offered.sha384 && offered.secp384r1 && offered.aes256Gcm
  .next (answer 0xE3 ok [] (modSpdm (fun x => { x with algs := x.algs || ok }) s))

/-- The device identity key, derived from the root key (R247). -/
def identityKey : List Byte := Config.derivedKey 0 Config.rootKey []

/-- The alias key: derived from the root key and the digests of stages 1 and 4 (R247). -/
def aliasKey (s : State) : List Byte := Config.derivedKey 1 Config.rootKey (measurement s 1 ++ measurement s 4)

/-- The key import key, drawn at each power-on and module reset (R247). -/
def importKey (s : State) : List Byte := Config.drawnKey s.sec.importKey

/-- The memory key of partition p, under which its HBM is encrypted (R171, R247). -/
def memoryKey (s : State) (p : Nat) : List Byte := Config.drawnKey (part s p).memKey

/-- The certificate chain of an SPDM slot: 0 device identity, 1 alias, 2 key import, of which only public parts leave the island
(R247, R254). -/
def slotChain (s : State) (slot : Nat) : List Byte :=
  Config.certChain slot (Config.publicPart (if slot = 0 then identityKey else if slot = 1 then aliasKey s else importKey s))

/-- GET_DIGESTS: the digests of the chains in slots 0 to 2 (R254). -/
def execGetDigests (s : State) : Host.Outcome State Fault Refusal :=
  .next (answer 0x81 (negotiated s) (0x07 :: [0, 1, 2].flatMap (fun k => sha384 (slotChain s k))) s)

/-- GET_CERTIFICATE: the chain of slot 0, 1 or 2 (R247, R254). -/
def execGetCertificate (slot : Byte) (s : State) : Host.Outcome State Fault Refusal :=
  .next (answer 0x82 (negotiated s && decide (slot.toNat < 3)) (slot :: slotChain s slot.toNat) s)

/-- The evidence at a measurement index: its digest, and with the Show of partition p the partition's Show-signer hash (R245, R247,
R254; log entry 69). -/
def evidence (s : State) (i : Nat) : List Byte := measurement s i ++ (if 16 ≤ i then (part s (i - 16)).signer else [])

/-- CHALLENGE: a signature, free, by the key of slot 0, 1 or 2 (R247, R254). -/
def execChallenge (slot : Byte) (s : State) : Host.Outcome State Fault Refusal :=
  .next (useFrees 96 (answer 0x83 (negotiated s && decide (slot.toNat < 3)) (slot :: freeBytes s 96) s))

/-- GET_MEASUREMENTS: the evidence at an index from 1 to 6 or 16 to 27, signed; the signature is free (R245, R247, R254). -/
def execGetMeasurements (index : Byte) (s : State) : Host.Outcome State Fault Refusal :=
  let i := index.toNat
  let ok := negotiated s && decide ((1 ≤ i ∧ i ≤ 6) ∨ (16 ≤ i ∧ i ≤ 27))
  .next (useFrees 96 (answer 0xE0 ok (index :: evidence s i ++ freeBytes s 96) s))

/-- KEY_EXCHANGE: a session opens in a free place; a fifth is answered with a busy error (R254). -/
def execKeyExchange (s : State) : Host.Outcome State Fault Refusal :=
  .next (
    match (List.range 4).find? (fun i => !has s.sec.spdm.sessions i) with
    | none => answer 0xE4 false [] s
    | some i =>
      if negotiated s then
        answer 0xE4 true [BitVec.ofNat 8 i] (modSpdm (fun x => { x with sessions := ins x.sessions i {} }) s)
      else answer 0xE4 false [] s)

/-- FINISH: the handshake of a session is completed, or the session ends where the requester's proof fails (R254). -/
def execFinish (sid : Fin 4) (verified : Bool) (s : State) : Host.Outcome State Fault Refusal :=
  .next (
    match find s.sec.spdm.sessions sid.val with
    | none => answer 0xE5 false [] s
    | some x =>
      if x.finished then answer 0xE5 false [] s
      else if verified then
        answer 0xE5 true [] (modSpdm (fun y => { y with sessions := ins y.sessions sid.val { x with finished := true } }) s)
      else answer 0xE5 false [] (modSpdm (fun y => { y with sessions := drop y.sessions sid.val }) s))

/-- A request inside a session whose handshake is complete; others are errors. -/
def inSession (req : Byte) (sid : Fin 4) (f : SpdmSess → Spdm → Spdm) (s : State) : State :=
  match find s.sec.spdm.sessions sid.val with
  | none => answer req false [] s
  | some x => if x.finished then answer req true [] (modSpdm (f x) s) else answer req false [] s

/-- HEARTBEAT in a secured session (R254). -/
def execHeartbeat (sid : Fin 4) (s : State) : Host.Outcome State Fault Refusal :=
  .next (inSession 0xE8 sid (fun _ y => y) s)

/-- KEY_UPDATE: the session's keys are replaced by their successors (R254). -/
def execKeyUpdate (sid : Fin 4) (s : State) : Host.Outcome State Fault Refusal :=
  .next (inSession 0xE9 sid (fun x y => { y with sessions := ins y.sessions sid.val { x with keyGen := x.keyGen + 1 } }) s)

/-- END_SESSION: the session is gone (R254). -/
def execEndSession (sid : Fin 4) (s : State) : Host.Outcome State Fault Refusal :=
  .next (inSession 0xEC sid (fun _ y => { y with sessions := drop y.sessions sid.val }) s)

end Sys2Proof.Machine
end

