-- ==== Sys2Proof/Machine/GuestSite.lean ====
section
/-! DEFINITION. The guest-die sites: the descriptor, the firewall, the target window (R242, R253, R255 to R259). -/

namespace Sys2Proof.Machine

open Sys2Proof

/-! ### The descriptor (R255) -/

/-- Whether a guest's descriptor passes (R255). -/
def descPasses (d : List Byte) : Bool :=
  let tlog := fieldAt d 17 1
  decide (d.length = 64 ∧ fieldAt d 0 4 = 0x48474431 ∧ fieldAt d 4 2 = 1
    ∧ 1 ≤ fieldAt d 12 2 ∧ fieldAt d 12 2 ≤ 256
    ∧ 32 ≤ fieldAt d 14 2 ∧ fieldAt d 14 2 ≤ 512 ∧ fieldAt d 14 2 % 32 = 0
    ∧ fieldAt d 16 1 ≤ 8 ∧ (tlog = 0 ∨ (12 ≤ tlog ∧ tlog ≤ 16)) ∧ fieldAt d 22 2 < 2
    ∧ fieldAt d 60 4 = (crc32 (d.take 60)).toNat)

/-- DESC: the guest's first packet after training: a descriptor that passes brings the link up, another holds the port (R255,
R259). -/
def execDesc (g : Site) (payload : List Byte) (s : State) : Host.Outcome State Fault Refusal :=
  let i := siteNo g
  ifFitted s (
    if (guest s i).link ≠ 1 ∨ (guest s i).isHeld ∨ blockHeld s .guest i then s
    else
      let ok := descPasses payload
      modGuest i (fun x => { x with
        desc := payload.take 64, descOk := ok, link := if ok then 3 else 2, isHeld := !ok }) s)

/-- Whether the hub takes packets of a guest other than its descriptor. -/
def guestTalks (s : State) (i : Nat) : Bool :=
  decide ((guest s i).link = 3) && !(guest s i).isHeld && !blockHeld s .guest i

/-! ### The firewall (R253, R257, R258) -/

/-- The partition that a site serves. -/
def guestPart (s : State) (i : Nat) : Nat := (guest s i).part.toNat

/-- Window w of a firewall. -/
def guestWin (x : Guest) (w : BitVec 3) : GWindow := look x.wins w.toNat {}

/-- The partition memory address of a guest access. -/
def guestPma (x : Guest) (h : GuestHdr) : Nat := (guestWin x h.win).base.toNat + h.off.toNat

/-- Whether an access touches the deny list: a pseudo-channel in ZEROING, or a range under R253 (R257). -/
def onDenyList (s : State) (p addr len : Nat) : Bool :=
  (match (ownedPchs s p)[addr / 2147483648]? with
    | some c => (pch s c).zeroing
    | none => false) || pmaProtected s p addr len

/-- The reason the firewall denies an access, 0 where it admits it (R257, R259): bit 0 or 1 of `right` is the right it needs. -/
def denyReason (s : State) (i : Nat) (h : GuestHdr) (right : Nat) : Nat :=
  let x := guest s i
  let w := guestWin x h.win
  if h.off.toNat % 32 ≠ 0 ∨ 16 < h.len then 5
  else if !x.en ∨ (part s (guestPart s i)).resetting then 1
  else if w.size = 0 ∨ !w.rights.getLsbD right then 2
  else if 4096 * w.size.toNat < h.off.toNat + 32 * h.len then 3
  else if onDenyList s (guestPart s i) (guestPma x h) (32 * h.len) then 4
  else 0

/-- A denial: counted, its reason recorded; the first of a millisecond raises a Corrected fault, the sixteenth holds the port
(R257, R403). -/
def denyGuest (i r : Nat) (s : State) : State :=
  let ms := timeNs s / 1000000
  let n := if (guest s i).denyMs = some ms then (guest s i).denials + 1 else 1
  let s := modGuest i (fun x => { x with
    deny := x.deny + 1, reason := BitVec.ofNat 8 r, denials := n, denyMs := some ms, isHeld := x.isHeld || decide (n = 16) }) s
  let s := raiseFirst (14 + i) 1000000 0x0A01 4 i (guestPart s i) r s
  if n = 16 then raiseFault 0x0A02 4 i (guestPart s i) i s else s

/-- Whether a guest of half i reaches pseudo-channel c: its stack is not in reset, nor the inter-hub link between them (R180,
R369). -/
def guestReaches (s : State) (i c : Nat) : Bool :=
  !blockHeld s .hbm (c / 32) && !(s.d2d.ihlReset && decide (pchHalf s c ≠ i))

/-- A read of partition memory for a guest: its completion's status and bytes (R180, R256, R257, R369). -/
def guestRead (i p addr len : Nat) (s : State) : (Byte × List Byte) × State :=
  match pmaMap s p addr len with
  | none => ((2, []), s)
  | some co =>
    if !guestReaches s i co.1 then ((4, []), s)
    else
      let first := co.2 % 128
      let r := memReadLines p co.1 (co.2 - first) ((first + len + 127) / 128) s
      match r.1.2 with
      | some _ => ((3, []), r.2)
      | none => ((0, slice r.1.1 first len), r.2)

/-- The bytes of a line with some of them replaced. -/
def patchLine (old : List Byte) (o : Nat) (bs : List Byte) : List Byte := old.take o ++ bs ++ old.drop (o + bs.length)

/-- A write of partition memory for a guest, granule by granule (R180, R256, R257). -/
def guestWrite (i p addr : Nat) (bs : List Byte) (s : State) : State :=
  match pmaMap s p addr bs.length with
  | none => s
  | some co =>
    if !guestReaches s i co.1 then s
    else forAll (List.range (bs.length / 32)) (fun k s =>
      let o := co.2 + 32 * k
      let old := hbmBytes s co.1 (128 * (o / 128)) 128
      (writeLine (pchHalf s co.1) 32 co.1 (o / 128) (patchLine old (o % 128) (slice bs (32 * k) 32)) s).2) s

/-- MRD: a guest read, admitted and answered with data, or denied; one in a function-level reset is answered with BLOCK_RESET; a
rate of 0 lets it wait (R256 to R259; log entry 70). -/
def execMrd (g : Site) (h : GuestHdr) (s : State) : Host.Outcome State Fault Refusal :=
  let i := siteNo g
  ifFitted s (
    if !guestTalks s i then s
    else
      let r := denyReason s i h 0
      if r ≠ 0 then
        let st : Byte := if (guest s i).en ∧ (part s (guestPart s i)).resetting then 4 else 1
        emit (.guestCpl g h.tag st []) (denyGuest i r s)
      else if (guest s i).rdRate = 0 then s
      else
        let x := guestRead i (guestPart s i) (guestPma (guest s i) h) (32 * h.len) s
        emit (.guestCpl g h.tag x.1.1 x.1.2) x.2)

/-- MWR: a guest's posted write, admitted and carried out, or dropped; a rate of 0 lets it wait (R256 to R259; log entry 70). -/
def execMwr (g : Site) (h : GuestHdr) (payload : List Byte) (s : State) : Host.Outcome State Fault Refusal :=
  let i := siteNo g
  ifFitted s (
    if !guestTalks s i then s
    else
      let r := if payload.length ≠ 32 * h.len then 5 else denyReason s i h 1
      if r ≠ 0 then denyGuest i r s
      else if (guest s i).wrRate = 0 then s
      else guestWrite i (guestPart s i) (guestPma (guest s i) h) payload s)

/-- NOTIFY: the partition's vector NVEC is signalled (R256, R259). -/
def execNotify (g : Site) (s : State) : Host.Outcome State Fault Refusal :=
  let i := siteNo g
  ifFitted s (
    match toPart (guestPart s i) with
    | none => s
    | some p =>
      if guestTalks s i && (guest s i).en && !(part s p.val).resetting && decide (2 ≤ (guest s i).nvec.toNat) then
        signalVec (.vf p) (guest s i).nvec.toNat s
      else s)

/-! ### The target window (R242, R256, R258) -/

/-- GUEST_COMPLETION: the guest answers a TRD: its data goes to the host, or all ones where it failed (R256; log entry 57). -/
def execGuestCompletion (g : Site) (h : GuestHdr) (payload : List Byte) (s : State) : Host.Outcome State Fault Refusal :=
  let i := siteNo g
  ifFitted s (
    if !guestTalks s i ∨ !has (guest s i).trds h.tag.toNat then s
    else
      let s := modGuest i (fun x => { x with trds := drop x.trds h.tag.toNat }) s
      if h.status ≠ 0 then onesToHost i s
      else match toPart (guestPart s i) with
        | some p => emit (.targetRead p payload) s
        | none => s)

/-- The site whose guest serves partition p. -/
def siteOf (s : State) (p : Nat) : Option Site :=
  [Site.g0, Site.g1].find? (fun g => (guest s (siteNo g)).en && decide (guestPart s (siteNo g) = p))

/-- The bytes of a guest's target window (R255). -/
def targetSize (x : Guest) : Nat := if x.descOk ∧ fieldAt x.desc 17 1 ≠ 0 then 2 ^ fieldAt x.desc 17 1 else 0

/-- A tag that no TRD of the site uses, from a free starting point (log entry 1). -/
def freshTrd (s : State) (i : Nat) : Option (BitVec 10) :=
  let b := (freeVal s).toNat
  (((List.range 1024).map (fun k => (b + k) % 1024)).find? (fun t => !has (guest s i).trds t)).map (BitVec.ofNat 10)

/-- TARGET_WINDOW_ACCESS: a host access to the window of partition p's guest goes out as TRD or TWR; outside the window reads are
0 and writes ignored; a port in reset or held answers all ones (R242, R256, R369; log entry 57). -/
def execTargetWindowAccess (p : Part) (off : BitVec 16) (wr : Option (List Byte)) (s : State) : Host.Outcome State Fault Refusal :=
  let zeros (s : State) : State := if wr.isSome then s else emit (.targetRead p (List.replicate 32 0)) s
  ifFitted s (
    match siteOf s p.val with
    | none => zeros s
    | some g =>
      let i := siteNo g
      if targetSize (guest s i) ≤ off.toNat then zeros s
      else if !guestTalks s i ∨ (part s p.val).resetting then (if wr.isSome then s else onesToHost i s)
      else match wr with
        | some bs => emit (.guestReq g ((freeVal s).setWidth 10) (off.setWidth 40) (some bs)) (useFree s)
        | none =>
          match freshTrd s i with
          | none => s
          | some t =>
            emit (.guestReq g t (off.setWidth 40) none)
              (modGuest i (fun x => { x with trds := ins x.trds t.toNat (timeNs s) }) (useFree s)))

/-- TRD_TIMEOUT: a TRD is unanswered for 100 µs: all ones to the host, and a Contained fault (R256). -/
def execTrdTimeout (g : Site) (tag : BitVec 10) (s : State) : Host.Outcome State Fault Refusal :=
  let i := siteNo g
  ifFitted s (
    match find (guest s i).trds tag.toNat with
    | none => s
    | some t =>
      let s := onesToHost i (advanceTo (t + 100000) s)
      raiseFault 0x0A02 4 i (guestPart s i) i (modGuest i (fun x => { x with trds := drop x.trds tag.toNat }) s))

/-! ### SEC_GST_CTL (R257, R259) -/

/-- SEC_GST_CTL: while EN is 1 only a write that clears it is taken; EN is refused where PART does not exist; setting it releases
a held port, whose link is trained again (R257, R259). -/
def execSecGstCtl (g : Site) (v : Word) (s : State) : Host.Outcome State Fault Refusal :=
  let i := siteNo g
  let x := guest s i
  let en := v.getLsbD 31
  let p := v.extractLsb' 24 4
  let ok := en && (part s p.toNat).exist && decide (p.toNat < 12)
  ifFitted s (
    if (x.en && en) || cutOff s i then s
    else
      let s := modGuest i (fun x => { x with en := ok, part := p, nvec := v.extractLsb' 13 11 }) s
      if ok ∧ x.isHeld then
        trainMods i [64] (modGuest i (fun x => { x with isHeld := false, link := 0, descOk := false, denials := 0, denyMs := none }) s)
      else s)

end Sys2Proof.Machine
end

