-- ==== Sys2Proof/Machine/Reset.lean ====
section
/-! DEFINITION. Reset sources, the release order, the supplies, and the sampling of sensors with the hard trip (R106, R183, R190,
R240, R245, R297, R342, R343, R357 to R363, R367 to R371, R378, R389 to R391, R401). -/

namespace Sys2Proof.Machine

open Sys2Proof

/-! ### What survives (R367, R372, R382) -/

/-- What a Zoetrope keeps through a module reset: the spare map and the dead-cell count, which only power-on resets, what they
stand for, and module flash; a commit that was deferred is lost (R30 to R32, R62, R64, R103, R367). -/
def keepZoe (x : Zoe) : Zoe :=
  { ({} : Zoe) with
    spare := x.spare, dead := x.dead, badRefRows := x.badRefRows
    trim := { ({} : ZoeTrim) with
      flashA := x.trim.flashA, flashB := x.trim.flashB, flashInB := x.trim.flashInB, failed := x.trim.failed } }

/-- What a Zoetrope has at power-on: what module flash holds, its spare map and failed channels from the record in force (R30 to
R32, R62, R103). -/
def flashZoe (x : Zoe) : Zoe :=
  let y := keepZoe x
  { y with spare := (flashRec x.trim).spare, trim := { y.trim with failed := (flashRec x.trim).failed } }

/-- The state with every field at its reset value but for what module flash holds, what the build fixes, and the model's own
fields (R260, R316, R339, R367). -/
def bareState (s : State) : State :=
  { ({} : State) with
    ident.ml := s.ident.ml, ident.hubStep := s.ident.hubStep, ident.logicStep := s.ident.logicStep, ident.serial := s.ident.serial
    zoes := mapVals s.zoes {} flashZoe
    fab.declared := s.fab.declared, fab.gn := s.fab.gn, fab.gid := s.fab.gid
    d2d.bondSpares := s.d2d.bondSpares, d2d.bondFailed := s.d2d.bondFailed
    sec.factory := s.sec.factory, sec.importKey := s.sec.draws, sec.draws := s.sec.draws + 1
    mrt.flash := s.mrt.flash, mrt.flashId := s.mrt.flashId, mrt.manIds := s.mrt.manIds, mrt.bootBank := s.mrt.bootBank
    mrt.minSec := s.mrt.minSec
    free := s.free, out := s.out, pending := s.pending }

/-- A laser source through a module reset: a failure and the slots stay, its light goes (R291, R367). -/
def resetSource (x : Source) : Source :=
  if x.state = .failed then x else { x with state := .off, out := 0, switching := false }

/-- The laser banks through a module reset: the interlock's state and counters are the auxiliary domain's (R313, R314, R367). -/
def resetLasers (l : LasSys) : LasSys :=
  { l with allowed := false, sources := mapVals l.sources {} resetSource }

/-- A sensor through a module reset: its reading stays (R358, R366). -/
def resetSensor (x : Sensor) : Sensor := { ({} : Sensor) with sampled := x.sampled, temp := x.temp, value := x.value }

/-- The fault collector through a module reset: every record CLEARED and kept (R378, R382). -/
def resetFaults (f : FltSys) : FltSys :=
  { f with log := f.log.map (fun e => (e.1, { e.2 with cleared := true, opened := false, closes := none })), lost := [], quiets := [], quiet := 2000 }

/-- Reset number c, at the moment its source acts (R401). -/
def noteReset (src : BitVec 4) (t : DWord) (r : RstSys) : RstSys :=
  { r with
    last := src, number := r.number + 1
    history := ins r.history (r.number.toNat % 16) { mtime := t, source := src.setWidth 8, number := r.number } }

/-- The fused minimum security versions as the island raises them at a module reset: as an image that both Marionettes have run
asks, where the golden image of its kind meets it (R345; log entry 67). -/
def raisedMinimum (x : MrtSys) : SMap Nat :=
  (x.m0.ran.filter (fun e => x.m1.ran.contains e)).foldl (fun m e =>
    let v := Config.imageRequest e.1 e.2
    if look m e.1 0 < v ∧ v ≤ Config.imageSecurity e.1 (Config.factoryId e.1 2) then put m e.1 v 0 else m) x.minSec

/-- The reset of a module: everything but the auxiliary domain, the Toybox and the keepsake registers (R183, R240, R331, R345,
R363, R367, R368, R371, R378, R401; source codes of R382). -/
def resetNow (src : BitVec 4) (s : State) : State :=
  let b := bareState s
  let r := noteReset src (mtime s) s.rst
  let t : State := { b with
    zoes := mapVals s.zoes {} keepZoe
    ident := { s.ident with resetAt := mtime s, gtimeHi := 0, latches := [] }
    mrb.banks := s.mrb.banks.filter (fun e => match e.2 with
      | .retired _ => true
      | _ => false)
    sec.debugLocked := s.sec.debugLocked
    las := resetLasers s.las
    mrt.m0 := { isHeld := false, booting := true }, mrt.m1 := { isHeld := false, booting := true }
    mrt.nohold := s.mrt.nohold, mrt.rseq := s.mrt.rseq, mrt.allowance := s.mrt.allowance, mrt.minSec := raisedMinimum s.mrt
    pwr := { b.pwr with
      pin := s.pwr.pin, volt := s.pwr.volt, mainOk := s.pwr.mainOk, holdup := s.pwr.holdup, inputDv := s.pwr.inputDv
      droopAt := s.pwr.droopAt, overAt := s.pwr.overAt, auxOn := s.pwr.auxOn
      sensors := mapVals s.pwr.sensors {} resetSensor }
    flt := resetFaults s.flt
    rst := { b.rst with
      last := r.last, number := r.number, history := r.history, count := satInc s.rst.count
      origin := mtime s, perst := s.rst.perst, keep := s.rst.keep, ecc := s.rst.ecc, handover := s.rst.handover
      presentEast := s.rst.presentEast, presentWest := s.rst.presentWest
      service := s.rst.service, cause := s.rst.cause }
    side := { s.side with laserOn := false, alerts := 0 } }
  let t := setService .booting (400 + src.toNat) t
  if s.mrt.deferred.contains 1 then raiseFault 0x0906 13 0 0xFF 1 t else t

/-! ### Resets that wait (R228, R362, R368) -/

/-- Whether a die sensor has not cooled to 10 °C below its orderly-stop threshold (R362). -/
def diesHot (s : State) : Bool :=
  (List.range 144).any (fun k => match stopThreshold k with
    | some c => decide (deg (c - 10) < (sensor s k).value)
    | none => false)

/-- A reset that is due acts, unless a hard trip's heat holds it (R228, R362). -/
def dueReset (s : State) : State :=
  match s.rst.resetDue with
  | none => s
  | some t =>
    if timeNs s < t.toNat then s
    else if s.pwr.tripped ∧ diesHot s then { s with rst.wait := 4 }
    else resetNow s.rst.resetSrc s

/-- One auxiliary clock cycle, after which a reset may be due (R20, R228; log entry 5). -/
def idleTick (s : State) : State := dueReset { s with ident.aux := s.ident.aux + 1 }

/-! ### Measured boot (R245, R340, R343) -/

/-- Whether an image that has no other copy may run: it verifies, and meets the fused minimum of its kind; kind 4 is the island
firmware, 5 the per-board table (R245; log entry 56). -/
def stageOk (s : State) (kind id : Nat) : Bool :=
  Config.imageVerifies kind id && decide (look s.mrt.minSec kind 0 ≤ Config.imageSecurity kind id)

/-- The stages that the island firmware verifies and starts: those images are recorded that run, those refused are counted, and a
kept allowance stands if it names them; a per-board table that is refused is not used (R245, R246, R340, R342, R343; log entry
56). -/
def laterStages (s : State) : State :=
  let board := Config.boardId s.side.straps.toNat
  let ok := stageOk s 5 board
  let s : State := { (noteRefused [0, 1, 2, 3] s) with
    mrt.images := [(0, bootImage s 0), (1, bootImage s 1), (2, bootImage s 2)]
    mrt.mrtSrc := bootSrc s 0, mrt.trimSrc := bootSrc s 1, mrt.kalSrc := bootSrc s 2, mrt.manSrc := bootSrc s 3, mrt.manifest := bootId s 3
    sec.bootOk := ok, sec.stage := 6 }
  let s : State := { s with
    sec.refused := if ok then s.sec.refused else satAdd s.sec.refused 1
    sec.meas := [(1, Config.islandId), (2, manifest s)] ++ (if ok then [(3, board)] else [])
      ++ [(4, bootId s 0), (5, bootId s 1), (6, bootId s 2)] }
  if s.mrt.allowance ≠ [] ∧ slice s.mrt.allowance 16 144 = imageDigests s then { s with mrt.allowed := true }
  else { s with mrt.allowed := false, mrt.allowance := [] }

/-- The measured boot chain: island firmware that the boot ROM refuses is not run, so nothing after it is either (R245, R246; log
entry 56). -/
def measuredBoot (s : State) : State :=
  let s := { s with sec.debugLocked := true }
  if stageOk s 4 Config.islandId then laterStages s
  else { s with sec.refused := satAdd s.sec.refused 1, sec.bootOk := false, sec.stage := 0, sec.meas := [] }

/-! ### The release order (R297, R309, R316, R318, R342, R370, R371) -/

/-- How long a step of the release order takes, in ms, where only time ends it (R370). -/
def stepMs (k : Nat) : Option Nat :=
  match k with
  | 1 => some 10
  | 3 => some 20
  | 5 => some 60
  | 6 => some 20
  | 7 => some 500
  | _ => none

/-- Whether every fitted source that fills a slot gives stable light, or has failed (R1, R309, R370). -/
def sourcesStable (s : State) : Bool :=
  (List.range (sourceCount s)).all (fun n => decide ((source s n).slot = 31 ∨ (source s n).state = .inService ∨ (source s n).state = .failed))

/-- Whether the start calibration of every Zoetrope has ended (R102, R370). -/
def startCalDone (s : State) : Bool :=
  (List.range 32).all (fun z => decide ((zoe s z).state ≠ .warming ∧ ¬((zoe s z).state = .trimming ∧ (zoe s z).trim.cause = 1)))

/-- Whether the step that has begun is complete; steps that time ends are brought to their end (R370). -/
def stepReady (s : State) : Bool :=
  match s.rst.begun with
  | 2 => s.mrt.holder.isSome
  | 4 => interHubUp s
  | 8 => sourcesStable s
  | 10 => startCalDone s
  | k => (stepMs k).isSome

/-- The service state at the end of Booting: Restricted where the running combination is not tested, else Calibrating; a module
in Fault-held, or whose orderly stop runs, stays (R342, R361, R370; log entry 58). -/
def endBooting (s : State) : State :=
  let bad := !s.mrt.allowed && (testedLevels s).isNone
  let s := { s with mrt.restricted := (testedLevels s).isNone }
  if s.rst.service = .faultHeld ∨ s.pwr.stopRun then s else setService (if bad then .restricted else .calibrating) 407 s

/-- Whether a half has answered: a logic module of it has come up (R14; log entry 102). -/
def halfAnswers (s : State) (h : Nat) : Bool := (List.range 48).any (fun m => decide ((ucie s h m).state ≠ 4))

/-- A step of the release order is complete (R370, R382). -/
def stepDone (k : Nat) (s : State) : State :=
  let s := match stepMs k with
    | some ms => advanceTo (s.rst.begunAt + 1000000 * ms) s
    | none => s
  let s := { s with
    rst.step := BitVec.ofNat 4 k, rst.begun := 0
    rst.ms := BitVec.ofNat 24 (min 16777215 ((timeNs s - s.rst.origin.toNat) / 1000000)) }
  match k with
  | 1 => freeMrt .m1 (freeMrt .m0 s)
  | 5 => forAll (List.range (if s.ident.ml then 4 else 6)) (fun i => modStack i (fun x => { x with up := true })) s
  | 6 => { s with rst.presentEast := halfAnswers s 0, rst.presentWest := halfAnswers s 1 }
  | 7 => endBooting s
  | 10 => { s with rst.calDone := true }
  | _ => s

/-- The step that has begun is completed where it can be. -/
def settleStep (s : State) : State := if s.rst.begun ≠ 0 ∧ stepReady s then stepDone s.rst.begun s else s

/-- The lanes that step 9 tests: wavelength 0 of every planned fibre (R297, R370). -/
def nineLanes (s : State) : List Nat :=
  ((List.range 64).filter (fun i => (planPartner (groupN s) s.fab.gid.toNat i).isSome)).map (fun i => planLane i 0)

/-- Step 9 begins: its lanes are under margin test, without a slice. -/
def beginNine (s : State) : State :=
  forAll (nineLanes s) (fun l => modLane l (fun x => if x.state = .dark then { x with state := .locking } else x))
    { s with rst.stepNine := true }

/-- Step 9 ends: a lane whose test has not ended is Dark and untested. -/
def endNine (s : State) : State :=
  if !s.rst.stepNine then s
  else
    let s := forAll (nineLanes s) (fun l => modLane l (fun x =>
      if x.state = .locking ∧ !hasSlice x ∧ !x.underTest then { x with state := .dark } else x)) s
    { s with rst.stepNine := false, rst.step := if s.rst.step = 8 then 9 else s.rst.step }

/-- The service state once calibration has ended: Serving, or Degraded where a half is fenced; Restricted and Fault-held stay
(R25, R342, R370). -/
def beginService (s : State) : State :=
  if s.rst.service = .calibrating then setService (if anyFenced s then .degraded else .serving) 411 s else s

/-- Every bank that is not retired is scrubbed and Free; one that fails all three tries is retired, and a Contained fault is
raised (R183; log entry 89). -/
def scrubAll (s : State) : State :=
  let bad := (Config.scrubBad s.free).map (·.val)
  let s := useFree { s with
    mrb.scratch := [], mrb.iram := []
    mrb.banks := s.mrb.banks.filter (fun e => match e.2 with
      | .retired _ => true
      | _ => false) }
  forAll bad (fun b s =>
    if bank s b = .free then raiseFault 0x0304 1 (b / 8192) 0xFF b (setBank b (.retired 0) s) else s) s

/-- A Zoetrope leaves Off: it warms, and one that the bond test has found unfit is Fenced (R106, R316). -/
def warmZoe (z : Nat) (s : State) : State :=
  let s := modZoe z (startWarming z (timeNs s)) s
  let x := zoe s z
  if x.state = .warming ∧ x.fenceReq ≠ 0 then fenceZoe z x.fenceReq s else s

/-- The work of a step as it begins (R183, R190, R245, R309, R316, R318, R321, R349, R370). -/
def stepWork (k : Nat) (s : State) : State :=
  match k with
  | 2 => measuredBoot s
  | 3 => { s with pwr.railsOn := true, pwr.domainsOff := [] }
  | 4 =>
    let s := { s with d2d.ihlTraining := true, d2d.ihlReset := true }
    if s.side.straps = 15 then raiseFault 0x0102 13 0 0xFF 0 s else s
  | 6 =>
    let s := forAll [0, 1] (fun h => trainMods h (List.range (if s.ident.ml then 48 else 65))) s
    scrubAll (forAll (List.range 32) bondTest s)
  | 7 => forAll (List.range 32) warmZoe s
  | 8 => startBanks { (laserRoles s) with las.allowed := true }
  | 11 => beginService s
  | _ => s

/-- Whether the step before step k is complete (R370, R371): after a module reset step 2 is the first. -/
def stepMayBegin (s : State) (k : Nat) : Bool :=
  decide (s.rst.begun = 0) && (match k with
    | 2 => decide (s.rst.step = 1 ∨ (s.rst.step = 0 ∧ s.rst.last ≠ 0))
    | 9 => decide (s.rst.step = 8 ∧ 1 < groupN s) && !s.rst.stepNine && !s.ident.ml
    | 10 => decide (s.rst.step = 8 ∨ s.rst.step = 9)
    | 11 => decide (s.rst.step = 10)
    | k => decide (s.rst.step.toNat + 1 = k))

/-- What a step waits for, in the code of RST_STEP WAIT (R362, R370, R382, R389). -/
def stepWait (s : State) (k : Nat) : BitVec 4 :=
  if s.rst.resetDue.isSome ∧ s.pwr.tripped then 4
  else if s.rst.perst ∧ s.rst.last ≠ 0 then 2
  else if k = 3 ∧ (!s.pwr.mainOk ∨ s.pwr.tripped) then 1
  else if k = 8 ∧ s.las.off then 3
  else 0

/-- A step of the release order begins, or waits (R370). -/
def startStep (k : Nat) (s : State) : State :=
  let s := settleStep (if 10 < k then endNine s else s)
  if !stepMayBegin s k then s
  else
    let w := stepWait s k
    let s := { s with rst.wait := w }
    if w ≠ 0 then s
    else if k = 9 then beginNine s
    else
      let s := stepWork k { s with rst.begun := k, rst.begunAt := timeNs s }
      if k = 11 then stepDone 11 s else s

/-- RELEASE_STEP: a step of the release order begins once the step before it is complete and its condition holds (R370, R371). -/
def execReleaseStep (k : Fin 12) (s : State) : Host.Outcome State Fault Refusal :=
  .next (if !s.pwr.auxOn ∨ k.val < 2 then s else startStep k.val (dueReset s))

/-! ### Power-on, PERST# (R367, R368, R370, R371, R401) -/

/-- AUX_POWER_ON: the auxiliary rail is within range: everything but module flash is at its reset value, and step 1 begins (R367,
R370, R392, R401). -/
def execAuxPowerOn (straps : BitVec 4) (s : State) : Host.Outcome State Fault Refusal :=
  .next (
    if s.pwr.auxOn then s
    else
      let b := bareState s
      let b := { b with
        pwr.auxOn := true, pwr.inputDv := s.pwr.inputDv, pwr.mainOk := decide (500 ≤ s.pwr.inputDv ∧ s.pwr.inputDv ≤ 560)
        side.straps := straps
        rst := noteReset 0 0 { b.rst with begun := 1, perst := s.rst.perst } }
      setService .booting 400 b)

/-- PERST_ASSERT: the module is reset and held at the start of the release order; after a hard trip the reset waits for the dies
to cool; without the auxiliary rail only the pin is low (R362, R367, R368). -/
def execPerstAssert (s : State) : Host.Outcome State Fault Refusal :=
  .next (
    if s.rst.perst then s
    else if !s.pwr.auxOn then { s with rst.perst := true }
    else
      let s := dueReset { s with rst.perst := true, rst.resetDue := some (mtime s), rst.resetSrc := 1 }
      if s.rst.resetDue.isSome then s else { s with rst.wait := 2 })

/-- PERST_DEASSERT: the release order starts at step 2, where PERST# held it; at power-on it does not (R368, R370, R371; log entry
73). -/
def execPerstDeassert (s : State) : Host.Outcome State Fault Refusal :=
  .next (
    if !s.rst.perst then s
    else if !s.pwr.auxOn ∨ s.rst.last = 0 then { s with rst.perst := false }
    else
      let s := { s with rst.perst := false, rst.wait := if s.rst.resetDue.isSome then 4 else 0 }
      if s.rst.resetDue.isSome then s else startStep 2 { s with rst.origin := mtime s })

/-! ### The supplies (R377, R389 to R391) -/

/-- MAIN_INPUT_DROOP: the 54 V input falls below 50 V and hold-up carries the load (R390, R391). -/
def execMainInputDroop (dv : Nat) (s : State) : Host.Outcome State Fault Refusal :=
  .next (
    if 500 ≤ dv then s
    else if s.pwr.mainOk then
      { s with pwr.mainOk := false, pwr.holdup := true, pwr.droopAt := mtime s, pwr.inputDv := dv, pwr.overAt := none }
    else { s with pwr.inputDv := dv, pwr.overAt := none })

/-- HOLDUP_EXPIRY: 200 µs after it fell the input is still low: an orderly stop by supply is asked for (R361, R390). -/
def execHoldupExpiry (s : State) : Host.Outcome State Fault Refusal :=
  .next (
    if !s.pwr.holdup then s
    else askStop .supply { (advanceTo (s.pwr.droopAt.toNat + 200000) s) with pwr.holdup := false })

/-- MAIN_INPUT_RETURN: the input is within range again: a droop ridden through is counted, or a quiet period starts (R377,
R390, R391). -/
def execMainInputReturn (dv : Nat) (s : State) : Host.Outcome State Fault Refusal :=
  .next (
    if dv < 500 ∨ 560 < dv then s
    else if s.pwr.holdup then inputNow dv { s with pwr.holdup := false, pwr.droops := satInc s.pwr.droops }
    else inputNow dv s)

/-- MAIN_INPUT_LOSS: below 44 V after hold-up, or above 58 V: the board stage turns off and the module acts as for MODULE_RESET;
the release order then waits at step 3 (R389, R390). -/
def execMainInputLoss (dv : Nat) (s : State) : Host.Outcome State Fault Refusal :=
  .next (
    if (440 ≤ dv ∨ s.pwr.holdup) ∧ dv ≤ 580 then s
    else
      let s := { s with pwr.inputDv := dv, pwr.mainOk := false, pwr.holdup := false, pwr.overAt := none }
      if s.pwr.auxOn ∧ s.pwr.railsOn then resetNow 2 s else s)

/-- OVERVOLTAGE_TIMEOUT: the input has lain from 56 to 58 V for 10 ms: an orderly stop by supply is asked for (R361, R390). -/
def execOvervoltageTimeout (s : State) : Host.Outcome State Fault Refusal :=
  .next (
    match s.pwr.overAt with
    | none => s
    | some t => askStop .supply (advanceTo (t.toNat + 10000000) s))

/-- AUX_POWER_LOSS: the auxiliary rail falls below 3.0 V: everything but module flash is lost until it returns (R367, R390). -/
def execAuxPowerLoss (s : State) : Host.Outcome State Fault Refusal :=
  .next { (bareState s) with pwr.inputDv := s.pwr.inputDv, rst.perst := s.rst.perst }

/-! ### Sensors (R357 to R362, R364) -/

/-- A hard trip: every core rail and laser off, the hard-trip reset, and a Fatal fault naming the sensor (R362, R367, R368). -/
def hardTrip (k : Nat) (s : State) : State :=
  let t := resetNow 3 s
  raiseFault 0x0905 8 k 0xFF k { t with pwr.tripped := true }

/-- Whether sensor k can be read: on the auxiliary rail, and a stack that is fitted once it is up (R1, R316, R370; log entries 87,
99). -/
def readable (s : State) (k : Nat) : Bool :=
  s.pwr.auxOn && (decide (k < 156) || (decide (k < if s.ident.ml then 160 else 162) && (hstack s (k - 156)).up))

/-- SENSOR_SAMPLE: a sensor, or from number 156 on an HBM stack, is read, in 1/16 °C; its failure and suspicion, the refresh of a
stack, and the hard trip and orderly stop of its thresholds (R169, R357 to R362, R364; log entry 87). -/
def execSensorSample (k : Fin 162) (t : Int) (s : State) : Host.Outcome State Fault Refusal :=
  .next (
    if !readable s k.val then s
    else
      let s := if k.val < 156 then takeSample k.val t s else takeReport (k.val - 156) t s
      let s :=
        if s.pwr.railsOn ∧ aboveDeg s k.val (tripThreshold k.val) then hardTrip k.val s
        else if aboveDeg s k.val (stopThreshold k.val) then stopBySensor k.val s
        else coolSensor k.val s
      dueReset (settleAlert s))

end Sys2Proof.Machine
end

