-- ==== Sys2Proof/Machine/Marionette.lean ====
section
/-! DEFINITION. The Marionettes at work: the control tick, the Top lease, mirroring, roles and the rolling update (R225, R226,
R327 to R338, R342, R344, R376). -/

namespace Sys2Proof.Machine

open Sys2Proof

set_option linter.unusedVariables false

/-! ### Command windows in a tick (R220 to R226) -/

/-- QUEUE_DESTROY ends once no session that it parked is still being parked: those Parked and those Closed (R229). -/
def endHomed (w : Fn) (closed : Nat) (xs : List Nat) (s : State) : State :=
  if xs.any (isParking s) then s
  else
    let parked := (xs.filter (fun k => decide ((find s.sessions k).map (·.state) = some .parked))).length
    endCmd w 0 (leBytes 2 parked ++ leBytes 2 (closed + xs.length - parked)) s

/-- A SHOW_LOAD goes on: it begins once the Show before it has stopped; under the interlock's hold it fails (R150 to R152, R230,
R311). -/
def settleLoad (w : Fn) (p : Nat) (begun : Bool) (ps : List Byte) (s : State) : State :=
  if begun then
    match find s.shows p with
    | some sh => if s.las.off then finishLoad w p sh s else s
    | none => s
  else
    let s := settleStop p s
    if (find s.shows p).isSome then s else beginLoad w p (pByte ps 1) (decide (pByte ps 2 = 1)) s

/-- SHOW_STOP ends once its Show is gone (R152, R230). -/
def endShowStop (w : Fn) (p : Nat) (xs : List Nat) (s : State) : State :=
  let s := settleStop p s
  if (find s.shows p).isSome then s
  else
    let parked := (xs.filter (fun k => decide ((find s.sessions k).map (·.state) = some .parked))).length
    endCmd w 0 (leBytes 4 parked) s

/-- A command that waits goes on where what it waits for has come (R224, R226, R228 to R235). -/
def settleCmd (w : Fn) (s : State) : State :=
  match (window s w).run with
  | none => s
  | some r =>
    let ps := cmdParams s w
    let p := cmdPart w ps
    match r.opcode.toNat with
    | 0x0103 =>
      if r.arg = 0 then (if touched s (halfZoes (pByte ps 0)) then s else beginFence w (pByte ps 0) s)
      else endFence w r.arg r.xs s
    | 0x0200 => if r.arg = 1 ∧ unitsDone s r.xs then endCmd w 0 [] s else s
    | 0x0201 => if r.arg = 1 ∧ unitsDone s r.xs then endCmd w 0 [] s else s
    | 0x0202 => if r.arg = 1 ∧ unitsDone s r.xs then endCmd w 0 [] s else s
    | 0x0203 =>
      if r.arg = 2 then (if (part s p).resetting then s else destroyNow w p s)
      else if r.arg = 1 ∧ unitsDone s r.xs then endCmd w 0 [] s else s
    | 0x0207 => endHomed w r.arg r.xs s
    | 0x0302 => settleLoad w p (decide (r.arg = 1)) ps s
    | 0x0303 => endShowStop w p r.xs s
    | 0x0400 =>
      if s.las.off then failCmd w 0x34 s
      else if r.arg = 0 then (if touched s (maskZoes (fieldAt ps 4 4)) then s else beginCal w (maskZoes (fieldAt ps 4 4)) s)
      else endCal w (decide (pByte ps 0 = 0xFF)) r.xs s
    | 0x0404 => if touched s [pByte ps 1] then s else endCmd w 0 [] (requestFence (pByte ps 1) 1 s)
    | 0x0501 => endTrain w s
    | 0x0502 => endLight w r.arg r.xs s
    | 0x0505 => endTest w r.xs s
    | 0x0603 =>
      if r.arg = 1 ∨ (!s.pwr.stopRun ∧ touched s (List.range 32)) then s else commandStop w s
    | 0x0803 => settleStage s
    | _ => s

/-- Every command window, the module's first. -/
def allWindows : List Fn := .pf :: allParts.map .vf

/-- A new Active ends every busy command, and a sideband write in progress, with INTERRUPTED (R225, R338, R394). -/
def interruptAll (s : State) : State :=
  let s := forAll allWindows (fun w => failCmd w 0x17) s
  if s.side.smbStatus = 1 then { s with side.smbStatus := 0x17 } else s

/-! ### The parts of a tick (R26, R271, R327 to R330, R334, R336, R361, R376) -/

/-- The watchdog of Marionette m is kicked (R327). -/
def kick (m : Mrt) (s : State) : State := modMrt m (fun x => { x with lastKick := mtime s }) s

/-- Renewal: the Active writes the next sequence and sends it to the peer keeper; one that went unconfirmed is counted; with the
peer held it counts at once (R327 to R329). -/
def renew (m : Mrt) (s : State) : State :=
  if s.mrt.stopped ∨ (mrtOf s m).lastKick = mtime s then s
  else
    let s := kick m s
    let q := (s.mrt.pendRenewal.getD s.mrt.rseq) + 1
    let s := { s with mrt.auth := if s.mrt.handAt.isSome then s.mrt.auth else none }
    if s.mrt.peerHeld then { s with mrt.rseq := q, mrt.pendRenewal := none, mrt.unconfRun := 0, mrt.lastRenewal := mtime s }
    else
      let s := if s.mrt.pendRenewal.isSome then { s with mrt.unconf := s.mrt.unconf + 1, mrt.unconfRun := s.mrt.unconfRun + 1 } else s
      emit (.renewal q) { s with mrt.pendRenewal := some q }

/-- The fault policy handles the records created before the tick that begins at time b, which is closed at its end; a new
Active's first tick handles all (R376). -/
def faultPolicy (b : Nat) (first : Bool) (s : State) : State :=
  { s with flt.log := s.flt.log.map (fun e =>
      if e.2.opened ∧ e.2.closes = none ∧ (first ∨ e.2.mtime.toNat < b) then (e.1, { e.2 with closes := some (b + 20000) }) else e) }

/-- Sensors and supplies: an orderly stop that waited for a Marionette begins (R333, R361). -/
def beginWaiting (s : State) : State :=
  match s.pwr.stop with
  | some c => if !s.pwr.stopRun ∧ !s.pwr.stopped then beginOrderly c s else s
  | none => s

/-- A module that serves without the minimum set of units enters Fault-held, which only a reset ends (R24, R26, R378). -/
def checkSet (s : State) : State :=
  if (s.rst.service = .serving ∨ s.rst.service = .degraded ∨ s.rst.service = .restricted) ∧ !unitsServe s
  then setService .faultHeld 500 { s with rst.fatalHeld := true } else s

/-- The lanes of partitions without a Show are released (R271). -/
def freeLanes (s : State) : State :=
  forAll (List.range 12) (fun p s =>
    if (find s.shows p).isSome then s
    else forAll (otherMembers s) (fun m s =>
      let n := (heldLit s m (BitVec.ofNat 4 p)).length
      if n = 0 then s else (giveLanes m (BitVec.ofNat 4 p) n s).2) s) s

/-- The Active resets an Out peer and releases it to boot, at most three times in any hour; after the third it stays Out. One
that is Out with cause 2 while a firmware commit runs is left running (R336, R344). -/
def resetPeer (m : Mrt) (s : State) : State :=
  let o := otherMrt m
  let x := mrtOf s o
  if x.role ≠ .out ∨ x.booting ∨ x.given ∨ (x.cause = 2 ∧ s.mrt.commit = some 0) then s
  else
    let now := timeNs s
    let recent := x.resets.filter (fun t => decide (now < t + 3600000000000))
    if 3 ≤ recent.length then modMrt o (fun x => { x with given := true }) s
    else
      let s := freeMrt o (modMrt o (fun x => { x with resets := recent ++ [now] }) (holdMrt o s))
      { s with mrt.peerHeld := false }

/-- A Standby arms a claim in its keeper at every tick (R330). -/
def armStandby (m : Mrt) (s : State) : State :=
  modMrt (otherMrt m) (fun x => if x.role = .standby ∧ !x.isHeld then { x with armed := true } else x) s

/-- The other Marionette of the Active, where its role is Standby or Resyncing. -/
def mirrored (s : State) : Option Mrt :=
  match s.mrt.holder with
  | none => none
  | some m =>
    let x := mrtOf s (otherMrt m)
    if (x.role = .standby ∨ x.role = .resyncing) ∧ x.booted then some (otherMrt m) else none

/-- The mirror frame of the tick (R334). -/
def sendFrame (s : State) : State :=
  let s := { s with mrt.tick := s.mrt.tick + 1 }
  if (mirrored s).isSome then emit (.mirror s.mrt.tick) s else s

/-- The work of a tick after its renewal, in the order of R327. -/
def tickWork (m : Mrt) (s : State) : State :=
  let b := timeNs s
  let first := s.mrt.firstTick
  let s := if first then sessionWaits (interruptAll { s with mrt.firstTick := false }) else s
  let s := forAll allWindows settleCmd s
  let s := grantRound s
  let s := checkSet (beginWaiting s)
  let s := faultPolicy b first s
  let s := freeLanes (resumeAsks (settleTrain s))
  let s := armStandby m (resetPeer m s)
  let s := { s with mrt.exercised := s.mrt.exercisedNext
                    mrt.healthFrom := if s.mrt.exercisedNext ∧ !s.mrt.exercised then b else s.mrt.healthFrom }
  sendFrame (settleStep s)

/-- When the next control tick begins: the first time of the tick's grid that has not passed (R327). -/
def tickTime (s : State) : Nat :=
  let now := timeNs s
  if now ≤ s.mrt.nextTick then s.mrt.nextTick else s.mrt.nextTick + (now - s.mrt.nextTick + 19999) / 20000 * 20000

/-- CONTROL_TICK: the Active's next tick of 20 µs, none where its watchdog has taken it out; while it rebuilds its state it only
renews (R225, R327 to R330, R334 to R338,
R344, R376). -/
def execControlTick (s : State) : Host.Outcome State Fault Refusal :=
  .next (
    match s.mrt.holder with
    | none => s
    | some m =>
      if !holderActive s then s
      else
        let t := tickTime s
        let s := renew m { (advanceTo t s) with mrt.nextTick := t + 20000 }
        if s.mrt.rebuild then s else dueReset (tickWork m s))

/-! ### Renewals (R328, R329) -/

/-- A renewal has reached the peer keeper (R328). -/
def received (q : Word) (s : State) : State := { s with mrt.recvSeq := q, mrt.lastRecv := mtime s }

/-- RENEWAL: a renewal reaches the peer keeper by at least one path, and is acknowledged (R327, R328). -/
def execRenewal (seq : Word) (yoyo wires : Bool) (s : State) : Host.Outcome State Fault Refusal :=
  .next (
    match s.mrt.holder with
    | none => s
    | some m =>
      if s.mrt.pendRenewal ≠ some seq ∨ !(yoyo || wires) then s
      else emit (.renewalAck seq) (kick (otherMrt m) (received seq s)))

/-- RENEWAL_ACK: an acknowledgement on either path confirms a renewal, which counts from when it was made (R328). -/
def execRenewalAck (seq : Word) (s : State) : Host.Outcome State Fault Refusal :=
  .next (
    match s.mrt.holder with
    | none => s
    | some m =>
      if s.mrt.pendRenewal ≠ some seq then s
      else
        let s := if s.mrt.recvSeq = seq then s else received seq s
        { s with mrt.rseq := seq, mrt.pendRenewal := none, mrt.unconfRun := 0, mrt.lastRenewal := (mrtOf s m).lastKick })

/-- The other Marionette is held in reset by the Active: Out with cause 5 (R329, R331, R336). -/
def holdPeer (o : Mrt) (s : State) : State :=
  let s := modMrt o (fun x => if x.role = .out then { x with cause := 5 } else x) (mrtOut o 5 (holdMrt o s))
  { s with mrt.peerHeld := true }

/-- PEER_RESET_ASSERT: three renewals in a row unconfirmed: the Active holds the other Marionette, and its renewals then stand
unconfirmed; when the hold does not read back it stops renewing (R329). -/
def execPeerResetAssert (readback : Bool) (s : State) : Host.Outcome State Fault Refusal :=
  .next (
    match s.mrt.holder with
    | none => s
    | some m =>
      if s.mrt.unconfRun < 3 ∨ s.mrt.peerHeld ∨ s.mrt.stopped then s
      else if !readback then { s with mrt.stopped := true }
      else
        let s := holdPeer (otherMrt m) s
        { s with mrt.rseq := s.mrt.pendRenewal.getD s.mrt.rseq, mrt.pendRenewal := none, mrt.unconfRun := 0
                 mrt.lastRenewal := mtime s })

/-- WATCHDOG_EXPIRY: 60 µs after its last kick, a Marionette's watchdog holds it in reset, Out with cause 1 (R327, R336). -/
def execWatchdogExpiry (m : Mrt) (s : State) : Host.Outcome State Fault Refusal :=
  let x := mrtOf s m
  .next (
    if x.role = .out ∨ x.isHeld ∨ !x.booted then s
    else mrtOut m 1 (holdMrt m (advanceTo (x.lastKick.toNat + 60000) s)))

/-! ### The lease changes hands (R330 to R332, R338, R344) -/

/-- Whether Marionette m runs as the hand-over authorisation demands: named, Out with cause 2, on the authorised image (R344). -/
def handOverTo (s : State) (m : Mrt) : Bool :=
  let x := mrtOf s m
  decide (s.mrt.auth = some m ∧ x.role = .out ∧ x.cause = 2 ∧ x.image = s.mrt.authImage) && x.booted && !x.isHeld

/-- No claim can come, or none came within 1 ms: a Fatal fault (R332). -/
def noClaim (s : State) : State := raiseFault 0x0802 13 0 0xFF s.mrt.rseq.toNat s

/-- LEASE_EXPIRY: 100 µs after the last counted renewal the lease lapses; the former Active is Out; with the other Marionette
unable to claim the module enters Fault-held (R330, R332, R333, R336). -/
def execLeaseExpiry (s : State) : Host.Outcome State Fault Refusal :=
  .next (
    match s.mrt.holder with
    | none => s
    | some m =>
      let s := advanceTo (s.mrt.lastRenewal.toNat + 100000) s
      let s := mrtOut m 5 { s with
        mrt.holder := none, mrt.rebuild := false, mrt.peerHeld := false, mrt.expiredAt := some (mtime s), mrt.pendRenewal := none }
      let o := otherMrt m
      let r := (mrtOf s o).role
      if r = .resyncing ∨ (r = .out ∧ s.mrt.auth ≠ some o) then noClaim { s with mrt.expiredAt := none } else s)

/-- CLAIM_GRANT: 140 µs after the last renewal that its keeper received, an armed claim is granted; under a hand-over the new
Active first rebuilds its state (R330, R332, R336, R344). -/
def execClaimGrant (m : Mrt) (s : State) : Host.Outcome State Fault Refusal :=
  .next (
    match s.mrt.expiredAt with
    | none => s
    | some t =>
      let x := mrtOf s m
      let hand := handOverTo s m
      if s.mrt.holder.isSome ∨ !((decide (x.role = .standby) && x.armed) || hand) then s
      else
        let s := advanceTo (max t.toNat (max s.mrt.lastRecv.toNat s.mrt.lastRenewal.toNat + 140000)) s
        let gap := (timeNs s - t.toNat) / 1000
        let s := takeLease m true { s with
          mrt.nohold := BitVec.ofNat 16 (max s.mrt.nohold.toNat (min gap 65535))
          mrt.rseq := s.mrt.recvSeq + 1, mrt.recvSeq := s.mrt.recvSeq + 1, mrt.takeovers := s.mrt.takeovers + 1 }
        { s with mrt.rebuild := hand, rst.handover := s.rst.handover && !hand })

/-- CLAIM_TIMEOUT: no claim has been granted 1 ms after expiry: a Fatal fault, and Fault-held (R332). -/
def execClaimTimeout (s : State) : Host.Outcome State Fault Refusal :=
  .next (
    match s.mrt.expiredAt with
    | none => s
    | some t => if s.mrt.holder.isSome then s else noClaim { (advanceTo (t.toNat + 1000000) s) with mrt.expiredAt := none })

/-- REBUILD_DONE: the new-version Active has rebuilt its state; its first tick follows (R338, R344). -/
def execRebuildDone (s : State) : Host.Outcome State Fault Refusal :=
  .next (if s.mrt.rebuild ∧ s.mrt.holder.isSome then { s with mrt.rebuild := false, mrt.firstTick := true, mrt.nextTick := timeNs s } else s)

/-! ### Boots (R331, R335, R336, R342, R344) -/

/-- A Marionette that has booted beside an Active: Resyncing with the Active's version, else Out with cause 2 (R331, R335,
R336). -/
def joinActive (m : Mrt) (s : State) : State :=
  let same := decide ((mrtOf s m).version = (mrtOf s (otherMrt m)).version)
  if same then
    modMrt m (fun x => { x with role := .resyncing, cause := 0, copied := 0, lastKick := mtime s }) { s with mrt.lastAck := mtime s }
  else modMrt m (fun x => if x.role = .out then { x with cause := 2 } else x) (mrtOut m 2 s)

/-- The first claim after a reset: the other Marionette, where it has booted, starts in Resyncing (R331). -/
def firstClaim (m : Mrt) (s : State) : State :=
  let s := takeLease m false s
  if (mrtOf s (otherMrt m)).booted then joinActive (otherMrt m) s else s

/-- MARIONETTE_BOOT_DONE: a Marionette has booted: with no holder since reset, Marionette 0 claims at once and Marionette 1
waits; else it joins the Active. One whose boot failed is Out with cause 7 (R331, R336, R344). -/
def execMarionetteBootDone (m : Mrt) (ok : Bool) (s : State) : Host.Outcome State Fault Refusal :=
  let x := mrtOf s m
  .next (
    if !x.booting ∨ x.isHeld ∨ s.sec.stage.toNat < 4 then s
    else if !ok then
      endCommit m (modMrt m (fun x => { x with booting := false, cause := if x.cause = 0 then 7 else x.cause })
        (mrtOut m 7 s))
    else
      let s := loadMrt m (if s.mrt.claimed then noteRefused [0, 3] s else s)
      let s := modMrt m (fun x => { x with booting := false, booted := true, bootAt := timeNs s, lastKick := mtime s }) s
      match s.mrt.holder with
      | some _ => endCommit m (joinActive m s)
      | none => if m = .m0 ∧ !s.mrt.claimed then settleStep (firstClaim m s) else s)

/-- INITIAL_CLAIM_TIMEOUT: the lease is still free 20 ms after Marionette 1 booted: it holds Marionette 0 in reset and claims
(R331). -/
def execInitialClaimTimeout (s : State) : Host.Outcome State Fault Refusal :=
  let x := s.mrt.m1
  .next (
    if s.mrt.holder.isSome ∨ s.mrt.claimed ∨ !x.booted ∨ x.isHeld then s
    else
      let s := advanceTo (x.bootAt + 20000000) s
      settleStep (firstClaim .m1 (holdPeer .m0 s)))

/-! ### Mirroring (R334 to R337) -/

/-- A whole frame reaches a Resyncing Marionette; after 1,928 it is Standby (R335). -/
def resyncFrame (o : Mrt) (tick : Nat) (s : State) : State :=
  let s := modMrt o (fun x => { x with copied := x.copied + 1 }) { s with mrt.lastFrame := tick }
  if (mrtOf s o).copied < 1928 then s
  else modMrt o (fun x => { x with role := .standby })
    { s with mrt.resyncs := s.mrt.resyncs + 1, mrt.healthFrom := timeNs s }

/-- MIRROR_FRAME: the Standby applies and acknowledges a whole frame in sequence, else it is Resyncing; a Resyncing Marionette
copies on; one of another version is Out with cause 2 (R334 to R336). -/
def execMirrorFrame (tick : Nat) (ver : BitVec 48) (crcOk : Bool) (s : State) : Host.Outcome State Fault Refusal :=
  .next (
    match s.mrt.holder with
    | none => s
    | some m =>
      let o := otherMrt m
      let x := mrtOf s o
      if x.role ≠ .standby ∧ x.role ≠ .resyncing ∨ !x.booted then s
      else if crcOk ∧ ver ≠ x.version then mrtOut o 2 s
      else if x.role = .resyncing then (if crcOk then emit (.frameAck tick) (resyncFrame o tick s) else s)
      else if crcOk ∧ tick = s.mrt.lastFrame + 1 then emit (.frameAck tick) { s with mrt.lastFrame := tick }
      else modMrt o (fun x => { x with role := .resyncing, armed := false, copied := 0 }) s)

/-- FRAME_ACK: the Active has an acknowledgement (R334). -/
def execFrameAck (s : State) : Host.Outcome State Fault Refusal := .next { s with mrt.lastAck := mtime s }

/-- ACK_TIMEOUT: 1 ms without an acknowledgement: the peer is Out with cause 4 (R334, R336). -/
def execAckTimeout (s : State) : Host.Outcome State Fault Refusal :=
  .next (
    match mirrored s with
    | none => s
    | some o => mrtOut o 4 (advanceTo (s.mrt.lastAck.toNat + 1000000) s))

/-- The Standby, in Exercised mode. -/
def exercisedMrt (s : State) : Option Mrt := if s.mrt.exercised then standbyMrt s else none

/-- HEALTH_REPORT: a report of the Exercised Standby: one that records a failure makes it Out with cause 3 (R336, R337). -/
def execHealthReport (pass : Bool) (s : State) : Host.Outcome State Fault Refusal :=
  .next (
    match exercisedMrt s with
    | none => s
    | some o =>
      let s := { s with mrt.healthPass := pass, mrt.healthAt := some (mtime s), mrt.healthFrom := timeNs s }
      if pass then s else mrtOut o 3 s)

/-- HEALTH_TIMEOUT: 300 ms without a report of the Exercised Standby: it is Out with cause 3 (R336, R337). -/
def execHealthTimeout (s : State) : Host.Outcome State Fault Refusal :=
  .next (
    match exercisedMrt s with
    | none => s
    | some o => mrtOut o 3 (advanceTo (s.mrt.healthFrom + 300000000) s))

/-- MRT_CFG: EXERCISED, which takes effect at the next tick (R337, R346, R347). -/
def execMrtCfg (v : Word) (s : State) : Host.Outcome State Fault Refusal := .next { s with mrt.exercisedNext := v.getLsbD 0 }

end Sys2Proof.Machine
end

