-- ==== Sys2Proof/Machine/Sideband.lean ====
section
/-! DEFINITION. The sideband: readback checks and the SMBus interface (R387, R392 to R394), with the registers it reads (R313,
R366, R382). -/

namespace Sys2Proof.Machine

open Sys2Proof

/-! ### Registers (R313, R366, R382) -/

/-- The highest class of a list of uncleared records (R382). -/
def highestClass (rs : List FaultRec) : Nat := rs.foldl (fun n r => max n r.high.toNat) 0

/-- FLT_STAT (R382). -/
def regFltStat (s : State) : Word :=
  let rs := uncleared s.flt
  let num (k : Nat) : Nat := (rs.filter (fun r => decide (r.high.toNat = k))).length
  BitVec.ofBool (faultAssert s.flt) ++ BitVec.ofBool s.flt.line ++ BitVec.ofNat 2 (highestClass rs)
    ++ BitVec.ofNat 8 (min (num 2) 255) ++ BitVec.ofNat 10 (min (num 1) 1023) ++ (0 : BitVec 1) ++ s.flt.newest

/-- REARM_LEFT: what is left of the rearm delay, in units of 10 ms, rounded down (R309, R313). -/
def rearmLeft (s : State) : Nat :=
  if s.las.rearm then (s.las.rearmStart.toNat + 1000000000 - timeNs s) / 10000000 else 0

/-- LAS_INTLK (R313). -/
def regIntlk (s : State) : Word :=
  BitVec.ofBool s.las.off ++ BitVec.ofBool s.las.latch ++ BitVec.ofBool s.las.rearm ++ BitVec.ofBool s.las.bClosed
    ++ BitVec.ofBool s.las.aClosed ++ (0 : BitVec 3) ++ s.las.bMa ++ s.las.aMa ++ BitVec.ofNat 8 (rearmLeft s)

/-- MOD_SUPPLY (R391). -/
def regSupply (s : State) : Word :=
  BitVec.ofBool s.pwr.mainOk ++ BitVec.ofBool s.pwr.holdup ++ (0 : BitVec 14) ++ s.pwr.droops

/-! ### Readback (R374, R393) -/

/-- Mismatches of an output in a row; the fault at the second (R393). -/
def checkOutput (n : Nat) (bad : Bool) (s : State) : State :=
  let k := if bad then min 3 (look s.side.mismatch n 0 + 1) else 0
  let s := { s with side.mismatch := put s.side.mismatch n k 0 }
  if k = 2 then raiseFault 0x0105 13 0 0xFF n s else s

/-- READBACK_CHECK: the check of every 1 ms: an open-drain output driven low must read low, LASER_ON must read as it is driven
(R382, R393). -/
def execReadbackCheck (faultLow alertLow laserHigh : Bool) (s : State) : Host.Outcome State Fault Refusal :=
  .next (
    if !s.pwr.auxOn then s
    else
      let due := (max (s.side.checkAt + 1) (timeNs s) + 999999) / 1000000 * 1000000
      let s := advanceTo due s
      let s := { s with side.checkAt := due, flt.line := faultLow }
      let drives := faultAssert s.flt
      let s := checkOutput 0 (drives && !faultLow) s
      let s := checkOutput 1 (decide (s.side.alerts ≠ 0) && !alertLow) s
      checkOutput 2 (decide (s.side.laserOn ≠ laserHigh)) s)

/-! ### SMBus (R225, R394) -/

/-- Whether the interface answers a transaction: its PEC is right, and release step 2 has ended (R394). -/
def smbAnswers (pec : Bool) (s : State) : Bool := pec && s.pwr.auxOn && decide (2 ≤ s.rst.step.toNat)

/-- A block read: its bytes, or NACK. -/
def smbReads (pec : Bool) (bs : State → List Byte) (s : State) : State :=
  if smbAnswers pec s then emit (.smbRead (bs s)) s else emit .smbNack s

/-- A block write of opcode op: NACKed while a write has not ended; accepted and counted; without a lease holder it stays busy;
else it acts, and its status is that of the command it stands for (R394). -/
def smbWrites (pec : Bool) (op : Nat) (act : State → Nat × State) (s : State) : State :=
  if !smbAnswers pec s ∨ s.side.smbStatus = 1 then emit .smbNack s
  else
    let s := emit .smbAck { s with side.smbWrites := s.side.smbWrites + 1, side.smbStatus := 1 }
    if !mrtServes s then s
    else
      let r := if !serviceAllows s .pf op then (0x16, s) else act s
      { r.2 with side.smbStatus := BitVec.ofNat 16 r.1 }

/-- IDENTITY: MOD_BUILD and the serial (R394). -/
def execIdentity (pec : Bool) (s : State) : Host.Outcome State Fault Refusal :=
  .next (smbReads pec (fun s => leBytes 4 (regBuild s).toNat ++ leBytes 8 s.ident.serial.toNat) s)

/-- STATUS: service state, FLT_STAT, LAS_INTLK and MOD_SUPPLY (R394). -/
def execStatus (pec : Bool) (s : State) : Host.Outcome State Fault Refusal :=
  .next (smbReads pec (fun s => leBytes 4 s.rst.service.code ++ leBytes 4 (regFltStat s).toNat ++ leBytes 4 (regIntlk s).toNat
    ++ leBytes 4 (regSupply s).toNat) s)

/-- DECLARE: acts as GROUP_DECLARE (R260, R394). -/
def execDeclare (gn gid : Byte) (pec : Bool) (s : State) : Host.Outcome State Fault Refusal :=
  .next (smbWrites pec 0x0500 (fun s =>
    if !declOk s gn.toNat gid.toNat then (0x11, s)
    else if s.shows ≠ [] then (0x28, s)
    else (0, declare gn.toNat gid.toNat s)) s)

/-- RESET: acts as MODULE_RESET (R228, R362, R394). -/
def execReset (key : Word) (pec : Bool) (s : State) : Host.Outcome State Fault Refusal :=
  .next (smbWrites pec 0x0102 (fun s =>
    if key ≠ 0x5EC0DE01 then (0x11, s) else (0, resetSoon s)) s)

/-- RESULT: the status of the last write and the writes accepted (R394). -/
def execResult (pec : Bool) (s : State) : Host.Outcome State Fault Refusal :=
  .next (smbReads pec (fun s => leBytes 2 s.side.smbStatus.toNat ++ leBytes 2 s.side.smbWrites.toNat) s)

end Sys2Proof.Machine
end

