-- ==== Sys2Proof/Machine/RegMap.lean ====
section
/-! DEFINITION. The register map: what a read of each offset of PF BAR0, of a partition view and of a doorbell page returns, and
which registers are the low words of wide counters (R3, R7, R9, R10, R14, R20, R60 to R65, R86 to R88, R107 to R109, R145 to
R147, R159, R187, R188, R195, R201, R219, R242 to R244, R246, R259, R287 to R289, R312, R313, R325, R326, R346, R347, R365, R366,
R381, R382, R391, R401, R402). -/

namespace Sys2Proof.Machine

open Sys2Proof

/-! ### Zoetrope windows (R60 to R65, R86 to R88, R107 to R109, R159) -/

/-- The code of a queue's state (R63). -/
def QState.code : QState → Nat
  | .idle => 0 | .running => 1 | .halted => 2 | .error => 3

/-- ZOE_QSTATn (R63). -/
def regQstat (r : StreamSt) : Word := BitVec.ofNat 2 r.qstate.code ++ r.err ++ (0 : BitVec 10) ++ r.pos

/-- ZOE_SCN_STAT: the threads that have a ready Scene, those whose next Scene's condition is not met, and the running Scene
(R155, R159). -/
def regScnStat (s : State) (z : Nat) : Word :=
  let x := zoe s z
  let p := (quadPart s z).getD 0
  let idle (t : Nat) : Bool := (threadOf x t).used && !(threadOf x t).running && !(threadOf x t).halted
  let met (t : Nat) : Bool := sceneMet s z p t
  let ready (t : Nat) : Bool := met t && decide (readyAt x t ((threadOf x t).metAt.getD (timeNs s)) ≤ timeNs s)
  let mask (f : Nat → Bool) : Nat := ((List.range 8).map (fun t => if f t then 2 ^ t else 0)).sum
  let now := (List.range 8).find? (fun t => (threadOf x t).running)
  BitVec.ofNat 8 (mask (fun t => idle t && ready t)) ++ BitVec.ofNat 8 (mask (fun t => idle t && !met t))
    ++ BitVec.ofBool now.isSome ++ BitVec.ofNat 3 (now.getD 0) ++ (0 : BitVec 2)
    ++ (match now with
      | some t => (threadOf x t).scene
      | none => 0)

/-- A ZOE_DEAD entry (R64). -/
def regDead (x : Zoe) (i : Nat) : Word :=
  match x.dead[i]? with
  | some e => (1 : BitVec 1) ++ (0 : BitVec 14) ++ BitVec.ofNat 9 e.1 ++ (0 : BitVec 1) ++ BitVec.ofNat 7 e.2
  | none => 0

/-- The elements that trim engine e serves (R91). -/
def engElems (e : Nat) : Nat := if e = 0 then 4210 else if e < 4 then 4209 else 4208

/-- The wide counters of a Zoetrope window by the offset of their low words (R65, R88, R109, R159). -/
def zoeWide (x : Zoe) (o : Nat) : Option Nat :=
  let p := x.prec
  let t := x.trim
  match o with
  | 0x20 => some x.cWin.toNat
  | 0x28 => some x.cSat.toNat
  | 0x30 => some x.cUnderrun.toNat
  | 0x38 => some x.cReflate.toNat
  | 0x40 => some x.cNolight.toNat
  | 0x48 => some x.cClamp.toNat
  | 0x60 => some x.scn.starts.toNat
  | 0x68 => some x.scn.lost.toNat
  | 0x70 => some x.scn.stray.toNat
  | 0x78 => some x.scn.rerun.toNat
  | 0x30020 => some t.gaps.toNat
  | 0x30028 => some t.gapForced.toNat
  | 0x30030 => some t.passes.toNat
  | 0x30038 => some t.gapSym.toNat
  | 0x30040 => some t.runSym.toNat
  | 0x30048 => some t.clamp.toNat
  | _ =>
    if 0x2C020 ≤ o ∧ o < 0x2C080 ∧ o % 8 = 0 then (precCounts p)[(o - 0x2C020) / 8]?
    else if 0x2C100 ≤ o ∧ o < 0x2C180 ∧ o % 8 = 0 then some (look p.hist ((o - 0x2C100) / 8) 0).toNat
    else none

/-- The registers of a Zoetrope window that are not wide counters; offsets without one read as 0 (R60 to R64, R86, R87, R107,
R108, R159). -/
def zoeReg (s : State) (z o : Nat) : Word :=
  let x := zoe s z
  let p := x.prec
  let t := x.trim
  match o with
  | 0x00 => regZoeState x
  | 0x04 => (0 : BitVec 15) ++ BitVec.ofBool x.modeApplied ++ (0 : BitVec 15) ++ BitVec.ofBool x.modeReq
  | 0x08 => x.spare
  | 0x0C => (0 : BitVec 30) ++ BitVec.ofBool x.halt1 ++ BitVec.ofBool x.halt0
  | 0x10 => regQstat x.st0
  | 0x14 => regQstat x.st1
  | 0x18 => (0 : BitVec 25) ++ x.detpwr
  | 0x50 => regScnStat s z
  | 0x54 => x.scn.wmax
  | 0x58 => x.scn.showId
  | 0x2C000 => p.cntGap ++ p.thrFence ++ p.thrGap ++ p.thrFlag
  | 0x2C004 => (0 : BitVec 7) ++ BitVec.ofBool p.mix ++ (0 : BitVec 3) ++ p.audLog ++ (0 : Byte) ++ p.cntFence
  | 0x2C008 => (0 : BitVec 16) ++ p.phase
  | 0x2C00C => regGapAge s x
  | 0x2C010 => (0 : BitVec 16) ++ x.st1.weeLast ++ x.st0.weeLast
  | 0x2C080 => (0 : BitVec 16) ++ p.audMax
  | 0x30000 => regTrimState (timeNs s) x
  | 0x30004 => t.gainAtt ++ t.gainCpl ++ t.gainBal ++ t.gainPh
  | 0x30008 => (0 : BitVec 4) ++ t.hpiBal ++ (0 : BitVec 4) ++ t.hpiPh
  | 0x3000C => t.phRms ++ t.phMax ++ t.balRms ++ t.balMax
  | 0x30010 => (0 : BitVec 14) ++ BitVec.ofNat 18 (t.owed200 / 200)
  | 0x30014 => (0 : BitVec 8) ++ t.gapRun
  | 0x30018 => (0 : BitVec 22) ++ t.passPos
  | 0x3001C => (0 : BitVec 6) ++ t.cplWorst ++ (0 : BitVec 8) ++ t.cplErr
  | _ =>
    if o % 4 ≠ 0 then 0
    else if 0x80 ≤ o ∧ o < 0xA0 then (0 : BitVec 27) ++ (x.outScale.toList.getD ((o - 0x80) / 4) 0)
    else if 0x1000 ≤ o ∧ o < 0x1610 then (0 : BitVec 23) ++ look x.fmap ((o - 0x1000) / 4) 0
    else if 0x2000 ≤ o ∧ o < 0x2100 then regDead x ((o - 0x2000) / 4)
    else if 0x10000 ≤ o ∧ o < 0x28800 then BitVec.ofNat 32 (leNat (readBytes x.predist (o - 0x10000) 4))
    else if 0x2C200 ≤ o ∧ o < 0x2C240 then
      BitVec.ofNat 32 (leNat ((List.range 4).map (fun i => look p.nom (o - 0x2C200 + i) 0xFE)))
    else if 0x30100 ≤ o ∧ o < 0x30140 then
      let e := (o - 0x30100) / 4
      (0 : BitVec 11) ++ BitVec.ofNat 13 (engElems e) ++ look t.engRound e 0
    else if 0x40000 ≤ o then (look x.ram ((o - 0x40000) / 16) 0).extractLsb' (8 * (o % 16)) 32
    else 0

/-! ### Command windows and doorbell pages (R201, R219) -/

/-- The wide counters of a command window (R219). -/
def winWide (x : Window) (o : Nat) : Option Nat :=
  if o = 0x20 then some x.ignored.toNat else if o = 0x28 then some x.done.toNat else none

/-- The registers of a command window (R219). -/
def winReg (x : Window) (o : Nat) : Word :=
  match o with
  | 0x00 => (0 : Byte) ++ x.flags ++ x.opcode
  | 0x04 => (0 : BitVec 20) ++ x.plen
  | 0x08 => x.tag
  | 0x10 => (0 : BitVec 5) ++ x.rlen ++ x.status
  | 0x14 => x.rtag
  | 0x18 => x.elapsed
  | _ =>
    if o % 4 ≠ 0 then 0
    else if 0x40 ≤ o ∧ o < 0x840 then BitVec.ofNat 32 (fieldAt x.params (o - 0x40) 4)
    else if 0x840 ≤ o ∧ o < 0x1000 then BitVec.ofNat 32 (fieldAt x.reply (o - 0x840) 4)
    else 0

/-- The code of a queue pair's state (R201). -/
def QpState.code : QpState → Nat
  | .disabled => 0 | .enabled => 1 | .halted => 2 | .resetting => 3

/-- The wide registers of a doorbell page that latch: the 48-bit counters (R201). -/
def qpWide (x : Queue) (o : Nat) : Option Nat :=
  match o with
  | 0x80 => some x.late.toNat
  | 0x88 => some x.timeouts.toNat
  | 0x90 => some x.dbIgn.toNat
  | 0x98 => some x.cqFull.toNat
  | 0xA0 => some x.outDrop.toNat
  | 0xA8 => some x.rateWait.toNat
  | _ => none

/-- The registers of queue q's doorbell page; SQ_TAIL, CQ_HEAD and QP_RESET are write-only and read as 0 (R7, R201). -/
def qpReg (s : State) (q o : Nat) : Word :=
  let x := queue s q
  match o with
  | 0x40 => (0 : BitVec 4) ++ x.haltCause ++ (0 : BitVec 4) ++ BitVec.ofNat 4 ((queuePart s q).getD 0) ++ (0 : BitVec 14)
      ++ BitVec.ofNat 2 x.state.code
  | 0x44 => (0 : BitVec 16) ++ x.sqHead
  | 0x48 => (0 : BitVec 15) ++ BitVec.ofBool x.phase ++ x.cqTail
  | 0x4C => x.seq
  | 0x50 => x.sqLog ++ x.cqLog ++ x.vector ++ (0 : BitVec 11)
  | 0x54 => (0 : BitVec 7) ++ x.ithr ++ (0 : BitVec 6) ++ x.itime
  | 0x58 => BitVec.ofBool x.pasidEn ++ (0 : BitVec 11) ++ x.pasid
  | 0x5C => (0 : BitVec 16) ++ x.capTag
  | 0x60 => x.rate ++ x.burst
  | 0x68 => x.sqBase.setWidth 32
  | 0x6C => x.sqBase.extractLsb' 32 32
  | 0x70 => x.cqBase.setWidth 32
  | 0x74 => x.cqBase.extractLsb' 32 32
  | _ => 0

/-- A word of a function's MSI-X pending bits (R195). -/
def pbaWord (c : FnCfg) (k : Nat) : Word :=
  BitVec.ofNat 32 (((List.range 32).map (fun i => if c.pendingVec.contains (32 * k + i) then 2 ^ i else 0)).sum)

/-! ### Partitions, security, guests (R244, R246, R259) -/

/-- The lit wavelengths that partition p holds, largest over members: with two or more other members what they hold is their own
word, free up to the budget (R244; log entry 48). -/
def litUsed (s : State) (p : Nat) : Nat :=
  let own := (s.fab.lanes.filter (fun e => decide (e.2.holder.toNat = p ∧ e.2.state = .lit))).length
  if (otherMembers s).length < 2 then own
  else max own ((Config.freeValue (s.free + p)).toNat % ((part s p).litBudget + 1))

/-- The PRT_ registers of partition p (R244). -/
def prtReg (s : State) (p o : Nat) : Word :=
  let x := part s p
  let site := [s.sec.guest0, s.sec.guest1].findIdx? (fun g => g.en && decide (g.part.toNat = p))
  if !x.exist then 0
  else match o with
  | 0x00 => (1 : BitVec 1) ++ BitVec.ofBool (s.host.vfEnable && decide (p < s.host.numVfs)) ++ BitVec.ofBool (showLoaded s p)
      ++ BitVec.ofBool x.delegate ++ BitVec.ofBool x.mix ++ BitVec.ofBool site.isSome ++ BitVec.ofBool (site = some 1)
      ++ (0 : BitVec 25)
  | 0x04 => x.keygen
  | 0x08 => x.quads
  | 0x0C => (0 : BitVec 3) ++ BitVec.ofNat 13 x.qcount ++ (0 : BitVec 4) ++ BitVec.ofNat 12 x.qbase
  | 0x10 => (0 : BitVec 4) ++ BitVec.ofNat 12 x.vecCount ++ (0 : BitVec 3) ++ BitVec.ofNat 13 x.vecBase
  | 0x14 => (0 : BitVec 6) ++ BitVec.ofNat 10 (litUsed s p) ++ (0 : BitVec 6) ++ BitVec.ofNat 10 x.litBudget
  | 0x18 => (0 : BitVec 6) ++ BitVec.ofNat 10 (partWatts s p) ++ (0 : BitVec 6) ++ BitVec.ofNat 10 x.ceil
  | 0x1C => (0 : BitVec 24) ++ BitVec.ofNat 8 (ownedPchs s p).length
  | _ => 0

/-- SEC_STATUS (R246). -/
def regSecStatus (s : State) : Word :=
  BitVec.ofBool s.sec.bootOk ++ BitVec.ofBool s.sec.factory ++ BitVec.ofBool s.sec.debugLocked ++ (0 : BitVec 5) ++ s.sec.stage
    ++ (0 : Byte) ++ s.sec.refused

/-- The registers of a guest firewall (R259). -/
def gstReg (x : Guest) (o : Nat) : Word :=
  match o with
  | 0x00 => BitVec.ofBool x.en ++ BitVec.ofBool x.isHeld ++ x.link ++ x.part ++ x.nvec ++ (0 : BitVec 13)
  | 0x04 => x.wrRate ++ x.rdRate
  | 0x08 => x.reason ++ (0 : BitVec 24)
  | _ =>
    if o % 4 ≠ 0 then 0
    else if 0x40 ≤ o ∧ o < 0xC0 then
      let w : GWindow := look x.wins ((o - 0x40) / 16) {}
      match o / 4 % 4 with
      | 0 => w.base.setWidth 32
      | 1 => BitVec.ofNat 32 (w.base.toNat / 2 ^ 32)
      | 2 => w.size.setWidth 32
      | _ => w.rights.setWidth 32
    else if 0x100 ≤ o ∧ o < 0x140 then BitVec.ofNat 32 (fieldAt x.desc (o - 0x100) 4)
    else 0

/-! ### Marbles, banks, HBM (R145 to R147, R187, R188) -/

/-- MRB_MSTAT of a Marble (R146). -/
def regMstat (s : State) (n : Nat) : Word :=
  let m := marble s n
  (1 : BitVec 1) ++ m.cause ++ m.pc ++ m.code ++ (0 : BitVec 3) ++ BitVec.ofNat 3 m.outst.length ++ m.mflags

/-- MRB_OWN of a bank (R188). -/
def regOwn (s : State) (n : Nat) : Word :=
  let b := bank s n
  let st : Nat × Bool := match b with
    | .free => (0, false)
    | .owned _ => (1, false)
    | .scrubbing _ _ => (2, false)
    | .retired _ => (2, true)
  (1 : BitVec 1) ++ BitVec.ofBool st.2 ++ BitVec.ofNat 2 st.1 ++ (0 : Byte) ++ bankTag b

/-- The wide counters of the MRB_ area by offset from 0x0300_0000 (R145, R147, R187). -/
def mrbWide (s : State) (o : Nat) : Option Nat :=
  if o % 8 ≠ 0 then none
  else if o = 0x20 then some s.mrb.traps.toNat
  else if 0x200 ≤ o ∧ o < 0x260 then some (look s.mrb.drops ((o - 0x200) / 8) 0).toNat
  else if o = 0x260 then some s.mrb.dropF.toNat
  else if 0x1000 ≤ o ∧ o < 0x2000 then some (look s.mrb.bagSum ((o - 0x1000) / 8) 0).toNat
  else if 0x80000 ≤ o ∧ o < 0x100000 then some (look s.mrb.clSum ((o - 0x80000) / 8) 0).toNat
  else none

/-- The other registers of the MRB_ area (R145, R146, R187, R188). -/
def mrbReg (s : State) (o : Nat) : Word :=
  match o with
  | 0x00 => s.mrb.cntSel
  | 0x04 => s.mrb.cntVal.setWidth 32
  | 0x08 => BitVec.ofBool s.mrb.cntValid ++ (0 : BitVec 15) ++ s.mrb.cntVal.extractLsb' 32 16
  | 0x10 => s.mrb.msel
  | 0x14 => s.mrb.mstat
  | 0x100 => s.mrb.ownSel
  | 0x104 => s.mrb.own
  | _ => 0

/-- HBM_PCHn; a released pseudo-channel shows its zeroing too (R172, R188). -/
def regPch (s : State) (c : Nat) : Word :=
  let x := pch s c
  if !x.valid then (0 : BitVec 31) ++ BitVec.ofBool x.zeroing
  else (1 : BitVec 1) ++ (0 : BitVec 3) ++ x.part ++ BitVec.ofNat 8 ((ownedPchs s x.part.toNat).findIdx (· == c)) ++ (0 : BitVec 15)
    ++ BitVec.ofBool x.zeroing

/-- The wide counters of the HBM_ area by offset from 0x0310_0000 (R187). -/
def hbmWide (s : State) (o : Nat) : Option Nat :=
  let stack := hstack s ((o - 0x400) / 16)
  if 0x400 ≤ o ∧ o < 0x460 ∧ o % 16 = 0 then some stack.ce.toNat
  else if 0x400 ≤ o ∧ o < 0x460 ∧ o % 16 = 8 then some stack.ue.toNat
  else match o with
  | 0x500 => some s.hbm.rlcEast.hit.toNat
  | 0x508 => some s.hbm.rlcEast.miss.toNat
  | 0x510 => some s.hbm.rlcEast.inv.toNat
  | 0x520 => some s.hbm.rlcWest.hit.toNat
  | 0x528 => some s.hbm.rlcWest.miss.toNat
  | 0x530 => some s.hbm.rlcWest.inv.toNat
  | _ => none

/-- The other registers of the HBM_ area (R187, R188). -/
def hbmReg (s : State) (o : Nat) : Word :=
  if o % 4 ≠ 0 then 0
  else if o < 0x18 then
    let x := hstack s (o / 4)
    BitVec.ofBool x.up ++ BitVec.ofBool x.refx2 ++ (0 : BitVec 6) ++ x.temp ++ x.rfm
  else if 0x40 ≤ o ∧ o < 0x340 then regPch s ((o - 0x40) / 4)
  else if 0x600 ≤ o ∧ o < 0x630 then (0 : BitVec 16) ++ look s.hbm.ways ((o - 0x600) / 4) 0
  else 0

/-! ### Fabric, lasers, lanes, die links (R287 to R289, R312, R313, R325, R326) -/

/-- FAB_PEERm word 0 (R288). -/
def regPeer (s : State) (m : Nat) : Word :=
  let x := peer s m
  (slotOf s m).code ++ BitVec.ofBool x.ctrlUp ++ x.phase ++ (0 : BitVec 2) ++ x.refused ++ (0 : BitVec 6)
    ++ BitVec.ofNat 10 (if isPartner s m then (litLanes s m).length else 0)

/-- The fabric counters (R289). -/
def fabWide (s : State) (o : Nat) : Option Nat :=
  let f := s.fab
  let all : List DWord := [f.ptx, f.prx, f.deadline, f.refused, f.dup, f.stale, f.late, f.retx, f.cwCorr, f.cwBad, f.skipAdj, f.credErr,
    f.trainFail]
  if 0x400 ≤ o ∧ o % 8 = 0 then (all[(o - 0x400) / 8]?).map (·.toNat) else none

/-- The other fabric registers by offset from 0x0200_0000 (R288). -/
def fabReg (s : State) (o : Nat) : Word :=
  match o with
  | 0x00 => BitVec.ofBool s.fab.declared ++ BitVec.ofBool s.fab.front ++ (0 : BitVec 7) ++ s.fab.gn ++ (0 : BitVec 10) ++ s.fab.gid
  | 0x04 => s.fab.epoch
  | 0x08 => (0 : BitVec 19) ++ s.fab.dl
  | 0x10 => (gtime s).setWidth 32
  | 0x14 => s.ident.gtimeHi
  | 0x18 => s.fab.missed ++ s.fab.corr
  | _ =>
    if 0x100 ≤ o ∧ o < 0x300 ∧ o % 8 = 0 then regPeer s ((o - 0x100) / 8)
    else if 0x100 ≤ o ∧ o < 0x300 ∧ o % 8 = 4 then (0 : BitVec 16) ++ (peer s ((o - 0x100) / 8)).rtt
    else 0

/-- The code of a laser source's state (R313). -/
def SrcState.code : SrcState → Nat
  | .off => 0 | .standby => 1 | .starting => 2 | .inService => 3 | .failed => 4

/-- LAS_SRCn (R313). -/
def regSrc (x : Source) : Word :=
  BitVec.ofNat 3 x.state.code ++ BitVec.ofBool x.degrading ++ (0 : BitVec 4) ++ x.slot ++ (0 : BitVec 3) ++ x.out

/-- LAS_HALFh; a source that the interlock holds off is still in service (R290, R308, R313). -/
def regHalf (s : State) (h : Nat) : Word :=
  (0 : BitVec 21) ++ BitVec.ofNat 3 (laserCount s h) ++ (0 : BitVec 1) ++ BitVec.ofNat 7 (detCeil s h)

/-- The wide counters of the lasers (R312). -/
def lasWide (s : State) (o : Nat) : Option Nat :=
  match o with
  | 0x20 => some s.las.opens.toNat
  | 0x28 => some s.las.disagree.toNat
  | 0x30 => some s.las.swaps.toNat
  | _ => none

/-- The other laser registers by offset from 0x0200_1000 (R312, R313). -/
def lasReg (s : State) (o : Nat) : Word :=
  match o with
  | 0x00 => regIntlk s
  | 0x80 => regHalf s 0
  | 0x84 => regHalf s 1
  | _ => if 0x100 ≤ o ∧ o < 0x178 ∧ o % 4 = 0 then regSrc (source s ((o - 0x100) / 4)) else 0

/-- The code of a lane's state (R313). -/
def LState.code : LState → Nat
  | .dark => 0 | .tuning => 1 | .locking => 2 | .lit => 3 | .draining => 4 | .dormant => 5 | .spared => 6

/-- KAL_LANE (R313). -/
def regLane (s : State) (l : Nat) : Word :=
  let x := lane s l
  BitVec.ofNat 3 x.state.code ++ BitVec.ofBool x.idle ++ BitVec.ofBool x.tested ++ BitVec.ofBool x.underTest ++ (0 : BitVec 3)
    ++ x.slice ++ x.holder ++ x.cause ++ (0 : BitVec 2) ++ BitVec.ofNat 6 ((lanePartner s l).getD 0)

/-- Whether a comb is in service in a comb slot (R293, R313). -/
def combOk (s : State) (slot : Nat) : Bool :=
  (List.range 20).any (fun i => decide ((source s (10 + i)).state = .inService ∧ (source s (10 + i)).slot.toNat = slot))

/-- KAL_CHIPc (R313). -/
def regChip (s : State) (c : Nat) : Word :=
  let spared := ((chipLanes c).filter (fun l => decide ((lane s l).state = .spared))).length
  (0 : BitVec 14) ++ BitVec.ofBool (combOk s (2 * c + 1)) ++ BitVec.ofBool (combOk s (2 * c)) ++ BitVec.ofNat 8 spared
    ++ (0 : BitVec 1) ++ BitVec.ofNat 7 (slicesHeld s c)

/-- The PRBS engine of the selected lane. -/
def prbsOf (s : State) : PrbsEng := look s.fab.prbs s.fab.prbsSel.toNat {}

/-- KAL_PRBS_CTL: generator and checker run while the selected lane is under test (R304, R313; log entry 72). -/
def regPrbsCtl (s : State) : Word :=
  let x := lane s s.fab.prbsSel.toNat
  let on := x.underTest && decide (x.state = .locking)
  BitVec.ofBool on ++ BitVec.ofBool on ++ (3 : BitVec 2) ++ BitVec.ofBool on ++ (0 : BitVec 3) ++ (prbsOf s).injMode
    ++ (prbsOf s).injPeriod

/-- The wide counters of the Kaleidoscopes (R312). -/
def kalWide (s : State) (o : Nat) : Option Nat :=
  match o with
  | 0x2018 => some (prbsOf s).bits.toNat
  | 0x2020 => some (prbsOf s).errs.toNat
  | 0x2028 => some (prbsOf s).inj.toNat
  | 0x2040 => some s.fab.kSpared.toNat
  | 0x2048 => some s.fab.kMarginFail.toNat
  | 0x2050 => some s.fab.kDorm.toNat
  | _ => none

/-- The other Kaleidoscope registers by offset from 0x0201_0000 (R312, R313). -/
def kalReg (s : State) (o : Nat) : Word :=
  match o with
  | 0x2000 => (0 : BitVec 15) ++ BitVec.ofBool s.fab.idleEn ++ (0 : BitVec 6) ++ s.fab.dormMs
  | 0x2010 => (0 : BitVec 22) ++ s.fab.prbsSel
  | 0x2014 => regPrbsCtl s
  | _ =>
    if o < 0x2000 ∧ o % 4 = 0 then
      if o % 0x400 < 0x200 then regLane s (128 * (o / 0x400) + o % 0x400 / 4)
      else if o % 0x400 = 0x200 then regChip s (o / 0x400) else 0
    else 0

/-- D2D_MODh_m (R326). -/
def regUcie (x : Ucie) : Word := x.state ++ BitVec.ofBool x.proto ++ x.repaired ++ (0 : BitVec 9) ++ x.retry

/-- D2D_BONDh: summed over the light die's Zoetropes (R316, R326). -/
def regBond (s : State) (h : Nat) : Word :=
  let sum (m : SMap (BitVec 16)) : Nat := ((List.range 16).map (fun i => (look m (16 * h + i) 0).toNat)).sum
  BitVec.ofNat 16 (min 65535 (sum s.d2d.bondSpares)) ++ BitVec.ofNat 16 (min 65535 (sum s.d2d.bondFailed))

/-- D2D_IHL (R326). -/
def regIhl (s : State) : Word :=
  let up (d : Nat) : Nat := ((List.range 48).filter (fun g => (look s.d2d.groups (48 * d + g) {}).trained)).length
  let spared := (s.d2d.groups.filter (fun e => e.2.spareUsed)).length
  BitVec.ofBool (interHubUp s) ++ (0 : BitVec 7) ++ BitVec.ofNat 8 (min (up 0) (up 1)) ++ BitVec.ofNat 8 spared ++ s.d2d.retrains

/-- The wide counters of the die links (R325; log entry 72). -/
def d2dWide (s : State) (o : Nat) : Option Nat :=
  match o with
  | 0x820 => some s.d2d.ihlCe.toNat
  | 0x828 => some s.d2d.ihlUe.toNat
  | 0x848 => some s.d2d.lbBits.toNat
  | 0x850 => some s.d2d.lbErr.toNat
  | _ => none

/-- The other die-link registers by offset from 0x0320_0000 (R325, R326). -/
def d2dReg (s : State) (o : Nat) : Word :=
  match o with
  | 0x800 => regBond s 0
  | 0x804 => regBond s 1
  | 0x810 => regIhl s
  | 0x840 => (0 : BitVec 1) ++ BitVec.ofBool s.d2d.lbDone ++ BitVec.ofBool s.d2d.lbPass ++ s.d2d.lbPoint ++ BitVec.ofBool s.d2d.lbHalf
      ++ s.d2d.lbModule ++ s.d2d.lbMs
  | _ =>
    if o < 0x800 ∧ o % 4 = 0 ∧ o % 0x400 < 0x104 then regUcie (look s.d2d.mods (65 * (o / 0x400) + o % 0x400 / 4) {}) else 0

/-! ### Marionettes, power, resets, faults, Toybox (R346, R347, R365, R366, R381, R382, R401, R402) -/

/-- The code of a role (R347). -/
def Role.code : Role → Nat
  | .active => 0 | .standby => 1 | .resyncing => 2 | .out => 3

/-- MRT_ROLEm: COPY in 0.1 % of the 1,928 frames (R335, R347). -/
def regRole (x : MrtSt) : Word :=
  BitVec.ofNat 2 x.role.code ++ x.cause ++ BitVec.ofNat 10 (x.copied * 1000 / 1928) ++ (0 : BitVec 16)

/-- The wide counters of the Marionettes (R346). -/
def mrtWide (s : State) (o : Nat) : Option Nat :=
  match o with
  | 0x20 => some s.mrt.takeovers.toNat
  | 0x28 => some s.mrt.unconf.toNat
  | 0x30 => some s.mrt.resyncs.toNat
  | 0x38 => some s.mrt.outs.toNat
  | _ => none

/-- The other Marionette registers (R347). -/
def mrtReg (s : State) (o : Nat) : Word :=
  match o with
  | 0x00 => activeCode s ++ BitVec.ofBool s.mrt.rebuild ++ BitVec.ofBool s.mrt.peerHeld ++ (0 : BitVec 12) ++ s.mrt.nohold
  | 0x04 => s.mrt.rseq
  | 0x08 => regRole s.mrt.m0
  | 0x0C => regRole s.mrt.m1
  | 0x10 => (0 : BitVec 31) ++ BitVec.ofBool s.mrt.exercisedNext
  | 0x14 => BitVec.ofBool s.mrt.healthPass ++ (0 : BitVec 15) ++ (match s.mrt.healthAt with
      | none => 0xFFFF
      | some t => BitVec.ofNat 16 (min 65535 ((timeNs s - t.toNat) / 1000000)))
  | 0x18 => (0 : BitVec 21) ++ BitVec.ofBool s.mrt.allowed ++ BitVec.ofBool s.mrt.restricted ++ s.mrt.manSrc ++ (0 : BitVec 1)
      ++ s.mrt.kalSrc ++ s.mrt.trimSrc ++ s.mrt.mrtSrc
  | _ => 0

/-- PWR_ZPAUSE with what the streams that pause now have waited (R353, R365). -/
def zpauseNow (s : State) : Nat :=
  let one (r : StreamSt) : Nat := if r.paused then (nowSym s - r.pausedAt) / 16 else 0
  s.pwr.zpause.toNat + (s.zoes.map (fun e => one e.2.st0 + one e.2.st1)).sum

/-- The wide counters of power and thermal (R365). -/
def pwrWide (s : State) (o : Nat) : Option Nat :=
  match o with
  | 0x200 => some (zpauseNow s % 2 ^ 48)
  | 0x208 => some s.pwr.mpause.toNat
  | 0x1010 => some s.pwr.suspects.toNat
  | _ => none

/-- PWR_COMMIT: nothing is committed before the first grant round since reset (R350, R366). -/
def regCommit (s : State) : Word :=
  let die := if s.mrt.tick = 0 then 0 else committed s
  (0 : BitVec 6) ++ BitVec.ofNat 10 die ++ (0 : BitVec 6) ++ BitVec.ofNat 10 ((die * s.pwr.conv.toNat + 99) / 100)

/-- PWR_QUADq (R366). -/
def regQuad (s : State) (z : Nat) : Word :=
  let x := quadPwr s z
  BitVec.ofBool x.thrLight ++ BitVec.ofBool x.thrLogic ++ BitVec.ofBool (shortOf s z) ++ (0 : BitVec 1) ++ BitVec.ofNat 4 x.allow
    ++ BitVec.ofNat 4 x.run ++ BitVec.ofNat 4 x.marble ++ BitVec.ofNat 8 (marbleCap x) ++ x.metered

/-- The hub diodes of both halves (R356). -/
def allHub : List Nat := (List.range 8).map (64 + ·) ++ (List.range 8).map (136 + ·)

/-- THM_STAT (R363, R366). -/
def regThm (s : State) : Word :=
  BitVec.ofInt 8 (hottestDeg s [154, 155]) ++ BitVec.ofInt 8 (hottestDeg s allHub) ++ BitVec.ofInt 8 (hottestDeg s allLogic)
    ++ BitVec.ofInt 8 (hottestDeg s allLight)

/-- The other power and thermal registers by offset from 0x0030_0000 (R365, R366). -/
def pwrReg (s : State) (o : Nat) : Word :=
  match o with
  | 0x00 => (0 : BitVec 6) ++ s.pwr.conv ++ (0 : BitVec 6) ++ s.pwr.env
  | 0x04 => (0 : BitVec 6) ++ s.pwr.volt ++ (0 : BitVec 6) ++ s.pwr.pin
  | 0x08 => regCommit s
  | 0x1000 => (0 : BitVec 16) ++ BitVec.ofNat 8 s.mrt.deferred.length ++ (0 : BitVec 6) ++ BitVec.ofBool s.pwr.modeSet
      ++ BitVec.ofBool s.pwr.round
  | 0x1004 => regThm s
  | _ =>
    if o % 4 ≠ 0 then 0
    else if 0x100 ≤ o ∧ o < 0x180 then regQuad s ((o - 0x100) / 4)
    else if 0x1100 ≤ o ∧ o < 0x1370 then
      let x := sensor s ((o - 0x1100) / 4)
      BitVec.ofBool x.suspect ++ BitVec.ofBool x.failed ++ BitVec.ofBool x.near ++ (0 : BitVec 13) ++ BitVec.ofInt 16 x.value
    else 0

/-- The wide counters of the fault collector (R381). -/
def fltWide (s : State) (o : Nat) : Option Nat :=
  match o with
  | 0x110 => some s.flt.nCorr.toNat
  | 0x118 => some s.flt.nCont.toNat
  | 0x120 => some s.flt.nFatal.toNat
  | _ => none

/-- The other reset and fault registers by offset from 0x0020_0000 (R382). -/
def fltReg (s : State) (o : Nat) : Word :=
  match o with
  | 0x00 => s.rst.last ++ (0 : BitVec 12) ++ s.rst.count
  | 0x04 => s.rst.step ++ s.rst.wait ++ s.rst.ms
  | 0x100 => regFltStat s
  | 0x104 => (0 : BitVec 16) ++ s.flt.quiet
  | 0x108 => (0 : BitVec 16) ++ s.flt.recov
  | 0x10C => s.flt.ovf
  | _ => 0

/-- An entry of the reset history; unwritten entries read as zeros (R401). -/
def historyBytes (s : State) (i : Nat) : List Byte :=
  match find s.rst.history i with
  | some e => leBytes 8 e.mtime.toNat ++ [e.source] ++ leBytes 3 0 ++ leBytes 4 e.number.toNat
  | none => leBytes 16 0

/-- A byte of the Toybox: the fault log, the log control, the allowance, the reset history; what firmware keeps in the rest is
open (R343, R373, R375, R401, R402; log entry 72). -/
def toyboxByte (s : State) (o : Nat) : Byte :=
  if o < 0x4000 then (recAt s (o / 32)).getD (o % 32) 0
  else if o < 0x4008 then (leBytes 2 s.flt.newest.toNat ++ leBytes 2 0 ++ leBytes 4 s.flt.ovf.toNat).getD (o - 0x4000) 0
  else if 0x4100 ≤ o ∧ o < 0x4200 then s.mrt.allowance.getD (o - 0x4100) 0
  else if 0x5200 ≤ o ∧ o < 0x5300 then (historyBytes s ((o - 0x5200) / 16)).getD (o % 16) 0
  else (Config.freeValue (s.free + o)).setWidth 8

/-- A dword of the Toybox. -/
def toyboxWord (s : State) (o : Nat) : Word := BitVec.ofNat 32 (leNat ((List.range 4).map (fun i => toyboxByte s (o + i))))

/-- The keepsake registers and the Toybox window by offset from 0x0070_0000 (R372, R373, R381, R382). -/
def tbxReg (s : State) (o : Nat) : Word :=
  if o % 4 ≠ 0 then 0
  else if o < 0x40 then look s.rst.keep (o / 4) 0
  else if o = 0x40 then s.rst.ecc
  else if 0x10000 ≤ o ∧ o < 0x20000 then toyboxWord s (o - 0x10000)
  else 0

/-! ### The maps (R9, R10, R242, R243) -/

/-- Whether the MRB_ area lists an offset from 0x0300_0000 (R145, R187; log entry 72). -/
def mrbListed (o : Nat) : Bool :=
  ([0, 4, 8, 0x10, 0x14, 0x20, 0x24, 0x100, 0x104] : List Nat).contains (4 * (o / 4))
    || decide (0x200 ≤ o ∧ o < 0x268 ∨ 0x1000 ≤ o ∧ o < 0x2000 ∨ 0x80000 ≤ o ∧ o < 0x100000)

/-- Whether a block decodes an offset of PF BAR0; on ZHJ1-L the areas of units that are not fitted decode too, and so do the offsets
of a guest firewall and of a PRT_ set that R244 and R259 do not list (R9; log entry 72). -/
def decoded (o : Nat) : Bool :=
  ([0, 0x10, 0x20, 0x24, 0x34] : List Nat).contains (4 * (o / 4))
    || (decide (0x3000000 ≤ o ∧ o < 0x3100000) && mrbListed (o - 0x3000000))
    || decide (0x8000 ≤ o ∧ o < 0x8400 ∨ 0x9000 ≤ o ∧ o < 0x9008 ∨ 0x100000 ≤ o ∧ o < 0x101000 ∨ 0x200000 ≤ o ∧ o < 0x200128
      ∨ 0x300000 ≤ o ∧ o < 0x301400 ∨ 0x400000 ≤ o ∧ o < 0x400040 ∨ 0x500000 ≤ o ∧ o < 0x500004 ∨ 0x501000 ≤ o ∧ o < 0x501800
      ∨ 0x600000 ≤ o ∧ o < 0x600300 ∨ 0x700000 ≤ o ∧ o < 0x720000 ∨ 0x1000000 ≤ o ∧ o < 0x2001000
      ∨ 0x2001000 ≤ o ∧ o < 0x2001180 ∨ 0x2010000 ≤ o ∧ o < 0x2012060 ∨ 0x3100000 ≤ o ∧ o < 0x3100800
      ∨ 0x3200000 ≤ o ∧ o < 0x3201000)

/-- The low word of a wide counter at an offset of PF BAR0: the counter's value. -/
def pfWide (s : State) (o : Nat) : Option Nat :=
  if 0x100000 ≤ o ∧ o < 0x101000 then winWide (window s .pf) (o - 0x100000)
  else if 0x200000 ≤ o ∧ o < 0x200128 then fltWide s (o - 0x200000)
  else if 0x300000 ≤ o ∧ o < 0x301400 then pwrWide s (o - 0x300000)
  else if 0x400000 ≤ o ∧ o < 0x400040 then mrtWide s (o - 0x400000)
  else if 0x501000 ≤ o ∧ o < 0x501800 then
    (if o % 0x400 = 0x10 then some (guest s ((o - 0x501000) / 0x400)).deny.toNat else none)
  else if 0x1000000 ≤ o ∧ o < 0x2000000 then zoeWide (zoe s ((o - 0x1000000) / 0x80000)) (o % 0x80000)
  else if 0x2000000 ≤ o ∧ o < 0x2001000 then fabWide s (o - 0x2000000)
  else if 0x2001000 ≤ o ∧ o < 0x2001180 then lasWide s (o - 0x2001000)
  else if 0x2010000 ≤ o ∧ o < 0x2012060 then kalWide s (o - 0x2010000)
  else if 0x3000000 ≤ o ∧ o < 0x3100000 then mrbWide s (o - 0x3000000)
  else if 0x3100000 ≤ o ∧ o < 0x3100800 then hbmWide s (o - 0x3100000)
  else if 0x3200000 ≤ o ∧ o < 0x3201000 then d2dWide s (o - 0x3200000)
  else none

/-- A read of PF BAR0 where no wide counter lies. -/
def pfReg (s : State) (o : Nat) : Word :=
  if !decoded o then 0xFFFFFFFF
  else if o = 0 then regBuild s
  else if o = 0x10 then regHalfstat s
  else if o = 0x20 then (mtime s).setWidth 32
  else if o = 0x24 then s.ident.timeHi
  else if o = 0x34 then regSupply s
  else if 0x8000 ≤ o ∧ o < 0x8400 then tableWord (fnCfg s .pf) ((o - 0x8000) / 4)
  else if 0x9000 ≤ o ∧ o < 0x9008 then pbaWord (fnCfg s .pf) ((o - 0x9000) / 4)
  else if 0x100000 ≤ o ∧ o < 0x101000 then winReg (window s .pf) (o - 0x100000)
  else if 0x200000 ≤ o ∧ o < 0x200128 then fltReg s (o - 0x200000)
  else if 0x300000 ≤ o ∧ o < 0x301400 then pwrReg s (o - 0x300000)
  else if 0x400000 ≤ o ∧ o < 0x400040 then mrtReg s (o - 0x400000)
  else if o = 0x500000 then regSecStatus s
  else if 0x501000 ≤ o ∧ o < 0x501800 then gstReg (guest s ((o - 0x501000) / 0x400)) (o % 0x400)
  else if 0x600000 ≤ o ∧ o < 0x600300 then prtReg s ((o - 0x600000) / 0x40) (o % 0x40)
  else if 0x700000 ≤ o ∧ o < 0x720000 then tbxReg s (o - 0x700000)
  else if 0x1000000 ≤ o ∧ o < 0x2000000 then zoeReg s ((o - 0x1000000) / 0x80000) (o % 0x80000)
  else if 0x2000000 ≤ o ∧ o < 0x2001000 then fabReg s (o - 0x2000000)
  else if 0x2001000 ≤ o ∧ o < 0x2001180 then lasReg s (o - 0x2001000)
  else if 0x2010000 ≤ o ∧ o < 0x2012060 then kalReg s (o - 0x2010000)
  else if 0x3000000 ≤ o ∧ o < 0x3100000 then mrbReg s (o - 0x3000000)
  else if 0x3100000 ≤ o ∧ o < 0x3100800 then hbmReg s (o - 0x3100000)
  else if 0x3200000 ≤ o ∧ o < 0x3201000 then d2dReg s (o - 0x3200000)
  else 0

/-- The Zoetrope-window offset that an offset of a Quad view mirrors (R243). -/
def viewOffset (v : Nat) : Option Nat :=
  if v < 0x100 then some v
  else if 0x400 ≤ v ∧ v < 0x800 then some (0x2C000 + v - 0x400)
  else if 0x800 ≤ v ∧ v < 0x940 then some (0x30000 + v - 0x800)
  else if 0xC00 ≤ v ∧ v < 0xD00 then some (0x2000 + v - 0xC00)
  else none

/-- The physical Quad of an offset in the Quad views of partition p (R149, R243). -/
def viewQuad (s : State) (p o : Nat) : Option Nat := (quadsOf s p)[(o - 0x20000) / 0x2000]?

/-- The low word of a wide counter at an offset of a partition view (R186, R219, R242, R243). -/
def vfWide (s : State) (p : Part) (o : Nat) : Option Nat :=
  if o = 0x40 then some (look s.mrb.drops p.val 0).toNat
  else if 0x4000 ≤ o ∧ o < 0x5000 then winWide (window s (.vf p)) (o - 0x4000)
  else if 0x20000 ≤ o ∧ o < 0x60000 then
    (viewQuad s p.val o).bind (fun z =>
      let v := o % 0x2000
      if 0x1000 ≤ v ∧ v < 0x1080 ∧ v % 8 = 0 then some (look s.mrb.bagSum (16 * z + (v - 0x1000) / 8) 0).toNat
      else (viewOffset v).bind (zoeWide (zoe s z)))
  else none

/-- A read of a partition view where no wide counter lies; offsets not listed read as 0 (R242, R243). -/
def vfReg (s : State) (p : Part) (o : Nat) : Word :=
  if o < 0x40 then prtReg s p.val o
  else if 0x4000 ≤ o ∧ o < 0x5000 then winReg (window s (.vf p)) (o - 0x4000)
  else if 0x8000 ≤ o ∧ o < 0x10000 then tableWord (fnCfg s (.vf p)) ((o - 0x8000) / 4)
  else if 0x10000 ≤ o ∧ o < 0x10100 then pbaWord (fnCfg s (.vf p)) ((o - 0x10000) / 4)
  else if 0x20000 ≤ o ∧ o < 0x60000 then
    (match viewQuad s p.val o, viewOffset (o % 0x2000) with
      | some z, some v => zoeReg s z v
      | _, _ => 0)
  else if 0x60000 ≤ o ∧ o < 0x60300 ∧ o % 4 = 0 then
    (match (ownedPchs s p.val)[(o - 0x60000) / 4]? with
      | some c => regPch s c
      | none => 0)
  else 0

/-- The queue whose doorbell page holds an offset of a function's BAR2 (R10, R196). -/
def bar2Queue (s : State) (f : Fn) (o : Nat) : Option Nat := if o / 4096 < 4096 then pageQueue s f (o / 4096) else none

/-- The wide counter whose low word lies at an offset of a function's BAR0 or BAR2. -/
def wideAt (s : State) (f : Fn) (bar2 : Bool) (o : Nat) : Option Nat :=
  if bar2 then (bar2Queue s f o).bind (fun q => qpWide (queue s q) (o % 4096))
  else match f with
  | .pf => pfWide s o
  | .vf p => vfWide s p o

/-- The key of a latched high word. -/
def latchKey (f : Fn) (bar2 : Bool) (o : Nat) : Nat := 2 ^ 27 * winKey f + (if bar2 then 2 ^ 26 else 0) + o

/-- The half of the block that an offset of PF BAR0 reaches; the hubs' own registers are the East hub's (R9, R13; log entry 105). -/
def pfHalf (o : Nat) : Nat :=
  if 0x1800000 ≤ o ∧ o < 0x2000000 ∨ 0x2011000 ≤ o ∧ o < 0x2012000 ∨ 0x501400 ≤ o ∧ o < 0x501800 ∨ 0x3001800 ≤ o ∧ o < 0x3002000
    ∨ 0x30C0000 ≤ o ∧ o < 0x3100000 ∨ 0x3200400 ≤ o ∧ o < 0x3200800 then 1 else 0

/-- The half of the block that an offset of a function's BAR0 reaches. -/
def accessHalf (s : State) (f : Fn) (o : Nat) : Nat :=
  match f with
  | .pf => pfHalf o
  | .vf p => if 0x20000 ≤ o ∧ o < 0x60000 then ((viewQuad s p.val o).getD 0) / 16 else 0

/-- Whether the register at an offset cannot be reached (R13, R321; log entry 105). -/
def accessCut (s : State) (f : Fn) (bar2 : Bool) (o : Nat) : Bool := !bar2 && cutOff s (accessHalf s f o)

/-- What a read of a register returns: the low word of a wide counter, a latched high word, or the register's fields; what one that
cannot be reached returns is free (R7, R9, R13, R65; log entry 105). A read of a low word also latches: COUNTER_LOW_READ. -/
def regRead (s : State) (f : Fn) (bar2 : Bool) (o : Nat) : Word :=
  if accessCut s f bar2 o then (freeVal s).setWidth 32
  else match wideAt s f bar2 o with
  | some v => BitVec.ofNat 32 v
  | none =>
    if 4 ≤ o ∧ (wideAt s f bar2 (o - 4)).isSome then look s.ident.latches (latchKey f bar2 o) 0
    else if bar2 then (bar2Queue s f o).elim 0 (fun q => qpReg s q (o % 4096))
    else match f with
    | .pf => pfReg s o
    | .vf p => vfReg s p o

end Sys2Proof.Machine
end

