-- ==== Sys2Proof/Machine/Registers.lean ====
section
/-! DEFINITION. The commands that read and write registers: latching reads, selections, fabric and lane settings, plain writes,
undecoded accesses and the Toybox (R7, R9, R20, R65, R146, R188, R195, R219, R259, R288, R300, R306, R313, R372, R373). -/

namespace Sys2Proof.Machine

open Sys2Proof

/-! ### Latching reads (R20, R65, R288) -/

/-- MOD_TIME_LO: the low half of module time; the high half is latched (R20). -/
def execModTimeLo (f : Fn) (s : State) : Host.Outcome State Fault Refusal :=
  .next (if f = .pf then emit (.readData f ((mtime s).setWidth 32)) { s with ident.timeHi := (mtime s).extractLsb' 32 32 } else s)

/-- FAB_GTIME_LO: the low half of group time; the high half is latched (R288). -/
def execFabGtimeLo (f : Fn) (s : State) : Host.Outcome State Fault Refusal :=
  .next (if f = .pf then emit (.readData f ((gtime s).setWidth 32)) { s with ident.gtimeHi := (gtime s).extractLsb' 32 32 } else s)

/-- The Bag summary that an offset of a function's BAR0 reads, as Bag and master (R145, R243). -/
def bagSumAt (s : State) (f : Fn) (o : Nat) : Option (Nat × Nat) :=
  match f with
  | .pf => if 0x3001000 ≤ o ∧ o < 0x3002000 then some ((o - 0x3001000) / 32, (o - 0x3001000) / 8 % 4) else none
  | .vf p =>
    let v := o % 0x2000
    if 0x20000 ≤ o ∧ o < 0x60000 ∧ 0x1000 ≤ v ∧ v < 0x1080 then
      (viewQuad s p.val o).map (fun z => (4 * z + (v - 0x1000) / 32, (v - 0x1000) / 8 % 4))
    else none

/-- What time has added to a wide counter before it is read: port waits to the conflict summaries, the wait for rate to a queue's
counter (R127, R200; log entry 100). -/
def counterNow (f : Fn) (bar2 : Bool) (o : Nat) (s : State) : State :=
  if bar2 then (match bar2Queue s f o with
    | some q => modQueue q (refill (timeNs s)) s
    | none => s)
  else match bagSumAt s f o with
  | some b => forAll ((List.range 8192).map (8192 * b.1 + ·)) (portWaits b.2) s
  | none =>
    if f = .pf ∧ 0x3080000 ≤ o ∧ o < 0x3100000 then
      let c := (o - 0x3080000) / 32
      forAll ((List.range 64).map (64 * c + ·)) (portWaits ((o - 0x3080000) / 8 % 4)) s
    else s

/-- COUNTER_LOW_READ: the low word of a wide counter is returned and its high word latched; one that cannot be reached returns a
free value (R13, R65, R88, R109, R145, R147, R159, R187, R201, R219, R289, R312, R314, R325, R346, R365, R381; log entry 105). -/
def execCounterLowRead (f : Fn) (bar2 : Bool) (off : BitVec 26) (s : State) : Host.Outcome State Fault Refusal :=
  .next (
    let s := if (wideAt s f bar2 off.toNat).isSome && fnOn s f && !accessCut s f bar2 off.toNat then counterNow f bar2 off.toNat s else s
    match wideAt s f bar2 off.toNat with
    | none => s
    | some v =>
      if !fnOn s f then s
      else if accessCut s f bar2 off.toNat then emit (.readData f ((freeVal s).setWidth 32)) (useFree s)
      else emit (.readData f (BitVec.ofNat 32 v))
        { s with ident.latches := put s.ident.latches (latchKey f bar2 (off.toNat + 4)) (BitVec.ofNat 32 (v / 2 ^ 32)) 0 })

/-! ### Selections (R146, R188) -/

/-- MRB_CNT_SEL: the selected bank's conflict counter is copied; one that cannot be reached is not, and VALID stays 0 (R13, R127,
R146; log entries 100 and 105). -/
def execMrbCntSel (v : Word) (s : State) : Host.Outcome State Fault Refusal :=
  let n := bitsOf v.toNat 19 0
  let master := bitsOf v.toNat 23 22
  .next (
    if cutOff s (halfOf n) then { s with mrb.cntSel := v &&& 0x00CFFFFF, mrb.cntValid := false }
    else
      let s := portWaits master n s
      { s with
        mrb.cntSel := v &&& 0x00CFFFFF, mrb.cntVal := look s.mrb.conflicts (4 * n + master) 0, mrb.cntValid := true })

/-- MRB_MSEL: MRB_MSTAT shows the selected Marble; one that cannot be reached leaves VALID 0 (R13, R146; log entry 105). -/
def execMrbMsel (v : Word) (s : State) : Host.Outcome State Fault Refusal :=
  let n := bitsOf v.toNat 19 0
  .next { s with mrb.msel := v &&& 0x000FFFFF, mrb.mstat := if cutOff s (halfOf n) then s.mrb.mstat.setWidth 31 |>.setWidth 32 else regMstat s n }

/-- MRB_OWN_SEL: MRB_OWN shows the selected bank; one that cannot be reached leaves VALID 0 (R13, R188; log entry 105). -/
def execMrbOwnSel (v : Word) (s : State) : Host.Outcome State Fault Refusal :=
  let n := bitsOf v.toNat 19 0
  .next { s with mrb.ownSel := v &&& 0x000FFFFF, mrb.own := if cutOff s (halfOf n) then s.mrb.own.setWidth 31 |>.setWidth 32 else regOwn s n }

/-! ### The fabric and the lanes (R282, R288, R300, R301, R306, R313) -/

/-- FAB_DL: a deadline from 1,000 to 8,000 ns is taken and sent to the members, by the front module or a module without a group;
another member takes the value that the front module sends; out of range the write is ignored and recorded (R282, R288). -/
def execFabDl (v : Word) (sent : Bool) (s : State) : Host.Outcome State Fault Refusal :=
  let n := v.toNat % 8192
  let follows := s.fab.declared && !isFront s
  .next (
    if n < 1000 ∨ 8000 < n then (if sent then s else raiseFault 0x0504 13 0 0xFF v.toNat s)
    else if sent ≠ follows then s
    else
      let t := { s with fab.dl := BitVec.ofNat 13 n }
      if sent then t else forAll (otherMembers s) (fun m => emit (.fabDl m (BitVec.ofNat 13 n))) t)

/-- KAL_CTL: IDLE_EN, which cleared ends Idle, and DORM_MS, of which a value above 1,000 is ignored; without Kaleidoscopes there is
nothing to write (R1, R300, R301, R313; log entry 99). -/
def execKalCtl (v : Word) (s : State) : Host.Outcome State Fault Refusal :=
  let ms := v.toNat % 1024
  let en := v.getLsbD 16
  ifFitted s { s with
    fab.idleEn := en, fab.dormMs := if 1000 < ms then s.fab.dormMs else BitVec.ofNat 10 ms
    fab.lanes := if en then s.fab.lanes
      else mapVals s.fab.lanes {} (fun x => { x with idle := false }) }

/-- KAL_PRBS_INJ: the INJ fields of the selected lane, which take a write only while it is under test; reserved modes and a period
of 0 are ignored (R306, R313). -/
def execKalPrbsInj (v : Word) (s : State) : Host.Outcome State Fault Refusal :=
  let l := s.fab.prbsSel.toNat
  let mode := bitsOf v.toNat 23 20
  let period := bitsOf v.toNat 19 0
  .next (
    if !(lane s l).underTest ∨ 2 < mode ∨ (mode = 2 ∧ period = 0) then s
    else { s with fab.prbs := modAt s.fab.prbs l {} (fun e => { e with injMode := BitVec.ofNat 4 mode, injPeriod := BitVec.ofNat 20 period }) })

/-! ### Plain accesses (R7, R9, R195, R219, R259, R372) -/

/-- An access that no block decodes: a read returns all ones; a Corrected fault (R9). -/
def undecoded (o : Nat) (acc : Access) (s : State) : State :=
  let s := raiseFault 0x0101 13 0 0xFF o s
  match acc with
  | .read => emit (.readData .pf 0xFFFFFFFF) s
  | .write => s

/-- UNDECODED_ACCESS: a PF BAR0 access to an offset that no block decodes (R9). -/
def execUndecodedAccess (off : BitVec 26) (acc : Access) (s : State) : Host.Outcome State Fault Refusal :=
  .next (if decoded off.toNat then s else undecoded off.toNat acc s)

/-- A write of a word of a function's MSI-X table; an entry that it unmasks and that is pending is sent (R195). -/
def tableWrite (f : Fn) (k : Nat) (v : Word) (s : State) : State :=
  let v := if k % 4 = 3 then v &&& 1 else if k % 4 = 0 then v &&& 0xFFFFFFFC else v
  let s := modFnCfg f (fun c => { c with table := put c.table k v (tableReset k) }) s
  let vec := k / 4
  if (fnCfg s f).pendingVec.contains vec ∧ !vecMasked (fnCfg s f) vec then
    signalVec f vec (modFnCfg f (fun c => { c with pendingVec := c.pendingVec.filter (· ≠ vec) }) s)
  else s

/-- The parameter bytes of a window with a dword written at byte i (R219). -/
def paramsSet (ps : List Byte) (i : Nat) (v : Word) : List Byte :=
  let ps := ps ++ List.replicate (i + 4 - ps.length) 0
  ps.take i ++ leBytes 4 v.toNat ++ ps.drop (i + 4)

/-- A write to a command window beside CMD_GO: stored, or ignored and counted while a command runs (R219, R221, R227). -/
def windowWrite (w : Fn) (o : Nat) (v : Word) (s : State) : State :=
  if winLocked s w then ignoreWrites w 1 s
  else modWindow w (fun x =>
    if o = 0x00 then { x with opcode := v.setWidth 16, flags := v.extractLsb' 16 8 }
    else if o = 0x04 then { x with plen := v.setWidth 12 }
    else if o = 0x08 then { x with tag := v }
    else if 0x40 ≤ o ∧ o < 0x840 ∧ o % 4 = 0 then { x with params := paramsSet x.params (o - 0x40) v }
    else x) s

/-- A firewall window with word i written; BASE is a multiple of 4,096 (R259; log entry 72). -/
def guestWinSet (x : GWindow) (i : Nat) (v : Word) : GWindow :=
  match i with
  | 0 => { x with base := (x.base.extractLsb' 32 7) ++ (v &&& 0xFFFFF000) }
  | 1 => { x with base := (v.setWidth 7) ++ (x.base.setWidth 32) }
  | 2 => { x with size := v.setWidth 24 }
  | _ => { x with rights := v.setWidth 2 }

/-- A write to a guest firewall's rates or windows, which EN locks (R259). -/
def firewallWrite (g o : Nat) (v : Word) (s : State) : State :=
  let x := guest s g
  if x.en ∨ s.ident.ml ∨ o % 4 ≠ 0 then s
  else if o = 4 then modGuest g (fun x => { x with wrRate := v.extractLsb' 16 16, rdRate := v.setWidth 16 }) s
  else if 0x40 ≤ o ∧ o < 0xC0 then
    modGuest g (fun x => { x with wins := modAt x.wins ((o - 0x40) / 16) {} (fun w => guestWinSet w (o / 4 % 4) v) }) s
  else s

/-- A write to PF BAR0 at an offset without a behaviour of its own (R7, R372). -/
def pfWrite (o : Nat) (v : Word) (s : State) : State :=
  if !decoded o then undecoded o .write s
  else if 0x8000 ≤ o ∧ o < 0x8400 ∧ o % 4 = 0 then tableWrite .pf ((o - 0x8000) / 4) v s
  else if 0x100000 ≤ o ∧ o < 0x101000 ∧ o ≠ 0x10000C then windowWrite .pf (o - 0x100000) v s
  else if 0x501000 ≤ o ∧ o < 0x501800 ∧ o % 0x400 ≠ 0 then firewallWrite ((o - 0x501000) / 0x400) (o % 0x400) v s
  else if 0x700000 ≤ o ∧ o < 0x700040 ∧ o % 4 = 0 then { s with rst.keep := put s.rst.keep ((o - 0x700000) / 4) v 0 }
  else if o = 0x2012010 then { s with fab.prbsSel := v.setWidth 10 }
  else s

/-- A write to a partition view at an offset without a behaviour of its own (R7, R195, R242, R243). -/
def vfWrite (p : Part) (o : Nat) (v : Word) (s : State) : State :=
  if 0x4000 ≤ o ∧ o < 0x5000 ∧ o ≠ 0x400C then windowWrite (.vf p) (o - 0x4000) v s
  else if 0x8000 ≤ o ∧ o < 0x10000 ∧ o % 4 = 0 then tableWrite (.vf p) ((o - 0x8000) / 4) v s
  else s

/-- REGISTER_WRITE: a BAR0 write to a register without a behaviour of its own: stored where it may be written, else ignored, and so
where it cannot be reached (R7, R13; log entries 72 and 105). -/
def execRegisterWrite (f : Fn) (off : BitVec 26) (v : Word) (s : State) : Host.Outcome State Fault Refusal :=
  .next (
    if !fnOn s f || accessCut s f false off.toNat then s
    else match f with
    | .pf => pfWrite off.toNat v s
    | .vf p => vfWrite p off.toNat v s)

/-! ### The Toybox (R373) -/

/-- TOYBOX_WORD_READ: the two dwords of a Toybox word; a corrected error is counted, an uncorrectable one counted and recorded,
with the CODE of a fault record it lies in set to 0xFFFF, and what it reads as is open (R373, R382; log entry 72). -/
def execToyboxWordRead (i : Fin 8192) (ecc : EccResult) (s : State) : Host.Outcome State Fault Refusal :=
  let o := 8 * i.val
  let give (s : State) : State := emit (.readData .pf (toyboxWord s (o + 4))) (emit (.readData .pf (toyboxWord s o)) s)
  .next (
    match ecc with
    | .clean => useFrees 65536 (give s)
    | .corrected =>
      useFrees 65536 (give { s with rst.ecc := s.rst.ecc.extractLsb' 16 16 ++ satInc (s.rst.ecc.setWidth 16) })
    | .uncorrectable =>
      let s := emit (.readData .pf ((Config.freeValue (s.free + 1)).setWidth 32)) (emit (.readData .pf ((freeVal s).setWidth 32)) s)
      let s := useFrees 2 { s with rst.ecc := satInc (s.rst.ecc.extractLsb' 16 16) ++ s.rst.ecc.setWidth 16 }
      let s := if i.val < 2048 then
          { s with flt.log := s.flt.log.map (fun e => if e.1 = i.val / 4 then (e.1, { e.2 with code := 0xFFFF }) else e) }
        else s
      raiseFault 0x0106 13 0 0xFF o s)

end Sys2Proof.Machine
end

