-- ==== Sys2Proof/Machine/Dispatch.lean ====
section
/-! DEFINITION. The one dispatch from a command to its meaning. -/

namespace Sys2Proof.Machine

open Sys2Proof

/-- The effect of a command on everything but the queue. -/
def exec (i : Instr) (s : State) : Host.Outcome State Fault Refusal :=
  match i with
  | .add n f => Sys2Proof.Machine.execAdd n f s
  | .sub n f => Sys2Proof.Machine.execSub n f s
  | .and n f => Sys2Proof.Machine.execAnd n f s
  | .or n f => Sys2Proof.Machine.execOr n f s
  | .xor n f => Sys2Proof.Machine.execXor n f s
  | .sll n f => Sys2Proof.Machine.execSll n f s
  | .srl n f => Sys2Proof.Machine.execSrl n f s
  | .sra n f => Sys2Proof.Machine.execSra n f s
  | .mul n f => Sys2Proof.Machine.execMul n f s
  | .mulh n f => Sys2Proof.Machine.execMulh n f s
  | .min n f => Sys2Proof.Machine.execMin n f s
  | .max n f => Sys2Proof.Machine.execMax n f s
  | .minu n f => Sys2Proof.Machine.execMinu n f s
  | .maxu n f => Sys2Proof.Machine.execMaxu n f s
  | .clz n f => Sys2Proof.Machine.execClz n f s
  | .popc n f => Sys2Proof.Machine.execPopc n f s
  | .addi n f => Sys2Proof.Machine.execAddi n f s
  | .andi n f => Sys2Proof.Machine.execAndi n f s
  | .ori n f => Sys2Proof.Machine.execOri n f s
  | .xori n f => Sys2Proof.Machine.execXori n f s
  | .shi n f => Sys2Proof.Machine.execShi n f s
  | .lui n f => Sys2Proof.Machine.execLui n f s
  | .cmp n f => Sys2Proof.Machine.execCmp n f s
  | .cmpi n f => Sys2Proof.Machine.execCmpi n f s
  | .beq n f => Sys2Proof.Machine.execBeq n f s
  | .bne n f => Sys2Proof.Machine.execBne n f s
  | .blt n f => Sys2Proof.Machine.execBlt n f s
  | .bge n f => Sys2Proof.Machine.execBge n f s
  | .bltu n f => Sys2Proof.Machine.execBltu n f s
  | .bgeu n f => Sys2Proof.Machine.execBgeu n f s
  | .bp n f => Sys2Proof.Machine.execBp n f s
  | .jal n f => Sys2Proof.Machine.execJal n f s
  | .jr n f => Sys2Proof.Machine.execJr n f s
  | .loop n f => Sys2Proof.Machine.execLoop n f s
  | .ldb n f => Sys2Proof.Machine.execLdb n f s
  | .ldbu n f => Sys2Proof.Machine.execLdbu n f s
  | .ldh n f => Sys2Proof.Machine.execLdh n f s
  | .ldhu n f => Sys2Proof.Machine.execLdhu n f s
  | .ldw n f => Sys2Proof.Machine.execLdw n f s
  | .stb n f => Sys2Proof.Machine.execStb n f s
  | .sth n f => Sys2Proof.Machine.execSth n f s
  | .stw n f => Sys2Proof.Machine.execStw n f s
  | .vld n f => Sys2Proof.Machine.execVld n f s
  | .vld2 n f => Sys2Proof.Machine.execVld2 n f s
  | .vst n f => Sys2Proof.Machine.execVst n f s
  | .vst2 n f => Sys2Proof.Machine.execVst2 n f s
  | .vadd n f => Sys2Proof.Machine.execVadd n f s
  | .vsub n f => Sys2Proof.Machine.execVsub n f s
  | .vadds n f => Sys2Proof.Machine.execVadds n f s
  | .vsubs n f => Sys2Proof.Machine.execVsubs n f s
  | .vmin n f => Sys2Proof.Machine.execVmin n f s
  | .vmax n f => Sys2Proof.Machine.execVmax n f s
  | .vminu n f => Sys2Proof.Machine.execVminu n f s
  | .vmaxu n f => Sys2Proof.Machine.execVmaxu n f s
  | .vand n f => Sys2Proof.Machine.execVand n f s
  | .vor n f => Sys2Proof.Machine.execVor n f s
  | .vxor n f => Sys2Proof.Machine.execVxor n f s
  | .vshl n f => Sys2Proof.Machine.execVshl n f s
  | .vshr n f => Sys2Proof.Machine.execVshr n f s
  | .vsar n f => Sys2Proof.Machine.execVsar n f s
  | .vmull n f => Sys2Proof.Machine.execVmull n f s
  | .vmulh n f => Sys2Proof.Machine.execVmulh n f s
  | .vabs n f => Sys2Proof.Machine.execVabs n f s
  | .vsel n f => Sys2Proof.Machine.execVsel n f s
  | .vbc n f => Sys2Proof.Machine.execVbc n f s
  | .vperm n f => Sys2Proof.Machine.execVperm n f s
  | .vmvl n f => Sys2Proof.Machine.execVmvl n f s
  | .vmvh n f => Sys2Proof.Machine.execVmvh n f s
  | .vtol n f => Sys2Proof.Machine.execVtol n f s
  | .vtoh n f => Sys2Proof.Machine.execVtoh n f s
  | .vrsum n f => Sys2Proof.Machine.execVrsum n f s
  | .vsarn n f => Sys2Proof.Machine.execVsarn n f s
  | .vcmp n cond f => Sys2Proof.Machine.execVcmp n cond f s
  | .vdot8 n f => Sys2Proof.Machine.execVdot8 n f s
  | .vdot4 n f => Sys2Proof.Machine.execVdot4 n f s
  | .vdot84 n f => Sys2Proof.Machine.execVdot84 n f s
  | .f8dot n f => Sys2Proof.Machine.execF8dot n f s
  | .bdot n f => Sys2Proof.Machine.execBdot n f s
  | .mxdot n f => Sys2Proof.Machine.execMxdot n f s
  | .bclr n f => Sys2Proof.Machine.execBclr n f s
  | .brd n f => Sys2Proof.Machine.execBrd n f s
  | .brdq n f => Sys2Proof.Machine.execBrdq n f s
  | .bld n f => Sys2Proof.Machine.execBld n f s
  | .vunp4l n f => Sys2Proof.Machine.execVunp4l n f s
  | .vunp4h n f => Sys2Proof.Machine.execVunp4h n f s
  | .vunp5 n f => Sys2Proof.Machine.execVunp5 n f s
  | .vunp6 n f => Sys2Proof.Machine.execVunp6 n f s
  | .vpk4 n f => Sys2Proof.Machine.execVpk4 n f s
  | .vpk5 n f => Sys2Proof.Machine.execVpk5 n f s
  | .vpk6 n f => Sys2Proof.Machine.execVpk6 n f s
  | .vunpf6a n f => Sys2Proof.Machine.execVunpf6a n f s
  | .vunpf6b n f => Sys2Proof.Machine.execVunpf6b n f s
  | .vf8bf n f => Sys2Proof.Machine.execVf8bf n f s
  | .vf8bfh n f => Sys2Proof.Machine.execVf8bfh n f s
  | .vbff8 n f => Sys2Proof.Machine.execVbff8 n f s
  | .fadd n f => Sys2Proof.Machine.execFadd n f s
  | .fsub n f => Sys2Proof.Machine.execFsub n f s
  | .fmul n f => Sys2Proof.Machine.execFmul n f s
  | .fmin n f => Sys2Proof.Machine.execFmin n f s
  | .fmax n f => Sys2Proof.Machine.execFmax n f s
  | .fscale n f => Sys2Proof.Machine.execFscale n f s
  | .fcvtf n f => Sys2Proof.Machine.execFcvtf n f s
  | .fcvti n f => Sys2Proof.Machine.execFcvti n f s
  | .frcp n f => Sys2Proof.Machine.execFrcp n f s
  | .frsq n f => Sys2Proof.Machine.execFrsq n f s
  | .fexp2 n f => Sys2Proof.Machine.execFexp2 n f s
  | .flog2 n f => Sys2Proof.Machine.execFlog2 n f s
  | .fcmp n rel f => Sys2Proof.Machine.execFcmp n rel f s
  | .rldw n urgent f => Sys2Proof.Machine.execRldw n urgent f s
  | .rldv n urgent f => Sys2Proof.Machine.execRldv n urgent f s
  | .rldv2 n urgent f => Sys2Proof.Machine.execRldv2 n urgent f s
  | .rstw n urgent f => Sys2Proof.Machine.execRstw n urgent f s
  | .rstv n urgent f => Sys2Proof.Machine.execRstv n urgent f s
  | .rstv2 n urgent f => Sys2Proof.Machine.execRstv2 n urgent f s
  | .rcpy n urgent f => Sys2Proof.Machine.execRcpy n urgent f s
  | .mpost n slot f => Sys2Proof.Machine.execMpost n slot f s
  | .mwait n f => Sys2Proof.Machine.execMwait n f s
  | .mwaitWake n => Sys2Proof.Machine.execMwaitWake n s
  | .fence n f => Sys2Proof.Machine.execFence n f s
  | .fenceRelease n => Sys2Proof.Machine.execFenceRelease n s
  | .nop n f => Sys2Proof.Machine.execNop n f s
  | .halt n f => Sys2Proof.Machine.execHalt n f s
  | .bar n f => Sys2Proof.Machine.execBar n f s
  | .barRelease c => Sys2Proof.Machine.execBarRelease c s
  | .rdcsr n f => Sys2Proof.Machine.execRdcsr n f s
  | .wrcsr n f => Sys2Proof.Machine.execWrcsr n f s
  | .trap n f => Sys2Proof.Machine.execTrap n f s
  | .remoteCompletion n k lost => Sys2Proof.Machine.execRemoteCompletion n k lost s
  | .clusterRestart c => Sys2Proof.Machine.execClusterRestart c s
  | .windowBoundary z q => Sys2Proof.Machine.execWindowBoundary z q s
  | .idleEnd z q => Sys2Proof.Machine.execIdleEnd z q s
  | .integrationEnd z q late => Sys2Proof.Machine.execIntegrationEnd z q late s
  | .referenceCheck z q => Sys2Proof.Machine.execReferenceCheck z q s
  | .windowDone z q => Sys2Proof.Machine.execWindowDone z q s
  | .expectationSumWrite n z off bytes => Sys2Proof.Machine.execExpectationSumWrite n z off bytes s
  | .expectationHeaderWrite n z slot hdr => Sys2Proof.Machine.execExpectationHeaderWrite n z slot hdr s
  | .auditRecord n z rec => Sys2Proof.Machine.execAuditRecord n z rec s
  | .auditTimeout z q => Sys2Proof.Machine.execAuditTimeout z q s
  | .space01BadAccess n z off acc len => Sys2Proof.Machine.execSpace01BadAccess n z off acc len s
  | .estimateGapTrigger z q => Sys2Proof.Machine.execEstimateGapTrigger z q s
  | .estimateFenceTrigger z q => Sys2Proof.Machine.execEstimateFenceTrigger z q s
  | .gapRuleHoldEnd z q => Sys2Proof.Machine.execGapRuleHoldEnd z q s
  | .runRuleGapTrigger z => Sys2Proof.Machine.execRunRuleGapTrigger z s
  | .idleGapStart z => Sys2Proof.Machine.execIdleGapStart z s
  | .pilotWindowEnd z r => Sys2Proof.Machine.execPilotWindowEnd z r s
  | .trimRound z e us => Sys2Proof.Machine.execTrimRound z e us s
  | .lightLost z => Sys2Proof.Machine.execLightLost z s
  | .lightReturn z => Sys2Proof.Machine.execLightReturn z s
  | .trimConverged z => Sys2Proof.Machine.execTrimConverged z s
  | .trimTimeout z => Sys2Proof.Machine.execTrimTimeout z s
  | .warmingSettled z => Sys2Proof.Machine.execWarmingSettled z s
  | .warmingTimeout z => Sys2Proof.Machine.execWarmingTimeout z s
  | .lightDieRailsRemoved h => Sys2Proof.Machine.execLightDieRailsRemoved h s
  | .fullCalibrationDone z r => Sys2Proof.Machine.execFullCalibrationDone z r s
  | .zoeReconfigDone z r => Sys2Proof.Machine.execZoeReconfigDone z r s
  | .flashWriteResume => Sys2Proof.Machine.execFlashWriteResume s
  | .zoeQctlHalt f z q => Sys2Proof.Machine.execZoeQctlHalt f z q s
  | .zoeQctlResume f z q => Sys2Proof.Machine.execZoeQctlResume f z q s
  | .sceneStart z t => Sys2Proof.Machine.execSceneStart z t s
  | .stepLost z t => Sys2Proof.Machine.execStepLost z t s
  | .dmaRead n z d => Sys2Proof.Machine.execDmaRead n z d s
  | .dmaWrite n z d => Sys2Proof.Machine.execDmaWrite n z d s
  | .xfence n z d => Sys2Proof.Machine.execXfence n z d s
  | .dmaCompletion z k ce ue => Sys2Proof.Machine.execDmaCompletion z k ce ue s
  | .invalidationAck h => Sys2Proof.Machine.execInvalidationAck h s
  | .rfm c bank => Sys2Proof.Machine.execRfm c bank s
  | .handOverRequest n z w0 w1 => Sys2Proof.Machine.execHandOverRequest n z w0 w1 s
  | .scrubComplete b nonzero => Sys2Proof.Machine.execScrubComplete b nonzero s
  | .pchZeroingDone c => Sys2Proof.Machine.execPchZeroingDone c s
  | .sqTail f page v => Sys2Proof.Machine.execSqTail f page v s
  | .cqHead f page v => Sys2Proof.Machine.execCqHead f page v s
  | .qpReset f page v => Sys2Proof.Machine.execQpReset f page v s
  | .queueResetDone q => Sys2Proof.Machine.execQueueResetDone q s
  | .descriptorFetch q => Sys2Proof.Machine.execDescriptorFetch q s
  | .hostReadCompletion tag st bytes => Sys2Proof.Machine.execHostReadCompletion tag st bytes s
  | .completionTimeout tag => Sys2Proof.Machine.execCompletionTimeout tag s
  | .tagQuarantineEnd tag => Sys2Proof.Machine.execTagQuarantineEnd tag s
  | .queueNop q => Sys2Proof.Machine.execQueueNop q s
  | .sessionOpen q => Sys2Proof.Machine.execSessionOpen q s
  | .sessionResume q => Sys2Proof.Machine.execSessionResume q s
  | .sessionPark q => Sys2Proof.Machine.execSessionPark q s
  | .sessionClose q => Sys2Proof.Machine.execSessionClose q s
  | .tokenSubmit q => Sys2Proof.Machine.execTokenSubmit q s
  | .outputFetch q => Sys2Proof.Machine.execOutputFetch q s
  | .fenceDescriptor q => Sys2Proof.Machine.execFenceDescriptor q s
  | .memWrite q => Sys2Proof.Machine.execMemWrite q s
  | .memRead q => Sys2Proof.Machine.execMemRead q s
  | .sessionCopyDone p sid => Sys2Proof.Machine.execSessionCopyDone p sid s
  | .heldCompletionWrite q => Sys2Proof.Machine.execHeldCompletionWrite q s
  | .interruptTimer q => Sys2Proof.Machine.execInterruptTimer q s
  | .busMasterEnableClear f => Sys2Proof.Machine.execBusMasterEnableClear f s
  | .busMasterEnableSet f => Sys2Proof.Machine.execBusMasterEnableSet f s
  | .vfFunctionLevelReset p => Sys2Proof.Machine.execVfFunctionLevelReset p s
  | .flrComplete p => Sys2Proof.Machine.execFlrComplete p s
  | .pfFunctionLevelReset => Sys2Proof.Machine.execPfFunctionLevelReset s
  | .vfEnableChange enable numVfs => Sys2Proof.Machine.execVfEnableChange enable numVfs s
  | .d3hotEntry f => Sys2Proof.Machine.execD3hotEntry f s
  | .cmdGoIgnored w off v => Sys2Proof.Machine.execCmdGoIgnored w off v s
  | .commandTimeout w => Sys2Proof.Machine.execCommandTimeout w s
  | .getIdentity w pk => Sys2Proof.Machine.execGetIdentity w pk s
  | .getService w pk => Sys2Proof.Machine.execGetService w pk s
  | .moduleReset w pk => Sys2Proof.Machine.execModuleReset w pk s
  | .fenceHalf w pk => Sys2Proof.Machine.execFenceHalf w pk s
  | .unfenceHalf w pk => Sys2Proof.Machine.execUnfenceHalf w pk s
  | .blockResetZoetrope w pk => Sys2Proof.Machine.execBlockResetZoetrope w pk s
  | .blockResetBag w pk => Sys2Proof.Machine.execBlockResetBag w pk s
  | .blockResetKaleidoscope w pk => Sys2Proof.Machine.execBlockResetKaleidoscope w pk s
  | .blockResetHbm w pk => Sys2Proof.Machine.execBlockResetHbm w pk s
  | .blockResetGuest w pk => Sys2Proof.Machine.execBlockResetGuest w pk s
  | .blockResetInterhub w pk => Sys2Proof.Machine.execBlockResetInterhub w pk s
  | .blockResetMarionette w pk => Sys2Proof.Machine.execBlockResetMarionette w pk s
  | .blockResetRelease k m => Sys2Proof.Machine.execBlockResetRelease k m s
  | .partCreate w pk => Sys2Proof.Machine.execPartCreate w pk s
  | .partGrant w pk => Sys2Proof.Machine.execPartGrant w pk s
  | .partRelease w pk => Sys2Proof.Machine.execPartRelease w pk s
  | .partDestroy w pk => Sys2Proof.Machine.execPartDestroy w pk s
  | .partQuery w pk => Sys2Proof.Machine.execPartQuery w pk s
  | .partSettings w pk => Sys2Proof.Machine.execPartSettings w pk s
  | .queueCreate w pk => Sys2Proof.Machine.execQueueCreate w pk s
  | .queueDestroy w pk => Sys2Proof.Machine.execQueueDestroy w pk s
  | .queueRate w pk => Sys2Proof.Machine.execQueueRate w pk s
  | .showStage w pk => Sys2Proof.Machine.execShowStage w pk s
  | .showUnstage w pk => Sys2Proof.Machine.execShowUnstage w pk s
  | .showLoad w pk => Sys2Proof.Machine.execShowLoad w pk s
  | .showLoadDone p => Sys2Proof.Machine.execShowLoadDone p s
  | .showStop w pk => Sys2Proof.Machine.execShowStop w pk s
  | .showQuery w pk => Sys2Proof.Machine.execShowQuery w pk s
  | .calFull w pk => Sys2Proof.Machine.execCalFull w pk s
  | .precSet w pk => Sys2Proof.Machine.execPrecSet w pk s
  | .precRead w pk => Sys2Proof.Machine.execPrecRead w pk s
  | .precReadClear w pk => Sys2Proof.Machine.execPrecReadClear w pk s
  | .trimRead w pk => Sys2Proof.Machine.execTrimRead w pk s
  | .zoeFence w pk => Sys2Proof.Machine.execZoeFence w pk s
  | .zoeQuery w pk => Sys2Proof.Machine.execZoeQuery w pk s
  | .groupDeclare w pk => Sys2Proof.Machine.execGroupDeclare w pk s
  | .partnerTrain w pk => Sys2Proof.Machine.execPartnerTrain w pk s
  | .lanesLight w pk => Sys2Proof.Machine.execLanesLight w pk s
  | .lanesDark w pk => Sys2Proof.Machine.execLanesDark w pk s
  | .groupQuery w pk => Sys2Proof.Machine.execGroupQuery w pk s
  | .laneTest w pk => Sys2Proof.Machine.execLaneTest w pk s
  | .laneTestDone l bits errs => Sys2Proof.Machine.execLaneTestDone l bits errs s
  | .laserRearm w pk => Sys2Proof.Machine.execLaserRearm w pk s
  | .powerQuery w pk => Sys2Proof.Machine.execPowerQuery w pk s
  | .powerCeiling w pk => Sys2Proof.Machine.execPowerCeiling w pk s
  | .thermalMode w pk => Sys2Proof.Machine.execThermalMode w pk s
  | .orderlyStop w pk => Sys2Proof.Machine.execOrderlyStop w pk s
  | .orderlyStopComplete => Sys2Proof.Machine.execOrderlyStopComplete s
  | .faultRead w pk => Sys2Proof.Machine.execFaultRead w pk s
  | .faultClear w pk => Sys2Proof.Machine.execFaultClear w pk s
  | .ownlogRead w pk => Sys2Proof.Machine.execOwnlogRead w pk s
  | .quietSet w pk => Sys2Proof.Machine.execQuietSet w pk s
  | .allowance w pk => Sys2Proof.Machine.execAllowance w pk s
  | .keyInstall w pk => Sys2Proof.Machine.execKeyInstall w pk s
  | .measurements w pk => Sys2Proof.Machine.execMeasurements w pk s
  | .fwStage w pk => Sys2Proof.Machine.execFwStage w pk s
  | .fwCommit w pk => Sys2Proof.Machine.execFwCommit w pk s
  | .factoryOpcode w op pk => Sys2Proof.Machine.execFactoryOpcode w op pk s
  | .handOverStop => Sys2Proof.Machine.execHandOverStop s
  | .rebuildDone => Sys2Proof.Machine.execRebuildDone s
  | .getVersion => Sys2Proof.Machine.execGetVersion s
  | .getCapabilities => Sys2Proof.Machine.execGetCapabilities s
  | .negotiateAlgorithms offered => Sys2Proof.Machine.execNegotiateAlgorithms offered s
  | .getDigests => Sys2Proof.Machine.execGetDigests s
  | .getCertificate slot => Sys2Proof.Machine.execGetCertificate slot s
  | .challenge slot => Sys2Proof.Machine.execChallenge slot s
  | .getMeasurements index => Sys2Proof.Machine.execGetMeasurements index s
  | .keyExchange => Sys2Proof.Machine.execKeyExchange s
  | .finish sid verified => Sys2Proof.Machine.execFinish sid verified s
  | .heartbeat sid => Sys2Proof.Machine.execHeartbeat sid s
  | .keyUpdate sid => Sys2Proof.Machine.execKeyUpdate sid s
  | .endSession sid => Sys2Proof.Machine.execEndSession sid s
  | .desc g payload => Sys2Proof.Machine.execDesc g payload s
  | .mrd g h => Sys2Proof.Machine.execMrd g h s
  | .mwr g h payload => Sys2Proof.Machine.execMwr g h payload s
  | .notify g => Sys2Proof.Machine.execNotify g s
  | .guestCompletion g h payload => Sys2Proof.Machine.execGuestCompletion g h payload s
  | .targetWindowAccess p off wr => Sys2Proof.Machine.execTargetWindowAccess p off wr s
  | .trdTimeout g tag => Sys2Proof.Machine.execTrdTimeout g tag s
  | .secGstCtl g v => Sys2Proof.Machine.execSecGstCtl g v s
  | .probe k pr => Sys2Proof.Machine.execProbe k pr s
  | .trainingPhaseDone m rtt => Sys2Proof.Machine.execTrainingPhaseDone m rtt s
  | .trainingTimeout m => Sys2Proof.Machine.execTrainingTimeout m s
  | .trainingRetry m => Sys2Proof.Machine.execTrainingRetry m s
  | .epochCommit => Sys2Proof.Machine.execEpochCommit s
  | .epochMessage epoch dir => Sys2Proof.Machine.execEpochMessage epoch dir s
  | .pairLost m => Sys2Proof.Machine.execPairLost m s
  | .lossReport a b => Sys2Proof.Machine.execLossReport a b s
  | .memberLeave => Sys2Proof.Machine.execMemberLeave s
  | .grpTick => Sys2Proof.Machine.execGrpTick s
  | .grpTickReceived t => Sys2Proof.Machine.execGrpTickReceived t s
  | .tickMissed => Sys2Proof.Machine.execTickMissed s
  | .laneRequest m holder count => Sys2Proof.Machine.execLaneRequest m holder count s
  | .laneRelease m holder count => Sys2Proof.Machine.execLaneRelease m holder count s
  | .drainComplete l => Sys2Proof.Machine.execDrainComplete l s
  | .ringLocked l => Sys2Proof.Machine.execRingLocked l s
  | .laneLocked l => Sys2Proof.Machine.execLaneLocked l s
  | .marginTestDone l errTx errRx => Sys2Proof.Machine.execMarginTestDone l errTx errRx s
  | .lightingTimeout l => Sys2Proof.Machine.execLightingTimeout l s
  | .idleEntry l => Sys2Proof.Machine.execIdleEntry l s
  | .dormantTimeout l => Sys2Proof.Machine.execDormantTimeout l s
  | .dormantWake l => Sys2Proof.Machine.execDormantWake l s
  | .laneHealthLimit l cause => Sys2Proof.Machine.execLaneHealthLimit l cause s
  | .clockUnlock l => Sys2Proof.Machine.execClockUnlock l s
  | .relockTimeout l => Sys2Proof.Machine.execRelockTimeout l s
  | .mark l cw ledgers => Sys2Proof.Machine.execMark l cw ledgers s
  | .link l cw msg => Sys2Proof.Machine.execLink l cw msg s
  | .skip l cw adj => Sys2Proof.Machine.execSkip l cw adj s
  | .data l cw => Sys2Proof.Machine.execData l cw s
  | .retryTimeout l lseq => Sys2Proof.Machine.execRetryTimeout l lseq s
  | .first m tag part hdr => Sys2Proof.Machine.execFirst m tag part hdr s
  | .parcelDelivered m tag => Sys2Proof.Machine.execParcelDelivered m tag s
  | .noticeWrite n => Sys2Proof.Machine.execNoticeWrite n s
  | .done m tag st resends => Sys2Proof.Machine.execDone m tag st resends s
  | .abort m tag => Sys2Proof.Machine.execAbort m tag s
  | .parcelDeadline n slot => Sys2Proof.Machine.execParcelDeadline n slot s
  | .deadTagEnd m tag => Sys2Proof.Machine.execDeadTagEnd m tag s
  | .computeSourceFailure k => Sys2Proof.Machine.execComputeSourceFailure k s
  | .sourceDegrading k => Sys2Proof.Machine.execSourceDegrading k s
  | .combFailure k => Sys2Proof.Machine.execCombFailure k s
  | .spareSwitchDone k => Sys2Proof.Machine.execSpareSwitchDone k s
  | .interlockOpen ch ma => Sys2Proof.Machine.execInterlockOpen ch ma s
  | .interlockClose ch ma => Sys2Proof.Machine.execInterlockClose ch ma s
  | .disagreementLatch => Sys2Proof.Machine.execDisagreementLatch s
  | .rearmDelayEnd => Sys2Proof.Machine.execRearmDelayEnd s
  | .ucieModuleDrop h m => Sys2Proof.Machine.execUcieModuleDrop h m s
  | .ucieRetrainTimeout h m => Sys2Proof.Machine.execUcieRetrainTimeout h m s
  | .ihlUncorrectableBeat h g => Sys2Proof.Machine.execIhlUncorrectableBeat h g s
  | .ihlRetrain h g => Sys2Proof.Machine.execIhlRetrain h g s
  | .ihlTrained failed => Sys2Proof.Machine.execIhlTrained failed s
  | .d2dLbCtl v => Sys2Proof.Machine.execD2dLbCtl v s
  | .loopbackDone bits errs => Sys2Proof.Machine.execLoopbackDone bits errs s
  | .controlTick => Sys2Proof.Machine.execControlTick s
  | .renewal seq yoyo wires => Sys2Proof.Machine.execRenewal seq yoyo wires s
  | .renewalAck seq => Sys2Proof.Machine.execRenewalAck seq s
  | .peerResetAssert readback => Sys2Proof.Machine.execPeerResetAssert readback s
  | .watchdogExpiry m => Sys2Proof.Machine.execWatchdogExpiry m s
  | .leaseExpiry => Sys2Proof.Machine.execLeaseExpiry s
  | .claimGrant m => Sys2Proof.Machine.execClaimGrant m s
  | .claimTimeout => Sys2Proof.Machine.execClaimTimeout s
  | .marionetteBootDone m ok => Sys2Proof.Machine.execMarionetteBootDone m ok s
  | .initialClaimTimeout => Sys2Proof.Machine.execInitialClaimTimeout s
  | .mirrorFrame tick ver crcOk => Sys2Proof.Machine.execMirrorFrame tick ver crcOk s
  | .frameAck => Sys2Proof.Machine.execFrameAck s
  | .ackTimeout => Sys2Proof.Machine.execAckTimeout s
  | .healthReport pass => Sys2Proof.Machine.execHealthReport pass s
  | .healthTimeout => Sys2Proof.Machine.execHealthTimeout s
  | .mrtCfg v => Sys2Proof.Machine.execMrtCfg v s
  | .marblePowerMeter z energy => Sys2Proof.Machine.execMarblePowerMeter z energy s
  | .inputPowerSample watts dv => Sys2Proof.Machine.execInputPowerSample watts dv s
  | .domainOutOfRegulation d => Sys2Proof.Machine.execDomainOutOfRegulation d s
  | .sensorSample k t => Sys2Proof.Machine.execSensorSample k t s
  | .thermalCapUpdate z => Sys2Proof.Machine.execThermalCapUpdate z s
  | .quietPeriodEnd src => Sys2Proof.Machine.execQuietPeriodEnd src s
  | .auxPowerOn straps => Sys2Proof.Machine.execAuxPowerOn straps s
  | .releaseStep k => Sys2Proof.Machine.execReleaseStep k s
  | .perstAssert => Sys2Proof.Machine.execPerstAssert s
  | .perstDeassert => Sys2Proof.Machine.execPerstDeassert s
  | .mainInputDroop dv => Sys2Proof.Machine.execMainInputDroop dv s
  | .holdupExpiry => Sys2Proof.Machine.execHoldupExpiry s
  | .mainInputReturn dv => Sys2Proof.Machine.execMainInputReturn dv s
  | .mainInputLoss dv => Sys2Proof.Machine.execMainInputLoss dv s
  | .overvoltageTimeout => Sys2Proof.Machine.execOvervoltageTimeout s
  | .auxPowerLoss => Sys2Proof.Machine.execAuxPowerLoss s
  | .readbackCheck faultLow alertLow laserHigh => Sys2Proof.Machine.execReadbackCheck faultLow alertLow laserHigh s
  | .identity pec => Sys2Proof.Machine.execIdentity pec s
  | .status pec => Sys2Proof.Machine.execStatus pec s
  | .declare gn gid pec => Sys2Proof.Machine.execDeclare gn gid pec s
  | .reset key pec => Sys2Proof.Machine.execReset key pec s
  | .result pec => Sys2Proof.Machine.execResult pec s
  | .modTimeLo f => Sys2Proof.Machine.execModTimeLo f s
  | .fabGtimeLo f => Sys2Proof.Machine.execFabGtimeLo f s
  | .counterLowRead f bar2 off => Sys2Proof.Machine.execCounterLowRead f bar2 off s
  | .mrbCntSel v => Sys2Proof.Machine.execMrbCntSel v s
  | .mrbMsel v => Sys2Proof.Machine.execMrbMsel v s
  | .mrbOwnSel v => Sys2Proof.Machine.execMrbOwnSel v s
  | .fabDl v sent => Sys2Proof.Machine.execFabDl v sent s
  | .kalCtl v => Sys2Proof.Machine.execKalCtl v s
  | .kalPrbsInj v => Sys2Proof.Machine.execKalPrbsInj v s
  | .undecodedAccess off acc => Sys2Proof.Machine.execUndecodedAccess off acc s
  | .registerWrite f off v => Sys2Proof.Machine.execRegisterWrite f off v s
  | .partnerTrainExpiry => Sys2Proof.Machine.execPartnerTrainExpiry s
  | .ucieModuleTrained h m rep => Sys2Proof.Machine.execUcieModuleTrained h m rep s
  | .ihlCorrectedBeat h g wire => Sys2Proof.Machine.execIhlCorrectedBeat h g wire s
  | .ideKeyProgramming f => Sys2Proof.Machine.execIdeKeyProgramming f s
  | .toyboxWordRead k ecc => Sys2Proof.Machine.execToyboxWordRead k ecc s
  | .laserSourceStable k => Sys2Proof.Machine.execLaserSourceStable k s

end Sys2Proof.Machine
end

