-- ==== Sys2Proof/WellFormed.lean ====
section
/-! DEFINITION. Which commands are well-formed: for a Marble instruction, the word R120 calls legal (one that is not stops
its Marble with cause 2, R116); for the others, that what the sender supplies has a form the spec admits. -/

namespace Sys2Proof

/-! ### Marble instructions (R116, R120 to R123; log entries 15, 17) -/

/-- The Marble that an instruction is of; none for a command that is no Marble instruction. -/
def Instr.marble? : Instr → Option MarbleId
  | .add n _ => some n
  | .sub n _ => some n
  | .and n _ => some n
  | .or n _ => some n
  | .xor n _ => some n
  | .sll n _ => some n
  | .srl n _ => some n
  | .sra n _ => some n
  | .mul n _ => some n
  | .mulh n _ => some n
  | .min n _ => some n
  | .max n _ => some n
  | .minu n _ => some n
  | .maxu n _ => some n
  | .fadd n _ => some n
  | .fsub n _ => some n
  | .fmul n _ => some n
  | .fmin n _ => some n
  | .fmax n _ => some n
  | .fscale n _ => some n
  | .clz n _ => some n
  | .popc n _ => some n
  | .jr n _ => some n
  | .fcvtf n _ => some n
  | .fcvti n _ => some n
  | .frcp n _ => some n
  | .frsq n _ => some n
  | .fexp2 n _ => some n
  | .flog2 n _ => some n
  | .addi n _ => some n
  | .andi n _ => some n
  | .ori n _ => some n
  | .xori n _ => some n
  | .ldb n _ => some n
  | .ldbu n _ => some n
  | .ldh n _ => some n
  | .ldhu n _ => some n
  | .ldw n _ => some n
  | .stb n _ => some n
  | .sth n _ => some n
  | .stw n _ => some n
  | .shi n _ => some n
  | .lui n _ => some n
  | .jal n _ => some n
  | .beq n _ => some n
  | .bne n _ => some n
  | .blt n _ => some n
  | .bge n _ => some n
  | .bltu n _ => some n
  | .bgeu n _ => some n
  | .bp n _ => some n
  | .cmp n _ => some n
  | .cmpi n _ => some n
  | .loop n _ => some n
  | .vld n _ => some n
  | .vst n _ => some n
  | .vld2 n _ => some n
  | .vst2 n _ => some n
  | .vadd n _ => some n
  | .vsub n _ => some n
  | .vadds n _ => some n
  | .vsubs n _ => some n
  | .vmin n _ => some n
  | .vmax n _ => some n
  | .vminu n _ => some n
  | .vmaxu n _ => some n
  | .vand n _ => some n
  | .vor n _ => some n
  | .vxor n _ => some n
  | .vmull n _ => some n
  | .vmulh n _ => some n
  | .vperm n _ => some n
  | .vshl n _ => some n
  | .vshr n _ => some n
  | .vsar n _ => some n
  | .vsarn n _ => some n
  | .vabs n _ => some n
  | .vunp4l n _ => some n
  | .vunp4h n _ => some n
  | .vunp5 n _ => some n
  | .vunp6 n _ => some n
  | .vunpf6a n _ => some n
  | .vunpf6b n _ => some n
  | .vsel n _ => some n
  | .vbc n _ => some n
  | .vmvl n _ => some n
  | .vmvh n _ => some n
  | .vtol n _ => some n
  | .vtoh n _ => some n
  | .vrsum n _ => some n
  | .vcmp n _ _ => some n
  | .vdot8 n _ => some n
  | .vdot4 n _ => some n
  | .vdot84 n _ => some n
  | .mxdot n _ => some n
  | .f8dot n _ => some n
  | .bdot n _ => some n
  | .bclr n _ => some n
  | .brd n _ => some n
  | .brdq n _ => some n
  | .bld n _ => some n
  | .vpk4 n _ => some n
  | .vpk5 n _ => some n
  | .vpk6 n _ => some n
  | .vf8bf n _ => some n
  | .vf8bfh n _ => some n
  | .vbff8 n _ => some n
  | .fcmp n _ _ => some n
  | .rldw n _ _ => some n
  | .rstw n _ _ => some n
  | .rldv n _ _ => some n
  | .rstv n _ _ => some n
  | .rldv2 n _ _ => some n
  | .rstv2 n _ _ => some n
  | .rcpy n _ _ => some n
  | .mpost n _ _ => some n
  | .mwait n _ => some n
  | .fence n _ => some n
  | .nop n _ => some n
  | .halt n _ => some n
  | .bar n _ => some n
  | .rdcsr n _ => some n
  | .wrcsr n _ => some n
  | .trap n _ => some n
  | _ => none

/-- The condition codes 0 to 5; 6 and 7 are reserved (R121). -/
def condOk (c : BitVec 3) : Bool := decide (c.toNat < 6)

/-- A legal SHI: imm[11:5] is 0 and the kind imm[13:12] is not 3 (R121). -/
def shiOk (f : FmtI) : Bool := f.imm.extractLsb' 5 7 == 0 && f.imm.extractLsb' 12 2 != 3

/-- Whether a 5-bit field names a vector register, an even one where two registers are moved (R116, R121, R123). -/
def vecNamed (d : BitVec 5) (two : Bool) : Bool := d.extractLsb' 3 2 == 0 && (!two || d.extractLsb' 0 1 == 0)

/-! ### What senders supply -/

/-- A packet fits the 2,048 parameter bytes of a command window (R219). -/
def packetOk (pk : Packet) : Bool := decide (pk.params.length ≤ 2048)

/-- A cell of a Zoetrope: one of 260 rows and 128 columns (R28, R53). -/
def cellOk (c : Nat × Nat) : Bool := decide (c.1 < 260 ∧ c.2 < 128)

/-- A channel of a Zoetrope: 260 of weights and 128 of activations (R60). -/
def channelOk (c : Nat) : Bool := decide (c < 388)

/-- A pilot window reports a power for each of the 388 taps (R94). -/
def pilotOk (r : PilotResult) : Bool := r.taps.length == 388

/-- A calibration's findings name cells and channels that exist, and its verification pass is one (R102). -/
def calOk (r : CalResult) : Bool := pilotOk r.pass && r.dead.all cellOk && r.failed.all channelOk

/-- An HGDI header: LEN is at most 16 and OFFSET a multiple of 32 (R256). -/
def guestHdrOk (h : GuestHdr) : Bool := decide (h.len ≤ 16) && h.off.toNat % 32 == 0

/-- A codeword as received: 128 bytes of payload and 8 of parity (R273). -/
def codewordOk (cw : Codeword) : Bool := cw.raw.length == 136

/-- A Parcel header: LEN is 32 to 65,536, and PAYLOADS is what LEN takes (R279). -/
def parcelOk (h : ParcelHdr) : Bool :=
  decide (32 ≤ h.len ∧ h.len ≤ 65536) && h.payloads == (if h.len ≤ 84 then 1 else 1 + (h.len - 84 + 115) / 116)

/-- A well-formed command. -/
def Instr.wf : Instr → Bool
  | .clz _ f => f.b == 0
  | .popc _ f => f.b == 0
  | .jr _ f => f.b == 0
  | .fcvtf _ f => f.b == 0
  | .fcvti _ f => f.b == 0
  | .frcp _ f => f.b == 0
  | .frsq _ f => f.b == 0
  | .fexp2 _ f => f.b == 0
  | .flog2 _ f => f.b == 0
  | .shi _ f => shiOk f
  | .bp _ f => f.b == 0 && f.a.extractLsb' 2 2 == 0
  | .cmp _ f => condOk f.cond && f.imm.extractLsb' 0 9 == 0
  | .cmpi _ f => condOk f.cond
  | .loop _ f => f.d.extractLsb' 1 4 == 0
  | .vld _ f => vecNamed f.d false
  | .vst _ f => vecNamed f.d false
  | .vld2 _ f => vecNamed f.d true
  | .vst2 _ f => vecNamed f.d true
  | .vadd _ f => f.m == 0
  | .vsub _ f => f.m == 0
  | .vadds _ f => f.m == 0
  | .vsubs _ f => f.m == 0
  | .vmin _ f => f.m == 0
  | .vmax _ f => f.m == 0
  | .vminu _ f => f.m == 0
  | .vmaxu _ f => f.m == 0
  | .vand _ f => f.m == 0
  | .vor _ f => f.m == 0
  | .vxor _ f => f.m == 0
  | .vmull _ f => f.m == 0
  | .vmulh _ f => f.m == 0
  | .vperm _ f => f.m == 0
  | .vshl _ f => f.vb == 0
  | .vshr _ f => f.vb == 0
  | .vsar _ f => f.vb == 0
  | .vsarn _ f => f.vb == 0
  | .vabs _ f => f.vb == 0 && f.m == 0
  | .vunp4l _ f => f.vb == 0 && f.m == 0
  | .vunp4h _ f => f.vb == 0 && f.m == 0
  | .vunp5 _ f => f.vb == 0 && f.m == 0
  | .vunp6 _ f => f.vb == 0 && f.m == 0
  | .vunpf6a _ f => f.vb == 0 && f.m == 0
  | .vunpf6b _ f => f.vb == 0 && f.m == 0
  | .vsel _ f => f.m.extractLsb' 2 3 == 0
  | .vbc _ f => f.va == 0 && f.vb == 0
  | .vmvl _ f => f.va == 0 && f.vb == 0
  | .vmvh _ f => f.va == 0 && f.vb == 0
  | .vtol _ f => f.vd == 0 && f.vb == 0
  | .vtoh _ f => f.vd == 0 && f.vb == 0
  | .vrsum _ f => f.vd == 0 && f.vb == 0
  | .vcmp _ c f => condOk c && f.vd == 0 && f.m.extractLsb' 2 3 == 0
  | .vdot8 _ f => f.vd == 0
  | .vdot4 _ f => f.vd == 0
  | .vdot84 _ f => f.vd == 0
  | .mxdot _ f => f.vd == 0
  | .f8dot _ f => f.vd == 0 && f.m.extractLsb' 2 3 == 0
  | .bdot _ f => f.vd == 0 && f.m == 0
  | .bclr _ f => f.vd == 0 && f.va == 0 && f.vb == 0 && f.m == 0
  | .brd _ f => f.vd == 0 && f.va == 0 && f.vb == 0
  | .brdq _ f => f.vd == 0 && f.va == 0 && f.vb == 0
  | .bld _ f => f.vd == 0 && f.va == 0 && f.vb == 0
  | .vpk4 _ f => f.m == 0
  | .vpk5 _ f => f.vb == 0 && f.m == 0
  | .vpk6 _ f => f.vb == 0 && f.m == 0
  | .vf8bf _ f => f.vb == 0 && f.m.extractLsb' 1 4 == 0
  | .vf8bfh _ f => f.vb == 0 && f.m.extractLsb' 1 4 == 0
  | .vbff8 _ f => f.m.extractLsb' 1 4 == 0
  | .fcmp _ _ f => f.d.extractLsb' 2 3 == 0
  | .rldw _ _ f => f.b == 0
  | .rstw _ _ f => f.b == 0
  | .rldv _ _ f => vecNamed f.d false && f.b == 0
  | .rstv _ _ f => vecNamed f.d false && f.b == 0
  | .rldv2 _ _ f => vecNamed f.d true && f.b == 0
  | .rstv2 _ _ f => vecNamed f.d true && f.b == 0
  | .mpost _ _ f => f.d == 0 && f.a == 0 && f.b == 0
  | .fence _ f => f.d == 0 && f.a == 0 && f.b == 0
  | .nop _ f => f.d == 0 && f.a == 0 && f.b == 0
  | .halt _ f => f.d == 0 && f.a == 0 && f.b == 0
  | .bar _ f => f.d == 0 && f.a == 0 && f.b == 0
  | .rdcsr _ f => f.a == 0
  | .wrcsr _ f => f.d == 0
  | .trap _ f => f.d == 0 && f.a == 0
  | .integrationEnd _ _ late => late.all cellOk
  | .expectationSumWrite _ _ _ bytes => [4, 8, 16, 32].contains bytes.length
  | .pilotWindowEnd _ r => pilotOk r
  | .fullCalibrationDone _ r => calOk r
  | .zoeReconfigDone _ r => calOk r
  | .space01BadAccess _ _ _ _ len => decide (1 ≤ len ∧ len ≤ 32)
  | .hostReadCompletion _ _ bytes => decide (bytes.length ≤ 4096)
  | .desc _ payload => decide (payload.length ≤ 512) && payload.length % 32 == 0
  | .mrd _ h => guestHdrOk h
  | .mwr _ h payload => guestHdrOk h && payload.length == 32 * h.len
  | .guestCompletion _ h payload => guestHdrOk h && (payload.length == 0 || payload.length == 32 * h.len)
  | .targetWindowAccess _ _ wr => match wr with
    | none => true
    | some bs => bs.length == 32
  | .probe _ pr => decide (pr.modId < 64 ∧ pr.gn ≤ 64)
  | .mark _ cw _ => codewordOk cw
  | .link _ cw _ => codewordOk cw
  | .skip _ cw _ => codewordOk cw
  | .data _ cw => codewordOk cw
  | .first _ _ _ h => parcelOk h
  | .sensorSample _ t => decide (-32768 ≤ t ∧ t ≤ 32767)
  | .getIdentity _ pk => packetOk pk
  | .getService _ pk => packetOk pk
  | .moduleReset _ pk => packetOk pk
  | .fenceHalf _ pk => packetOk pk
  | .unfenceHalf _ pk => packetOk pk
  | .blockResetZoetrope _ pk => packetOk pk
  | .blockResetBag _ pk => packetOk pk
  | .blockResetKaleidoscope _ pk => packetOk pk
  | .blockResetHbm _ pk => packetOk pk
  | .blockResetGuest _ pk => packetOk pk
  | .blockResetInterhub _ pk => packetOk pk
  | .blockResetMarionette _ pk => packetOk pk
  | .partCreate _ pk => packetOk pk
  | .partGrant _ pk => packetOk pk
  | .partRelease _ pk => packetOk pk
  | .partDestroy _ pk => packetOk pk
  | .partQuery _ pk => packetOk pk
  | .partSettings _ pk => packetOk pk
  | .queueCreate _ pk => packetOk pk
  | .queueDestroy _ pk => packetOk pk
  | .queueRate _ pk => packetOk pk
  | .showStage _ pk => packetOk pk
  | .showUnstage _ pk => packetOk pk
  | .showLoad _ pk => packetOk pk
  | .showStop _ pk => packetOk pk
  | .showQuery _ pk => packetOk pk
  | .calFull _ pk => packetOk pk
  | .precSet _ pk => packetOk pk
  | .precRead _ pk => packetOk pk
  | .precReadClear _ pk => packetOk pk
  | .trimRead _ pk => packetOk pk
  | .zoeFence _ pk => packetOk pk
  | .zoeQuery _ pk => packetOk pk
  | .groupDeclare _ pk => packetOk pk
  | .partnerTrain _ pk => packetOk pk
  | .lanesLight _ pk => packetOk pk
  | .lanesDark _ pk => packetOk pk
  | .groupQuery _ pk => packetOk pk
  | .laneTest _ pk => packetOk pk
  | .laserRearm _ pk => packetOk pk
  | .powerQuery _ pk => packetOk pk
  | .powerCeiling _ pk => packetOk pk
  | .thermalMode _ pk => packetOk pk
  | .orderlyStop _ pk => packetOk pk
  | .faultRead _ pk => packetOk pk
  | .faultClear _ pk => packetOk pk
  | .ownlogRead _ pk => packetOk pk
  | .quietSet _ pk => packetOk pk
  | .allowance _ pk => packetOk pk
  | .keyInstall _ pk => packetOk pk
  | .measurements _ pk => packetOk pk
  | .fwStage _ pk => packetOk pk
  | .fwCommit _ pk => packetOk pk
  | .factoryOpcode _ _ pk => packetOk pk
  | _ => true

end Sys2Proof
end

