-- ==== Sys2Proof/Safety.lean ====
section
/-! DEFINITION. The terms in which claims are stated: what a safe run keeps, when a Marble issues an instruction, and frames:
which parts of the state a command leaves as they were. -/

namespace Sys2Proof.Machine

open Sys2Proof

/-! ### What every step keeps -/

/-- The memories in canonical form: scratch lists rising addresses and no byte that reads as 0 unlisted, the HBM map lists
rising keys (R110, R169). -/
structure Inv (s : State) : Prop where
  scratch : Memory.wf s.mrb.scratch = true
  hbm : Rising s.hbm.mem

/-- ALERT_N is driven for exactly the conditions of R364 that hold; quads and sensors list rising keys. -/
structure AlertInv (s : State) : Prop where
  quads : Rising s.pwr.quads
  sensors : Rising s.pwr.sensors
  bits : s.side.alerts = alertBits s

/-- A run is safe up to an outcome: the command has a meaning in this build. -/
def Safe (o : Host.Outcome State Fault Refusal) : Prop := ∃ t, o = .next t

/-! ### Marbles -/

/-- Marble n issues its next instruction: it runs, waits for nothing, is not paused, and its PC is loaded with a word of no reserved
operation (R116, R120, R123, R182, R354). -/
def Issues (n : MarbleId) (s : State) : Prop :=
  canIssue s n.toNat = true ∧ (marble s n.toNat).pc.toNat < loadedCount s n.toNat ∧ wordReserved s n = false

/-- Nothing but Marble n's own state differs: every other Marble, every memory and every other unit is as it was. -/
def OnlyMarble (n : MarbleId) (s t : State) : Prop :=
  t = { s with mrb.marbles := t.mrb.marbles } ∧ ∀ k, k ≠ n.toNat → marble t k = marble s k

/-- The PC and the live loops went on to the next instruction, by the back edge where a body ended (R121). -/
def WentOn (m m' : Marble) : Prop :=
  m'.pc = (advance m).pc ∧ m'.loop0 = (advance m).loop0 ∧ m'.loop1 = (advance m).loop1

/-- What no arithmetic, branch or local memory instruction touches. -/
def Kept (m m' : Marble) : Prop :=
  m'.rstatLast = m.rstatLast ∧ m'.rstatCount = m.rstatCount ∧ m'.cycHi = m.cycHi ∧ m'.cause = m.cause ∧ m'.code = m.code
    ∧ m'.outst = m.outst ∧ m'.waiting = m.waiting

/-- Scalar register d took x, a write to m0 being ignored; every other scalar register is as it was (R112). -/
def ScalarTook (d : BitVec 5) (x : Word) (m m' : Marble) : Prop :=
  ∀ r, getM m' r = if r = d ∧ d ≠ 0 then x else getM m r

/-- Predicate pd took x, a write to p0 being ignored; every other predicate is as it was (R112). -/
def PredTook (pd : BitVec 2) (x : Byte) (m m' : Marble) : Prop :=
  ∀ r, getP m' r = if r = pd ∧ pd ≠ 0 then x else getP m r

/-- The lanes of vector register vd that the mask selects took f; every other lane and register is as it was (R113). -/
def LanesTook (vd : BitVec 3) (mask : Byte) (f : Nat → Byte) (m m' : Marble) : Prop :=
  (∀ r, r ≠ vd → getV m' r = getV m r)
    ∧ ∀ i, i < 8 → byteLane (getV m' vd) i = if mask.getLsbD i then f i else byteLane (getV m vd) i

/-- Registers of each kind as they were. -/
def SameScalars (m m' : Marble) : Prop := ∀ r, getM m' r = getM m r
/-- Vector registers as they were. -/
def SameVectors (m m' : Marble) : Prop := ∀ r, getV m' r = getV m r
/-- Predicates as they were. -/
def SamePreds (m m' : Marble) : Prop := ∀ r, getP m' r = getP m r

/-- The outcome of an instruction that writes scalar register d alone: d, sticky flags, the PC, and nothing else (R112, R113). -/
def ScalarDone (n : MarbleId) (d : BitVec 5) (x : Word) (flags : BitVec 3) (s t : State) : Prop :=
  let m := marble s n.toNat
  let m' := marble t n.toNat
  OnlyMarble n s t ∧ ScalarTook d x m m' ∧ m'.mflags = m.mflags ||| flags ∧ SameVectors m m' ∧ SamePreds m m' ∧ m'.ba = m.ba
    ∧ WentOn m m' ∧ Kept m m'

/-- The outcome of an instruction that writes predicate pd alone (R112, R113). -/
def PredDone (n : MarbleId) (pd : BitVec 2) (x : Byte) (s t : State) : Prop :=
  let m := marble s n.toNat
  let m' := marble t n.toNat
  OnlyMarble n s t ∧ PredTook pd x m m' ∧ m'.mflags = m.mflags ∧ SameVectors m m' ∧ SameScalars m m' ∧ m'.ba = m.ba
    ∧ WentOn m m' ∧ Kept m m'

/-- The outcome of an instruction that writes lanes of vd alone (R112, R113). -/
def LanesDone (n : MarbleId) (vd : BitVec 3) (mask : Byte) (f : Nat → Byte) (flags : BitVec 3) (s t : State) : Prop :=
  let m := marble s n.toNat
  let m' := marble t n.toNat
  OnlyMarble n s t ∧ LanesTook vd mask f m m' ∧ m'.mflags = m.mflags ||| flags ∧ SameScalars m m' ∧ SamePreds m m' ∧ m'.ba = m.ba
    ∧ WentOn m m' ∧ Kept m m'

/-- The outcome of an instruction that writes the block accumulator alone (R112, R118). -/
def AccDone (n : MarbleId) (ba : BlockAcc) (flags : BitVec 3) (s t : State) : Prop :=
  let m := marble s n.toNat
  let m' := marble t n.toNat
  OnlyMarble n s t ∧ m'.ba = ba ∧ m'.mflags = m.mflags ||| flags ∧ SameScalars m m' ∧ SameVectors m m' ∧ SamePreds m m'
    ∧ WentOn m m' ∧ Kept m m'

/-- Every register, flag and count of a Marble but the PC and the loops as they were. -/
def SameButPc (m m' : Marble) : Prop :=
  SameScalars m m' ∧ SameVectors m m' ∧ SamePreds m m' ∧ m'.ba = m.ba ∧ m'.mflags = m.mflags ∧ Kept m m'

/-- A branch was taken to index t: the PC is t, a loop whose body does not hold t has ended, and with a level-0 loop the level-1
loop inside it (R121). -/
def BranchedTo (t : BitVec 14) (m m' : Marble) : Prop :=
  let inside (l : LoopSt) : Prop := l.start.toNat ≤ t.toNat ∧ t.toNat ≤ l.last.toNat
  m'.pc = t
    ∧ (∀ l, m'.loop0 = some l ↔ m.loop0 = some l ∧ inside l)
    ∧ (∀ l, m'.loop1 = some l ↔ m.loop1 = some l ∧ inside l ∧ ∀ k, m.loop0 = some k → inside k)

/-- The byte at an address of bank n (R110, R124). -/
def bankByte (s : State) (n a : Nat) : Byte := look s.mrb.scratch (2048 * n + a) 0

/-- The little-endian number in `size` bytes at an address of bank n (R8). -/
def bankNum (s : State) (n a size : Nat) : Nat :=
  ((List.range size).map (fun i => (bankByte s n (a + i)).toNat * 256 ^ i)).sum

/-- Byte i of the little-endian form of a number (R8). -/
def numByte (x i : Nat) : Byte := BitVec.ofNat 8 (x / 256 ^ i)

/-- Scratch took `f i` at byte i of the `size` bytes from address a of bank n; every byte of memory outside them is as it was. -/
def StoredAt (n a size : Nat) (f : Nat → Byte) (s t : State) : Prop :=
  ∀ key, look t.mrb.scratch key 0
    = if 2048 * n + a ≤ key ∧ key < 2048 * n + a + size then f (key - (2048 * n + a)) else look s.mrb.scratch key 0

/-- The outcome of a local store of Marble n: the bytes, the PC, and nothing else (R113, R121). -/
def StoreDone (n : MarbleId) (a size : Nat) (f : Nat → Byte) (s t : State) : Prop :=
  t = { s with mrb.marbles := t.mrb.marbles, mrb.scratch := t.mrb.scratch }
    ∧ (∀ k, k ≠ n.toNat → marble t k = marble s k)
    ∧ StoredAt n.toNat a size f s t
    ∧ WentOn (marble s n.toNat) (marble t n.toNat) ∧ SameButPc (marble s n.toNat) (marble t n.toNat)

/-- Nothing but the fault collector and what it signals differs: the log and its counts, pending vectors, messages sent (R375,
R195). -/
def OnlyFaults (s t : State) : Prop :=
  t = { s with flt := t.flt, host.pf := t.host.pf, host.vfs := t.host.vfs, out := t.out }

/-- Marble n stopped with a cause and a code, everything else of it as it was, and every other Marble (R116). -/
def StoppedWith (n : MarbleId) (cause : BitVec 3) (code : BitVec 5) (s t : State) : Prop :=
  marble t n.toNat = { marble s n.toNat with cause := cause, code := code, waiting := .none }
    ∧ ∀ k, k ≠ n.toNat → marble t k = marble s k

/-- A stop for causes 2 to 5: beside the stop, MRB_TRAPS and the count of Contained faults advance by one (R116, R145). -/
def TrappedWith (n : MarbleId) (cause : BitVec 3) (code : BitVec 5) (s t : State) : Prop :=
  StoppedWith n cause code s t ∧ t.mrb.traps = s.mrb.traps + 1 ∧ t.flt.nCont = s.flt.nCont + 1
    ∧ t = { s with mrb.marbles := t.mrb.marbles, mrb.traps := t.mrb.traps, flt := t.flt, host.pf := t.host.pf,
                   host.vfs := t.host.vfs, out := t.out }

end Sys2Proof.Machine
end

