-- ==== Sys2Proof/Certificates/Slice0/Rows.lean ====
section
/-! DEFINITION. The opcodes of the command windows as data: what R228 to R235 give each of them before its effect. -/

namespace Sys2Proof.Machine.Tables

open Sys2Proof

/-- An opcode of the command windows: its number, its PLEN, whether it is the PF's alone, whether its first parameter is a PART, and its
parameter rule (R222, R228 to R235). -/
structure Row where
  op : Nat
  plen : Nat → Bool
  pfOnly : Bool
  hasPart : Bool
  params : State → Fn → List Byte → Bool

/-- The parameters of a command that names a member and three zero bytes. -/
def memberOnly (s : State) (_ : Fn) (ps : List Byte) : Bool := moduleOk s ps && zeroBytes ps 1 4

/-- The parameters of a command that names a partition and three zero bytes. -/
def partOnly (s : State) (w : Fn) (ps : List Byte) : Bool := partOk s w ps && zeroBytes ps 1 4

/-- The parameters of a command with a magic number. -/
def magic (k : Nat) (_ : State) (_ : Fn) (ps : List Byte) : Bool := decide (fieldAt ps 0 4 = k)

/-- The row of a BLOCK_RESET of one kind. -/
def blockRow (k : BlockKind) : Row :=
  ⟨0x0104, plenIs 8, true, false, fun s _ ps => decide (pByte ps 0 < 7 ∧ fieldAt ps 4 2 < kindCount s k) && zeroBytes ps 1 4 && zeroBytes ps 6 8⟩

/-- The window, the packet and the row of a command of a window; rows that share an opcode have the byte that tells them apart in the
packet. -/
def rowOf : Instr → Option (Fn × Packet × Row)
  | .getIdentity w pk => some (w, pk, ⟨0x0100, plenIs 4, false, false, memberOnly⟩)
  | .getService w pk => some (w, pk, ⟨0x0101, plenIs 4, false, false, memberOnly⟩)
  | .moduleReset w pk => some (w, pk, ⟨0x0102, plenIs 4, true, false, magic 0x5EC0DE01⟩)
  | .fenceHalf w pk => some (w, fixByte 1 0 2 pk, ⟨0x0103, plenIs 4, true, false, fun _ _ ps => decide (pByte ps 0 < 2 ∧ pByte ps 1 < 2) && zeroBytes ps 2 4⟩)
  | .unfenceHalf w pk => some (w, fixByte 1 1 2 pk, ⟨0x0103, plenIs 4, true, false, fun _ _ ps => decide (pByte ps 0 < 2 ∧ pByte ps 1 < 2) && zeroBytes ps 2 4⟩)
  | .blockResetZoetrope w pk => some (w, fixByte 0 0 7 pk, blockRow .zoetrope)
  | .blockResetBag w pk => some (w, fixByte 0 1 7 pk, blockRow .bag)
  | .blockResetKaleidoscope w pk => some (w, fixByte 0 2 7 pk, blockRow .kaleidoscope)
  | .blockResetHbm w pk => some (w, fixByte 0 3 7 pk, blockRow .hbm)
  | .blockResetGuest w pk => some (w, fixByte 0 4 7 pk, blockRow .guest)
  | .blockResetInterhub w pk => some (w, fixByte 0 5 7 pk, blockRow .interhub)
  | .blockResetMarionette w pk => some (w, fixByte 0 6 7 pk, blockRow .marionette)
  | .partCreate w pk => some (w, pk, ⟨0x0200, plenIs 48, true, true, fun s w ps => resourceFields s w ps
      && decide (psQuads ps ≠ [] ∧ psPchs ps ≠ [] ∧ 1 ≤ psQcount ps ∧ 2 ≤ psVecs ps ∧ psVecs ps ≤ 2048 ∧ psLit ps ≤ 896
        ∧ 1 ≤ psCeil ps ∧ psCeil ps ≤ 1000)⟩)
  | .partGrant w pk => some (w, pk, ⟨0x0201, plenIs 48, true, true, resourceFields⟩)
  | .partRelease w pk => some (w, pk, ⟨0x0202, plenIs 48, true, true, resourceFields⟩)
  | .partDestroy w pk => some (w, pk, ⟨0x0203, plenIs 4, true, true,
      fun s w ps => partOk s w ps && decide (pByte ps 1 < 2) && zeroBytes ps 2 4⟩)
  | .partQuery w pk => some (w, pk, ⟨0x0204, plenIs 4, false, true, partOnly⟩)
  | .partSettings w pk => some (w, pk, ⟨0x0205, plenIs 16, false, true, fun s w ps => partOk s w ps
      && decide (pByte ps 1 < 2 ∧ pByte ps 2 < 2 ∧ 10 ≤ fieldAt ps 4 4 ∧ fieldAt ps 4 4 ≤ 10000) && zeroBytes ps 3 4⟩)
  | .queueCreate w pk => some (w, pk, ⟨0x0206, plenIs 40, false, false, fun s w ps => (cmdQueue s w ps).isSome
      && decide (4 ≤ pByte ps 2 ∧ pByte ps 2 ≤ 16 ∧ 4 ≤ pByte ps 3 ∧ pByte ps 3 ≤ 16 ∧ fieldAt ps 4 2 < 2048 ∧ 1 ≤ fieldAt ps 6 2
        ∧ fieldAt ps 6 2 ≤ 256 ∧ fieldAt ps 8 2 < 1024 ∧ pByte ps 10 < 2 ∧ fieldAt ps 12 4 < 1048576 ∧ fieldAt ps 24 8 % 4096 = 0
        ∧ fieldAt ps 32 8 % 4096 = 0) && zeroBytes ps 11 12 && zeroBytes ps 18 24⟩)
  | .queueDestroy w pk => some (w, pk, ⟨0x0207, plenIs 4, false, false, fun s w ps => (cmdQueue s w ps).isSome && zeroBytes ps 2 4⟩)
  | .queueRate w pk => some (w, pk, ⟨0x0208, plenIs 8, true, false,
      fun s w ps => (cmdQueue s w ps).isSome && decide (1 ≤ fieldAt ps 4 2) && zeroBytes ps 6 8⟩)
  | .showStage w pk => some (w, pk, ⟨0x0300, plenIs 24, false, true, stageParams⟩)
  | .showUnstage w pk => some (w, pk, ⟨0x0301, plenIs 4, false, true,
      fun s w ps => partOk s w ps && decide (pByte ps 1 < 4) && zeroBytes ps 2 4⟩)
  | .showLoad w pk => some (w, pk, ⟨0x0302, plenIs 8, false, true,
      fun s w ps => partOk s w ps && decide (pByte ps 1 < 4 ∧ pByte ps 2 < 2) && zeroBytes ps 3 8⟩)
  | .showStop w pk => some (w, pk, ⟨0x0303, plenIs 4, false, true,
      fun s w ps => partOk s w ps && decide (pByte ps 1 < 2) && zeroBytes ps 2 4⟩)
  | .showQuery w pk => some (w, pk, ⟨0x0304, plenIs 4, false, true, partOnly⟩)
  | .calFull w pk => some (w, pk, ⟨0x0400, plenIs 8, true, false,
      fun s _ ps => (decide (pByte ps 0 = 0xFF) || moduleOk s ps) && zeroBytes ps 1 4⟩)
  | .precSet w pk => some (w, pk, ⟨0x0401, plenIs 12, false, true, precParams⟩)
  | .precRead w pk => some (w, fixBit 1 false pk, ⟨0x0402, plenIs 4, false, false,
      fun _ _ ps => decide (pByte ps 0 < 32 ∧ pByte ps 1 < 2) && zeroBytes ps 2 4⟩)
  | .precReadClear w pk => some (w, fixBit 1 true pk, ⟨0x0402, plenIs 4, false, false,
      fun _ _ ps => decide (pByte ps 0 < 32 ∧ pByte ps 1 < 2) && zeroBytes ps 2 4⟩)
  | .trimRead w pk => some (w, pk, ⟨0x0403, plenIs 8, false, false, fun _ _ ps =>
      decide (pByte ps 0 < 32 ∧ 1 ≤ pByte ps 7 ∧ pByte ps 7 ≤ 120 ∧ fieldAt ps 4 3 + pByte ps 7 ≤ 67333) && zeroBytes ps 1 4⟩)
  | .zoeFence w pk => some (w, pk, ⟨0x0404, plenIs 4, true, false,
      fun s _ ps => moduleOk s ps && decide (pByte ps 1 < 32) && zeroBytes ps 2 4⟩)
  | .zoeQuery w pk => some (w, pk, ⟨0x0405, plenIs 4, false, false, memberOnly⟩)
  | .groupDeclare w pk => some (w, pk, ⟨0x0500, plenIs 4, true, false,
      fun s _ ps => declOk s (pByte ps 0) (pByte ps 1) && zeroBytes ps 2 4⟩)
  | .partnerTrain w pk => some (w, pk, ⟨0x0501, plenIs 8, true, false,
      fun s _ ps => (maskMods ps).all (isPartner s) && ((maskMods ps).isEmpty || isFront s)⟩)
  | .lanesLight w pk => some (w, pk, ⟨0x0502, plenIs 8, true, false, fun s _ ps => laneParams s ps⟩)
  | .lanesDark w pk => some (w, pk, ⟨0x0503, plenIs 8, true, false, fun s _ ps => laneParams s ps⟩)
  | .groupQuery w pk => some (w, pk, ⟨0x0504, plenIs 0, true, false, fun _ _ _ => true⟩)
  | .laneTest w pk => some (w, pk, ⟨0x0505, plenIs 8, true, false, fun _ _ ps =>
      decide (pByte ps 0 < 8 ∧ pByte ps 1 < 8 ∧ pByte ps 2 < 16 ∧ 1 ≤ fieldAt ps 4 2 ∧ fieldAt ps 4 2 ≤ 40) && zeroBytes ps 3 4
        && zeroBytes ps 6 8⟩)
  | .laserRearm w pk => some (w, pk, ⟨0x0506, plenIs 4, true, false, magic 0x5EC0DE02⟩)
  | .powerQuery w pk => some (w, pk, ⟨0x0600, plenIs 4, false, true,
      fun s w ps => (decide (w = .pf ∧ pByte ps 0 = 0xFE) || partOk s w ps) && zeroBytes ps 1 4⟩)
  | .powerCeiling w pk => some (w, pk, ⟨0x0601, plenIs 4, true, false, fun s w ps => pByte ps 1 = 0
      && (if pByte ps 0 = 0xFE then decide (600 ≤ fieldAt ps 2 2 ∧ fieldAt ps 2 2 ≤ 1000)
        else partOk s w ps && decide (1 ≤ fieldAt ps 2 2 ∧ fieldAt ps 2 2 ≤ 1000))⟩)
  | .thermalMode w pk => some (w, pk, ⟨0x0602, plenIs 4, true, false, fun _ _ ps => decide (pByte ps 0 < 2) && zeroBytes ps 1 4⟩)
  | .orderlyStop w pk => some (w, pk, ⟨0x0603, plenIs 4, true, false, magic 0x5EC0DE03⟩)
  | .faultRead w pk => some (w, pk, ⟨0x0700, plenIs 8, false, false, fun s _ ps => moduleOk s ps && logParams 512 ps⟩)
  | .faultClear w pk => some (w, pk, ⟨0x0701, plenIs 8, true, false,
      fun s _ ps => moduleOk s ps && decide (fieldAt ps 2 2 < 512) && zeroBytes ps 1 2 && zeroBytes ps 4 8⟩)
  | .ownlogRead w pk => some (w, pk, ⟨0x0702, plenIs 8, false, false, fun _ _ ps => decide (pByte ps 0 < 2) && logParams 256 ps⟩)
  | .quietSet w pk => some (w, pk, ⟨0x0703, plenIs 4, true, false,
      fun _ _ ps => decide (100 ≤ fieldAt ps 0 4 ∧ fieldAt ps 0 4 ≤ 60000)⟩)
  | .allowance w pk => some (w, pk, ⟨0x0800, fun k => decide (8 ≤ k ∧ k ≤ 1032), true, false, fun _ _ ps => zeroBytes ps 0 8⟩)
  | .keyInstall w pk => some (w, pk, ⟨0x0801, fun k => decide (8 ≤ k ∧ k ≤ 520), true, false,
      fun s w ps => partOk s w ps && zeroBytes ps 1 8⟩)
  | .measurements w pk => some (w, pk, ⟨0x0802, plenIs 4, false, false, memberOnly⟩)
  | .fwStage w pk => some (w, pk, ⟨0x0803, plenIs 24, true, false,
      fun _ _ ps => decide (pByte ps 0 < 3 ∧ fieldAt ps 16 8 ≤ 8388608) && zeroBytes ps 1 8⟩)
  | .fwCommit w pk => some (w, pk, ⟨0x0804, plenIs 4, true, false, fun s _ ps => decide (pByte ps 0 < 3)
      && (decide (pByte ps 1 = 0xFF) || moduleOk s (ps.drop 1)) && zeroBytes ps 2 4⟩)
  | _ => none

/-- A window takes a command: its function exists, no command runs in it, a Marionette serves; `u` is the state with the packet in the
window and the command busy (R220, R221, R225, R333). -/
def Goes (c : Instr) (w : Fn) (r : Row) (s u : State) : Prop :=
  ∃ pk, rowOf c = some (w, pk, r) ∧ fnOn s w = true ∧ winBusy s w = false ∧ mrtServes s = true
    ∧ u = startCmd w (BitVec.ofNat 16 r.op) pk s

/-- A command passes every check of R222 in window w; `u` is the state with it busy and `ps` are its parameters. -/
def Passed (c : Instr) (w : Fn) (s u : State) (ps : List Byte) : Prop :=
  ∃ r, Goes c w r s u ∧ r.plen (window u w).plen.toNat = true ∧ (window u w).plen.toNat ≤ 2048 ∧ (window u w).flags.toNat < 2
    ∧ (w = .pf ∨ r.pfOnly = false ∧ (r.hasPart = false ∨ ps.getD 0 0 = 0xFF)) ∧ serviceAllows u w r.op = true
    ∧ ¬ (s.rst.service = .restricted ∧ (r.op = 0x0300 ∨ r.op = 0x0302)) ∧ r.params s w ps = true
    ∧ ps = slice (window u w).params 0 (window u w).plen.toNat

/-- A command has ended in window w of state u: t is u with its status and reply in the window, and vector 0 sent (R220). -/
def Answers (w : Fn) (st : Nat) (reply : List Byte) (u t : State) : Prop := t = endCmd w st reply u

end Sys2Proof.Machine.Tables
end

