-- ==== Sys2Proof/Certificates/Slice0/Tables.lean ====
section
/-! DEFINITION. The instruction tables of R121 and R122 as data: each instruction beside the result the rule gives it, for the
statements to range over. -/

namespace Sys2Proof.Machine.Tables

open Sys2Proof

/-- Whether an exact result wraps a 32-bit register (R118). -/
def ovf (x : Int) : BitVec 3 := if -2 ^ 31 ≤ x ∧ x < 2 ^ 31 then 0 else 1

/-- Format R: d takes a value of a and b, with the sticky flags it sets (R118, R121). -/
def regTable : List ((MarbleId → FmtR → Instr) × (Word → Word → Word) × (Word → Word → BitVec 3)) := [
  (.add, fun a b => BitVec.ofInt 32 (a.toInt + b.toInt), fun a b => ovf (a.toInt + b.toInt)),
  (.sub, fun a b => BitVec.ofInt 32 (a.toInt - b.toInt), fun a b => ovf (a.toInt - b.toInt)),
  (.and, fun a b => BitVec.ofNat 32 (a.toNat &&& b.toNat), fun _ _ => 0),
  (.or, fun a b => BitVec.ofNat 32 (a.toNat ||| b.toNat), fun _ _ => 0),
  (.xor, fun a b => BitVec.ofNat 32 (a.toNat ^^^ b.toNat), fun _ _ => 0),
  (.sll, fun a b => BitVec.ofNat 32 (a.toNat * 2 ^ (b.toNat % 32)), fun _ _ => 0),
  (.srl, fun a b => BitVec.ofNat 32 (a.toNat / 2 ^ (b.toNat % 32)), fun _ _ => 0),
  (.sra, fun a b => BitVec.ofInt 32 (a.toInt / 2 ^ (b.toNat % 32)), fun _ _ => 0),
  (.mul, fun a b => BitVec.ofInt 32 (a.toInt * b.toInt), fun _ _ => 0),
  (.mulh, fun a b => BitVec.ofInt 32 (a.toInt * b.toInt / 2 ^ 32), fun _ _ => 0),
  (.min, fun a b => BitVec.ofInt 32 (Min.min a.toInt b.toInt), fun _ _ => 0),
  (.max, fun a b => BitVec.ofInt 32 (Max.max a.toInt b.toInt), fun _ _ => 0),
  (.minu, fun a b => BitVec.ofNat 32 (Min.min a.toNat b.toNat), fun _ _ => 0),
  (.maxu, fun a b => BitVec.ofNat 32 (Max.max a.toNat b.toNat), fun _ _ => 0),
  (.clz, fun a _ => BitVec.ofNat 32 ((List.range 32).countP (fun k => decide (a.toNat < 2 ^ k))), fun _ _ => 0),
  (.popc, fun a _ => BitVec.ofNat 32 ((List.range 32).countP (fun k => decide (a.toNat / 2 ^ k % 2 = 1))), fun _ _ => 0)]

/-- Format I: d takes a value of a and imm14 (R118, R121). -/
def immTable : List ((MarbleId → FmtI → Instr) × (Word → BitVec 14 → Word) × (Word → BitVec 14 → BitVec 3)) := [
  (.addi, fun a k => BitVec.ofInt 32 (a.toInt + k.toInt), fun a k => ovf (a.toInt + k.toInt)),
  (.andi, fun a k => BitVec.ofNat 32 (a.toNat &&& k.toNat), fun _ _ => 0),
  (.ori, fun a k => BitVec.ofNat 32 (a.toNat ||| k.toNat), fun _ _ => 0),
  (.xori, fun a k => BitVec.ofNat 32 (a.toNat ^^^ k.toNat), fun _ _ => 0),
  (.shi, fun a k =>
    if k.toNat / 4096 = 0 then BitVec.ofNat 32 (a.toNat * 2 ^ (k.toNat % 32))
    else if k.toNat / 4096 = 1 then BitVec.ofNat 32 (a.toNat / 2 ^ (k.toNat % 32))
    else BitVec.ofInt 32 (a.toInt / 2 ^ (k.toNat % 32)), fun _ _ => 0)]

/-- The relations of the condition codes 0 EQ, 1 NE, 2 LT, 3 GE, 4 LTU, 5 GEU (R121). -/
def holds {w : Nat} (c : Nat) (a b : BitVec w) : Bool :=
  match c with
  | 0 => a.toNat == b.toNat
  | 1 => a.toNat != b.toNat
  | 2 => decide (a.toInt < b.toInt)
  | 3 => decide (a.toInt ≥ b.toInt)
  | 4 => decide (a.toNat < b.toNat)
  | _ => decide (a.toNat ≥ b.toNat)

/-- The conditional branches and their relations (R121). -/
def branches : List ((MarbleId → FmtB → Instr) × Nat) :=
  [(.beq, 0), (.bne, 1), (.blt, 2), (.bge, 3), (.bltu, 4), (.bgeu, 5)]

/-- The local loads: bytes, and whether they are sign-extended (R121). -/
def loads : List ((MarbleId → FmtI → Instr) × Nat × Bool) :=
  [(.ldb, 1, true), (.ldbu, 1, false), (.ldh, 2, true), (.ldhu, 2, false), (.ldw, 4, false)]

/-- The local stores and their bytes (R121). -/
def stores : List ((MarbleId → FmtI → Instr) × Nat) := [(.stb, 1), (.sth, 2), (.stw, 4)]

/-- The signed and unsigned 8-bit ranges (R118). -/
def clip8 (x : Int) : Byte := BitVec.ofInt 8 (Max.max (-128) (Min.min 127 x))

/-- Element i of w-bit packed elements (R43, R117). -/
def elem (w : Nat) (v : DWord) (i : Nat) : Int := (BitVec.ofNat w (v.toNat / 2 ^ (w * i))).toInt

/-- x / 2^k to the nearest integer, ties to even. -/
def nearest (x : Int) (k : Nat) : Int :=
  let q := x / 2 ^ k
  let r := x - q * 2 ^ k
  if 2 * r < 2 ^ k ∨ (2 * r = 2 ^ k ∧ q % 2 = 0) then q else q + 1

/-- Format V: the lanes of vd that the predicate selects take, lane by lane, a value of the Marble (R113, R122). -/
def lanes : List ((MarbleId → FmtV → Instr) × (Marble → FmtV → Nat → Byte)) := [
  (.vadd, fun m f i => BitVec.ofInt 8 ((byteLane (getV m f.va) i).toInt + (byteLane (getV m f.vb) i).toInt)),
  (.vsub, fun m f i => BitVec.ofInt 8 ((byteLane (getV m f.va) i).toInt - (byteLane (getV m f.vb) i).toInt)),
  (.vadds, fun m f i => clip8 ((byteLane (getV m f.va) i).toInt + (byteLane (getV m f.vb) i).toInt)),
  (.vsubs, fun m f i => clip8 ((byteLane (getV m f.va) i).toInt - (byteLane (getV m f.vb) i).toInt)),
  (.vmin, fun m f i => BitVec.ofInt 8 (Min.min (byteLane (getV m f.va) i).toInt (byteLane (getV m f.vb) i).toInt)),
  (.vmax, fun m f i => BitVec.ofInt 8 (Max.max (byteLane (getV m f.va) i).toInt (byteLane (getV m f.vb) i).toInt)),
  (.vminu, fun m f i => BitVec.ofNat 8 (Min.min (byteLane (getV m f.va) i).toNat (byteLane (getV m f.vb) i).toNat)),
  (.vmaxu, fun m f i => BitVec.ofNat 8 (Max.max (byteLane (getV m f.va) i).toNat (byteLane (getV m f.vb) i).toNat)),
  (.vand, fun m f i => BitVec.ofNat 8 ((byteLane (getV m f.va) i).toNat &&& (byteLane (getV m f.vb) i).toNat)),
  (.vor, fun m f i => BitVec.ofNat 8 ((byteLane (getV m f.va) i).toNat ||| (byteLane (getV m f.vb) i).toNat)),
  (.vxor, fun m f i => BitVec.ofNat 8 ((byteLane (getV m f.va) i).toNat ^^^ (byteLane (getV m f.vb) i).toNat)),
  (.vshl, fun m f i => BitVec.ofNat 8 ((byteLane (getV m f.va) i).toNat * 2 ^ ((getM m f.m).toNat % 8))),
  (.vshr, fun m f i => BitVec.ofNat 8 ((byteLane (getV m f.va) i).toNat / 2 ^ ((getM m f.m).toNat % 8))),
  (.vsar, fun m f i => BitVec.ofInt 8 ((byteLane (getV m f.va) i).toInt / 2 ^ ((getM m f.m).toNat % 8))),
  (.vmull, fun m f i => BitVec.ofInt 8 ((byteLane (getV m f.va) i).toInt * (byteLane (getV m f.vb) i).toInt)),
  (.vmulh, fun m f i => BitVec.ofInt 8 ((byteLane (getV m f.va) i).toInt * (byteLane (getV m f.vb) i).toInt / 256)),
  (.vabs, fun m f i => clip8 ((byteLane (getV m f.va) i).toInt.natAbs : Int)),
  (.vbc, fun m f _ => BitVec.ofNat 8 (getM m f.m).toNat),
  (.vperm, fun m f i => byteLane (getV m f.va) ((byteLane (getV m f.vb) i).toNat % 8)),
  (.vsarn, fun m f i => BitVec.ofInt 8 (nearest (byteLane (getV m f.va) i).toInt ((getM m f.m).toNat % 8))),
  (.vunp4l, fun m f i => BitVec.ofInt 8 (elem 4 (getV m f.va) i)),
  (.vunp4h, fun m f i => BitVec.ofInt 8 (elem 4 (getV m f.va) (8 + i))),
  (.vunp5, fun m f i => BitVec.ofInt 8 (elem 5 (getV m f.va) i)),
  (.vunp6, fun m f i => BitVec.ofInt 8 (elem 6 (getV m f.va) i))]

/-- The accumulations m[m] ← m[m] + Σ over the lanes that the predicate selects (R113, R122). -/
def sums : List ((MarbleId → FmtV → Instr) × (Marble → FmtV → Nat → Int)) := [
  (.vrsum, fun m f i => (byteLane (getV m f.va) i).toInt),
  (.vdot8, fun m f i => (byteLane (getV m f.va) i).toInt * (byteLane (getV m f.vb) i).toInt),
  (.vdot4, fun m f i => elem 4 (getV m f.va) (2 * i) * elem 4 (getV m f.vb) (2 * i)
    + elem 4 (getV m f.va) (2 * i + 1) * elem 4 (getV m f.vb) (2 * i + 1)),
  (.vdot84, fun m f i => (byteLane (getV m f.va) i).toInt * elem 4 (getV m f.vb) i)]

/-- The sum of f over the lanes 0 to 7 that the mask selects. -/
def maskedSum (mask : Byte) (f : Nat → Int) : Int := ((List.range 8).map (fun i => if mask.getLsbD i then f i else 0)).sum

/-- The bf16 in bits [15:0] of a register. -/
def low16 (x : Word) : BitVec 16 := x.setWidth 16

/-- Scalar bf16 instructions: d[15:0] takes a bf16 of a and b, d[31:16] takes 0 (R118, R119, R122). FMIN and FMAX are given by
the rule where neither operand is NaN and the values differ. -/
def floats : List ((MarbleId → FmtR → Instr) × (Word → Word → BitVec 16)) := [
  (.fadd, fun a b => bf16Of (addVal (bf16Val (low16 a)) (bf16Val (low16 b)))),
  (.fsub, fun a b => bf16Of (addVal (bf16Val (low16 a)) (negVal (bf16Val (low16 b))))),
  (.fmul, fun a b => bf16Of (mulVal (bf16Val (low16 a)) (bf16Val (low16 b)))),
  (.fscale, fun a b => bf16Of (scaleVal b.toInt (bf16Val (low16 a)))),
  (.fcvtf, fun a _ => bf16Of (.fin (decide (a.toInt < 0)) a.toInt.natAbs 0)),
  (.frcp, fun a _ => recipBf16 (low16 a)),
  (.frsq, fun a _ => rsqrtBf16 (low16 a)),
  (.fexp2, fun a _ => exp2Bf16 (low16 a)),
  (.flog2, fun a _ => log2Bf16 (low16 a))]

/-- The relations of FCMP: 0 EQ, 1 LT, 2 LE, 3 UN (R122). -/
def related (rel : BitVec 2) (a b : FVal) : Bool :=
  match rel.toNat with
  | 0 => eqVal a b
  | 1 => ltVal a b
  | 2 => ltVal a b || eqVal a b
  | _ => isNan a || isNan b

/-- The remote loads and their bytes (R123). -/
def remoteLoads : List ((MarbleId → Bool → FmtR → Instr) × Nat) := [(.rldw, 4), (.rldv, 8), (.rldv2, 16)]

/-- The remote stores and the bytes they carry (R123). -/
def remoteStores : List ((MarbleId → Bool → FmtR → Instr) × (Marble → FmtR → List Byte)) := [
  (.rstw, fun m f => leBytes 4 (getM m f.d).toNat),
  (.rstv, fun m f => leBytes 8 (getV m (f.d.extractLsb' 0 3)).toNat),
  (.rstv2, fun m f => leBytes 8 (getV m (f.d.extractLsb' 0 3)).toNat ++ leBytes 8 (getV m (f.d.extractLsb' 0 3 + 1)).toNat)]

/-- The Marble and the predicate of an instruction that executes as a whole or not at all: the scalar instructions, branches,
local scalar accesses, remote and system instructions, and those of the block accumulator that name no lanes (R113). -/
def whole? : Instr → Option (MarbleId × BitVec 2)
  | .add n f => some (n, f.p)
  | .sub n f => some (n, f.p)
  | .and n f => some (n, f.p)
  | .or n f => some (n, f.p)
  | .xor n f => some (n, f.p)
  | .sll n f => some (n, f.p)
  | .srl n f => some (n, f.p)
  | .sra n f => some (n, f.p)
  | .mul n f => some (n, f.p)
  | .mulh n f => some (n, f.p)
  | .min n f => some (n, f.p)
  | .max n f => some (n, f.p)
  | .minu n f => some (n, f.p)
  | .maxu n f => some (n, f.p)
  | .clz n f => some (n, f.p)
  | .popc n f => some (n, f.p)
  | .jr n f => some (n, f.p)
  | .fcvtf n f => some (n, f.p)
  | .fcvti n f => some (n, f.p)
  | .frcp n f => some (n, f.p)
  | .frsq n f => some (n, f.p)
  | .fexp2 n f => some (n, f.p)
  | .flog2 n f => some (n, f.p)
  | .fadd n f => some (n, f.p)
  | .fsub n f => some (n, f.p)
  | .fmul n f => some (n, f.p)
  | .fmin n f => some (n, f.p)
  | .fmax n f => some (n, f.p)
  | .fscale n f => some (n, f.p)
  | .addi n f => some (n, f.p)
  | .andi n f => some (n, f.p)
  | .ori n f => some (n, f.p)
  | .xori n f => some (n, f.p)
  | .shi n f => some (n, f.p)
  | .loop n f => some (n, f.p)
  | .ldb n f => some (n, f.p)
  | .ldbu n f => some (n, f.p)
  | .ldh n f => some (n, f.p)
  | .ldhu n f => some (n, f.p)
  | .ldw n f => some (n, f.p)
  | .stb n f => some (n, f.p)
  | .sth n f => some (n, f.p)
  | .stw n f => some (n, f.p)
  | .lui n f => some (n, f.p)
  | .cmp n f => some (n, f.p)
  | .cmpi n f => some (n, f.p)
  | .beq n f => some (n, f.p)
  | .bne n f => some (n, f.p)
  | .blt n f => some (n, f.p)
  | .bge n f => some (n, f.p)
  | .bltu n f => some (n, f.p)
  | .bgeu n f => some (n, f.p)
  | .bp n f => some (n, f.p)
  | .jal n f => some (n, f.p)
  | .bclr n f => some (n, f.p)
  | .brd n f => some (n, f.p)
  | .brdq n f => some (n, f.p)
  | .bld n f => some (n, f.p)
  | .mwait n f => some (n, f.p)
  | .fence n f => some (n, f.p)
  | .nop n f => some (n, f.p)
  | .halt n f => some (n, f.p)
  | .bar n f => some (n, f.p)
  | .rdcsr n f => some (n, f.p)
  | .wrcsr n f => some (n, f.p)
  | .trap n f => some (n, f.p)
  | .fcmp n _ f => some (n, f.p)
  | .rldw n _ f => some (n, f.p)
  | .rldv n _ f => some (n, f.p)
  | .rldv2 n _ f => some (n, f.p)
  | .rstw n _ f => some (n, f.p)
  | .rstv n _ f => some (n, f.p)
  | .rstv2 n _ f => some (n, f.p)
  | .rcpy n _ f => some (n, f.p)
  | .mpost n _ f => some (n, f.p)
  | _ => none

end Sys2Proof.Machine.Tables
end

