-- ==== Sys2Proof/Certificates/Slice0/Terms.lean ====
section
/-! DEFINITION. The conditions and effects that several statements name. -/

namespace Sys2Proof.Machine.Tables

open Sys2Proof

/-- A space 00 address of Marble n's half as a key of the scratch map (R111, R136). -/
def remoteKey (n : MarbleId) (a : Nat) : Nat :=
  2048 * (remoteByte n.toNat a).1 + (remoteByte n.toNat a).2

/-- Whether Marble n may reach the `len` bytes, in flits of 32, from a space 00 address: the half is its own, every bank they lie in
passes the check of R182, and no Bag they lie in is held in a block reset (R136, R138, R182, R369). -/
def Reaches (n : MarbleId) (s : State) (a len : Nat) : Prop :=
  a + len ≤ 2 ^ 30 ∧ ∀ j, j < len → tagPass (marbleTag s n.toNat) (bank s (remoteByte n.toNat (a + j)).1) = true
    ∧ blockHeld s .bag ((remoteByte n.toNat (a + j)).1 / 8192) = false

/-- A word that the router writes into Marble n's bank on its own behalf, acting with tag `acc`, gets there: the check passes, and it is
lost to the Marble fewer than 64 times in a row; `k` counts the free values (R129, R138). -/
def Lands (k n : Nat) (acc : BitVec 20) (s : State) : Prop :=
  tagPass acc (bank s n) = true ∧ (Config.routerLosses k n).val ≠ 64

/-- Stream q of Zoetrope z stands at a window boundary with nothing due before its next descriptor: no fence, gap or calibration is due,
light is on, the queue runs and is not halted, no Show stops, no orderly stop runs (R39, R58, R152, R361). -/
def Quiet (s : State) (z q : Nat) : Prop :=
  let x := zoe s z
  let r := stream x q
  (x.state = .ready ∨ x.state = .running) ∧ r.integ = none ∧ r.idle = none ∧ r.paused = false ∧ r.qstate = .running
    ∧ haltBit x q = false ∧ blockHeld s .zoetrope z = false ∧ x.fenceReq = 0 ∧ r.fenceDue = false ∧ x.trim.light = true
    ∧ x.trim.lightDue = false ∧ x.calDue = false ∧ x.trim.runDue = false ∧ x.trim.gapRun.toNat < 16000000 ∧ x.st0.gapDue = false ∧ x.st1.gapDue = false
    ∧ gapRuleMet x r = false ∧ fenceRuleMet x r = false ∧ s.pwr.stopRun = false
    ∧ ∀ p w, quadPart s z = some p → find s.shows p = some w → w.faulted = false ∧ w.stopping = false

/-- Nothing but Zoetrope z differs. -/
def OnlyZoe (z : Nat) (s t : State) : Prop := t = { s with zoes := t.zoes } ∧ ∀ k, k ≠ z → zoe t k = zoe s k

/-- Nothing but Zoetrope z and module time differs. -/
def OnlyZoeAt (z : Nat) (s t : State) : Prop :=
  t = { s with zoes := t.zoes, ident.aux := t.ident.aux } ∧ s.ident.aux ≤ t.ident.aux ∧ ∀ k, k ≠ z → zoe t k = zoe s k

/-- The other stream of a Zoetrope is as it was. -/
def OtherStream (q : Nat) (x x' : Zoe) : Prop := if q = 0 then x'.st1 = x.st1 else x'.st0 = x.st0

/-- The descriptors of the queues: opcode, and the fields that R203 and R204 allow beyond the first 16 bytes. -/
def descriptors : List ((QueueId → Instr) × Nat × (List Byte → Prop)) := [
  (.queueNop, 0, fun bs => zeroBytes bs 16 64 = true),
  (.sessionOpen, 1, fun bs => fieldAt bs 18 2 < 4 ∧ zeroBytes bs 28 64 = true),
  (.sessionResume, 2, fun bs => zeroBytes bs 16 64 = true),
  (.sessionPark, 3, fun bs => zeroBytes bs 16 64 = true),
  (.sessionClose, 4, fun bs => zeroBytes bs 16 64 = true),
  (.tokenSubmit, 5, fun bs => (bs.getD 18 0).toNat < 4 ∧ zeroBytes bs 19 24 = true ∧ 1 ≤ fieldAt bs 16 2
    ∧ ((bs.getD 18 0).getLsbD 0 = true → fieldAt bs 16 2 ≤ 8) ∧ ((bs.getD 18 0).getLsbD 0 = true ∨ fieldAt bs 24 8 % 4 = 0)),
  (.outputFetch, 6, fun bs => fieldAt bs 16 4 % 4 = 0 ∧ 4 ≤ fieldAt bs 16 4 ∧ fieldAt bs 16 4 ≤ 2 ^ 20 ∧ fieldAt bs 24 8 % 4 = 0
    ∧ zeroBytes bs 20 24 = true ∧ zeroBytes bs 32 64 = true),
  (.fenceDescriptor, 7, fun bs => (bs.getD 16 0).toNat < 2 ∧ zeroBytes bs 17 64 = true),
  (.memWrite, 8, fun bs => memFields false bs = true),
  (.memRead, 9, fun bs => memFields true bs = true)]

/-- The oldest fetched descriptor of queue q, f, has an opcode and may start; `d` is its record in flight and `u` the state with it taken
(R203, R208, R209, R213). -/
def Takes (q op : Nat) (f : Fetched) (d : InFlight) (s u : State) : Prop :=
  (∃ rest, (queue s q).fetched = f :: rest) ∧ fieldAt f.bytes 0 1 = op ∧ canStart s q f = true ∧ d = startOf s f ∧ u = takeDesc q d s

/-- The descriptor passes the checks that come before its own: CAP, the reserved fields, and a module that is not Restricted (R203). -/
def Passes (q : Nat) (f : Fetched) (fields : List Byte → Prop) (s : State) : Prop :=
  fieldAt f.bytes 2 2 = (queue s q).capTag.toNat ∧ headerOk f.bytes = true ∧ fields f.bytes ∧ s.rst.service ≠ .restricted

/-- Descriptor d of queue q completes with a status and DATA0 in state u; what waited for it goes on (R205, R209). -/
def Ends (q : Nat) (d : InFlight) (st : Byte) (data : Nat) (u t : State) : Prop := t = settleQueue q (endDesc q d.uid st data u)

/-- A bank that is handed over to tag t without KEEP while nothing runs in it (R183). -/
def handed (t : BitVec 20) : BankState → BankState
  | .free => if t = 0 then .free else .owned t
  | .owned _ => .scrubbing t 0
  | .scrubbing _ k => .scrubbing t k
  | .retired x => .retired x

/-- The banks of the Quads `qs` are handed to tag t, and no other bank (R183). -/
def BanksHanded (qs : List Nat) (t : BitVec 20) (s u : State) : Prop :=
  ∀ n, bank u n = if n / 32768 ∈ qs then handed t (bank s n) else bank s n

/-- The pseudo-channels `cs` begin their zeroing for their owner, and no other pseudo-channel differs (R172). -/
def PchsGiven (cs : List Nat) (owner : Option Nat) (s u : State) : Prop :=
  ∀ c, pch u c = if c ∈ cs then { pch s c with valid := owner.isSome, part := BitVec.ofNat 4 (owner.getD 0), zeroing := true } else pch s c

/-- Partitions other than p are as they were. -/
def OtherPartitions (p : Nat) (s u : State) : Prop := ∀ i, i ≠ p → part u i = part s i

/-- The command stays busy in window w with these notes of what it waits for. -/
def Waits (w : Fn) (arg : Nat) (xs : List Nat) (u t : State) : Prop :=
  window t w = { window u w with run := (window u w).run.map (fun r => { r with arg := arg, xs := xs }) }

/-- The receiving hub discards Parcel r, its later payloads too, and sends DONE with a status (R280, R281, R283). -/
def Discards (r : RxParcel) (st : Byte) (s t : State) : Prop :=
  t = { s with fab.rx := t.fab.rx, fab.peers := t.fab.peers, out := t.out }
    ∧ rxFind t r.partner r.tag = some { r with got := [], dup := true } ∧ .done r.partner r.tag st 0 ∈ t.out

/-- Every source byte of every Parcel in flight from here passes the check of R182 for the Parcel's own tag, so that no source read
fails when payloads go out (R182, R279). -/
def SourcesHeld (s : State) : Prop := ∀ p ∈ s.fab.tx, ∀ i, ∀ b ∈ payloadBanks p i, tagPass p.acc (bank s b) = true

/-- Lane l has left service as Spared with a cause, counted in KAL_ and recorded as a Corrected fault, the only one where no Parcel's
source read fails (R302, R303). -/
def SparedWith (l : Nat) (cause : BitVec 4) (s t : State) : Prop :=
  (lane t l).state = .spared ∧ (lane t l).cause = cause ∧ (lane t l).slice = 127 ∧ (lane t l).holder = 0xE
    ∧ t.fab.kSpared = s.fab.kSpared + 1 ∧ (SourcesHeld s → t.flt.nCorr = s.flt.nCorr + 1)

/-- Nothing but lane l differs, which is `x`. -/
def OnlyLane (l : Nat) (x : Lane) (s t : State) : Prop :=
  t = { s with fab.lanes := t.fab.lanes } ∧ lane t l = x ∧ ∀ k, k ≠ l → lane t k = lane s k

/-- No payload waits to go out on the pair with module m. -/
def NothingToSend (m : Nat) (s : State) : Prop :=
  (∀ e ∈ s.fab.resendQ, e.1 ≠ m) ∧ ∀ p ∈ s.fab.tx, p.partner ≠ m

/-- Nothing but guest site i differs. -/
def OnlyGuest (i : Nat) (s t : State) : Prop :=
  t = if i = 0 then { s with sec.guest0 := t.sec.guest0 } else { s with sec.guest1 := t.sec.guest1 }

end Sys2Proof.Machine.Tables
end

