-- ==== Sys2Proof/Certificates/Slice0/Obligations.lean ====
section
/-! DEFINITION. The statements for the provers: what each command of the block does, from the rules of spec/. -/

open Sys2Proof Sys2Proof.Machine Sys2Proof.Machine.Tables

/-! ### The machine -/

/-- A step takes the command at the front of the queue and is its effect on the state with the queue's rest. -/
def Obligations.StepRunsFrontCommand : Prop :=
  ∀ (c : Instr) (rest : List Instr) (s : State), s.pending = c :: rest → step s = exec c { s with pending := rest }

/-! ### Marbles -/

/-- The scalar arithmetic of R121 (formats R, I and U): d takes the rule's value, a wrap of an add or subtract sets OVF (R118), and
nothing else changes. The clauses that rest on log entries 7 and 11 are the model's choices. -/
def Obligations.MarbleScalarArithmetic : Prop :=
  ∀ (n : MarbleId) (s : State), Issues n s →
    (∀ e ∈ regTable, ∀ f : FmtR, (getP (marble s n.toNat) f.p).getLsbD 0 = true → (e.1 n f).wf = true →
      ∃ t, exec (e.1 n f) s = .next t ∧ ScalarDone n f.d
        (e.2.1 (getM (marble s n.toNat) f.a) (getM (marble s n.toNat) f.b))
        (e.2.2 (getM (marble s n.toNat) f.a) (getM (marble s n.toNat) f.b)) s t)
    ∧ (∀ e ∈ immTable, ∀ f : FmtI, (getP (marble s n.toNat) f.p).getLsbD 0 = true → (e.1 n f).wf = true →
      ∃ t, exec (e.1 n f) s = .next t ∧ ScalarDone n f.d
        (e.2.1 (getM (marble s n.toNat) f.a) f.imm) (e.2.2 (getM (marble s n.toNat) f.a) f.imm) s t)
    ∧ (∀ f : FmtU, (getP (marble s n.toNat) f.p).getLsbD 0 = true →
      ∃ t, exec (.lui n f) s = .next t ∧ ScalarDone n f.d (BitVec.ofNat 32 (f.imm.toNat * 2 ^ 13)) 0 s t)

/-- CMP, CMPI and FCMP: the named predicate takes 0xFF where the relation holds, else 0x00, and nothing else changes (R121, R122). -/
def Claims.MarbleCompares : Prop :=
  ∀ (n : MarbleId) (s : State), Issues n s →
    (∀ f : FmtC, (getP (marble s n.toNat) f.p).getLsbD 0 = true → (Instr.cmp n f).wf = true →
      ∃ t, exec (.cmp n f) s = .next t ∧ PredDone n f.pd
        (if holds f.cond.toNat (getM (marble s n.toNat) f.a) (getM (marble s n.toNat) (f.imm.extractLsb' 9 5)) then 0xFF else 0) s t)
    ∧ (∀ f : FmtC, (getP (marble s n.toNat) f.p).getLsbD 0 = true → (Instr.cmpi n f).wf = true →
      ∃ t, exec (.cmpi n f) s = .next t ∧ PredDone n f.pd
        (if holds f.cond.toNat (getM (marble s n.toNat) f.a) (BitVec.ofInt 32 f.imm.toInt) then 0xFF else 0) s t)
    ∧ (∀ (rel : BitVec 2) (f : FmtR), (getP (marble s n.toNat) f.p).getLsbD 0 = true → (Instr.fcmp n rel f).wf = true →
      ∃ t, exec (.fcmp n rel f) s = .next t ∧ PredDone n (f.d.extractLsb' 0 2)
        (if related rel (bf16Val (low16 (getM (marble s n.toNat) f.a))) (bf16Val (low16 (getM (marble s n.toNat) f.b)))
          then 0xFF else 0) s t)

/-- The branches, JAL and JR: the PC takes the target where the instruction is taken, a branch out of a loop's body ends the loop,
the link register takes PC + 1, and nothing else changes (R121). -/
def Claims.MarbleBranchesAndJumps : Prop :=
  ∀ (n : MarbleId) (s : State), Issues n s →
    (∀ e ∈ branches, ∀ f : FmtB, (getP (marble s n.toNat) f.p).getLsbD 0 = true →
      ∃ t, exec (e.1 n f) s = .next t ∧ OnlyMarble n s t ∧ SameButPc (marble s n.toNat) (marble t n.toNat)
        ∧ (if holds e.2 (getM (marble s n.toNat) f.a) (getM (marble s n.toNat) f.b)
           then BranchedTo ((marble s n.toNat).pc + f.off) (marble s n.toNat) (marble t n.toNat)
           else WentOn (marble s n.toNat) (marble t n.toNat)))
    ∧ (∀ f : FmtB, (getP (marble s n.toNat) f.p).getLsbD 0 = true → (Instr.bp n f).wf = true →
      ∃ t, exec (.bp n f) s = .next t ∧ OnlyMarble n s t ∧ SameButPc (marble s n.toNat) (marble t n.toNat)
        ∧ (if (getP (marble s n.toNat) (f.a.extractLsb' 0 2)).getLsbD 0 = f.a.getLsbD 4
           then BranchedTo ((marble s n.toNat).pc + f.off) (marble s n.toNat) (marble t n.toNat)
           else WentOn (marble s n.toNat) (marble t n.toNat)))
    ∧ (∀ f : FmtJ, (getP (marble s n.toNat) f.p).getLsbD 0 = true →
      ∃ t, exec (.jal n f) s = .next t ∧ OnlyMarble n s t
        ∧ ScalarTook 31 (BitVec.ofNat 32 ((marble s n.toNat).pc + 1).toNat) (marble s n.toNat) (marble t n.toNat)
        ∧ BranchedTo ((marble s n.toNat).pc + BitVec.ofNat 14 f.off.toNat) (marble s n.toNat) (marble t n.toNat)
        ∧ SameVectors (marble s n.toNat) (marble t n.toNat) ∧ SamePreds (marble s n.toNat) (marble t n.toNat)
        ∧ (marble t n.toNat).ba = (marble s n.toNat).ba ∧ (marble t n.toNat).mflags = (marble s n.toNat).mflags
        ∧ Kept (marble s n.toNat) (marble t n.toNat))
    ∧ (∀ f : FmtR, (getP (marble s n.toNat) f.p).getLsbD 0 = true → (Instr.jr n f).wf = true →
      ∃ t, exec (.jr n f) s = .next t ∧ OnlyMarble n s t
        ∧ ScalarTook f.d (BitVec.ofNat 32 ((marble s n.toNat).pc + 1).toNat) (marble s n.toNat) (marble t n.toNat)
        ∧ BranchedTo (BitVec.ofNat 14 (getM (marble s n.toNat) f.a).toNat) (marble s n.toNat) (marble t n.toNat)
        ∧ SameVectors (marble s n.toNat) (marble t n.toNat) ∧ SamePreds (marble s n.toNat) (marble t n.toNat)
        ∧ (marble t n.toNat).ba = (marble s n.toNat).ba ∧ (marble t n.toNat).mflags = (marble s n.toNat).mflags
        ∧ Kept (marble s n.toNat) (marble t n.toNat))

/-- Compares, branches and jumps of a Marble. The clauses that rest on log entries 7, 21 and 23 are the model's choices. -/
def Obligations.MarbleComparesAndBranches : Prop := Claims.MarbleCompares ∧ Claims.MarbleBranchesAndJumps

/-- LOOP with a count and a length above 0, at a level the rule allows: the loop is live with body PC + 1 to PC + imm14; the body
runs the count's times: at its last instruction the PC goes back to its first until the last pass, after which the loop is not live
and the PC goes on (R121). The clauses that rest on log entries 7 and 21 are the model's choices. -/
def Obligations.MarbleHardwareLoops : Prop :=
  (∀ (n : MarbleId) (f : FmtI) (s : State), Issues n s → (getP (marble s n.toNat) f.p).getLsbD 0 = true → (Instr.loop n f).wf = true →
    getM (marble s n.toNat) f.a ≠ 0 → f.imm ≠ 0 →
    let l : LoopSt := { start := (marble s n.toNat).pc + 1, last := (marble s n.toNat).pc + f.imm, left := getM (marble s n.toNat) f.a }
    (f.d.getLsbD 0 = false → (marble s n.toNat).loop0 = none →
      ∃ t, exec (.loop n f) s = .next t ∧ OnlyMarble n s t ∧ SameButPc (marble s n.toNat) (marble t n.toNat)
        ∧ (marble t n.toNat).pc = (marble s n.toNat).pc + 1 ∧ (marble t n.toNat).loop0 = some l ∧ (marble t n.toNat).loop1 = none)
    ∧ (f.d.getLsbD 0 = true → (marble s n.toNat).loop0.isSome = true → (marble s n.toNat).loop1 = none →
      ∃ t, exec (.loop n f) s = .next t ∧ OnlyMarble n s t ∧ SameButPc (marble s n.toNat) (marble t n.toNat)
        ∧ (marble t n.toNat).pc = (marble s n.toNat).pc + 1 ∧ (marble t n.toNat).loop0 = (marble s n.toNat).loop0
        ∧ (marble t n.toNat).loop1 = some l))
  ∧ (∀ (m : Marble) (l : LoopSt), m.loop0 = some l → m.loop1 = none → m.pc = l.last →
    if 1 < l.left.toNat then
      (advance m).pc = l.start ∧ (advance m).loop0 = some { l with left := l.left - 1 }
    else (advance m).pc = m.pc + 1 ∧ (advance m).loop0 = none)

/-- The local loads: d takes the little-endian bytes at m[a] + sext(imm14) of the Marble's own bank, sign- or zero-extended, and
nothing else changes (R120, R121, R126). -/
def Claims.MarbleLocalLoads : Prop :=
  ∀ (n : MarbleId) (s : State), Issues n s → ∀ e ∈ loads, ∀ f : FmtI, (getP (marble s n.toNat) f.p).getLsbD 0 = true →
    (getM (marble s n.toNat) f.a + BitVec.ofInt 32 f.imm.toInt).toNat + e.2.1 ≤ 0x800 →
    ∃ t, exec (e.1 n f) s = .next t ∧ ScalarDone n f.d
      (let x := bankNum s n.toNat (getM (marble s n.toNat) f.a + BitVec.ofInt 32 f.imm.toInt).toNat e.2.1
       if e.2.2 then BitVec.ofInt 32 (BitVec.ofNat (8 * e.2.1) x).toInt else BitVec.ofNat 32 x) 0 s t

/-- The local stores: the low bytes of d at m[a] + sext(imm14) of the Marble's own bank, and every other byte of memory is as it was
(R120, R121, R126). -/
def Claims.MarbleLocalStores : Prop :=
  ∀ (n : MarbleId) (s : State), Issues n s → ∀ e ∈ stores, ∀ f : FmtI, (getP (marble s n.toNat) f.p).getLsbD 0 = true →
    (getM (marble s n.toNat) f.a + BitVec.ofInt 32 f.imm.toInt).toNat + e.2 ≤ 0x800 →
    ∃ t, exec (e.1 n f) s = .next t ∧ StoreDone n (getM (marble s n.toNat) f.a + BitVec.ofInt 32 f.imm.toInt).toNat e.2
      (numByte (getM (marble s n.toNat) f.d).toNat) s t

/-- VLD, VLD2, VST and VST2 with some lane selected: only the selected lanes of vd (and of vd + 1) are loaded, and only their bytes
are stored (R113, R121). -/
def Claims.MarbleVectorAccesses : Prop :=
  ∀ (n : MarbleId) (f : FmtI) (s : State), Issues n s →
    let m := marble s n.toNat
    let mask := getP m f.p
    let a := (getM m f.a + BitVec.ofInt 32 f.imm.toInt).toNat
    let vd : BitVec 3 := f.d.extractLsb' 0 3
    mask ≠ 0 →
    ((Instr.vld n f).wf = true → a + 8 ≤ 0x800 →
      ∃ t, exec (.vld n f) s = .next t ∧ LanesDone n vd mask (fun i => bankByte s n.toNat (a + i)) 0 s t)
    ∧ ((Instr.vld2 n f).wf = true → a + 16 ≤ 0x800 →
      ∃ t, exec (.vld2 n f) s = .next t ∧ OnlyMarble n s t
        ∧ (∀ r, r ≠ vd → r ≠ vd + 1 → getV (marble t n.toNat) r = getV m r)
        ∧ (∀ i, i < 8 → byteLane (getV (marble t n.toNat) vd) i
            = if mask.getLsbD i then bankByte s n.toNat (a + i) else byteLane (getV m vd) i)
        ∧ (∀ i, i < 8 → byteLane (getV (marble t n.toNat) (vd + 1)) i
            = if mask.getLsbD i then bankByte s n.toNat (a + 8 + i) else byteLane (getV m (vd + 1)) i)
        ∧ SameScalars m (marble t n.toNat) ∧ SamePreds m (marble t n.toNat) ∧ (marble t n.toNat).ba = m.ba
        ∧ (marble t n.toNat).mflags = m.mflags ∧ WentOn m (marble t n.toNat) ∧ Kept m (marble t n.toNat))
    ∧ ((Instr.vst n f).wf = true → a + 8 ≤ 0x800 →
      ∃ t, exec (.vst n f) s = .next t ∧ StoreDone n a 8
        (fun i => if mask.getLsbD i then byteLane (getV m vd) i else bankByte s n.toNat (a + i)) s t)
    ∧ ((Instr.vst2 n f).wf = true → a + 16 ≤ 0x800 →
      ∃ t, exec (.vst2 n f) s = .next t ∧ StoreDone n a 16
        (fun i => if mask.getLsbD (i % 8) then byteLane (getV m (if i < 8 then vd else vd + 1)) (i % 8)
          else bankByte s n.toNat (a + i)) s t)

/-- Loads, stores and vector accesses of a Marble's own bank. The clauses that rest on log entries 7 and 17 are the model's choices. -/
def Obligations.MarbleLocalMemory : Prop := Claims.MarbleLocalLoads ∧ Claims.MarbleLocalStores ∧ Claims.MarbleVectorAccesses

/-- The lane instructions of R122: each lane of vd that the predicate selects takes the rule's value, and nothing else changes; VSEL
is not subject to P, and VMVL and VMVH reach lanes 0 to 3 and 4 to 7. -/
def Claims.MarbleLaneResults : Prop :=
  ∀ (n : MarbleId) (f : FmtV) (s : State), Issues n s →
    let m := marble s n.toNat
    let mask := getP m f.p
    (∀ e ∈ lanes, (e.1 n f).wf = true →
      ∃ t, exec (e.1 n f) s = .next t ∧ LanesDone n f.vd mask (e.2 m f) 0 s t)
    ∧ ((Instr.vsel n f).wf = true →
      ∃ t, exec (.vsel n f) s = .next t ∧ LanesDone n f.vd 0xFF (fun i =>
        if (getP m (f.m.extractLsb' 0 2)).getLsbD i then byteLane (getV m f.va) i else byteLane (getV m f.vb) i) 0 s t)
    ∧ ((Instr.vmvl n f).wf = true →
      ∃ t, exec (.vmvl n f) s = .next t
        ∧ LanesDone n f.vd (mask &&& 0x0F) (fun i => BitVec.ofNat 8 ((getM m f.m).toNat / 256 ^ i)) 0 s t)
    ∧ ((Instr.vmvh n f).wf = true →
      ∃ t, exec (.vmvh n f) s = .next t
        ∧ LanesDone n f.vd (mask &&& 0xF0) (fun i => BitVec.ofNat 8 ((getM m f.m).toNat / 256 ^ (i - 4))) 0 s t)

/-- The instructions that write a scalar register or a predicate from lanes: the sums of R122 wrap modulo 2^32 and set OVF on a
wrap; VTOL and VTOH write the bytes whose lane is selected; VCMP writes the predicate bits of the selected lanes (R113, R118, R122). -/
def Claims.MarbleSumsAndLaneMoves : Prop :=
  ∀ (n : MarbleId) (f : FmtV) (s : State), Issues n s →
    let m := marble s n.toNat
    let mask := getP m f.p
    (∀ e ∈ sums, (e.1 n f).wf = true →
      ∃ t, exec (e.1 n f) s = .next t ∧ ScalarDone n f.m
        (BitVec.ofInt 32 ((getM m f.m).toInt + maskedSum mask (e.2 m f))) (ovf ((getM m f.m).toInt + maskedSum mask (e.2 m f))) s t)
    ∧ (∀ e ∈ ([(.vtol, 0), (.vtoh, 4)] : List ((MarbleId → FmtV → Instr) × Nat)), (e.1 n f).wf = true →
      ∃ t x, exec (e.1 n f) s = .next t ∧ ScalarDone n f.m x 0 s t
        ∧ ∀ i, i < 4 → numByte x.toNat i
          = if mask.getLsbD (e.2 + i) then byteLane (getV m f.va) (e.2 + i) else numByte (getM m f.m).toNat i)
    ∧ (∀ c : BitVec 3, (Instr.vcmp n c f).wf = true →
      ∃ t x, exec (.vcmp n c f) s = .next t ∧ PredDone n (f.m.extractLsb' 0 2) x s t
        ∧ ∀ i, i < 8 → x.getLsbD i = if mask.getLsbD i then holds c.toNat (byteLane (getV m f.va) i) (byteLane (getV m f.vb) i)
          else (getP m (f.m.extractLsb' 0 2)).getLsbD i)

/-- The vector instructions: lane by lane, sums, and moves of lanes. The clauses that rest on log entries 7, 12 and 15 are the
model's choices. -/
def Obligations.MarbleLanes : Prop := Claims.MarbleLaneResults ∧ Claims.MarbleSumsAndLaneMoves

/-- The packing and format conversions of R122. VPK4, VPK5 and VPK6: the selected bytes of vd take those of a word whose elements
are the lanes saturated to the symmetric range and whose other bytes are 0, and with every lane selected SATCVT is set exactly when
one saturates; VUNPF6A, VUNPF6B and VBFF8 convert lane by lane; VF8BF and VF8BFH with every lane selected. The clauses that rest on
log entries 7, 12, 14 and 20 are the model's choices. -/
def Obligations.MarblePackingAndConversions : Prop :=
  ∀ (n : MarbleId) (f : FmtV) (s : State), Issues n s →
    let m := marble s n.toNat
    let mask := getP m f.p
    (∀ e ∈ ([(.vpk4, 4, 16), (.vpk5, 5, 8), (.vpk6, 6, 8)] : List ((MarbleId → FmtV → Instr) × Nat × Nat)), (e.1 n f).wf = true →
      let src (i : Nat) : Int := (if i < 8 then byteLane (getV m f.va) i else byteLane (getV m f.vb) (i - 8)).toInt
      let lim : Int := 2 ^ (e.2.1 - 1) - 1
      ∃ (t : State) (w : DWord) (flags : BitVec 3), exec (e.1 n f) s = .next t ∧ LanesDone n f.vd mask (byteLane w) flags s t
        ∧ (∀ i, i < e.2.2 → elem e.2.1 w i = Max.max (-lim) (Min.min lim (src i)))
        ∧ (∀ i, e.2.1 * e.2.2 / 8 ≤ i → i < 8 → byteLane w i = 0)
        ∧ (mask = 0xFF → flags = if (List.range e.2.2).any (fun i => decide (src i < -lim ∨ lim < src i)) then 4 else 0))
    ∧ (∀ e ∈ ([(.vunpf6a, false), (.vunpf6b, true)] : List ((MarbleId → FmtV → Instr) × Bool)), (e.1 n f).wf = true →
      ∃ t, exec (e.1 n f) s = .next t
        ∧ LanesDone n f.vd mask (fun i => (fp8Of e.2 0 (fp6Val e.2 (BitVec.ofNat 6 ((getV m f.va).toNat / 2 ^ (6 * i))))).1) 0 s t)
    ∧ (mask = 0xFF → ∀ e ∈ ([(.vf8bf, 0), (.vf8bfh, 4)] : List ((MarbleId → FmtV → Instr) × Nat)), (e.1 n f).wf = true →
      ∃ t g, exec (e.1 n f) s = .next t ∧ LanesDone n f.vd mask g 0 s t
        ∧ ∀ i, i < 4 → halfLane (getV (marble t n.toNat) f.vd) i
          = bf16Of (fp8Val (f.m.getLsbD 0) (byteLane (getV m f.va) (e.2 + i))))
    ∧ ((Instr.vbff8 n f).wf = true →
      let src (i : Nat) : BitVec 16 := if i < 4 then halfLane (getV m f.va) i else halfLane (getV m f.vb) (i - 4)
      ∃ t, exec (.vbff8 n f) s = .next t
        ∧ LanesDone n f.vd mask (fun i => (fp8Of (f.m.getLsbD 0) (src i) (bf16Val (src i))).1)
          (if (List.range 8).any (fun i => mask.getLsbD i && (fp8Of (f.m.getLsbD 0) (src i) (bf16Val (src i))).2) then 4 else 0) s t)

/-- The block accumulator: F8DOT, BDOT and MXDOT add each exact product of a selected lane in lane order, each addition rounding; a
NaN operand sets NAN; BCLR, BLD, BRD and BRDQ clear, load and read it (R113, R118, R122). That predicate bit i selects 16-bit lane i
and that only selected lanes set NAN is the model's choice (log entries 12, 22). -/
def Claims.MarbleBlockAccumulator : Prop :=
  ∀ (n : MarbleId) (f : FmtV) (s : State), Issues n s →
    let m := marble s n.toNat
    let mask := getP m f.p
    let dot (k : Nat) (a b : Nat → FVal) (e : Int) : BlockAcc := (List.range k).foldl (fun acc i =>
      if mask.getLsbD i then baOf (addVal (baVal acc) (scaleVal e (mulVal (a i) (b i)))) else acc) m.ba
    let nan (k : Nat) (a b : Nat → FVal) : BitVec 3 :=
      if (List.range k).any (fun i => mask.getLsbD i && (isNan (a i) || isNan (b i))) then 2 else 0
    let x8 (e5 : Bool) (r : BitVec 3) (i : Nat) : FVal := fp8Val e5 (byteLane (getV m r) i)
    let x16 (r : BitVec 3) (i : Nat) : FVal := bf16Val (halfLane (getV m r) i)
    let xi (r : BitVec 3) (i : Nat) : FVal :=
      .fin (decide ((byteLane (getV m r) i).toInt < 0)) (byteLane (getV m r) i).toInt.natAbs 0
    ((Instr.f8dot n f).wf = true →
      ∃ t, exec (.f8dot n f) s = .next t ∧ AccDone n (dot 8 (x8 (f.m.getLsbD 0) f.va) (x8 (f.m.getLsbD 1) f.vb) 0)
        (nan 8 (x8 (f.m.getLsbD 0) f.va) (x8 (f.m.getLsbD 1) f.vb)) s t)
    ∧ ((Instr.bdot n f).wf = true →
      ∃ t, exec (.bdot n f) s = .next t ∧ AccDone n (dot 4 (x16 f.va) (x16 f.vb) 0) (nan 4 (x16 f.va) (x16 f.vb)) s t)
    ∧ ((Instr.mxdot n f).wf = true →
      ∃ t, exec (.mxdot n f) s = .next t
        ∧ AccDone n (dot 8 (xi f.va) (xi f.vb) (BitVec.ofNat 10 (getM m f.m).toNat).toInt) 0 s t)
    ∧ ((getP m f.p).getLsbD 0 = true →
      ((Instr.bclr n f).wf = true → ∃ t, exec (.bclr n f) s = .next t ∧ AccDone n (.fin false 0 0) 0 s t)
      ∧ ((Instr.bld n f).wf = true →
        ∃ t, exec (.bld n f) s = .next t ∧ AccDone n (baOf (bf16Val (low16 (getM m f.m))))
          (if isNan (bf16Val (low16 (getM m f.m))) then 2 else 0) s t)
      ∧ ((Instr.brd n f).wf = true →
        ∃ t, exec (.brd n f) s = .next t ∧ ScalarDone n f.m (BitVec.ofNat 32 (bf16Of (baVal m.ba)).toNat) 0 s t)
      ∧ ((Instr.brdq n f).wf = true →
        let r := int32Of Config.brdqNan (scaleVal (BitVec.ofNat 8 (getM m f.m).toNat).toInt (baVal m.ba))
        ∃ t, exec (.brdq n f) s = .next t ∧ ScalarDone n f.m r.1 (if r.2 then 4 else 0) s t))

/-- The scalar bf16 instructions: d[15:0] takes the rule's bf16 and d[31:16] takes 0; FCVTI saturates, sets SATCVT, and gives 0 for
NaN; FMIN and FMAX give the smaller and the larger of two values, 0x7FC0 of two NaNs, and a free bf16 where the rule states none
(R118, R119, R122). -/
def Claims.MarbleScalarFloats : Prop :=
  ∀ (n : MarbleId) (f : FmtR) (s : State), Issues n s → (getP (marble s n.toNat) f.p).getLsbD 0 = true →
    let a := getM (marble s n.toNat) f.a
    let b := getM (marble s n.toNat) f.b
    let va := bf16Val (low16 a)
    let vb := bf16Val (low16 b)
    (∀ e ∈ floats, (e.1 n f).wf = true →
      ∃ t, exec (e.1 n f) s = .next t ∧ ScalarDone n f.d (BitVec.ofNat 32 (e.2 a b).toNat) 0 s t)
    ∧ (∀ e ∈ ([(.fmin, false), (.fmax, true)] : List ((MarbleId → FmtR → Instr) × Bool)),
      ∃ (t : State) (x : BitVec 16), exec (e.1 n f) s = .next t ∧ ScalarDone n f.d (BitVec.ofNat 32 x.toNat) 0 s t
        ∧ (ltVal va vb = true → x = bf16Of (if e.2 then vb else va))
        ∧ (ltVal vb va = true → x = bf16Of (if e.2 then va else vb))
        ∧ (isNan va = true → isNan vb = true → x = 0x7FC0))
    ∧ ((Instr.fcvti n f).wf = true →
      ∃ t, exec (.fcvti n f) s = .next t ∧ ScalarDone n f.d (int32Of 0 va).1 (if (int32Of 0 va).2 then 4 else 0) s t)

/-- The block accumulator and the scalar bf16 arithmetic. The clauses that rest on log entries 7, 8, 13 and 22 are the model's
choices. -/
def Obligations.MarbleFloatingPoint : Prop := Claims.MarbleBlockAccumulator ∧ Claims.MarbleScalarFloats

/-- A whole instruction whose predicate has bit 0 clear, and a vector access with no lane selected, does nothing but go on (R113;
for the vector access log entry 17). -/
def Claims.MarblePredicateOff : Prop :=
  (∀ (i : Instr) (n : MarbleId) (p : BitVec 2) (s : State), whole? i = some (n, p) → i.wf = true → Issues n s →
    (getP (marble s n.toNat) p).getLsbD 0 = false →
    ∃ t, exec i s = .next t ∧ OnlyMarble n s t ∧ WentOn (marble s n.toNat) (marble t n.toNat)
      ∧ SameButPc (marble s n.toNat) (marble t n.toNat))
  ∧ (∀ c ∈ ([.vld, .vld2, .vst, .vst2] : List (MarbleId → FmtI → Instr)), ∀ (n : MarbleId) (f : FmtI) (s : State),
    (c n f).wf = true → Issues n s → getP (marble s n.toNat) f.p = 0 →
    ∃ t, exec (c n f) s = .next t ∧ OnlyMarble n s t ∧ WentOn (marble s n.toNat) (marble t n.toNat)
      ∧ SameButPc (marble s n.toNat) (marble t n.toNat))

/-- What stops a Marble, with MRB_TRAPS and the Contained count advanced and nothing else of memory or of another Marble changed:
cause 2, a word of a reserved operation, an ill-formed instruction or a LOOP that breaks the level rule; cause 3, a local access of bytes outside the bank, and an
MWAIT on other than a dual-port word; cause 4, a fetch beyond the loaded instructions; cause 5 with its code, TRAP. HALT stops it
with cause 1, and is no trap (R116, R120, R121, R123). A Marble that cannot issue is as it was (the model's choice, log entry 7). -/
def Claims.MarbleStops : Prop :=
  (∀ (i : Instr) (n : MarbleId) (s : State), i.marble? = some n →
    (canIssue s n.toNat = false → exec i s = .next s)
    ∧ (canIssue s n.toNat = true → loadedCount s n.toNat ≤ (marble s n.toNat).pc.toNat →
      ∃ t, exec i s = .next t ∧ TrappedWith n 4 0 s t)
    ∧ (canIssue s n.toNat = true → (marble s n.toNat).pc.toNat < loadedCount s n.toNat → wordReserved s n = true →
      ∃ t, exec i s = .next t ∧ TrappedWith n 2 0 s t)
    ∧ (Issues n s → i.wf = false → ∃ t, exec i s = .next t ∧ TrappedWith n 2 0 s t))
  ∧ (∀ (n : MarbleId) (f : FmtI) (s : State), Issues n s → (getP (marble s n.toNat) f.p).getLsbD 0 = true → (Instr.loop n f).wf = true →
    (f.d.getLsbD 0 = false ∧ (marble s n.toNat).loop0.isSome = true
      ∨ f.d.getLsbD 0 = true ∧ ((marble s n.toNat).loop0 = none ∨ (marble s n.toNat).loop1.isSome = true)) →
    ∃ t, exec (.loop n f) s = .next t ∧ TrappedWith n 2 0 s t)
  ∧ (∀ (n : MarbleId) (f : FmtI) (s : State), Issues n s →
    let a := (getM (marble s n.toNat) f.a + BitVec.ofInt 32 f.imm.toInt).toNat
    ((getP (marble s n.toNat) f.p).getLsbD 0 = true →
      (∀ e ∈ loads, 0x800 < a + e.2.1 → ∃ t, exec (e.1 n f) s = .next t ∧ TrappedWith n 3 0 s t)
      ∧ (∀ e ∈ stores, 0x800 < a + e.2 → ∃ t, exec (e.1 n f) s = .next t ∧ TrappedWith n 3 0 s t))
    ∧ (getP (marble s n.toNat) f.p ≠ 0 → ∀ e ∈ ([(.vld, 8), (.vst, 8), (.vld2, 16), (.vst2, 16)] : List ((MarbleId → FmtI → Instr) × Nat)),
      (e.1 n f).wf = true → 0x800 < a + e.2 → ∃ t, exec (e.1 n f) s = .next t ∧ TrappedWith n 3 0 s t))
  ∧ (∀ (n : MarbleId) (f : FmtR) (s : State), Issues n s → (getP (marble s n.toNat) f.p).getLsbD 0 = true →
    let a := (getM (marble s n.toNat) f.a).toNat
    ((a < 0x780 ∨ 0x7FF < a ∨ a % 4 ≠ 0) → ∃ t, exec (.mwait n f) s = .next t ∧ TrappedWith n 3 0 s t)
    ∧ ((Instr.trap n f).wf = true → ∃ t, exec (.trap n f) s = .next t ∧ TrappedWith n 5 f.b s t)
    ∧ ((Instr.halt n f).wf = true → ∃ t, exec (.halt n f) s = .next t ∧ OnlyMarble n s t ∧ StoppedWith n 1 0 s t))

/-- Instructions whose predicate is off, and every way a Marble stops. The clauses that rest on log entries 7, 15 and 17 are the
model's choices. -/
def Obligations.MarblePredicatesAndStops : Prop := Claims.MarblePredicateOff ∧ Claims.MarbleStops

/-- A remote instruction that executes takes one of the Marble's four outstanding operations and goes on, a load once its data has
come; a fifth stalls at issue. The predicate and the source registers are those at issue (R113, R123). -/
def Claims.MarbleRemoteIssue : Prop :=
  ∀ (n : MarbleId) (u : Bool) (f : FmtR) (s : State), Issues n s → (getP (marble s n.toNat) f.p).getLsbD 0 = true →
    let m := marble s n.toNat
    let went (op : RemoteOp) (t : State) : Prop := OnlyMarble n s t ∧ marble t n.toNat
      = { m with outst := m.outst ++ [⟨op, u⟩], pc := (advance m).pc, loop0 := (advance m).loop0, loop1 := (advance m).loop1 }
    (m.outst.length < 4 →
      (∀ e ∈ remoteLoads, (e.1 n u f).wf = true → ∃ t, exec (e.1 n u f) s = .next t ∧ OnlyMarble n s t ∧ marble t n.toNat
        = { m with outst := m.outst ++ [⟨.load e.2 f.d (getM m f.a), u⟩], waiting := .remote })
      ∧ (∀ e ∈ remoteStores, (e.1 n u f).wf = true → ∃ t, exec (e.1 n u f) s = .next t ∧ went (.store (getM m f.a) (e.2 m f)) t)
      ∧ (∃ t, exec (.rcpy n u f) s = .next t ∧ went (.copy (getM m f.a) (getM m f.b) ((getM m f.d).toNat % 2 ^ 17)) t))
    ∧ (4 ≤ m.outst.length →
      (∀ e ∈ remoteLoads, (e.1 n u f).wf = true → exec (e.1 n u f) s = .next s)
      ∧ (∀ e ∈ remoteStores, (e.1 n u f).wf = true → exec (e.1 n u f) s = .next s)
      ∧ exec (.rcpy n u f) s = .next s
      ∧ ∀ k : BitVec 1, (Instr.mpost n k f).wf = true → exec (.mpost n k f) s = .next s)

/-- A remote operation to space 00 whose checks pass completes with OK: a load writes its registers and its Marble goes on, a store
writes its bytes, a copy writes the bytes of its source, and the operation is no longer outstanding; every other byte of memory is
as it was. A store to a dual-port word that its bank's Marble writes in the same cycle is lost: it completes with LOST_TO_LOCAL,
writes nothing and is counted (R123, R127, R128, R136, R138, R140). -/
def Claims.RemoteCompletions : Prop :=
  ∀ (n : MarbleId) (i : Fin 4) (o : Outst) (s : State),
    let m := marble s n.toNat
    m.outst[i.val]? = some o →
    (∀ (len : Nat) (d : BitVec 5) (a : Word), o.op = .load len d a → m.waiting = .remote → a.toNat % len = 0 →
      Reaches n s a.toNat len → ∀ lost : List Nat,
      let byte (j : Nat) : Nat := (look s.mrb.scratch (remoteKey n (a.toNat + j)) 0).toNat
      let num (k : Nat) : Nat := ((List.range k).map (fun j => byte j * 256 ^ j)).sum
      let num' (k : Nat) : Nat := ((List.range k).map (fun j => byte (8 + j) * 256 ^ j)).sum
      let v : BitVec 3 := d.extractLsb' 0 3
      let rest (t : State) : Prop := OnlyMarble n s t ∧ (marble t n.toNat).outst = m.outst.eraseIdx i.val
        ∧ (marble t n.toNat).waiting = .none ∧ WentOn m (marble t n.toNat) ∧ SamePreds m (marble t n.toNat)
        ∧ (marble t n.toNat).ba = m.ba ∧ (marble t n.toNat).mflags = m.mflags ∧ (marble t n.toNat).rstatLast = m.rstatLast
        ∧ (marble t n.toNat).rstatCount = m.rstatCount ∧ (marble t n.toNat).cause = m.cause
      (len = 4 → ∃ t, exec (.remoteCompletion n i lost) s = .next t ∧ rest t ∧ SameVectors m (marble t n.toNat)
        ∧ ScalarTook d (BitVec.ofNat 32 (num 4)) m (marble t n.toNat))
      ∧ (len = 8 → ∃ t, exec (.remoteCompletion n i lost) s = .next t ∧ rest t ∧ SameScalars m (marble t n.toNat)
        ∧ ∀ r, getV (marble t n.toNat) r = if r = v then BitVec.ofNat 64 (num 8) else getV m r)
      ∧ (len = 16 → ∃ t, exec (.remoteCompletion n i lost) s = .next t ∧ rest t ∧ SameScalars m (marble t n.toNat)
        ∧ ∀ r, getV (marble t n.toNat) r = if r = v + 1 then BitVec.ofNat 64 (num' 8) else if r = v then BitVec.ofNat 64 (num 8)
          else getV m r))
    ∧ (∀ (a : Word) (bytes : List Byte), o.op = .store a bytes → 0 < bytes.length → a.toNat % bytes.length = 0 → bytes.length ∣ 16 →
      Reaches n s a.toNat bytes.length →
      ∃ t, exec (.remoteCompletion n i []) s = .next t
        ∧ t = { s with mrb.marbles := t.mrb.marbles, mrb.scratch := t.mrb.scratch }
        ∧ (∀ k, marble t k = if k = n.toNat then { m with outst := m.outst.eraseIdx i.val } else marble s k)
        ∧ ∀ key, look t.mrb.scratch key 0
          = match (List.range bytes.length).find? (fun j => key == remoteKey n (a.toNat + j)) with
            | some j => bytes.getD j 0
            | none => look s.mrb.scratch key 0)
    ∧ (∀ (a : Word) (bytes : List Byte) (lost : List Nat), o.op = .store a bytes → 0 < bytes.length → a.toNat % bytes.length = 0 →
      bytes.length ∣ 16 → Reaches n s a.toNat bytes.length → 0x780 ≤ (remoteByte n.toNat a.toNat).2 → 0 ∈ lost →
      let b := (remoteByte n.toNat a.toNat).1
      ∃ t, exec (.remoteCompletion n i lost) s = .next t
        ∧ t = { s with mrb.marbles := t.mrb.marbles, mrb.conflicts := t.mrb.conflicts, mrb.clSum := t.mrb.clSum,
                       mrb.bagSum := t.mrb.bagSum }
        ∧ (∀ k, marble t k = if k = n.toNat then recordStatus 1 { m with outst := m.outst.eraseIdx i.val } else marble s k)
        ∧ look t.mrb.conflicts (4 * b + 1) 0 = look s.mrb.conflicts (4 * b + 1) 0 + 1
        ∧ look t.mrb.clSum (4 * (b / 64) + 1) 0 = look s.mrb.clSum (4 * (b / 64) + 1) 0 + 1
        ∧ look t.mrb.bagSum (4 * (b / 8192) + 1) 0 = look s.mrb.bagSum (4 * (b / 8192) + 1) 0 + 1)
    ∧ (∀ (src dst : Word) (len : Nat), o.op = .copy src dst len → len % 32 = 0 → len ≤ 65536 → src.toNat % 32 = 0 → dst.toNat % 32 = 0 →
      Reaches n s src.toNat len → Reaches n s dst.toNat len →
      (src.toNat + len ≤ dst.toNat ∨ dst.toNat + len ≤ src.toNat) →
      ∃ t, exec (.remoteCompletion n i []) s = .next t
        ∧ t = { s with mrb.marbles := t.mrb.marbles, mrb.scratch := t.mrb.scratch }
        ∧ (∀ k, marble t k = if k = n.toNat then { m with outst := m.outst.eraseIdx i.val } else marble s k)
        ∧ (∀ j, j < len → look t.mrb.scratch (remoteKey n (dst.toNat + j)) 0 = look s.mrb.scratch (remoteKey n (src.toNat + j)) 0)
        ∧ ∀ key, (∀ j, j < len → key ≠ remoteKey n (dst.toNat + j)) → look t.mrb.scratch key 0 = look s.mrb.scratch key 0)

/-- MWAIT, FENCE and BAR wait, and what ends their waits: MWAIT goes on with the word once it differs from m[b], FENCE once no
remote store or copy is outstanding, BAR once every Marble of the Cluster that has not stopped waits at one (R116, R123). -/
def Claims.MarbleWaits : Prop :=
  (∀ (n : MarbleId) (f : FmtR) (s : State), Issues n s → (getP (marble s n.toNat) f.p).getLsbD 0 = true →
    let m := marble s n.toNat
    let a := (getM m f.a).toNat
    let w : Word := BitVec.ofNat 32 (bankNum s n.toNat a 4)
    (0x780 ≤ a → a ≤ 0x7FC → a % 4 = 0 →
      (w ≠ getM m f.b → ∃ t, exec (.mwait n f) s = .next t ∧ ScalarDone n f.d w 0 s t)
      ∧ (w = getM m f.b → ∃ t, exec (.mwait n f) s = .next t ∧ OnlyMarble n s t
        ∧ marble t n.toNat = { m with waiting := .mwait f.d a (getM m f.b) }))
    ∧ ((Instr.fence n f).wf = true →
      (m.outst.any holdsFence = true → ∃ t, exec (.fence n f) s = .next t ∧ OnlyMarble n s t
        ∧ marble t n.toNat = { m with waiting := .fence })
      ∧ (m.outst.any holdsFence = false → ∃ t, exec (.fence n f) s = .next t ∧ OnlyMarble n s t
        ∧ WentOn m (marble t n.toNat) ∧ SameButPc m (marble t n.toNat)))
    ∧ ((Instr.bar n f).wf = true → ∃ t, exec (.bar n f) s = .next t ∧ OnlyMarble n s t
      ∧ marble t n.toNat = { m with waiting := .bar }))
  ∧ (∀ (n : MarbleId) (s : State), running s n.toNat = true →
    let m := marble s n.toNat
    (∀ (d : BitVec 5) (a : Nat) (v : Word), m.waiting = .mwait d a v → BitVec.ofNat 32 (bankNum s n.toNat a 4) ≠ v →
      ∃ t, exec (.mwaitWake n) s = .next t ∧ OnlyMarble n s t ∧ WentOn m (marble t n.toNat)
        ∧ ScalarTook d (BitVec.ofNat 32 (bankNum s n.toNat a 4)) m (marble t n.toNat) ∧ (marble t n.toNat).waiting = .none
        ∧ SameVectors m (marble t n.toNat) ∧ SamePreds m (marble t n.toNat) ∧ (marble t n.toNat).outst = m.outst)
    ∧ (m.waiting = .fence → m.outst.any holdsFence = false →
      ∃ t, exec (.fenceRelease n) s = .next t ∧ OnlyMarble n s t ∧ marble t n.toNat
        = { m with waiting := .none, pc := (advance m).pc, loop0 := (advance m).loop0, loop1 := (advance m).loop1 }))
  ∧ (∀ (c : ClusterId) (s : State),
    (∀ k, k / 64 = c.toNat → running s k = true → (marble s k).waiting = .bar) →
    ∃ t, exec (.barRelease c) s = .next t ∧ t = { s with mrb.marbles := t.mrb.marbles }
      ∧ ∀ k, marble t k = if k / 64 = c.toNat ∧ running s k = true then
          { marble s k with waiting := .none, pc := (advance (marble s k)).pc, loop0 := (advance (marble s k)).loop0,
                            loop1 := (advance (marble s k)).loop1 }
        else marble s k)

/-- NOP does nothing; RDCSR reads MID, CYC_LO (latching CYC_HI), CYC_HI, RSTAT and MFLAGS, and 0 for any other number; WRCSR writes
MFLAGS by writing ones to clear, and a write to any other CSR is ignored (R119, R123). -/
def Claims.MarbleSystemInstructions : Prop :=
  ∀ (n : MarbleId) (f : FmtR) (s : State), Issues n s → (getP (marble s n.toNat) f.p).getLsbD 0 = true →
    let m := marble s n.toNat
    let cyc : DWord := BitVec.ofNat 64 (32 * s.ident.aux / 5) - s.ident.resetAt
    ((Instr.nop n f).wf = true → ∃ t, exec (.nop n f) s = .next t ∧ OnlyMarble n s t ∧ WentOn m (marble t n.toNat)
      ∧ SameButPc m (marble t n.toNat))
    ∧ ((Instr.rdcsr n f).wf = true →
      ∃ t x, exec (.rdcsr n f) s = .next t ∧ OnlyMarble n s t ∧ ScalarTook f.d x m (marble t n.toNat)
        ∧ (f.b = 0 → x.toNat = n.toNat)
        ∧ (f.b = 1 → x.toNat = cyc.toNat % 2 ^ 32 ∧ (marble t n.toNat).cycHi.toNat = cyc.toNat / 2 ^ 32)
        ∧ (f.b ≠ 1 → (marble t n.toNat).cycHi = m.cycHi)
        ∧ (f.b = 2 → x = m.cycHi)
        ∧ (f.b = 3 → m.outst.length < 256 → x.toNat = m.rstatCount.toNat * 2 ^ 16 + m.rstatLast.toNat * 2 ^ 8 + m.outst.length)
        ∧ (f.b = 4 → x.toNat = m.mflags.toNat)
        ∧ (4 < f.b.toNat → x = 0)
        ∧ SameVectors m (marble t n.toNat) ∧ SamePreds m (marble t n.toNat) ∧ (marble t n.toNat).mflags = m.mflags
        ∧ (marble t n.toNat).ba = m.ba ∧ WentOn m (marble t n.toNat) ∧ (marble t n.toNat).outst = m.outst
        ∧ (marble t n.toNat).rstatCount = m.rstatCount ∧ (marble t n.toNat).rstatLast = m.rstatLast)
    ∧ ((Instr.wrcsr n f).wf = true →
      ∃ t, exec (.wrcsr n f) s = .next t ∧ OnlyMarble n s t ∧ WentOn m (marble t n.toNat)
        ∧ SameScalars m (marble t n.toNat) ∧ SameVectors m (marble t n.toNat) ∧ SamePreds m (marble t n.toNat)
        ∧ (marble t n.toNat).ba = m.ba ∧ Kept m (marble t n.toNat)
        ∧ ∀ k, (marble t n.toNat).mflags.getLsbD k
          = (m.mflags.getLsbD k && !(decide (f.b = 4) && (getM m f.a).getLsbD k)))

/-- CLUSTER_RESTART: every stopped Marble of the Cluster starts again at PC 0 with its registers, loops and flags cleared, RSTAT with
them; CYC_HI is kept, and where none of them has anything outstanding, every other Marble and everything else is as it was (R116,
R119). What they have outstanding completes before (the model's reading, log entry 101). -/
def Claims.ClusterRestart : Prop :=
  ∀ (c : ClusterId) (s : State), blockHeld s .bag (c.toNat / 128) = false →
    ∃ t, exec (.clusterRestart c) s = .next t
      ∧ (∀ k, k / 64 = c.toNat → (marble s k).cause ≠ 0 →
        (marble t k).pc = 0 ∧ (marble t k).cause = 0 ∧ (marble t k).waiting = .none ∧ (marble t k).loop0 = none
          ∧ (marble t k).loop1 = none ∧ (∀ r, getM (marble t k) r = 0) ∧ (∀ r, getV (marble t k) r = 0)
          ∧ (∀ r, r ≠ 0 → getP (marble t k) r = 0) ∧ (marble t k).ba = .fin false 0 0 ∧ (marble t k).mflags = 0
          ∧ (marble t k).cycHi = (marble s k).cycHi ∧ (marble t k).outst = [])
      ∧ ((∀ k, k / 64 = c.toNat → (marble s k).cause ≠ 0 → (marble s k).outst = []) →
        t = { s with mrb.marbles := t.mrb.marbles }
        ∧ (∀ k, ¬ (k / 64 = c.toNat ∧ (marble s k).cause ≠ 0) → marble t k = marble s k)
        ∧ ∀ k, k / 64 = c.toNat → (marble s k).cause ≠ 0 → (marble t k).rstatLast = 0 ∧ (marble t k).rstatCount = 0)

/-- Waits, the system instructions, and the restart of a Cluster. The clauses that rest on log entries 7, 9 and 101 are the model's
choices. -/
def Obligations.MarbleWaitsAndSystem : Prop := Claims.MarbleWaits ∧ Claims.MarbleSystemInstructions ∧ Claims.ClusterRestart

/-- Every Marble word and its instruction are one: an instruction's word decodes to it, with every operand at every value of its
fields, and a word that decodes is its instruction's word (R120 to R123). -/
def Obligations.MarbleWordsRoundTrip : Prop :=
  (∀ (i : Instr) (n : MarbleId) (w : Word), i.marble? = some n → encodeMarble i = some w → decodeMarble n w = some i)
  ∧ (∀ (n : MarbleId) (w : Word) (i : Instr), decodeMarble n w = some i → i.marble? = some n ∧ encodeMarble i = some w)
  ∧ (∀ i : Instr, i.marble?.isSome = true → i.wf = true → (encodeMarble i).isSome = true)
  ∧ (∀ i : Instr, (encodeMarble i).isSome = true → i.marble?.isSome = true)

/-! ### Zoetropes -/

/-- A window boundary with nothing else due takes the queue's next descriptor: a WINDOW whose credits are there begins, and takes K
credits; one whose credits are missing waits; an IDLE holds the stream for its count; without a run grant no window starts, and no IDLE of
a Ready Zoetrope, and the wait counts in PWR_ZPAUSE; a descriptor that cannot run halts the queue in ERROR with its code and raises 0x0201. IDLE_END ends the hold at its last symbol (R38,
R40, R47, R49, R353). -/
def Claims.WindowBoundaries : Prop :=
  (∀ (z : ZoeId) (q : Stream) (s : State), Quiet s z.val (streamNo q) →
    let k := streamNo q
    let x := zoe s z.val
    let r := stream x k
    let d := look x.ram r.pos.toNat 0
    let g := runGrant s z.val
    let t0 := boundarySym s r
    let credits := min 32768 (x.credits4 + g * (t0 - x.creditAt))
    (dscError x.modeApplied k d = 0 → wdType d = 1 → g ≠ 0 → 256 * 2 ^ wdKlog d ≤ credits → (feedWindow s z.val k d t0).2 = [] →
      ∃ t w, exec (.windowBoundary z q) s = .next t
        ∧ t = { s with zoes := t.zoes, free := s.free + (chanFree * 388 + 128) } ∧ (∀ i, i ≠ z.val → zoe t i = zoe s i)
        ∧ OtherStream k x (zoe t z.val)
        ∧ (stream (zoe t z.val) k).integ = some w ∧ w.desc = d ∧ w.t0 = t0 ∧ w.underrun = false
        ∧ w.thrFlag = x.prec.thrFlag ∧ w.thrGap = x.prec.thrGap ∧ w.thrFence = x.prec.thrFence
        ∧ w.wRuns.length = (tileRows x.modeApplied k).length ∧ w.aRuns.length = (tileCols x.modeApplied k).length
        ∧ (∀ i c : Nat, (tileRows x.modeApplied k)[i]? = some c → w.wRuns[i]? = some
          (feedRun s (feedTag s z.val) (feedCluster x z.val c) (wdWoff d) (runLen (wdWfmt d) (wdK d))).1)
        ∧ (stream (zoe t z.val) k).pos = r.pos + 1 ∧ (stream (zoe t z.val) k).audIndex = r.audIndex + 1
        ∧ (w.audit = true ↔ x.prec.audLog ≠ 0 ∧ (r.audIndex + x.prec.phase.toNat) % 2 ^ x.prec.audLog.toNat = 0)
        ∧ w.forcedGap = r.forcedNext ∧ (zoe t z.val).state = .running ∧ (zoe t z.val).credits4 = credits - 256 * 2 ^ wdKlog d)
    ∧ (dscError x.modeApplied k d = 0 → wdType d = 1 → g ≠ 0 → credits < 256 * 2 ^ wdKlog d →
      ∃ t, exec (.windowBoundary z q) s = .next t ∧ t = { s with zoes := t.zoes, pwr.zpause := s.pwr.zpause + 1 }
        ∧ (∀ i, i ≠ z.val → zoe t i = zoe s i) ∧ OtherStream k x (zoe t z.val)
        ∧ stream (zoe t z.val) k = { r with paused := true, pausedAt := t0 + 16 } ∧ (zoe t z.val).credits4 = x.credits4)
    ∧ (dscError x.modeApplied k d = 0 → wdType d = 1 ∨ wdType d = 2 ∧ x.state = .ready → g = 0 →
      ∃ t, exec (.windowBoundary z q) s = .next t ∧ t = { s with zoes := t.zoes, pwr.zpause := s.pwr.zpause + 1 }
        ∧ (∀ i, i ≠ z.val → zoe t i = zoe s i) ∧ (stream (zoe t z.val) k).integ = none ∧ (zoe t z.val).state = x.state
        ∧ (stream (zoe t z.val) k).paused = true ∧ (stream (zoe t z.val) k).pos = r.pos)
    ∧ (dscError x.modeApplied k d = 0 → wdType d = 2 → g ≠ 0 ∨ x.state = .running →
      ∃ t, exec (.windowBoundary z q) s = .next t ∧ OnlyZoe z.val s t ∧ OtherStream k x (zoe t z.val)
        ∧ stream (zoe t z.val) k = { r with idle := some (t0 + idCount d), pos := r.pos + 1 })
    ∧ (dscError x.modeApplied k d ≠ 0 →
      ∃ t, exec (.windowBoundary z q) s = .next t ∧ (stream (zoe t z.val) k).qstate = .error
        ∧ (stream (zoe t z.val) k).err = BitVec.ofNat 6 (dscError x.modeApplied k d) ∧ (stream (zoe t z.val) k).pos = r.pos
        ∧ (stream (zoe t z.val) k).integ = none ∧ t.flt.nCont = s.flt.nCont + 1 ∧ t.mrb = s.mrb))
  ∧ (∀ (z : ZoeId) (q : Stream) (k : Nat) (s : State), (stream (zoe s z.val) (streamNo q)).idle = some k →
    let s' := modStream z.val (streamNo q) (fun r => { r with idle := none, boundAt := k }) (advanceSym k s)
    k ≤ 16 * timeNs s' ∧ ∃ t, exec (.idleEnd z q) s = .next t ∧ exec (.windowBoundary z q) s' = .next t)

/-- The codes that a feeder makes of a run: K of them, each within the symmetric range of the width; of a Q format each element
whose magnitude the range holds as it is (R42, R43, R45). -/
def Claims.FeederCodes : Prop :=
  ∀ (f b K : Nat) (bs : List Byte), 1 ≤ b →
    (convertRun f b K bs).codes.length = K ∧ (convertRun f b K bs).clamped.length = K
    ∧ (∀ c ∈ (convertRun f b K bs).codes, -(2 ^ (b - 1) - 1 : Int) ≤ c ∧ c ≤ 2 ^ (b - 1) - 1)
    ∧ (f ≤ 3 → ∀ i, i < K →
      let e : Int := (BitVec.ofNat (fmtBits f) (fieldAt bs (fmtBits f * i / 8) 2 / 2 ^ (fmtBits f * i % 8))).toInt
      (e.natAbs ≤ 2 ^ (b - 1) - 1 → (convertRun f b K bs).codes[i]? = some e ∧ (convertRun f b K bs).clamped[i]? = some false)
      ∧ ((2 ^ (b - 1) - 1 : Int) < e.natAbs → (convertRun f b K bs).clamped[i]? = some true))

/-- The value of a cell whose optical error is `err`: the code-product sum over 2^(FS_SHIFT − 9), to the nearest integer with ties
to even, and the error, clamped to −512 to +511 (R53, R55; the error is free, log entry 35). -/
def Claims.CellValues : Prop :=
  ∀ (fs : Nat) (err d : Int), 9 ≤ fs → ∃ v : Int, (2 * (v * 2 ^ (fs - 9) - d)).natAbs ≤ 2 ^ (fs - 9)
    ∧ ((2 * (v * 2 ^ (fs - 9) - d)).natAbs = 2 ^ (fs - 9) → v % 2 = 0)
    ∧ cellValue fs err d = Max.max (-512) (Min.min 511 (v + err))

/-- WEE is 8 × √(mean of the squared differences), rounded to the nearest integer with ties to even, saturated at 0xFE; 0xFF where
no cell remains (R56). -/
def Claims.ErrorEstimate : Prop :=
  ∀ es : List Nat,
    (es = [] → weeOf es = 0xFF)
    ∧ (es ≠ [] → (weeOf es).toNat ≤ 254
      ∧ (0 < (weeOf es).toNat → (2 * (weeOf es).toNat - 1) ^ 2 * es.length ≤ 256 * es.sum)
      ∧ (0 < (weeOf es).toNat → (weeOf es).toNat % 2 = 1 → (2 * (weeOf es).toNat - 1) ^ 2 * es.length < 256 * es.sum)
      ∧ ((weeOf es).toNat < 254 → 256 * es.sum ≤ (2 * (weeOf es).toNat + 1) ^ 2 * es.length)
      ∧ ((weeOf es).toNat < 254 → (weeOf es).toNat % 2 = 1 → 256 * es.sum < (2 * (weeOf es).toNat + 1) ^ 2 * es.length))

/-- Modulator codes, the cells' values, and the error estimate. The clauses that rest on log entries 34 and 35 are the model's
choices. -/
def Obligations.CellsAndCodes : Prop := Claims.FeederCodes ∧ Claims.CellValues ∧ Claims.ErrorEstimate

/-- The three moments of a window. At its end the codes that its channels carried are known, its cells are sampled and its run symbols
counted, those that the other tile had counted once; at K + 44 the expectation slot that
matches gives its estimate and is consumed, another gives 0xFF with REF_LATE; at K + 116 its result blocks are in scratch,
window-done is in every mailbox of the Quad, and ZOE_C_WIN has advanced (R38, R52 to R56, R65, R98, R134). -/
def Claims.WindowMoments : Prop :=
  ∀ (z : ZoeId) (q : Stream) (w : WinRun) (s : State),
    let k := streamNo q
    let x := zoe s z.val
    let r := stream x k
    let rows := tileRows x.modeApplied k
    let cols := tileCols x.modeApplied k
    (∀ late : List (Nat × Nat), r.integ = some w →
      let s1 := advanceSym (winEnd w) s
      let free := s.free + chanFree * 388
      let n := wdK w.desc - overlap w.t0 (winEnd w) (stream x (1 - k)).spans
      (endWindow s1 z.val k late w).2 = [] →
      ∃ t w', exec (.integrationEnd z q late) s = .next t
        ∧ t = { s with zoes := t.zoes, ident.aux := t.ident.aux, free := s.free + (chanFree * 388 + 260 * 128) }
        ∧ (∀ i, i ≠ z.val → zoe t i = zoe s i) ∧ OtherStream k x (zoe t z.val)
        ∧ winEnd w ≤ 16 * timeNs t ∧ (stream (zoe t z.val) k).integ = none ∧ (stream (zoe t z.val) k).post = r.post ++ [w']
        ∧ (stream (zoe t z.val) k).boundAt = winEnd w ∧ (stream (zoe t z.val) k).pos = r.pos
        ∧ w'.desc = w.desc ∧ w'.t0 = w.t0 ∧ w'.checked = w.checked ∧ w'.nolight = w.nolight
        ∧ w'.wCodes.length = rows.length ∧ w'.aCodes.length = cols.length
        ∧ w'.values.length = rows.length * cols.length
        ∧ (∀ i j wc ac, w'.wCodes[i]? = some wc → w'.aCodes[j]? = some ac → w'.values[cols.length * i + j]?
            = some (cellValue (fsShift x (wdOsel w.desc)) (Config.noise (free + cols.length * i + j)
              (driveCodes x (rows.getD i 0) (wdWb w.desc) wc) (driveCodes x (260 + cols.getD j 0) (wdAb w.desc) ac))
              (dotCodes wc ac)))
        ∧ (late = [] → w'.underrun = w.underrun
          ∧ ∀ (i c : Nat) (bs : List Byte), rows[i]? = some c → w.wRuns[i]? = some bs → w.wCut[i]? = some none →
            feedRun s1 (feedTag s1 z.val) (feedCluster x z.val c) (wdWoff w.desc) (runLen (wdWfmt w.desc) (wdK w.desc)) = (bs, []) →
            w'.wCodes[i]? = some (convertRun (wdWfmt w.desc) (wdWb w.desc) (wdK w.desc) bs).codes)
        ∧ (zoe t z.val).trim.runSym = x.trim.runSym + BitVec.ofNat 64 n ∧ (zoe t z.val).trim.owed200 = x.trim.owed200 + 3 * n)
    ∧ (∀ pre post : List WinRun, r.post = pre ++ w :: post → (∀ v ∈ pre, v.checked = true) → w.checked = false →
      let slot := look x.slots (wdSlot w.desc) {}
      let hit := slot.valid && decide (slot.wtag = wdTag w.desc)
      let wee := if hit then weeOf (refErrors x k w slot) else 0xFF
      let flag := exceeds x w.thrFlag wee w.desc
      ∃ t, exec (.referenceCheck z q) s = .next t ∧ OnlyZoeAt z.val s t ∧ OtherStream k x (zoe t z.val)
        ∧ winEnd w + 44 ≤ 16 * timeNs t
        ∧ (stream (zoe t z.val) k).post
          = pre ++ { w with checked := true, wee := wee, refLate := !hit, flagThr := flag } :: post
        ∧ (stream (zoe t z.val) k).weeLast = wee
        ∧ (look (zoe t z.val).slots (wdSlot w.desc) {}).valid = (slot.valid && !hit)
        ∧ (∀ i, i ≠ wdSlot w.desc → look (zoe t z.val).slots i {} = look x.slots i {})
        ∧ (zoe t z.val).prec.noest = (if wee = 0xFF then x.prec.noest + 1 else x.prec.noest)
        ∧ (zoe t z.val).prec.flagged = (if flag then x.prec.flagged + 1 else x.prec.flagged)
        ∧ (wee = 0xFF → (stream (zoe t z.val) k).gapRuns = r.gapRuns ∧ (stream (zoe t z.val) k).fenceRuns = r.fenceRuns)
        ∧ (wee ≠ 0xFF → (stream (zoe t z.val) k).fenceRuns = if exceeds x w.thrFence wee w.desc then r.fenceRuns + 1 else 0))
    ∧ (∀ rest : List WinRun, r.post = w :: rest → w.checked = true →
      let n := (if k = 0 then x.wdone0 else x.wdone1) + 1
      let s1 := advanceSym (winEnd w + 116) s
      let s2 := forAll (cols.mapIdx (fun j c => (j, c))) (fun jc u =>
        writeBlock (feedCluster x z.val (260 + jc.2)) (wdRoff w.desc) (feedTag s z.val) (resultBlock x k w rows cols jc.1) u) s1
      ∃ t, exec (.windowDone z q) s = .next t ∧ winEnd w + 116 ≤ 16 * timeNs t
        ∧ t.mrb = (quadWord z.val (if k = 0 then 0x7CC else 0x7D0) (n ++ wdTag w.desc) s2).mrb
        ∧ (∀ i, i ≠ z.val → zoe t i = zoe s i) ∧ OtherStream k x (zoe t z.val)
        ∧ (stream (zoe t z.val) k).post = rest ∧ (if k = 0 then (zoe t z.val).wdone0 else (zoe t z.val).wdone1) = n
        ∧ (zoe t z.val).cWin = x.cWin + 1
        ∧ (zoe t z.val).cUnderrun = (if w.underrun then x.cUnderrun + 1 else x.cUnderrun)
        ∧ (zoe t z.val).cReflate = (if w.refLate then x.cReflate + 1 else x.cReflate)
        ∧ (zoe t z.val).cNolight = (if w.nolight then x.cNolight + 1 else x.cNolight))

/-- A stream's windows, from the boundary that begins one to the moments of its end. The clauses that rest on log entries 5, 6, 34,
35 and 90 are the model's choices. -/
def Obligations.WindowsOfAStream : Prop := Claims.WindowBoundaries ∧ Claims.WindowMoments

/-- The ports of space 01 written by a Marble of the half whose partition owns the Quad: sums land in a slot that is not committed
and are turned away with SLOT_BUSY from one that is; a header commits or abandons its slot; an audit record joins the sums of its
pending window, and one without is counted in ZOE_AUD_BADTAG; an access that R141 does not name completes with BAD_ADDR and changes
no memory and no port. Each posted write is no longer outstanding (R56, R81, R82, R138, R141). -/
def Claims.ZoetropePorts : Prop :=
  ∀ (n : MarbleId) (z : ZoeId) (s : State), portReach n.toNat z.val = true →
    let x := zoe s z.val
    let m := marble s n.toNat
    let ended (a : Nat) (bs : List Byte) (st : Byte) (t : State) : Prop :=
      t = { s with zoes := t.zoes, mrb.marbles := t.mrb.marbles } ∧ (∀ i, i ≠ z.val → zoe t i = zoe s i)
        ∧ ∀ k, marble t k = if k = n.toNat then recordStatus st { m with outst := removeFirst (isStore (portAddr z.val a) bs) m.outst }
          else marble s k
    (portOwner s n.toNat z.val = true → blockHeld s .zoetrope z.val = false →
      (∀ (off : BitVec 26) (bytes : List Byte), (Instr.expectationSumWrite n z off bytes).wf = true →
        let k := off.toNat / 0x1000
        let o := off.toNat % 0x1000
        off.toNat < 0x20000 → 4 ≤ o → o + bytes.length ≤ 0x804 → o % 4 = 0 → o % (if bytes.length = 32 then 4 else bytes.length) = 0 →
        ((expSlot x k).valid = false → ∃ t, exec (.expectationSumWrite n z off bytes) s = .next t ∧ ended off.toNat bytes 0 t
          ∧ (∀ i, i ≠ k → expSlot (zoe t z.val) i = expSlot x i)
          ∧ (expSlot (zoe t z.val) k).valid = false ∧ (expSlot (zoe t z.val) k).wtag = (expSlot x k).wtag
          ∧ ∀ i, look (expSlot (zoe t z.val) k).sums i 0
            = if (o - 4) / 4 ≤ i ∧ i < (o - 4) / 4 + bytes.length / 4
              then BitVec.ofNat 32 (fieldAt bytes (4 * (i - (o - 4) / 4)) 4) else look (expSlot x k).sums i 0)
        ∧ ((expSlot x k).valid = true →
          ∃ t, exec (.expectationSumWrite n z off bytes) s = .next t ∧ ended off.toNat bytes 4 t ∧ zoe t z.val = x))
      ∧ (∀ (slot : Fin 32) (hdr : Word),
        ∃ t, exec (.expectationHeaderWrite n z slot hdr) s = .next t ∧ ended (0x1000 * slot.val) (leBytes 4 hdr.toNat) 0 t
          ∧ (∀ i, expSlot (zoe t z.val) i = if i = slot.val then { expSlot x i with valid := hdr.getLsbD 31, wtag := hdr.setWidth 16 }
            else expSlot x i)
          ∧ (zoe t z.val).st0 = x.st0 ∧ (zoe t z.val).st1 = x.st1 ∧ (zoe t z.val).prec = x.prec)
      ∧ (∀ rec : BitVec 128,
        let q := if rec.getLsbD 16 then 1 else 0
        let tag : BitVec 16 := rec.extractLsb' 0 16
        (∀ (pre post : List PendAudit) (e : PendAudit), (stream x q).pend = pre ++ e :: post → (∀ p ∈ pre, p.wtag ≠ tag) → e.wtag = tag →
          ∃ t, exec (.auditRecord n z rec) s = .next t ∧ ended 0x20000 (leBytes 16 rec.toNat) 0 t
            ∧ (stream (zoe t z.val) q).pend = pre ++ post ∧ OtherStream q x (zoe t z.val)
            ∧ (zoe t z.val).prec.audWins = x.prec.audWins + 1 ∧ (zoe t z.val).prec.audBadtag = x.prec.audBadtag
            ∧ (x.prec.audCells.toNat + (rec.extractLsb' 32 16).toNat < 2 ^ 64 →
              (zoe t z.val).prec.audCells.toNat = x.prec.audCells.toNat + (rec.extractLsb' 32 16).toNat)
            ∧ (x.prec.audSumsq.toNat + (rec.extractLsb' 96 32).toNat < 2 ^ 64 →
              (zoe t z.val).prec.audSumsq.toNat = x.prec.audSumsq.toNat + (rec.extractLsb' 96 32).toNat)
            ∧ (zoe t z.val).prec.audMax.toNat = Max.max x.prec.audMax.toNat (rec.extractLsb' 48 16).toNat
            ∧ (zoe t z.val).prec.audWeen = if e.wee = 0xFF then x.prec.audWeen else x.prec.audWeen + 1)
        ∧ ((∀ p ∈ (stream x q).pend, p.wtag ≠ tag) →
          ∃ t, exec (.auditRecord n z rec) s = .next t ∧ ended 0x20000 (leBytes 16 rec.toNat) 0 t
            ∧ (zoe t z.val).prec = { x.prec with audBadtag := x.prec.audBadtag + 1 } ∧ (stream (zoe t z.val) q).pend = (stream x q).pend)))
    ∧ (∀ (off : BitVec 26) (len : Nat), portAt off.toNat len = .none →
      ∃ t, exec (.space01BadAccess n z off .write len) s = .next t ∧ OnlyMarble n s t
        ∧ (marble t n.toNat).rstatLast = 3 ∧ (marble t n.toNat).rstatCount = satInc m.rstatCount ∧ SameScalars m (marble t n.toNat)
        ∧ SameVectors m (marble t n.toNat) ∧ (marble t n.toNat).pc = m.pc)
    ∧ (∀ (off : BitVec 26) (len : Nat), ∃ t, exec (.space01BadAccess n z off .read len) s = .next t
        ∧ t = { s with mrb.marbles := t.mrb.marbles, free := t.free } ∧ (∀ k, k ≠ n.toNat → marble t k = marble s k)
        ∧ (marble t n.toNat).rstatLast = 3 ∧ (marble t n.toNat).rstatCount = satInc m.rstatCount)

/-- AUDIT_TIMEOUT: a window whose window-done lies 1 ms back and whose record has not come is missed (R82). -/
def Claims.AuditTimeout : Prop :=
  ∀ (z : ZoeId) (q : Stream) (s : State) (pre post : List PendAudit) (e : PendAudit) (d : Nat),
    (stream (zoe s z.val) (streamNo q)).pend = pre ++ e :: post → (∀ p ∈ pre, p.done = none) → e.done = some d →
    (∀ p ∈ pre, p.wtag ≠ e.wtag) →
    ∃ t, exec (.auditTimeout z q) s = .next t ∧ OnlyZoeAt z.val s t ∧ d + 1000000 ≤ timeNs t
      ∧ OtherStream (streamNo q) (zoe s z.val) (zoe t z.val)
      ∧ stream (zoe t z.val) (streamNo q) = { stream (zoe s z.val) (streamNo q) with pend := pre ++ post }
      ∧ (zoe t z.val).prec = { (zoe s z.val).prec with audMiss := (zoe s z.val).prec.audMiss + 1 }

/-- The accesses of a Zoetrope's ports, and its audits. The clauses that rest on log entries 6 and 34 are the model's choices. -/
def Obligations.ZoetropePortsAndAudits : Prop := Claims.ZoetropePorts ∧ Claims.AuditTimeout

/-- A Zoetrope that is Fenced: its cause, nothing due on it, its attenuator at the minimum and every other drive as it was, no thread
running on it, a Contained fault 0x0203 against its partition; no other Zoetrope and no memory changes; then the Show of its partition
is stopped. A Zoetrope that is Off or Fenced stays so (R58, R61, R106, R157). -/
def Claims.Fencing : Prop :=
  ∀ (z : Nat) (c : Byte) (s : State),
    ((zoe s z).state ≠ .off → (zoe s z).state ≠ .fenced →
      ∃ u, fenceZoe z c s = (match quadPart s z with
          | some p => settleStop p (faultStop p s.fab.gid.toNat 0x15 false u)
          | none => u)
        ∧ u = { s with zoes := u.zoes, flt := u.flt, host.pf := u.host.pf, host.vfs := u.host.vfs, out := u.out }
        ∧ (∀ i, i ≠ z → zoe u i = zoe s i) ∧ u.flt.nCont = s.flt.nCont + 1
        ∧ (zoe u z).state = .fenced ∧ (zoe u z).fenceCause = c ∧ (zoe u z).fenceReq = 0 ∧ (zoe u z).trim.pilots = false
        ∧ (zoe u z).trim.gapKind = .none ∧ (elem (zoe u z) z 67332).drive = 0
        ∧ (∀ e, e ≠ 67332 → elem (zoe u z) z e = elem (zoe s z) z e) ∧ (zoe u z).ram = (zoe s z).ram
        ∧ (∀ e ∈ (zoe u z).scn.threads, e.2.running = false)
        ∧ ∀ q, (stream (zoe u z) q).fenceDue = false ∧ (stream (zoe u z) q).gapDue = false
          ∧ (stream (zoe u z) q).integ = (stream (zoe s z) q).integ ∧ (stream (zoe u z) q).post = (stream (zoe s z) q).post)
    ∧ ((zoe s z).state = .off ∨ (zoe s z).state = .fenced →
      OnlyZoe z s (fenceZoe z c s) ∧ zoe (fenceZoe z c s) z = { zoe s z with fenceReq := 0 })

/-- The triggers of gaps: CNT_GAP windows in a row above THR_GAP ask for a gap, deferred under Separated; CNT_FENCE above THR_FENCE
for a fence; 16,000,000 run symbols for a gap; and the count of the gap rule starts again 1 ms after the gap it forced (R79, R85,
R97). -/
def Claims.GapAndFenceTriggers : Prop :=
  ∀ (z : ZoeId) (q : Stream) (s : State),
    let k := streamNo q
    let x := zoe s z.val
    let r := stream x k
    (∃ t, exec (.estimateGapTrigger z q) s = .next t ∧ OnlyZoe z.val s t ∧ OtherStream k x (zoe t z.val)
      ∧ stream (zoe t z.val) k
        = if x.prec.thrGap ≠ 0 ∧ Max.max 1 x.prec.cntGap.toNat ≤ r.gapRuns ∧ r.gapHold = none then
            (if x.prec.mix then { r with gapDeferred := true, gapRuns := 0 } else { r with gapDue := true, gapRuns := 0 })
          else r)
    ∧ (∃ t, exec (.estimateFenceTrigger z q) s = .next t ∧ OnlyZoe z.val s t ∧ OtherStream k x (zoe t z.val)
      ∧ stream (zoe t z.val) k
        = if x.prec.thrFence ≠ 0 ∧ Max.max 1 x.prec.cntFence.toNat ≤ r.fenceRuns then { r with fenceDue := true } else r)
    ∧ (∃ t, exec (.runRuleGapTrigger z) s = .next t ∧ OnlyZoe z.val s t
      ∧ zoe t z.val = { x with trim.runDue := x.trim.runDue || decide (16000000 ≤ x.trim.gapRun.toNat) })
    ∧ (∀ at' : Nat, r.gapHold = some at' → at' ≠ 0 →
      ∃ t, exec (.gapRuleHoldEnd z q) s = .next t ∧ OnlyZoeAt z.val s t ∧ at' ≤ timeNs t ∧ OtherStream k x (zoe t z.val)
        ∧ stream (zoe t z.val) k = { r with gapHold := none, gapRuns := 0 })

/-- A Zoetrope is fenced, and what asks for gaps and fences. The clauses that rest on log entry 34 are the model's choices. -/
def Obligations.FencesAndTriggers : Prop := Claims.Fencing ∧ Claims.GapAndFenceTriggers

/-- Idle gaps and pilot windows: a Ready Zoetrope with light and gap owed, or its last pass over 1 ms old, and no work takes an idle
gap; each pilot window pays 256 symbols of GAP_OWED and advances the pass, a Q gives every lit cell a phase result, an I after a W and an A
a balance result; the 1,024th completes the pass; a gap whose end it is ends, in
Running when a queue holds a descriptor and else in Ready (R58, R95 to R98). -/
def Claims.GapsAndPilots : Prop :=
  (∀ (z : ZoeId) (s : State), (zoe s z.val).state = .ready → (zoe s z.val).trim.light = true →
    (200 ≤ (zoe s z.val).trim.owed200 ∨ (zoe s z.val).prec.lastPass = none
      ∨ ∃ p, (zoe s z.val).prec.lastPass = some p ∧ p + 1000000 < timeNs s) →
    (∀ q ∈ streamsOf (zoe s z.val), (stream (zoe s z.val) q).qstate ≠ .running) →
    ∃ t, exec (.idleGapStart z) s = .next t ∧ OnlyZoe z.val s t ∧ (zoe t z.val).state = .gap
      ∧ (zoe t z.val).trim.gapKind = .idle ∧ (zoe t z.val).trim.pilots = true
      ∧ (zoe t z.val).trim.gaps = (zoe s z.val).trim.gaps + 1 ∧ (zoe t z.val).trim.gapForced = (zoe s z.val).trim.gapForced
      ∧ (zoe t z.val).trim.owed200 = (zoe s z.val).trim.owed200 ∧ (zoe t z.val).prec = (zoe s z.val).prec)
  ∧ (∀ (z : ZoeId) (r : PilotResult) (s : State),
    let x := zoe s z.val
    let n := x.trim.passPos.toNat
    let ends : Prop := if x.trim.gapKind = .idle then queueWaits x = true ∨ x.trim.owed200 < 51400 ∧ x.trim.gapPassed = true
      else x.trim.gapLeft ≤ 1 ∧ (x.trim.gapNeedsPass = false ∨ x.trim.gapPassed = true)
    let paid (t : State) : Prop :=
      let y := (zoe t z.val).trim
      t = { s with zoes := t.zoes, ident.aux := t.ident.aux, free := s.free + 1 } ∧ (∀ i, i ≠ z.val → zoe t i = zoe s i)
        ∧ (x.state = .gap → x.trim.pilotAt ≤ 16 * timeNs t)
        ∧ y.gapSym = x.trim.gapSym + 256 ∧ y.owed200 = x.trim.owed200 - 51200 ∧ y.passPos = x.trim.passPos + 1
        ∧ y.phN = x.trim.phN + (if n % 4 = 3 then 1 else 0) ∧ y.balN = x.trim.balN + (if n % 4 = 2 ∧ 4 ≤ n then 1 else 0)
        ∧ (x.trim.owed200 < 51400 → y.gapRun = 0) ∧ (51400 ≤ x.trim.owed200 → y.gapRun = x.trim.gapRun)
        ∧ y.elems = x.trim.elems ∧ (zoe t z.val).ram = x.ram ∧ (zoe t z.val).slots = x.slots
    (x.state = .gap ∧ x.trim.pilots = true ∧ x.fenceReq = 0 ∨ x.state = .trimming ∧ x.trim.light = true) →
    (n ≠ 1023 →
      ∃ t, exec (.pilotWindowEnd z r) s = .next t ∧ paid t ∧ (zoe t z.val).prec = x.prec
        ∧ (zoe t z.val).trim.passes = x.trim.passes
        ∧ (x.state = .trimming → (zoe t z.val).state = .trimming)
        ∧ (x.state = .gap → ¬ ends → (zoe t z.val).state = .gap ∧ (zoe t z.val).trim.pilots = true)
        ∧ (x.state = .gap → ends → (zoe t z.val).state = (if queueWaits x then .running else .ready)
          ∧ (zoe t z.val).trim.gapKind = .none))
    ∧ (n = 1023 → tapBad x.trim.taps = [] →
      ∃ t, exec (.pilotWindowEnd z r) s = .next t ∧ paid t
        ∧ (zoe t z.val).trim.passes = x.trim.passes + 1 ∧ (zoe t z.val).prec.lastPass = some (timeNs t)
        ∧ (zoe t z.val).trim.phRms = r.phRms ∧ (zoe t z.val).trim.balRms = r.balRms ∧ (zoe t z.val).trim.badRuns = []
        ∧ ((zoe t z.val).trim.conv = true ↔ r.phRms.toNat ≤ 40 ∧ r.phMax.toNat ≤ 40 ∧ r.balRms.toNat ≤ 5 ∧ r.balMax.toNat ≤ 20
          ∧ r.worstErr.toNat ≤ 10)))

/-- A round of a trim engine: with the loops running, it visits the elements it serves and no other; the phase drives of lit cells
stay within 64 to 3,900, the target of a lit cell moves by the correction of R92 for the pilot results since its last visit and stays
where there is none, and dark cells are held (R91, R92,
R96, R100). -/
def Claims.TrimRounds : Prop :=
  ∀ (z : ZoeId) (e : Fin 16) (us : Byte) (s : State),
    let x := zoe s z.val
    (loopsRun x = false → exec (.trimRound z e us) s = .next s)
    ∧ (loopsRun x = true →
      ∃ t, exec (.trimRound z e us) s = .next t ∧ t = { s with zoes := t.zoes, free := s.free + 67333 } ∧ (∀ i, i ≠ z.val → zoe t i = zoe s i)
        ∧ (∀ i, look (zoe t z.val).trim.engRound i 0 = if i = e.val then us else look x.trim.engRound i 0)
        ∧ (∀ k, k ∉ engineElems e.val → elem (zoe t z.val) z.val k = elem x z.val k)
        ∧ (∀ k ∈ engineElems e.val, k < 66560 → cellLit x.modeApplied (k / 256) (k / 2 % 128) = false →
          elem (zoe t z.val) z.val k = elem x z.val k)
        ∧ (∀ k ∈ engineElems e.val, k < 66560 → cellLit x.modeApplied (k / 256) (k / 2 % 128) = true →
          (elem (zoe t z.val) z.val k).target = (elem x z.val k).target
            - (let n := accCount x.trim k (elem x z.val k)
               if n = 0 then 0 else correction x.trim k n (Config.pilotSum x.trim.accKey k n))
          ∧ (k % 2 = 0 → 64 ≤ (elem (zoe t z.val) z.val k).drive.toNat ∧ (elem (zoe t z.val) z.val k).drive.toNat ≤ 3900)))

/-- Calibration gaps, pilot windows and Trim rounds. The clauses that rest on log entry 37 are the model's choices. -/
def Obligations.CalibrationRuns : Prop := Claims.GapsAndPilots ∧ Claims.TrimRounds

/-- Loss and return of light, and how a Zoetrope leaves Warming and Trimming: at a loss the windows that integrate carry NOLIGHT, and
a Ready, Running or Gap Zoetrope enters Trimming with its drives held, at once or, while a window integrates, at the boundary after it; it returns to Ready once R101 holds, and is Fenced with cause 4
after 50 ms, with cause 7 after 500 ms of Warming; a half whose light die loses its rails is Off (R57, R58, R99, R101, R106). -/
def Claims.LightAndWarming : Prop :=
  (∀ (z : ZoeId) (s : State),
    let x := zoe s z.val
    let still : Prop := (stream x 0).integ = none ∧ (stream x 1).integ = none
    let runs : Prop := x.state = .ready ∨ x.state = .running ∨ x.state = .gap
    (x.fenceReq = 0 ∨ ¬ still ∨ ¬ runs → ∃ t, exec (.lightLost z) s = .next t ∧ OnlyZoe z.val s t ∧ (zoe t z.val).trim.light = false
      ∧ (zoe t z.val).trim.elems = x.trim.elems
      ∧ (runs → still → (zoe t z.val).state = .trimming ∧ (zoe t z.val).trim.cause = 3)
      ∧ (runs → ¬ still → (zoe t z.val).state = x.state ∧ (zoe t z.val).trim.lightDue = true)
      ∧ (¬ runs → (zoe t z.val).state = x.state)
      ∧ ∀ q, (stream (zoe t z.val) q).integ = (stream x q).integ.map (fun w => { w with nolight := true })
        ∧ (stream (zoe t z.val) q).post = (stream x q).post)
    ∧ (∀ q : Stream, x.state = .ready ∨ x.state = .running → still → (stream x (streamNo q)).idle = none →
      blockHeld s .zoetrope z.val = false → x.fenceReq = 0 → (stream x (streamNo q)).fenceDue = false →
      fenceRuleMet x (stream x (streamNo q)) = false → x.trim.light = false ∨ x.trim.lightDue = true →
      ∃ t, exec (.windowBoundary z q) s = .next t ∧ (zoe t z.val).state = .trimming ∧ (zoe t z.val).trim.lightDue = false
        ∧ (zoe t z.val).trim.cause = (if x.trim.light then 4 else 3) ∧ (zoe t z.val).trim.elems = x.trim.elems)
    ∧ (x.state ≠ .off → ∃ t, exec (.lightReturn z) s = .next t ∧ OnlyZoe z.val s t ∧ (zoe t z.val).trim.light = true
      ∧ (zoe t z.val).state = x.state ∧ (zoe t z.val).trim.cause = (if x.state = .trimming ∧ x.trim.cause = 3 then 4 else x.trim.cause))
    ∧ (x.state = .trimming → x.trim.cause = 4 ∨ x.trim.cause = 5 → x.trim.light = true →
      (passSince x x.trim.since = false ∨ x.trim.conv = true → x.fenceReq = 0 → x.calDue = false →
        ∃ t, exec (.trimConverged z) s = .next t ∧ OnlyZoe z.val s t
          ∧ zoe t z.val = { x with state := .ready, trim.conv := true, trim.cause := 0 })
      ∧ (passSince x x.trim.since = true → x.trim.conv = false → exec (.trimConverged z) s = .next s)
      ∧ ∃ t, exec (.trimTimeout z) s = .next t ∧ t = fenceZoe z.val 4 (advanceTo (x.trim.since + 50000000) s)
        ∧ x.trim.since + 50000000 ≤ timeNs (advanceTo (x.trim.since + 50000000) s))
    ∧ (x.state = .warming →
      (x.trim.light = true → ∃ t, exec (.warmingSettled z) s = .next t ∧ OnlyZoe z.val s t
        ∧ zoe t z.val = { x with state := .trimming, trim.cause := 1, trim.since := timeNs s })
      ∧ ∃ t, exec (.warmingTimeout z) s = .next t ∧ t = fenceZoe z.val 7 (advanceTo (x.trim.since + 500000000) s)
        ∧ x.trim.since + 500000000 ≤ timeNs (advanceTo (x.trim.since + 500000000) s)))
  ∧ (∀ (h : Half) (s : State), ∃ t, exec (.lightDieRailsRemoved h) s = .next t ∧ t = { s with zoes := t.zoes }
    ∧ ∀ z, z < 32 →
      if (z < 16 ↔ h = .east) then (zoe t z).state = .off ∧ (zoe t z).trim.light = false
        ∧ ∀ q, (stream (zoe t z) q).integ = none ∧ (stream (zoe t z) q).post = []
      else zoe t z = zoe s z)

/-- The end of a full calibration and of a Show load's changes to a Zoetrope: what it found is in force and the Zoetrope is Ready,
or it is Fenced: cause 3 for over 64 dead cells, 4 where it did not converge; without light at its taps neither ends. The values it
gives the elements are free (R30 to R32, R96, R100 to R104, R106; log entry 38). -/
def Claims.CalibrationEnds : Prop :=
  ∀ (z : ZoeId) (r : CalResult) (s : State),
    let x := zoe s z.val
    let twin := (applySettings s z.val x).modeApplied
    let holds' (since : Nat) (b : Bool) : Prop := passSince x since = true ∧ x.trim.conv = b
      ∨ passSince x since = false ∧ tapBad x.trim.taps = [] ∧ passConverged r.pass = b
    x.state = .trimming →
    (x.trim.light = false → exec (.fullCalibrationDone z r) s = .next s ∧ exec (.zoeReconfigDone z r) s = .next s)
    ∧ (x.trim.light = true → x.trim.cause = 1 → flashOk s = true →
      let sp := mapSpares (r.failed.foldl (fun xs c => addFailed c xs) x.trim.failed) x
      (r.dead.length ≤ 64 → sp.1 = [] → r.spareFailed = false → noRefRow twin (~~~r.refRows) = false →
        holds' (x.trim.since + 700000000) true → r.errorOk = true → x.fenceReq = 0 → x.calDue = false →
        ∃ t, exec (.fullCalibrationDone z r) s = .next t
          ∧ t = { s with zoes := t.zoes, ident.aux := t.ident.aux, free := s.free + 1 }
          ∧ x.trim.since + 800000000 ≤ timeNs t
          ∧ (∀ i, i ≠ z.val → zoe t i = zoe s i) ∧ (zoe t z.val).state = .ready ∧ (zoe t z.val).trim.cause = 0
          ∧ (zoe t z.val).dead = r.dead ∧ (zoe t z.val).badRefRows = ~~~r.refRows ∧ (zoe t z.val).spare = sp.2.spare
          ∧ (zoe t z.val).trim.failed = [] ∧ (zoe t z.val).trim.flashInB = !x.trim.flashInB
          ∧ flashRec (zoe t z.val).trim = (⟨(zoe t z.val).trim.elems, some (zoe t z.val).predist, (zoe t z.val).spare, []⟩ : CalRec)
          ∧ (zoe t z.val).prec.lastPass = some (timeNs t) ∧ (zoe t z.val).trim.hpiPh = r.hpiPh ∧ (zoe t z.val).trim.hpiBal = r.hpiBal
          ∧ (zoe t z.val).modeApplied = twin
          ∧ (zoe t z.val).st0 = x.st0 ∧ (zoe t z.val).st1 = x.st1)
      ∧ (64 < r.dead.length → passSince x (x.trim.since + 700000000) = true ∨ tapBad x.trim.taps = [] →
        ∃ t u, exec (.fullCalibrationDone z r) s = .next t ∧ t = fenceZoe z.val 3 u
          ∧ u = { s with zoes := u.zoes, ident.aux := u.ident.aux, free := s.free + 1 } ∧ (zoe u z.val).state = .trimming
          ∧ (zoe u z.val).dead.length = 64))
    ∧ (x.trim.light = true → x.trim.cause = 2 →
      let sp := mapSpares x.trim.failed x
      r.dead.length ≤ 64 → sp.1 = [] → noRefRow twin x.badRefRows = false →
      (holds' (x.trim.since + 38000000) true → x.fenceReq = 0 → x.calDue = false →
        ∃ t, exec (.zoeReconfigDone z r) s = .next t ∧ OnlyZoeAt z.val s t ∧ x.trim.since + 42000000 ≤ timeNs t
          ∧ (zoe t z.val).state = .ready
          ∧ (zoe t z.val).trim.cause = 0 ∧ (zoe t z.val).dead = r.dead ∧ (zoe t z.val).spare = sp.2.spare
          ∧ (zoe t z.val).trim.failed = [] ∧ (zoe t z.val).modeApplied = twin ∧ (zoe t z.val).badRefRows = x.badRefRows
          ∧ (zoe t z.val).trim.passes = x.trim.passes + (if passSince x (x.trim.since + 38000000) then 0 else 1)
          ∧ (passSince x (x.trim.since + 38000000) = false → (zoe t z.val).prec.lastPass = some (timeNs t)
            ∧ (zoe t z.val).trim.phRms = r.pass.phRms ∧ (zoe t z.val).trim.gapSym = x.trim.gapSym + 262144))
      ∧ (holds' (x.trim.since + 38000000) false →
        ∃ t u, exec (.zoeReconfigDone z r) s = .next t ∧ t = fenceZoe z.val 4 u ∧ OnlyZoeAt z.val s u
          ∧ (zoe u z.val).state = .trimming))

/-- A Full-mode Zoetrope called to calibration, at its next boundary with light and nothing to fence it: its queues halt, it enters
Trimming, and the phase targets marked for a wrap have moved (R39, R100, R102). -/
def Claims.CalibrationCalls : Prop :=
  ∀ (z : ZoeId) (s : State),
    let x := zoe s z.val
    x.state = .ready ∨ x.state = .running → x.calDue = true → x.modeApplied = false → x.fenceReq = 0 → x.trim.light = true →
    x.trim.lightDue = false → x.st0.integ = none → x.st0.idle = none → x.st0.fenceDue = false → fenceRuleMet x x.st0 = false →
    blockHeld s .zoetrope z.val = false →
    ∃ t, exec (.windowBoundary z .s0) s = .next t ∧ (zoe t z.val).state = .trimming ∧ (zoe t z.val).trim.cause = 1
      ∧ (zoe t z.val).calDue = false ∧ (zoe t z.val).halt0 = true ∧ (zoe t z.val).halt1 = true ∧ (zoe t z.val).trim.wrapCnt = 0
      ∧ (zoe t z.val).trim.since = timeNs s

/-- Light, warming, and how calibrations begin and end. The clauses that rest on log entries 37, 54, 95 and 96 are the model's choices. -/
def Obligations.StartCalibration : Prop := Claims.LightAndWarming ∧ Claims.CalibrationCalls ∧ Claims.CalibrationEnds

/-- The HALT bits: set by the PF or by the VF of the partition that owns the Quad, a queue halts at its next boundary; cleared, a
halted queue runs on; another VF's access changes nothing, nor one to the West half while the inter-hub link is in reset (R13, R60,
R63, R369; for the last log entry 105). -/
def Claims.QueueHalts : Prop :=
  ∀ (f : Fn) (z : ZoeId) (q : Stream) (s : State),
    let k := streamNo q
    let x := zoe s z.val
    (reachesZoe s f z.val = false ∨ cutOff s (z.val / 16) = true → exec (.zoeQctlHalt f z q) s = .next s ∧ exec (.zoeQctlResume f z q) s = .next s)
    ∧ (reachesZoe s f z.val = true → cutOff s (z.val / 16) = false →
      (∃ t, exec (.zoeQctlHalt f z q) s = .next t ∧ OnlyZoe z.val s t ∧ haltBit (zoe t z.val) k = true
        ∧ haltBit (zoe t z.val) (1 - k) = haltBit x (1 - k) ∧ ∀ i, stream (zoe t z.val) i = stream x i)
      ∧ ∃ t, exec (.zoeQctlResume f z q) s = .next t ∧ OnlyZoe z.val s t ∧ haltBit (zoe t z.val) k = false
        ∧ haltBit (zoe t z.val) (1 - k) = haltBit x (1 - k) ∧ OtherStream k x (zoe t z.val)
        ∧ stream (zoe t z.val) k
          = (if (stream x k).qstate = .halted then { stream x k with qstate := .running } else stream x k))

/-! ### Ownership, HBM and DMA -/

/-- The ownership check, bank state by bank state, and what an access that fails it leaves: one drop counter and one entry of the
half's ownership log, and no bank, byte or Marble changed (R181, R182, R186). -/
def Claims.OwnershipCheck : Prop :=
  (∀ acc t : BitVec 20, ∀ k : Nat,
    (tagPass acc .free = true ↔ acc = 0xFFFFF)
    ∧ (tagPass acc (.owned t) = true ↔ acc = 0xFFFFF
      ∨ acc ≠ 0 ∧ acc.toNat / 65536 = t.toNat / 65536
        ∧ (acc.toNat % 65536 = t.toNat % 65536 ∨ acc.toNat % 65536 = 0xFFFF ∨ t.toNat % 65536 = 0xFFFF))
    ∧ tagPass acc (.scrubbing t k) = false ∧ tagPass acc (.retired t) = false)
  ∧ (∀ (n master : Nat) (acc : BitVec 20) (s : State),
    let t := dropAccess n master acc s
    let b := bankTag (bank s n)
    t.mrb.scratch = s.mrb.scratch ∧ t.mrb.banks = s.mrb.banks ∧ t.mrb.marbles = s.mrb.marbles ∧ t.hbm = s.hbm ∧ t.zoes = s.zoes
      ∧ (b ≠ 0 → b ≠ 0xFFFFF → t.mrb.dropF = s.mrb.dropF
        ∧ ∀ p, look t.mrb.drops p 0 = if p = b.toNat / 65536 then look s.mrb.drops p 0 + 1 else look s.mrb.drops p 0)
      ∧ ((b = 0 ∨ b = 0xFFFFF) → t.mrb.dropF = s.mrb.dropF + 1 ∧ t.mrb.drops = s.mrb.drops)
      ∧ (n < 524288 → t.mrb.logWest = s.mrb.logWest ∧ ∃ e, t.mrb.logEast.entries.getLast? = some e
        ∧ e.bank.toNat = n ∧ e.accTag = acc ∧ e.bankTag = b ∧ e.mtime = mtime s ∧ e.gtime = gtime s
        ∧ (s.mrb.logEast.entries.length = 256 → t.mrb.logEast.overflow = satInc s.mrb.logEast.overflow)))

/-- A descriptor written to a DMA port by a Marble of the half whose partition owns the Quad joins the descriptors open there; the
65th is discarded with SLOT_BUSY, and one of another partition with NOT_OWNER. The posted store is no longer outstanding (R138,
R174, R176). -/
def Claims.DmaDescriptors : Prop :=
  ∀ (n : MarbleId) (z : ZoeId) (d : BitVec 128) (s : State), portReach n.toNat z.val = true →
    ∀ c ∈ ([.dmaRead n z d, .dmaWrite n z d, .xfence n z d] : List Instr),
      let x := zoe s z.val
      let m := marble s n.toNat
      let ended (st : Byte) (t : State) : Prop := t = { s with zoes := t.zoes, mrb.marbles := t.mrb.marbles }
        ∧ (∀ i, i ≠ z.val → zoe t i = zoe s i) ∧ (∀ k, k ≠ n.toNat → marble t k = marble s k)
        ∧ marble t n.toNat = recordStatus st
          { m with outst := removeFirst (isStore (portAddr z.val 0x30000) (leBytes 16 d.toNat)) m.outst }
      (portOwner s n.toNat z.val = false → ∃ t, exec c s = .next t ∧ ended 2 t ∧ zoe t z.val = x)
      ∧ (portOwner s n.toNat z.val = true → blockHeld s .zoetrope z.val = true → ∃ t, exec c s = .next t ∧ ended 5 t ∧ zoe t z.val = x)
      ∧ (portOwner s n.toNat z.val = true → blockHeld s .zoetrope z.val = false → 64 ≤ (dmaOpen x).length →
        ∃ t, exec c s = .next t ∧ ended 4 t ∧ zoe t z.val = x)
      ∧ (portOwner s n.toNat z.val = true → blockHeld s .zoetrope z.val = false → (dmaOpen x).length < 64 →
        ∃ t, exec c s = .next t ∧ ended 0 t
          ∧ zoe t z.val = { x with dma := x.dma ++ [{ desc := d, n := n, tag := marbleTag s n.toNat }] })

/-- A granule of a DMA descriptor's scratch range as a key of the scratch map (R111, R174). -/
def Sys2Proof.Machine.Tables.dmaKey (z : Nat) (d : BitVec 128) (i j : Nat) : Nat :=
  2048 * (dmaGranule z d i).1 + (dmaGranule z d i).2 + j

/-- Whether a DMA descriptor of Zoetrope z may run on lines of the Quad's own half: its form, its range of partition memory, every bank
of its scratch range, and no block reset (R172 to R176, R182, R369). -/
def Sys2Proof.Machine.Tables.Runs (z : Nat) (op : DmaOp) (c off : Nat) (s : State) : Prop :=
  dmaWellFormed z op.desc = true ∧ pmaMap s (tagPart op.tag) (dmaPma op.desc) (dmaLen op.desc) = some (c, off)
    ∧ pchHalf s c = z / 16 ∧ blockHeld s .hbm (c / 32) = false
    ∧ blockHeld s .bag (4 * z + bitsOf (dmaSaddr op.desc) 25 24) = false
    ∧ (∀ i, i < dmaLen op.desc / 32 → tagPass op.tag (bank s (dmaGranule z op.desc i).1) = true)
    ∧ ∀ e ∈ s.hbm.badLines, e.1 ≠ c

/-- DMA_COMPLETION of the oldest open descriptor: a READ has moved its bytes of memory to scratch, with zeros for an uncorrectable
line, errors counted and recorded; a WRITE its bytes of scratch to memory, an XFENCE nothing; then the completion word with the
status is written as the router writes it, and the descriptor is no longer open (R169, R174 to R176, R178, R187). -/
def Claims.DmaCompletions : Prop :=
  ∀ (z : ZoeId) (op : DmaOp) (rest : List DmaOp) (s : State), (zoe s z.val).dma = op :: rest → op.finished = false →
    let d := op.desc
    let done (st : Byte) (u t : State) : Prop :=
      t = routerWord (64 * (op.n.toNat / 64) + dmaWord d 1 / 2 ^ 26) (if dmaWord d 1 / 2 ^ 25 % 2 = 0 then 0x7D8 else 0x7DC)
          (BitVec.ofNat 16 (dmaWord d 0) ++ st ++ (0 : Byte)) op.tag u
        ∧ (zoe u z.val).dma = rest ∧ (∀ i, i ≠ z.val → zoe u i = zoe s i)
    (∀ c off : Nat, dmaOp d = 1 → Runs z.val op c off s →
      ∃ t u, exec (.dmaCompletion z 0 [] []) s = .next t ∧ done 0 u t
        ∧ u = { s with zoes := u.zoes, mrb.scratch := u.mrb.scratch, hbm.acts := u.hbm.acts, free := s.free + (dmaLen d + 127) / 128 }
        ∧ (∀ i j, i < dmaLen d / 32 → j < 32 → look u.mrb.scratch (dmaKey z.val d i j) 0 = hbmByte s c (off + 32 * i + j))
        ∧ ∀ key, (∀ i j, i < dmaLen d / 32 → j < 32 → key ≠ dmaKey z.val d i j) → look u.mrb.scratch key 0 = look s.mrb.scratch key 0)
    ∧ (∀ c off : Nat, dmaOp d = 1 → Runs z.val op c off s → dmaLen d ≤ 128 →
      (∃ t u, exec (.dmaCompletion z 0 [] [0]) s = .next t ∧ done 9 u t ∧ hstack u (c / 32) = { hstack s (c / 32) with ue := (hstack s (c / 32)).ue + 1 }
        ∧ u.flt.nCont = s.flt.nCont + 1 ∧ ∀ i j, i < dmaLen d / 32 → j < 32 → look u.mrb.scratch (dmaKey z.val d i j) 0 = 0)
      ∧ ∃ t u, exec (.dmaCompletion z 0 [0] []) s = .next t ∧ done 0 u t ∧ hstack u (c / 32) = { hstack s (c / 32) with ce := (hstack s (c / 32)).ce + 1 }
        ∧ u.flt.nCorr = s.flt.nCorr + 1
        ∧ ∀ i j, i < dmaLen d / 32 → j < 32 → look u.mrb.scratch (dmaKey z.val d i j) 0 = hbmByte s c (off + 32 * i + j))
    ∧ (∀ (c off : Nat) (ce ue : List (Fin 512)), dmaOp d = 2 → Runs z.val op c off s → pmaProtected s (tagPart op.tag) (dmaPma d) (dmaLen d) = false →
      (rlc s (1 - z.val / 16)).lines = [] →
      ∃ t u, exec (.dmaCompletion z 0 ce ue) s = .next t ∧ done 0 u t
        ∧ u = { s with zoes := u.zoes, hbm.mem := u.hbm.mem, hbm.acts := u.hbm.acts, free := s.free + (dmaLen d + 127) / 128 }
        ∧ (∀ i j, i < dmaLen d / 32 → j < 32 → hbmByte u c (off + 32 * i + j) = look s.mrb.scratch (dmaKey z.val d i j) 0)
        ∧ ∀ c' o, c < 192 → c' < 192 → o < 2 ^ 31 → (c' ≠ c ∨ o < off ∨ off + dmaLen d ≤ o) → hbmByte u c' o = hbmByte s c' o)
    ∧ ∀ ce ue : List (Fin 512),
      (dmaOp d = 3 → dmaWellFormed z.val d = true →
        ∃ t u, exec (.dmaCompletion z 0 ce ue) s = .next t ∧ done 0 u t ∧ OnlyZoe z.val s u)
      ∧ (dmaWellFormed z.val d = false → ∃ t u, exec (.dmaCompletion z 0 ce ue) s = .next t ∧ done 3 u t ∧ OnlyZoe z.val s u)
      ∧ (dmaWellFormed z.val d = true → dmaOp d ≠ 3 → pmaMap s (tagPart op.tag) (dmaPma d) (dmaLen d) = none →
        ∃ t u, exec (.dmaCompletion z 0 ce ue) s = .next t ∧ done 8 u t ∧ OnlyZoe z.val s u)

/-- The logic-die DMA: its descriptors and their completions. The clauses that rest on log entries 10, 24 and 87 are the model's
choices. -/
def Obligations.LogicDieDma : Prop := Claims.DmaDescriptors ∧ Claims.DmaCompletions

/-- The remote-line cache: a READ of a line of the other half hits only a line of its partition and is counted; a miss fills, unless
NOCACHE or an empty mask; an acknowledged invalidation takes the line from the cache, counted; refresh management and zeroing act on
their stack and pseudo-channel alone (R169, R172, R177, R178, R180, R188). The clauses that rest on log entries 10 and 87 are the
model's choices. -/
def Obligations.CachesAndStacks : Prop :=
  (∀ (h p c line : Nat) (nc : Bool) (s : State), h < 2 → pchHalf s c ≠ h → (∀ e ∈ s.hbm.badLines, e ≠ (c, line)) →
    let r := readLine h p c line nc s
    let held (l : CacheLine) : Prop := l.pch = c ∧ l.line = line ∧ l.part.toNat = p
    ((∃ l ∈ (rlc s h).lines, held l) → (∃ l ∈ (rlc s h).lines, held l ∧ r.1 = (l.bytes, false))
      ∧ (rlc r.2 h).hit = (rlc s h).hit + 1 ∧ (rlc r.2 h).miss = (rlc s h).miss ∧ (rlc r.2 h).lines = (rlc s h).lines)
    ∧ ((∀ l ∈ (rlc s h).lines, ¬ held l) → r.1 = (hbmBytes s c (128 * line) 128, false)
      ∧ (rlc r.2 h).miss = (rlc s h).miss + 1 ∧ (rlc r.2 h).hit = (rlc s h).hit
      ∧ ((nc = true ∨ look s.hbm.ways p 0 = 0) → (rlc r.2 h).lines = (rlc s h).lines)
      ∧ (∀ l ∈ (rlc r.2 h).lines, l ∈ (rlc s h).lines ∨ nc = false ∧ l.pch = c ∧ l.line = line ∧ l.part = BitVec.ofNat 4 p
        ∧ l.bytes = hbmBytes s c (128 * line) 128 ∧ (look s.hbm.ways p 0).getLsbD l.way = true)))
  ∧ (∀ (h : Half) (key z : Nat) (rest : List (Nat × Nat)) (s : State),
    let k := match h with
      | .east => 0
      | .west => 1
    (rlc s k).pend = (key, z) :: rest →
    ∃ t, exec (.invalidationAck h) s = .next t ∧ (rlc t k).pend = rest ∧ t.hbm.mem = s.hbm.mem ∧ rlc t (1 - k) = rlc s (1 - k)
      ∧ (∀ l, l ∈ (rlc t k).lines ↔ l ∈ (rlc s k).lines ∧ ¬(l.pch = key / 2 ^ 24 ∧ l.line = key % 2 ^ 24))
      ∧ (rlc t k).inv = (rlc s k).inv + BitVec.ofNat 48 ((rlc s k).lines.length - (rlc t k).lines.length))
  ∧ (∀ (c : PchId) (b : Nat) (s : State),
    (pchFitted s c.val = true → ∃ t, exec (.rfm c b) s = .next t
      ∧ t = { s with hbm.hstacks := t.hbm.hstacks, hbm.acts := t.hbm.acts }
      ∧ (∀ k, look t.hbm.acts k 0 = if k = actKey c.val b then 0 else look s.hbm.acts k 0)
      ∧ ∀ k, hstack t k = if k = c.val / 32 then { hstack s k with rfm := (hstack s k).rfm + 1 } else hstack s k)
    ∧ (pchFitted s c.val = false → exec (.rfm c b) s = .next s))
  ∧ (∀ (c : PchId) (s : State), (pch s c.val).zeroing = true → s.hbm.badLines = [] →
    ∃ t, exec (.pchZeroingDone c) s = .next t ∧ t = { s with hbm.pchs := t.hbm.pchs, hbm.mem := t.hbm.mem }
      ∧ (pch t c.val).zeroing = false ∧ (pch t c.val).valid = (pch s c.val).valid ∧ (pch t c.val).part = (pch s c.val).part
      ∧ (∀ o, o < 2 ^ 31 → hbmByte t c.val o = 0)
      ∧ ∀ c' o, c' < 192 → c' ≠ c.val → o < 2 ^ 31 → pch t c' = pch s c' ∧ hbmByte t c' o = hbmByte s c' o)

/-- The hand-over of banks: what becomes of a bank under a hand-over to tag T; a request through the port for a bank of the writer's
partition and Quad completes with OK at once where the contents are kept, with BANK_BUSY where its Marble has not stopped, and when
the scrub ends where it scrubs; a Scrubbing bank whose read-back is clean holds zeros and has its new state, a third dirty one
retires it (R183 to R185). -/
def Claims.BankHandOvers : Prop :=
  (∀ (b : Nat) (t : BitVec 20) (keep : Bool) (s : State),
    let r := handOver b t keep s
    r.2 = { s with mrb.banks := r.2.mrb.banks } ∧ (∀ k, k ≠ b → bank r.2 k = bank s k)
    ∧ (bank s b = .free → t ≠ 0 → r.1 = true ∧ bank r.2 b = .owned t)
    ∧ (bank s b = .free → t = 0 → r.1 = true ∧ bank r.2 b = .free)
    ∧ (∀ a, bank s b = .owned a → keep = true → t ≠ 0 → t ≠ 0xFFFFF → t.toNat / 65536 = a.toNat / 65536 →
      r.1 = true ∧ bank r.2 b = .owned t)
    ∧ (∀ a, bank s b = .owned a → (keep = false ∨ t = 0 ∨ t = 0xFFFFF ∨ t.toNat / 65536 ≠ a.toNat / 65536) →
      ((marble s b).cause ≠ 0 → r.1 = true ∧ bank r.2 b = .scrubbing t 0) ∧ ((marble s b).cause = 0 → r.1 = false ∧ bank r.2 b = .owned a))
    ∧ (∀ a k, bank s b = .scrubbing a k → r.1 = true ∧ bank r.2 b = .scrubbing t k)
    ∧ (∀ a, bank s b = .retired a → r.1 = false ∧ bank r.2 b = .retired a))
  ∧ (∀ (n : MarbleId) (z : ZoeId) (w0 w1 : Word) (s : State), portReach n.toNat z.val = true → portOwner s n.toNat z.val = true →
    blockHeld s .zoetrope z.val = false →
    let b := w0.toNat % 2 ^ 20
    let t' : BitVec 20 := w1.setWidth 20
    let p := tagPart (marbleTag s n.toNat)
    let addr := portAddr z.val 0x38000
    let bytes := leBytes 4 w0.toNat ++ leBytes 4 w1.toNat
    let ended (st : Byte) (t : State) : Prop := t = { s with mrb.marbles := t.mrb.marbles, mrb.banks := t.mrb.banks }
      ∧ (∀ k, k ≠ n.toNat → marble t k = marble s k) ∧ (∀ k, k ≠ b → bank t k = bank s k)
      ∧ marble t n.toNat = recordStatus st { marble s n.toNat with outst := removeFirst (isStore addr bytes) (marble s n.toNat).outst }
    (((part s p).delegate = false ∨ b / 32768 ≠ z.val ∨ t'.toNat / 65536 ≠ p ∨ t'.toNat % 65536 = 0 ∨ t' = 0xFFFFF) →
      ∃ t, exec (.handOverRequest n z w0 w1) s = .next t ∧ ended 2 t ∧ bank t b = bank s b)
    ∧ (∀ a, (part s p).delegate = true → b / 32768 = z.val → t'.toNat / 65536 = p → t'.toNat % 65536 ≠ 0 → t' ≠ 0xFFFFF →
      bank s b = .owned a → tagPart a = p →
      (w1.getLsbD 31 = true → ∃ t, exec (.handOverRequest n z w0 w1) s = .next t ∧ ended 0 t ∧ bank t b = .owned t')
      ∧ (w1.getLsbD 31 = false → (marble s b).cause = 0 →
        ∃ t, exec (.handOverRequest n z w0 w1) s = .next t ∧ ended 10 t ∧ bank t b = bank s b)
      ∧ (w1.getLsbD 31 = false → (marble s b).cause ≠ 0 →
        ∃ t, exec (.handOverRequest n z w0 w1) s = .next t ∧ bank t b = .scrubbing t' 0
          ∧ (marble t n.toNat).outst
            = removeFirst (isStore addr bytes) (marble s n.toNat).outst ++ [{ op := .handOver b, urgent := false }]
          ∧ (marble t n.toNat).rstatCount = (marble s n.toNat).rstatCount)))
  ∧ (∀ (b : MarbleId) (t' : BitVec 20) (k : Nat) (s : State), bank s b.toNat = .scrubbing t' k →
    (∃ t, exec (.scrubComplete b false) s = .next t ∧ bank t b.toNat = (if t' = 0 then .free else .owned t')
      ∧ (∀ i, i ≠ b.toNat → bank t i = bank s i)
      ∧ (∀ key, look t.mrb.scratch key 0 = if 2048 * b.toNat ≤ key ∧ key < 2048 * b.toNat + 2048 then 0 else look s.mrb.scratch key 0)
      ∧ ∀ i, (marble t i).outst = (marble s i).outst.filter (fun o => !isHandOver b.toNat o))
    ∧ (k < 2 → ∃ t, exec (.scrubComplete b true) s = .next t ∧ t = { s with mrb.banks := t.mrb.banks }
      ∧ ∀ i, bank t i = if i = b.toNat then .scrubbing t' (k + 1) else bank s i)
    ∧ (2 ≤ k → ∃ t, exec (.scrubComplete b true) s = .next t ∧ (∀ i, bank t i = if i = b.toNat then .retired t' else bank s i)
      ∧ t.flt.nCont = s.flt.nCont + 1 ∧ t.mrb.scratch = s.mrb.scratch
      ∧ ∀ i, (marble t i).outst = (marble s i).outst.filter (fun o => !isHandOver b.toNat o)))

/-- The ownership check of banks, and how banks change hands. The clauses that rest on log entries 16 and 25 are the model's
choices. -/
def Obligations.BanksAndOwnership : Prop := Claims.OwnershipCheck ∧ Claims.BankHandOvers

/-! ### Queues and PCIe -/

/-- The doorbells of a queue: an index within the ring is taken; in a queue that is not enabled, or beyond the ring or with a
reserved bit, it is ignored and counted in QP_DB_IGN (R199, R200). -/
def Claims.Doorbells : Prop :=
  ∀ (f : Fn) (page : QueueId) (v : Word) (q : Nat) (s : State), pageQueue s f page.val = some q →
    let x := queue s q
    let only (t : State) : Prop := t = { s with host.queues := t.host.queues } ∧ ∀ k, k ≠ q → queue t k = queue s k
    let same (x' : Queue) : Prop := x'.state = x.state ∧ x'.sqHead = x.sqHead ∧ x'.cqTail = x.cqTail ∧ x'.seq = x.seq
      ∧ x'.phase = x.phase ∧ x'.flight = x.flight ∧ x'.held = x.held ∧ x'.fetched = x.fetched ∧ x'.dbIgn = x.dbIgn
    (x.state = .enabled →
      (v.toNat < 2 ^ x.sqLog.toNat → x.sqLog.toNat ≤ 16 → ∃ t, exec (.sqTail f page v) s = .next t ∧ only t ∧ same (queue t q)
        ∧ (queue t q).sqTail.toNat = v.toNat ∧ (queue t q).cqHead = x.cqHead)
      ∧ (v.toNat < 2 ^ x.cqLog.toNat → x.cqLog.toNat ≤ 16 → ∃ t, exec (.cqHead f page v) s = .next t ∧ only t ∧ same (queue t q)
        ∧ (queue t q).cqHead.toNat = v.toNat ∧ (queue t q).sqTail = x.sqTail))
    ∧ (x.state ≠ .enabled ∨ 2 ^ x.sqLog.toNat ≤ v.toNat →
      ∃ t, exec (.sqTail f page v) s = .next t ∧ only t ∧ queue t q = { x with dbIgn := x.dbIgn + 1 })
    ∧ (x.state ≠ .enabled ∨ 2 ^ x.cqLog.toNat ≤ v.toNat →
      ∃ t, exec (.cqHead f page v) s = .next t ∧ only t ∧ queue t q = { x with dbIgn := x.dbIgn + 1 })

/-- Queue resets: KEY 0xA5 starts one on an enabled or halted queue: descriptors not started and completions held are gone, those
started go on without a completion, but for fences and those whose read is ended, lost outputs are counted in QP_OUT_DROP, and an
operation that waited for one of those gone has its turn; any other value, and any other state, changes nothing; when the reset ends
the heads, tails, SEQ and PHASE are as created, and each session that lost an output gets its SESSION_EVENT; while a function-level
reset holds the queue it does not end (R197, R198, R209, R216, R218). -/
def Claims.QueueResets : Prop :=
  (∀ (f : Fn) (page : QueueId) (v : Word) (q : Nat) (s : State), pageQueue s f page.val = some q →
    let x := queue s q
    (v.toNat ≠ 0xA5 ∨ x.state = .disabled ∨ x.state = .resetting → exec (.qpReset f page v) s = .next s)
    ∧ (v.toNat = 0xA5 → x.state = .enabled ∨ x.state = .halted →
      ∃ t u, exec (.qpReset f page v) s = .next t ∧ t = settleTurns q u ∧ ((∀ d ∈ x.flight, d.defer = false) → t = u)
        ∧ u = { s with host.queues := u.host.queues, host.tags := u.host.tags, sessions := u.sessions }
        ∧ (∀ k, k ≠ q → queue u k = queue s k)
        ∧ (queue u q).state = .resetting ∧ (queue u q).fetched = [] ∧ (queue u q).held = [] ∧ (queue u q).stalled = []
        ∧ (queue u q).flight
          = (x.flight.filter (fun d => decide (d.op ≠ 7 ∧ d.uid ∉ readingDescs s q))).map (fun d => { d with quiet := true })
        ∧ (queue u q).outDrop = x.outDrop + BitVec.ofNat 48 ((x.held ++ x.stalled).countP (fun c => decide (c.typ = 1)))
        ∧ (queue u q).seq = x.seq ∧ (queue u q).cqTail = x.cqTail
        ∧ ∀ e ∈ u.host.tags, e.2.q = q → e.2.quarantined = true))
  ∧ (∀ (q : QueueId) (s : State), (queue s q.val).state = .resetting →
    ((∃ i, queuePart s q.val = some i ∧ (part s i).resetting = true) → exec (.queueResetDone q) s = .next s)
    ∧ ((∀ i, queuePart s q.val = some i → (part s i).resetting = false) → (∀ e ∈ homedOn s q.val, e.2.lostOut = none) →
      (queue s q.val).held = [] → (queue s q.val).stalled = [] → (queue s q.val).bmOff = false →
      ∃ t, exec (.queueResetDone q) s = .next t ∧ t = { s with host.queues := t.host.queues }
        ∧ (∀ k, k ≠ q.val → queue t k = queue s k)
        ∧ (queue t q.val).state = (if (queue s q.val).haltCause = 3 then .halted else .enabled)
        ∧ (queue t q.val).sqHead = 0 ∧ (queue t q.val).sqTail = 0 ∧ (queue t q.val).cqHead = 0 ∧ (queue t q.val).cqTail = 0
        ∧ (queue t q.val).phase = true ∧ (queue t q.val).seq = 0 ∧ (queue t q.val).sqBase = (queue s q.val).sqBase
        ∧ (queue t q.val).outDrop = (queue s q.val).outDrop))

/-- A queue halts, is rung, and is reset. The clauses that rest on log entries 27 and 105 are the model's choices. -/
def Obligations.QueueControl : Prop := Claims.QueueHalts ∧ Claims.Doorbells ∧ Claims.QueueResets

/-- Completions in ring order: an entry written carries the ring index, PHASE and SEQ, which go on to the next, PHASE inverting at
the ring's end, and its write the function, the PASID and the address; while the ring is full, or the function may not write, it is
held in a buffer of 64, beyond which its operation waits; a held one is written when there is room; the vector is signalled after ITHR completions, at once for IRQ and QUEUE_EVENT, and ITIME µs after the oldest (R205, R208, R210, R213). -/
def Claims.Completions : Prop :=
  (∀ (q : Nat) (c : Cpl) (s : State),
    let x := queue s q
    let c' := { c with time := mtime s }
    (x.state = .enabled ∨ x.state = .halted →
      (x.held = [] → ringFull x = false → queueDma s q = true →
        ∃ out : List Output, (postCpl q c s).out = s.out ++ .completion (queueFn s q) (queuePasid x) (x.cqBase.toNat + 32 * x.cqTail.toNat)
              q x.cqTail.toNat x.phase x.seq c' (cplBytes x.phase x.seq c') :: out
          ∧ (queue (postCpl q c s) q).seq = x.seq + 1 ∧ (queue (postCpl q c s) q).held = []
          ∧ (x.cqTail.toNat + 1 = cqSize x → (queue (postCpl q c s) q).cqTail = 0 ∧ (queue (postCpl q c s) q).phase = !x.phase)
          ∧ (x.cqTail.toNat + 1 ≠ cqSize x →
            (queue (postCpl q c s) q).cqTail = x.cqTail + 1 ∧ (queue (postCpl q c s) q).phase = x.phase)
          ∧ (x.ithr.toNat ≤ x.unsig + 1 ∨ c.irq = true ∨ c.typ = 3 → (queue (postCpl q c s) q).unsig = 0)
          ∧ (¬(x.ithr.toNat ≤ x.unsig + 1 ∨ c.irq = true ∨ c.typ = 3) → (queue (postCpl q c s) q).unsig = x.unsig + 1 ∧ out = []))
      ∧ ((x.held ≠ [] ∨ ringFull x = true ∨ queueDma s q = false) → (postCpl q c s).out = s.out
        ∧ (queue (postCpl q c s) q).held = (if x.held.length < 64 then x.held ++ [c'] else x.held)
        ∧ (queue (postCpl q c s) q).stalled = (if x.held.length < 64 then x.stalled else x.stalled ++ [c'])
        ∧ (queue (postCpl q c s) q).seq = x.seq))
    ∧ (x.state = .disabled → postCpl q c s = s)
    ∧ (∀ k, k ≠ q → queue (postCpl q c s) k = queue s k) ∧ (postCpl q c s).sessions = s.sessions ∧ (postCpl q c s).mrb = s.mrb)
  ∧ (∀ (q : QueueId) (c : Cpl) (rest : List Cpl) (s : State), (queue s q.val).held = c :: rest → ringFull (queue s q.val) = false →
    queueDma s q.val = true → (queue s q.val).state = .enabled ∨ (queue s q.val).state = .halted →
    (queue s q.val).flight = [] → (queue s q.val).fetched = [] →
    ∃ t out, exec (.heldCompletionWrite q) s = .next t
      ∧ t.out = s.out ++ .completion (queueFn s q.val) (queuePasid (queue s q.val))
          ((queue s q.val).cqBase.toNat + 32 * (queue s q.val).cqTail.toNat) q.val (queue s q.val).cqTail.toNat (queue s q.val).phase
          (queue s q.val).seq c (cplBytes (queue s q.val).phase (queue s q.val).seq c) :: out
      ∧ (queue t q.val).held = rest ++ (queue s q.val).stalled.take 1 ∧ (queue t q.val).stalled = (queue s q.val).stalled.drop 1
      ∧ (queue t q.val).seq = (queue s q.val).seq + 1
      ∧ ∀ k, k ≠ q.val → (queue s k).flight = [] → (queue s k).fetched = [] → queue t k = queue s k)
  ∧ (∀ (q : QueueId) (since : Nat) (s : State), (queue s q.val).oldestUnsig = some since → (queue s q.val).itime ≠ 0 →
    ∃ t, exec (.interruptTimer q) s = .next t ∧ since + 1000 * (queue s q.val).itime.toNat ≤ timeNs t
      ∧ (queue t q.val).unsig = 0 ∧ (queue t q.val).oldestUnsig = none ∧ (queue t q.val).seq = (queue s q.val).seq
      ∧ t = signalVec (queueFn s q.val) (queue s q.val).vector.toNat
          (modQueue q.val (fun x => { x with unsig := 0, oldestUnsig := none })
            (advanceTo (since + 1000 * (queue s q.val).itime.toNat) s)))

/-- The module's reads: a fetch asks for as many descriptors as the ring, its tokens, one request and eight allow, in ring order;
its data are descriptors ready to start; a read that times out is counted and its header logged, its tag quarantined until twice the timeout, its queue
halted with cause 1; one that fails halts it with cause 2; a completion for a quarantined tag only frees it (R194, R199, R200, R211,
R212, R214). -/
def Claims.HostReads : Prop :=
  (∀ (q : QueueId) (s : State),
    let x := refill (timeNs s) (queue s q.val)
    let waiting := (x.sqTail.toNat + 2 ^ x.sqLog.toNat - x.sqHead.toNat) % 2 ^ x.sqLog.toNat
    let n := Min.min (Min.min 8 waiting) (Min.min (2 ^ x.sqLog.toNat - x.sqHead.toNat)
      (Min.min ((fnCfg s (queueFn s q.val)).mrrs / 64) (if x.rate = 0 then 8 else x.tokens)))
    (queue s q.val).state = .enabled → queueDma s q.val = true → n ≠ 0 → (∀ e ∈ s.host.tags, e.2.q = q.val → e.2.quarantined = true) →
    ∀ tag, freshHostTag s (queueFn s q.val) = some tag →
    ∃ t, exec (.descriptorFetch q) s = .next t ∧ t.free = s.free + 1
      ∧ t.out = s.out ++ [.hostRead (queueFn s q.val) (queuePasid x) tag (x.sqBase.toNat + 64 * x.sqHead.toNat) (64 * n)]
      ∧ find t.host.tags tag = some {
        q := q.val, kind := .fetch x.sqHead.toNat n, issued := timeNs s
        addr := x.sqBase.toNat + 64 * x.sqHead.toNat, len := 64 * n }
      ∧ (∀ k, k ≠ tag → find t.host.tags k = find s.host.tags k)
      ∧ ((queue t q.val).sqHead.toNat = (x.sqHead.toNat + n) % 2 ^ x.sqLog.toNat ∨ 16 < x.sqLog.toNat)
      ∧ (x.rate ≠ 0 → (queue t q.val).tokens = x.tokens - n) ∧ (∀ k, k ≠ q.val → queue t k = queue s k)
      ∧ t.sessions = s.sessions ∧ t.mrb = s.mrb)
  ∧ (∀ (tag : HostTag) (u : TagUse) (s : State), find s.host.tags tag.val = some u → waitingReads s = [] →
    (u.quarantined = false →
      (∀ (first n : Nat) (bytes : List Byte), u.kind = .fetch first n →
        let fs := (queue s u.q).fetched ++ (List.range n).map (fun i =>
          ({ bytes := slice bytes (64 * i) 64, sqHead := BitVec.ofNat 16 ((first + i + 1) % 2 ^ (queue s u.q).sqLog.toNat) } : Fetched))
        (queue s u.q).flight = [] → (∀ d ∈ fs, fieldAt d.bytes 0 1 ≤ 9) →
        ∃ t, exec (.hostReadCompletion tag .ok bytes) s = .next t ∧ find t.host.tags tag.val = none ∧ t.out = s.out
          ∧ queue t u.q = { queue s u.q with fetched := fs } ∧ ∀ k, k ≠ u.q → queue t k = queue s k)
      ∧ (∀ (first n : Nat), u.kind = .fetch first n → u.q < 4096 → (queue s u.q).held = [] → ringFull (queue s u.q) = true →
        (queue s u.q).state = .enabled → (∀ d ∈ (queue s u.q).flight, d.defer = false) →
        (∀ st : CplStatus, st ≠ .ok → ∀ bytes : List Byte, (window s .pf).run = none →
          ∃ t, exec (.hostReadCompletion tag st bytes) s = .next t ∧ (queue t u.q).state = .halted ∧ (queue t u.q).haltCause = 2
            ∧ (queue t u.q).held.map (fun c => (c.typ, c.status, c.data0)) = [(3, 0x10, BitVec.ofNat 64 first)]
            ∧ find t.host.tags tag.val = none ∧ t.out = s.out ++ [.aerAbort (queueFn s u.q) tag.val st])
        ∧ ∃ t, exec (.completionTimeout tag) s = .next t ∧ (queue t u.q).state = .halted ∧ (queue t u.q).haltCause = 1
          ∧ (queue t u.q).timeouts = (queue s u.q).timeouts + 1
          ∧ (queue t u.q).held.map (fun c => (c.typ, c.status, c.data0)) = [(3, 0x0F, BitVec.ofNat 64 first)]
          ∧ find t.host.tags tag.val = some { u with quarantined := true }
          ∧ t.out = s.out ++ [.aerTimeout (queueFn s u.q) tag.val (readHeader (queueFn s u.q) tag.val u)]
          ∧ (fnCfg t (queueFn s u.q)).aerHeader = readHeader (queueFn s u.q) tag.val u
          ∧ u.issued + timeoutNs (fnCfg s (queueFn s u.q)) ≤ timeNs t))
    ∧ (u.quarantined = true →
      (∀ (st : CplStatus) (bytes : List Byte), ∃ t, exec (.hostReadCompletion tag st bytes) s = .next t
        ∧ find t.host.tags tag.val = none ∧ t.sessions = s.sessions ∧ t.mrb = s.mrb ∧ t.hbm = s.hbm
        ∧ (u.q < 4096 → (queue t u.q).late = (queue s u.q).late + 1) ∧ (queue t u.q).fetched = (queue s u.q).fetched)
      ∧ (u.q < 4096 → ∃ t, exec (.tagQuarantineEnd tag) s = .next t ∧ find t.host.tags tag.val = none
        ∧ u.issued + 2 * timeoutNs (fnCfg s (queueFn s u.q)) ≤ timeNs t ∧ t.host.queues = s.host.queues)))

/-- Completions written to the host, and reads of host memory. The clauses that rest on log entries 4, 27, 29 and 77 are the model's
choices. -/
def Obligations.CompletionsAndHostReads : Prop := Claims.Completions ∧ Claims.HostReads

/-- The PCIe events of functions. Bus Master Enable cleared: the function issues nothing, each queue of it halts with cause 3, keeps
its ring indices, and its descriptors in flight are to complete with BUS_MASTER_OFF; set: the enable alone changes. D3hot: no
request is issued. IDE keys programmed: they are there. VF Enable set: the VFs below NumVFs exist and the queues are disabled;
cleared: no VF exists, and each that did is in reset (R191 to R193, R197, R215, R217, R218). -/
def Claims.PcieEvents : Prop :=
  (∀ (f : Fn) (s : State), (fnCfg s f).bme = true →
    ∃ t, exec (.busMasterEnableClear f) s = .next t ∧ (fnCfg t f).bme = false ∧ fnDma t f = false
      ∧ (∀ q, q ∈ s.host.queues.map (·.1) → queueFn s q = f → (queue s q).state = .enabled ∨ (queue s q).state = .halted →
        (queue t q).state = .halted ∧ (queue t q).haltCause = 3 ∧ (queue t q).sqTail = (queue s q).sqTail
          ∧ (queue t q).flight = (queue s q).flight.filter (fun d => d.quiet && decide (d.op ≤ 4))
          ∧ (queue t q).cqTail = (queue s q).cqTail ∧ (queue t q).held.length + (queue t q).stalled.length
            = (queue s q).held.length + (queue s q).stalled.length + ((queue s q).flight.filter (fun d => !d.quiet)).length)
      ∧ (∀ q, queueFn s q ≠ f → queue t q = queue s q) ∧ t.out = s.out ∧ t.sessions = s.sessions ∧ t.mrb = s.mrb)
  ∧ (∀ (f : Fn) (s : State), ∃ t, exec (.busMasterEnableSet f) s = .next t
    ∧ fnCfg t f = { fnCfg s f with bme := true } ∧ t = { s with host.pf := t.host.pf, host.vfs := t.host.vfs }
    ∧ ∀ g, g ≠ f → fnCfg t g = fnCfg s g)
  ∧ (∀ (f : Fn) (s : State), fnOn s f = true → ∃ t, exec (.d3hotEntry f) s = .next t
    ∧ fnCfg t f = { fnCfg s f with d3 := true } ∧ fnDma t f = false ∧ t = { s with host.pf := t.host.pf, host.vfs := t.host.vfs }
    ∧ ∀ g, g ≠ f → fnCfg t g = fnCfg s g)
  ∧ (∀ (f : Fn) (s : State), fnOn s f = true → ∃ t, exec (.ideKeyProgramming f) s = .next t
    ∧ fnCfg t f = { fnCfg s f with ideKeys := true } ∧ t = { s with host.pf := t.host.pf, host.vfs := t.host.vfs }
    ∧ ∀ g, g ≠ f → fnCfg t g = fnCfg s g)
  ∧ (∀ (n : Fin 13) (s : State),
    let k := if s.ident.ml then Min.min n.val 4 else n.val
    let off (q : Nat) (t : State) : Prop := queue t q = { ({} : Queue) with rate := (queue s q).rate, burst := (queue s q).burst }
    (s.host.vfEnable = false →
      (∃ t, exec (.vfEnableChange true n) s = .next t ∧ t.host.vfEnable = true ∧ t.host.numVfs = k
        ∧ (∀ p : Part, fnOn t (.vf p) = decide (p.val < k)) ∧ t.parts = s.parts ∧ t.out = s.out
        ∧ ∀ q, (∀ i, queuePart s q = some i → (part s i).resetting = false) → off q t)
      ∧ ∃ t, exec (.vfEnableChange false n) s = .next t ∧ t = { s with host.numVfs := k })
    ∧ (s.host.vfEnable = true → exec (.vfEnableChange true n) s = .next s
      ∧ ∃ t, exec (.vfEnableChange false n) s = .next t ∧ t.host.vfEnable = false
        ∧ (∀ p : Part, fnOn t (.vf p) = false ∧ (fnOn s (.vf p) = true → (fnCfg t (.vf p)).inReset = true))))

/-- Function-level resets. Of a VF: its configuration is reset, and where its partition exists the queues of its range are Resetting
with their rings empty, its sessions are Closed without completions, its Show is gone, and its banks are handed to its shared
context; the resources and the keys stay, and memory outside the parked slots, and every other member is told; when it is complete the queues are disabled at their reset values.
Of the PF: VF Enable is cleared and the configuration reset, the module is not (R191, R197, R216, R217). -/
def Claims.FunctionResets : Prop :=
  (∀ (p : Part) (s : State), fnOn s (.vf p) = true → (part s p.val).exist = true →
    ∃ t, exec (.vfFunctionLevelReset p) s = .next t
      ∧ (fnCfg t (.vf p)).inReset = true ∧ (fnCfg t (.vf p)).bme = false
      ∧ (∀ m, m < groupN s → isSelf s m = false → isMember s m = true → .partReset m p.val ∈ t.out)
      ∧ part t p.val = { part s p.val with resetting := true } ∧ sessionsOf t p.val = [] ∧ find t.shows p.val = none
      ∧ (∀ q, (part s p.val).qbase ≤ q → q < (part s p.val).qbase + (part s p.val).qcount →
        (queue t q).state = .resetting ∧ (queue t q).flight = [] ∧ (queue t q).fetched = [] ∧ (queue t q).held = [])
      ∧ (∀ k, k ≠ p.val → part t k = part s k) ∧ t.staged = s.staged
      ∧ ((∀ e ∈ sessionsOf s p.val, e.2.slot = none ∧ e.2.parkLen = 0) →
        t.hbm.mem = s.hbm.mem ∧ t.mrb.scratch = s.mrb.scratch ∧ (fnCfg t (.vf p)).pendingVec = [])
      ∧ ∀ z, ownsQuad s p.val z = true → z < 32 → ∀ n, n / 32768 = z →
        bank t n = (match bank s n with
          | .free => .owned (tagOf p.val 0xFFFF)
          | .owned _ => .scrubbing (tagOf p.val 0xFFFF) 0
          | .scrubbing _ k => .scrubbing (tagOf p.val 0xFFFF) k
          | .retired x => .retired x))
  ∧ (∀ (p : Part) (s : State),
    (fnOn s (.vf p) = false → exec (.vfFunctionLevelReset p) s = .next s)
    ∧ (fnOn s (.vf p) = true → (part s p.val).exist = false → ∃ t, exec (.vfFunctionLevelReset p) s = .next t
      ∧ t = { s with host.vfs := t.host.vfs, windows := t.windows, out := t.out }
      ∧ (fnCfg t (.vf p)).inReset = true ∧ (fnCfg t (.vf p)).bme = false ∧ (fnCfg t (.vf p)).pendingVec = []))
  ∧ (∀ (p : Part) (s : State), (part s p.val).resetting = true →
    ∃ t, exec (.flrComplete p) s = .next t ∧ (fnCfg t (.vf p)).inReset = false ∧ (part t p.val).resetting = false
      ∧ (∀ q, (part s p.val).qbase ≤ q → q < (part s p.val).qbase + (part s p.val).qcount →
        (queue t q).state = .disabled ∧ (queue t q).sqTail = 0 ∧ (queue t q).cqHead = 0 ∧ (queue t q).rate = (queue s q).rate)
      ∧ (∀ q, q < (part s p.val).qbase ∨ (part s p.val).qbase + (part s p.val).qcount ≤ q → queue t q = queue s q)
      ∧ t.mrb = s.mrb ∧ t.sessions = s.sessions)
  ∧ (∀ s : State, ∃ t, exec .pfFunctionLevelReset s = .next t ∧ t.host.vfEnable = false ∧ t.host.pf.bme = false
    ∧ t.host.pf.inReset = false ∧ t.ident = s.ident ∧ t.rst = s.rst ∧ t.pwr = s.pwr
    ∧ (window t .pf).ignored = (window s .pf).ignored
    ∧ (s.host.vfEnable = false → t.hbm.mem = s.hbm.mem ∧ t.zoes = s.zoes ∧ t.mrb = s.mrb ∧ t.sessions = s.sessions))

/-- PCIe events, and the resets of functions. The clauses that rest on log entries 3, 45, 46, 68 and 71 are the model's choices. -/
def Obligations.PcieAndFunctions : Prop := Claims.PcieEvents ∧ Claims.FunctionResets

/-! ### Descriptors, sessions and Scenes -/

/-- What every descriptor meets first: one that may not start, or is not at the head, changes nothing; a wrong CAP gives BAD_CAP, a
nonzero reserved or a wrong field BAD_FIELD, and in a Restricted module all but NOP, FENCE and MEM_READ give RESTRICTED (R203, R204,
R206; their order is the model's, log entry 28). -/
def Claims.DescriptorChecks : Prop :=
  ∀ e ∈ descriptors, ∀ (q : QueueId) (f : Fetched) (d : InFlight) (s u : State),
    ((queue s q.val).fetched = [] → exec (e.1 q) s = .next s)
    ∧ ((∃ rest, (queue s q.val).fetched = f :: rest) → fieldAt f.bytes 0 1 ≠ e.2.1 ∨ canStart s q.val f = false → exec (e.1 q) s = .next s)
    ∧ (Takes q.val e.2.1 f d s u →
      (fieldAt f.bytes 2 2 ≠ (queue s q.val).capTag.toNat → ∃ t, exec (e.1 q) s = .next t ∧ Ends q.val d 2 0 u t)
      ∧ (fieldAt f.bytes 2 2 = (queue s q.val).capTag.toNat → headerOk f.bytes = false ∨ ¬ e.2.2 f.bytes →
        ∃ t, exec (e.1 q) s = .next t ∧ Ends q.val d 3 0 u t)
      ∧ (fieldAt f.bytes 2 2 = (queue s q.val).capTag.toNat → headerOk f.bytes = true → e.2.2 f.bytes → s.rst.service = .restricted →
        e.2.1 ≠ 0 → e.2.1 ≠ 7 → e.2.1 ≠ 9 → ∃ t, exec (e.1 q) s = .next t ∧ Ends q.val d 0x17 0 u t))

/-- What a descriptor's completion is: of a descriptor in flight it carries its CID, its session, the SQ head after it and the
status, and the descriptor is no longer in flight; NOP completes with OK at once, and a fence once nothing earlier of its queue is in
flight or held (R203, R205, R209). -/
def Claims.DescriptorCompletions : Prop :=
  (∀ (q : Nat) (d : InFlight) (st : Byte) (data : Nat) (s : State), (queue s q).flight.find? (fun e => decide (e.uid = d.uid)) = some d →
    d.quiet = false → (queue s q).state = .enabled → (queue s q).held = [] → ringFull (queue s q) = false → queueDma s q = true →
    ∃ c out, (endDesc q d.uid st data s).out = s.out ++ .completion (queueFn s q) (queuePasid (queue s q))
          ((queue s q).cqBase.toNat + 32 * (queue s q).cqTail.toNat) q (queue s q).cqTail.toNat (queue s q).phase (queue s q).seq c
          (cplBytes (queue s q).phase (queue s q).seq c) :: out
      ∧ c.cid = d.cid ∧ c.typ = 0 ∧ c.status = st ∧ c.session = d.session ∧ c.sqHead = d.sqHead ∧ c.data0 = BitVec.ofNat 64 data
      ∧ c.time = mtime s ∧ c.extPend = extPending s q d.session
      ∧ ∀ e, e ∈ (queue (endDesc q d.uid st data s) q).flight ↔ e ∈ (queue s q).flight ∧ e.uid ≠ d.uid)
  ∧ (∀ (q : Nat) (d : InFlight) (st : Byte) (data : Nat) (s : State), (queue s q).flight.find? (fun e => decide (e.uid = d.uid)) = some d →
    d.quiet = true → endDesc q d.uid st data s
      = modQueue q (fun x => { x with flight := x.flight.filter (fun e => decide (e.uid ≠ d.uid)) }) s)
  ∧ (∀ (q : QueueId) (f : Fetched) (d : InFlight) (s u : State), Takes q.val 0 f d s u →
    Passes q.val f (fun bs => zeroBytes bs 16 64 = true) s → ∃ t, exec (.queueNop q) s = .next t ∧ Ends q.val d 0 0 u t)
  ∧ (∀ (q : QueueId) (f : Fetched) (d : InFlight) (s u : State), Takes q.val 7 f d s u →
    Passes q.val f (fun bs => (bs.getD 16 0).toNat < 2 ∧ zeroBytes bs 17 64 = true) s →
    (queue s q.val).held = [] → (queue s q.val).stalled = [] → (f.bytes.getD 16 0) = 0 →
    ((queue s q.val).flight = [] → (queue s q.val).fetched = [f] →
      ∃ t, exec (.fenceDescriptor q) s = .next t ∧ t = endDesc q.val d.uid 0 0 u)
    ∧ (∀ e ∈ (queue s q.val).flight, e.op ≠ 7 → (∀ e' ∈ (queue s q.val).flight, e'.op ≠ 7) → e.uid < d.uid → e.quiet = false →
      ∃ t, exec (.fenceDescriptor q) s = .next t ∧ d ∈ (queue t q.val).flight))

/-- The checks and the completions of queue descriptors. The clauses that rest on log entries 28 and 59 are the model's choices. -/
def Obligations.QueueDescriptors : Prop := Claims.DescriptorChecks ∧ Claims.DescriptorCompletions

/-- The session descriptors, in ring order for each session and once a Marionette serves: OPEN makes an Open session of a free ID,
PARK gives a Resident session a parked slot, RESUME an Open or Parked one a slot, CLOSE ends one that has no slot at once and any other
when its slots are zeroed; an ID that names no session gives BAD_SESSION, PARK of one that is not Resident NOT_RESIDENT, and a session
that another of them still works on BUSY, but for CLOSE, which ends a park or a resume with SESSION_CLOSED (R160, R162, R164, R203,
R204, R209, R333). The clauses that rest on log entries 28 and 59 are the model's choices. -/
def Obligations.SessionDescriptors : Prop :=
  (∀ e ∈ descriptors, ∀ (q : QueueId) (f : Fetched) (d : InFlight) (s u : State), 1 ≤ e.2.1 → e.2.1 ≤ 6 → Takes q.val e.2.1 f d s u →
    Passes q.val f e.2.2 s →
    (mustWait u q.val d = true → ∃ t, exec (e.1 q) s = .next t
      ∧ t = settleQueue q.val (modFlight q.val d.uid (fun d => { d with defer := true }) u))
    ∧ (mustWait u q.val d = false → e.2.1 ≤ 4 → mrtServes s = false → ∃ t, exec (e.1 q) s = .next t ∧ t = settleQueue q.val u))
  ∧ ∀ (q : QueueId) (f : Fetched) (d : InFlight) (s u : State), mrtServes s = true → mustWait u q.val d = false →
    let p := partOf u q.val
    let sid := d.session
    let ends (c : Instr) (st : Byte) (v : State) : Prop := ∃ t, exec c s = .next t ∧ Ends q.val d st 0 v t
    (Takes q.val 1 f d s u → Passes q.val f (fun bs => fieldAt bs 18 2 < 4 ∧ zeroBytes bs 28 64 = true) s →
      (sid = 0 ∨ (session u p sid).isSome = true → ends (.sessionOpen q) 4 u)
      ∧ (sid ≠ 0 → session u p sid = none → ∃ x : Session, ends (.sessionOpen q) 0 (setSession p sid x u)
        ∧ x.state = .opened ∧ x.home = q.val ∧ x.trust.toNat = fieldAt f.bytes 16 2 ∧ x.generate = (f.bytes.getD 18 0).getLsbD 0
        ∧ x.ext = (f.bytes.getD 18 0).getLsbD 1 ∧ x.endToken.toNat = fieldAt f.bytes 20 4 ∧ x.maxOut.toNat = fieldAt f.bytes 24 4
        ∧ x.slot = none ∧ x.pslot = none ∧ x.input = [] ∧ x.step = 0 ∧ x.outputs = 0 ∧ x.exts = []))
    ∧ (Takes q.val 2 f d s u → Passes q.val f (fun bs => zeroBytes bs 16 64 = true) s →
      (session u p sid = none → ends (.sessionResume q) 4 u)
      ∧ ∀ x, session u p sid = some x → (x.op ≠ .none → ends (.sessionResume q) 8 u) ∧ (x.op = .none →
        (x.state = .resident → ends (.sessionResume q) 0 u)
        ∧ (x.state ≠ .resident → find u.shows p = none → ends (.sessionResume q) 0x0B u)
        ∧ (∀ w, x.state ≠ .resident → find u.shows p = some w →
          (w.loading = true ∨ w.stopping = true → ends (.sessionResume q) 0x0B u)
          ∧ (w.loading = false → w.stopping = false → freeSlot u p w.hdr x = none → ends (.sessionResume q) 5 u)
          ∧ ∀ k, w.loading = false → w.stopping = false → freeSlot u p w.hdr x = some k → ∃ t, exec (.sessionResume q) s = .next t
            ∧ t = settleQueue q.val (setSession p sid { x with slot := some k, op := .resume q.val d.uid } u))))
    ∧ (Takes q.val 3 f d s u → Passes q.val f (fun bs => zeroBytes bs 16 64 = true) s →
      (session u p sid = none → ends (.sessionPark q) 4 u)
      ∧ ∀ x, session u p sid = some x → (x.op ≠ .none → ends (.sessionPark q) 8 u) ∧ (x.op = .none →
        (x.state ≠ .resident → ends (.sessionPark q) 6 u)
        ∧ (x.state = .resident → freePark u p (stateBytesOf u p) = none → ends (.sessionPark q) 5 u)
        ∧ ∀ k, x.state = .resident → freePark u p (stateBytesOf u p) = some k → ∃ t, exec (.sessionPark q) s = .next t
          ∧ t = settleQueue q.val (setSession p sid { x with pslot := some k, op := .park q.val d.uid } u)))
    ∧ (Takes q.val 4 f d s u → Passes q.val f (fun bs => zeroBytes bs 16 64 = true) s →
      (session u p sid = none → ends (.sessionClose q) 4 u)
      ∧ ∀ x, session u p sid = some x →
        let closing := setSession p sid { x with op := .close q.val d.uid } u
        (∀ q' id, x.op = .close q' id → ends (.sessionClose q) 8 u)
        ∧ (∀ q' id, x.op = .park q' id ∨ x.op = .resume q' id → ∃ t, exec (.sessionClose q) s = .next t
          ∧ t = settleQueue q.val (finishDesc q' id 7 0 closing))
        ∧ (∀ st, x.op = .forced st → ∃ t, exec (.sessionClose q) s = .next t
          ∧ t = settleQueue q.val (sessionEvent x.home sid st x.step (decide (x.exts ≠ [])) closing))
        ∧ (x.op = .none → x.slot = none → x.pslot = none → ends (.sessionClose q) 0 (removeSession p sid u))
        ∧ (x.op = .none → x.slot ≠ none ∨ x.pslot ≠ none → ∃ t, exec (.sessionClose q) s = .next t ∧ t = settleQueue q.val closing))

/-- Slots: a resume takes the lowest slot that no session holds, and under Separated no slot of a batch that another trust domain
holds; a park takes a parked slot that no session holds (R84, R161, R162). -/
def Claims.SessionSlots : Prop :=
  (∀ (s : State) (p : Nat) (h : ShowHdr) (x : Session) (k : Nat), freeSlot s p h x = some k →
    k < h.threads * h.batchCols
      ∧ (∀ e ∈ sessionsOf s p, e.2.slot ≠ some k)
      ∧ ((part s p).mix = true → ∀ e ∈ sessionsOf s p, ∀ j, e.2.slot = some j → batchOf h j = batchOf h k → e.2.trust = x.trust)
      ∧ ∀ i, i < k → (∃ e ∈ sessionsOf s p, e.2.slot = some i)
        ∨ (part s p).mix = true ∧ ∃ e ∈ sessionsOf s p, ∃ j, e.2.slot = some j ∧ batchOf h j = batchOf h i ∧ e.2.trust ≠ x.trust)
  ∧ (∀ (s : State) (p n k : Nat), freePark s p n = some k →
    k < parkedSlots s p n ∧ (∀ e ∈ sessionsOf s p, e.2.pslot ≠ some k) ∧ ∀ i, i < k → ∃ e ∈ sessionsOf s p, e.2.pslot = some i)

/-- The end of the copy or zeroing of a session's slots, its step having ended: parked, its state lies in its parked slot and its slot is
zeroed; closed, it is gone and its slots are zeroed; resumed, it is Resident with the state that its parked slot held, or the initial
state of the Show (R161, R162, R164). While its step runs, or no Marionette serves, nothing happens yet (R333). -/
def Claims.SessionCopies : Prop :=
  ∀ (p : Part) (sid : BitVec 24) (x : Session) (s : State), session s p.val sid = some x →
    let sb := stateBytesOf s p.val
    let open' (k : Nat) : Prop := ∀ key ∈ slotKeys s p.val k false, tagPass mrtTag (bank s (key / 2048)) = true
    let only (u : State) : Prop := u = { s with sessions := u.sessions, mrb.scratch := u.mrb.scratch, hbm := u.hbm, free := u.free }
    let zeroed (k : Nat) (u : State) : Prop := (∀ key ∈ slotKeys s p.val k false, look u.mrb.scratch key 0 = 0)
      ∧ ∀ key, key ∉ slotKeys s p.val k false → look u.mrb.scratch key 0 = look s.mrb.scratch key 0
    let inMem (at' i c o : Nat) : Prop := pmaMap s p.val (at' + 128 * (i / 128)) 128 = some (c, o)
    (x.inStep = true ∨ mrtServes s = false ∨ x.op = .none → exec (.sessionCopyDone p sid) s = .next s)
    ∧ (x.inStep = false → mrtServes s = true →
      (∀ (q id k : Nat) (st : Byte), x.op = .park q id ∨ x.op = .forced st → x.slot = some k → open' k → sb % 128 = 0 →
        let at' := parkAddr s p.val (x.pslot.getD 0) sb
        ∃ t u, exec (.sessionCopyDone p sid) s = .next t ∧ only u ∧ zeroed k u
          ∧ (x.op = .park q id → t = finishDesc q id 0 0 u)
          ∧ (x.op = .forced st → t = settlePart p.val (sessionEvent x.home sid st x.step (decide (x.exts ≠ [])) u))
          ∧ session u p.val sid = some { x with state := .parked, slot := none, parkAt := at', parkLen := sb, op := .none }
          ∧ ∀ i c o key : Nat, i < sb → (slotKeys s p.val k true)[i]? = some key → inMem at' i c o →
            hbmByte u c (o + i % 128) = look s.mrb.scratch key 0)
      ∧ (∀ q id : Nat, x.op = .close q id → x.parkAt % 128 = 0 →
        ∃ t u, exec (.sessionCopyDone p sid) s = .next t ∧ t = finishDesc q id 0 0 u ∧ session u p.val sid = none
          ∧ (∀ i, i ≠ sid → session u p.val i = session s p.val i)
          ∧ (∀ i c o : Nat, i < x.parkLen → inMem x.parkAt i c o → hbmByte u c (o + i % 128) = 0)
          ∧ ∀ k, x.slot = some k → open' k → zeroed k u)
      ∧ (∀ q id k : Nat, x.op = .resume q id → x.slot = some k → open' k → (slotKeys s p.val k false).Nodup →
        ∃ t u, exec (.sessionCopyDone p sid) s = .next t ∧ t = noteReady p.val (finishDesc q id 0 0 u)
          ∧ session u p.val sid = some { x with state := .resident, pslot := none, parkAt := 0, parkLen := 0, op := .none }
          ∧ (∀ i c o key : Nat, x.state = .parked → i < x.parkLen → (slotKeys s p.val k true)[i]? = some key → inMem x.parkAt i c o →
            look u.mrb.scratch key 0 = hbmByte s c (o + i % 128))
          ∧ ∀ (w : ShowSt) (i key : Nat), find s.shows p.val = some w → (slotKeys s p.val k false)[i]? = some key →
            x.state ≠ .parked ∨ key ∉ slotKeys s p.val k true → look u.mrb.scratch key 0 = Config.slotInit w.hdr.showId k i))

/-- A session's residency: its slots and its copies. The clauses that rest on log entry 30 are the model's choices. -/
def Obligations.SessionResidency : Prop := Claims.SessionSlots ∧ Claims.SessionCopies

/-- Tokens and outputs, in ring order for each session: the inline tokens of a TOKEN_SUBMIT are all held, or none; indirect ones are read
first; an OUTPUT_FETCH consumes the oldest extended output and writes at most MAX bytes of it, TRUNCATED where it is longer; the bytes
are free (R152, R204, R206, R208, R209). The clauses that rest on log entries 27 and 32 are the model's choices. -/
def Obligations.TokensAndOutputs : Prop :=
  ∀ (q : QueueId) (f : Fetched) (d : InFlight) (s u : State), mustWait u q.val d = false →
    let p := partOf u q.val
    (Takes q.val 5 f d s u → Passes q.val f (fun bs => (bs.getD 18 0).toNat < 4 ∧ zeroBytes bs 19 24 = true ∧ 1 ≤ fieldAt bs 16 2
        ∧ ((bs.getD 18 0).getLsbD 0 = true → fieldAt bs 16 2 ≤ 8) ∧ ((bs.getD 18 0).getLsbD 0 = true ∨ fieldAt bs 24 8 % 4 = 0)) s →
      let n := fieldAt f.bytes 16 2
      let inl := (f.bytes.getD 18 0).getLsbD 0
      let ends (st : Byte) : Prop := ∃ t, exec (.tokenSubmit q) s = .next t ∧ Ends q.val d st 0 u t
      (find u.shows p = none → ends 0x0B)
      ∧ (∀ w : ShowSt, find u.shows p = some w → (w.loading = true ∨ w.stopping = true → ends 0x0B)
        ∧ (w.loading = false → w.stopping = false → session u p d.session = none → ends 4))
      ∧ (∀ (w : ShowSt) (x : Session), find u.shows p = some w → w.loading = false → w.stopping = false → session u p d.session = some x →
        (x.state ≠ .resident → ends 6)
        ∧ (x.state = .resident → 65536 < x.input.length + n → ends 0x0C)
        ∧ (x.state = .resident → x.input.length + n ≤ 65536 → inl = true →
          ∃ t toks, exec (.tokenSubmit q) s = .next t ∧ toks.length = n
            ∧ (∀ i, i < n → toks[i]? = some (BitVec.ofNat 32 (fieldAt f.bytes (32 + 4 * i) 4)))
            ∧ t = settleQueue q.val (noteReady p (endDesc q.val d.uid 0 n (setSession p d.session { x with
                input := x.input ++ toks, lastSeen := x.lastSeen || (f.bytes.getD 18 0).getLsbD 1 } u))))
        ∧ (x.state = .resident → x.input.length + n ≤ 65536 → inl = false →
          let read := hostReadReq q.val (.tokens d.uid) (fieldAt f.bytes 24 8) (readLen u q.val (fieldAt f.bytes 24 8) (4 * n)) u
          (∀ v, read = some v → ∃ t, exec (.tokenSubmit q) s = .next t ∧ t = settleQueue q.val v)
          ∧ (read = none → ∃ t, exec (.tokenSubmit q) s = .next t
            ∧ t = settleQueue q.val (modFlight q.val d.uid (fun d => { d with waitTag := true }) u)))))
    ∧ (Takes q.val 6 f d s u → Passes q.val f (fun bs => fieldAt bs 16 4 % 4 = 0 ∧ 4 ≤ fieldAt bs 16 4 ∧ fieldAt bs 16 4 ≤ 2 ^ 20
        ∧ fieldAt bs 24 8 % 4 = 0 ∧ zeroBytes bs 20 24 = true ∧ zeroBytes bs 32 64 = true) s →
      (session u p d.session = none → ∃ t, exec (.outputFetch q) s = .next t ∧ Ends q.val d 4 0 u t)
      ∧ ∀ x, session u p d.session = some x →
        (x.exts = [] → ∃ t, exec (.outputFetch q) s = .next t ∧ Ends q.val d 0x0D 0 u t)
        ∧ ∀ (len : Nat) (rest : List Nat), x.exts = len :: rest →
          ∃ t v bytes, exec (.outputFetch q) s = .next t ∧ bytes.length = Min.min len (fieldAt f.bytes 16 4)
            ∧ session v p d.session = some { x with exts := rest }
            ∧ t = settleQueue q.val (noteReady p (endDesc q.val d.uid (if fieldAt f.bytes 16 4 < len then 0x12 else 0) len
                (hostWriteBytes q.val (fieldAt f.bytes 24 8) bytes v))))

/-- MEM_WRITE and MEM_READ: a range that the partition does not have, or a module that is no member, gives NOT_MAPPED and moves no byte,
and so does a partner that does not have it; a MEM_WRITE reads host memory first; a MEM_READ writes the bytes of memory to host memory,
a line with an uncorrectable error as zeros, and reports the first of these (R169, R173, R204, R206). The clauses that rest on log
entries 27, 31 and 87 are the model's choices. -/
def Obligations.MemoryTransfers : Prop :=
  ∀ (q : QueueId) (f : Fetched) (d : InFlight) (s u : State),
    let p := partOf u q.val
    let m := fieldAt f.bytes 20 1
    let len := fieldAt f.bytes 16 4
    let addr := fieldAt f.bytes 24 8
    let pma := fieldAt f.bytes 32 8
    (Takes q.val 8 f d s u → Passes q.val f (fun bs => memFields false bs = true) s →
      let v := if memPartners u m = [] then u else useFree u
      (memLocal u m = true ∧ memMap u p false pma len = none ∨ memLocal u m = false ∧ isMember u m = false →
        ∃ t, exec (.memWrite q) s = .next t ∧ Ends q.val d 0x0E 0 u t)
      ∧ ((memLocal u m = true → (memMap u p false pma len).isSome = true) → (memLocal u m = false → isMember u m = true) →
        (memPartners u m ≠ [] → partnerStatus u ≠ 0 → ∃ t, exec (.memWrite q) s = .next t ∧ Ends q.val d 0x0E 0 v t)
        ∧ (memPartners u m = [] ∨ partnerStatus u = 0 →
          let read := hostReadReq q.val (.memSrc d.uid) addr (readLen u q.val addr len) v
          (∀ v', read = some v' → ∃ t, exec (.memWrite q) s = .next t ∧ t = settleQueue q.val v')
          ∧ (read = none → ∃ t, exec (.memWrite q) s = .next t
            ∧ t = settleQueue q.val (modFlight q.val d.uid (fun d => { d with waitTag := true }) v)))))
    ∧ (Takes q.val 9 f d s u → Passes q.val f (fun bs => memFields true bs = true) s →
      (isSelf u m = true ∧ memMap u p true pma len = none ∨ isSelf u m = false ∧ isMember u m = false →
        ∃ t, exec (.memRead q) s = .next t ∧ Ends q.val d 0x0E 0 u t)
      ∧ (isSelf u m = false → isMember u m = true → ∃ t, exec (.memRead q) s = .next t ∧ .memMove m false pma len [] ∈ t.out)
      ∧ ∀ c off, isSelf u m = true → memMap u p true pma len = some (c, off) →
        ∃ t v bytes, ∃ first : Option Nat, exec (.memRead q) s = .next t ∧ v.hbm.mem = u.hbm.mem ∧ v.mrb = u.mrb ∧ bytes.length = len
          ∧ Ends q.val d (if first.isSome then 0x11 else 0) (first.getD len) (hostWriteBytes q.val addr bytes v) t
          ∧ (first = none → bytes = hbmBytes u c off len)
          ∧ ∀ k, first = some k → k % 128 = 0 ∧ k < len ∧ bytes.take k = (hbmBytes u c off len).take k
            ∧ slice bytes k 128 = List.replicate 128 0)

/-- Scenes: a thread's next Scene starts on its queue at POS once the queue takes it, its condition holds, its DELAY has passed since then
and no other thread of the queue comes first, the arrivals it counts consumed; one whose condition does not hold, or behind another,
does not start; a queue at SCENE_END is idle, and Scene-done is posted into every mailbox of the Quad; a lost step goes back to the
ENTRY Scene with the counters of its XIDs cleared, and a second loss halts the thread with 0x0B01 (R48, R134, R153, R155 to R158). The
clauses that rest on log entry 33 are the model's choices. -/
def Obligations.Scenes : Prop :=
  (∀ (z : ZoeId) (t' : Fin 8) (p : Nat) (s : State), quadPart s z.val = some p →
    let x := zoe s z.val
    let th := threadOf x t'.val
    let e := sceneEntry x th.next.toNat
    let q := threadQueue x t'.val
    let met := th.metAt.getD (timeNs s)
    let start := met + (scDelay e + 15) / 16
    let first := comesFirst s z.val p t'.val met (Max.max (timeNs s) start)
    (sceneMet s z.val p t'.val = false ∨ first = true ∨ queueTakes x q = false ∨ showRuns s p = false →
      exec (.sceneStart z t') s = .next s)
    ∧ (th.used = true → th.running = false → th.halted = false → showRuns s p = true → queueTakes x q = true →
      sceneMet s z.val p t'.val = true → first = false →
      ∃ t, exec (.sceneStart z t') s = .next t ∧ t.mrb = s.mrb ∧ t.hbm = s.hbm ∧ start ≤ timeNs t ∧ timeNs s ≤ timeNs t
        ∧ (threadOf (zoe t z.val) t'.val).running = true ∧ (threadOf (zoe t z.val) t'.val).scene = th.next
        ∧ stream (zoe t z.val) q
          = { stream x q with qstate := .running, pos := scPos e, thread := some t', scene := th.next, boundAt := nowSym t }
        ∧ (zoe t z.val).scn.starts = x.scn.starts + 1 ∧ (zoe t z.val).sceneEnd = x.sceneEnd &&& ~~~BitVec.ofNat 2 (2 ^ q)
        ∧ (∀ k, look (zoe t z.val).scn.arrivals k 0
          = if scStart e = 1 ∧ k = scXid e then look x.scn.arrivals k 0 - BitVec.ofNat 16 (scCount e) else look x.scn.arrivals k 0)
        ∧ (scEntry e = true → (threadOf (zoe t z.val) t'.val).mid = true) ∧ (scEntry e = false → t.sessions = s.sessions)))
  ∧ (∀ (z : ZoeId) (q : Stream) (s : State), Quiet s z.val (streamNo q) →
    let k := streamNo q
    let x := zoe s z.val
    let r := stream x k
    let d := look x.ram r.pos.toNat 0
    let bits : BitVec 2 := x.sceneEnd ||| BitVec.ofNat 2 (2 ^ k)
    dscError x.modeApplied k d = 0 → wdType d = 3 → r.gapDeferred = false → r.thread = none →
    ∃ t, exec (.windowBoundary z q) s = .next t ∧ (stream (zoe t z.val) k).qstate = .idle ∧ (stream (zoe t z.val) k).pos = r.pos + 1
      ∧ (zoe t z.val).sdone = x.sdone + 1 ∧ (zoe t z.val).sceneEnd = bits
      ∧ t.mrb = (quadWord z.val 0x7D4 (x.sdone + 1 ++ (0 : BitVec 14) ++ bits) s).mrb)
  ∧ (∀ (z : ZoeId) (t' : Fin 8) (p : Nat) (w : ShowSt) (s : State), quadPart s z.val = some p → find s.shows p = some w →
    let th := threadOf (zoe s z.val) t'.val
    let due := th.since + 1000 * (part s p).swait
    let start := th.metAt.getD (timeNs s) + (scDelay (sceneEntry (zoe s z.val) th.next.toNat) + 15) / 16
    th.used = true → th.running = false → th.halted = false → th.mid = true → w.loading = false → w.stopping = false →
    (sceneMet s z.val p t'.val = true → start ≤ due → exec (.stepLost z t') s = .next s)
    ∧ (sceneMet s z.val p t'.val = false ∨ due < start → ∃ t, exec (.stepLost z t') s = .next t ∧ th.since + 1000 * (part s p).swait ≤ timeNs t
      ∧ (zoe t z.val).scn.lost = (zoe s z.val).scn.lost + 1
      ∧ ∀ i ∈ threadQuads s p t'.val,
        (threadOf (zoe t i) t'.val).halted = th.rerun ∧ (threadOf (zoe t i) t'.val).rerun = !th.rerun
        ∧ ((threadOf (zoe s i) t'.val).running = false →
          (threadOf (zoe t i) t'.val).next = firstEntry (zoe s i) w.hdr.scenes t'.val)
        ∧ (threadOf (zoe t i) t'.val).lost = (threadOf (zoe s i) t'.val).running
        ∧ (∀ xid ∈ threadXids (zoe s i) w.hdr.scenes t'.val, look (zoe t i).scn.arrivals xid 0 = 0)
        ∧ (th.rerun = false → t.sessions = s.sessions ∧ t.flt = s.flt)
        ∧ (th.rerun = true → t.flt.nCont = s.flt.nCont + 1)))

/-! ### Command windows -/

/-- Every opcode of the windows alike: a busy window ignores the packet and counts its writes, one whose operation a PF
function-level reset cut off only the CMD_GO; without a Marionette that serves the command stays busy; else it ends at the first
check of R222 that fails, in the table's order: BAD_LENGTH, BAD_FLAGS, NOT_PERMITTED, BAD_STATE, RESTRICTED, BAD_PARAM (R220 to
R223, R225, R227, R333). -/
def Claims.WindowChecks : Prop :=
  ∀ (c : Instr) (w : Fn) (pk : Packet) (r : Row) (s : State), rowOf c = some (w, pk, r) →
    (fnOn s w = false → exec c s = .next s)
    ∧ (fnOn s w = true → winBusy s w = true → ∃ t, exec c s = .next t ∧ t = { s with windows := t.windows }
      ∧ (∀ f, f ≠ w → window t f = window s f)
      ∧ (winLocked s w = true →
        window t w = { window s w with ignored := (window s w).ignored + BitVec.ofNat 48 (4 + (pk.params.length + 3) / 4) })
      ∧ (winLocked s w = false → window t w = { window s w with
          opcode := BitVec.ofNat 16 r.op, flags := pk.flags, plen := pk.plen, tag := pk.tag
          params := pk.params ++ (window s w).params.drop pk.params.length, ignored := (window s w).ignored + 1 }))
    ∧ (fnOn s w = true → winBusy s w = false → mrtServes s = false → ∃ t, exec c s = .next t ∧ t = { s with windows := t.windows }
      ∧ (∀ f, f ≠ w → window t f = window s f) ∧ (window t w).status = 1 ∧ (window t w).rlen = 0
      ∧ (window t w).opcode.toNat = r.op ∧ (window t w).tag = pk.tag ∧ (window t w).plen = pk.plen
      ∧ (window t w).run = some { opcode := BitVec.ofNat 16 r.op, started := mtime s, noirq := pk.flags.getLsbD 0
                                  params := slice (window t w).params 0 pk.plen.toNat })
    ∧ (∀ u, Goes c w r s u →
      let n := (window u w).plen.toNat
      let ps := slice (window u w).params 0 n
      let fails (st : Nat) : Prop := ∃ t, exec c s = .next t ∧ Answers w st [] u t
      (2048 < n ∨ r.plen n = false → fails 0x12)
      ∧ (n ≤ 2048 → r.plen n = true →
        (2 ≤ (window u w).flags.toNat → fails 0x10)
        ∧ ((window u w).flags.toNat < 2 →
          (w ≠ .pf → r.pfOnly = true ∨ r.hasPart = true ∧ ps.getD 0 0 ≠ 0xFF → fails 0x13)
          ∧ ((w = .pf ∨ r.pfOnly = false ∧ (r.hasPart = false ∨ ps.getD 0 0 = 0xFF)) →
            (serviceAllows u w r.op = false → fails 0x16)
            ∧ (serviceAllows u w r.op = true →
              (s.rst.service = .restricted → r.op = 0x0300 ∨ r.op = 0x0302 → fails 0x15)
              ∧ (¬(s.rst.service = .restricted ∧ (r.op = 0x0300 ∨ r.op = 0x0302)) → r.params s w ps = false → fails 0x11))))))

/-- How a command ends in its window: STATUS, the reply and its RLEN, RTAG, ELAPSED and the count; vector 0 unless NOIRQ; nothing
else changes. A command that is busy at twice its maximum ends with INTERNAL, and 0x0103 is raised; a write to a busy window, and a
CMD_GO other than 1 or beside an operation that runs on, is ignored and counted in CMD_IGNORED (R220, R221, R224, R227). -/
def Claims.WindowEnds : Prop :=
  (∀ (w : Fn) (st : Nat) (reply : List Byte) (r : RunCmd) (s : State), (window s w).run = some r → (window s w).status = 1 →
    let t := endCmd w st reply s
    (window t w).status = BitVec.ofNat 16 st ∧ (window t w).reply = reply ∧ (window t w).rlen = BitVec.ofNat 11 reply.length
      ∧ (window t w).rtag = (window s w).tag ∧ (window t w).done = (window s w).done + 1 ∧ (window t w).run = none
      ∧ (window t w).elapsed = BitVec.ofNat 32 ((timeNs s - r.started.toNat) / 1000) ∧ (window t w).ignored = (window s w).ignored
      ∧ (∀ f, f ≠ w → window t f = window s f)
      ∧ t = { s with windows := t.windows, host.pf := t.host.pf, host.vfs := t.host.vfs, out := t.out }
      ∧ (r.noirq = true → t.host = s.host ∧ t.out = s.out)
      ∧ (r.noirq = false → t.out = (signalVec w 0 s).out ∧ t.host = (signalVec w 0 s).host))
  ∧ (∀ (w : Fn) (r : RunCmd) (s : State), (window s w).run = some r → (window s w).status = 1 →
    let s1 := advanceTo (r.started.toNat + 2000 * maxBusyUs r.opcode.toNat) s
    ∃ t, exec (.commandTimeout w) s = .next t ∧ (window t w).status = 0x19 ∧ (window t w).run = none
      ∧ t.flt.nCont = s.flt.nCont + 1 ∧ t.mrb = s.mrb ∧ t.parts = s.parts ∧ r.started.toNat + 2000 * maxBusyUs r.opcode.toNat ≤ timeNs t
      ∧ ∃ part, t = raiseFault 0x0103 14 (winKey w) part r.opcode.toNat (endCmd w 0x19 [] s1))
  ∧ (∀ (w : Fn) (off : BitVec 12) (v : Word) (s : State), fnOn s w = true →
    let ignored := winLocked s w = true ∨ off = 0x00C ∧ (winBusy s w = true ∨ v ≠ 1)
    (ignored → ∃ t, exec (.cmdGoIgnored w off v) s = .next t ∧ t = { s with windows := t.windows }
      ∧ (∀ f, f ≠ w → window t f = window s f) ∧ window t w = { window s w with ignored := (window s w).ignored + 1 })
    ∧ (¬ignored → exec (.cmdGoIgnored w off v) s = .next s))

/-- A command window's checks, and how its commands end. The clauses that rest on log entries 45, 47 and 84 are the model's choices. -/
def Obligations.CommandWindows : Prop := Claims.WindowChecks ∧ Claims.WindowEnds

/-- The commands of the 0x01xx group: identity and service of this module; a module reset 1 ms from the end of MODULE_RESET;
FENCE_HALF fences a half that no partition command touches, with cause 8 on its Zoetropes, and counts the sessions it parks; action
1 unfences it at the next full calibration; BLOCK_RESET puts the block into reset, and ends as the block leaves it; the Active
Marionette is refused (R25, R226, R228, R369). -/
def Claims.ModuleCommands : Prop :=
  (∀ (w : Fn) (pk : Packet) (s u : State) (ps : List Byte), Passed (.getIdentity w pk) w s u ps → isSelf u (pByte ps 0) = true →
    ∃ t, exec (.getIdentity w pk) s = .next t ∧ Answers w 0 (leBytes 4 (regBuild u).toNat ++ leBytes 8 u.ident.serial.toNat
      ++ leBytes 8 (look u.mrt.images 0 0).toNat ++ leBytes 8 (look u.mrt.images 1 0).toNat ++ leBytes 8 (look u.mrt.images 2 0).toNat
      ++ [BitVec.ofNat 8 (selfId u), BitVec.ofNat 8 u.fab.gn.toNat]) u t)
  ∧ (∀ (w : Fn) (pk : Packet) (s u : State) (ps : List Byte), Passed (.getService w pk) w s u ps → isSelf u (pByte ps 0) = true →
    ∃ t, exec (.getService w pk) s = .next t
      ∧ Answers w 0 (leBytes 4 u.rst.service.code ++ leBytes 4 (regHalfstat u).toNat ++ leBytes 4 u.rst.cause.toNat) u t)
  ∧ (∀ (w : Fn) (pk : Packet) (s u : State) (ps : List Byte), Passed (.moduleReset w pk) w s u ps → s.rst.resetDue = none →
    ∃ t, exec (.moduleReset w pk) s = .next t
      ∧ Answers w 0 [] { u with rst.resetDue := some (mtime s + 1000000), rst.resetSrc := 2 } t)
  ∧ (∀ (w : Fn) (pk : Packet) (s u : State) (ps : List Byte), Passed (.fenceHalf w pk) w s u ps →
    let h := pByte ps 0
    (touched u (halfZoes h) = true → exec (.fenceHalf w pk) s = .next u)
    ∧ (touched u (halfZoes h) = false → s.shows = [] → halfFenced s h = false →
      ∃ t, exec (.fenceHalf w pk) s = .next t ∧ halfFenced t h = true ∧ halfFenced t (1 - h) = halfFenced s (1 - h)
        ∧ (∀ z, z < 32 → z / 16 = h → (zoe s z).state ≠ .off → (zoe t z).state = .fenced
          ∧ ((zoe s z).state ≠ .fenced → (zoe t z).fenceCause = 8))
        ∧ (∀ z, z / 16 ≠ h → zoe t z = zoe s z)
        ∧ (s.rst.service = .serving → t.rst.service = .degraded)
        ∧ (halfSessions s h = [] → t.mrb = s.mrb ∧ t.hbm.mem = s.hbm.mem ∧ ((window t w).run.map (·.arg)) = some 1)))
  ∧ (∀ (w : Fn) (pk : Packet) (s u : State) (ps : List Byte), Passed (.unfenceHalf w pk) w s u ps →
    ∃ t v, exec (.unfenceHalf w pk) s = .next t ∧ Answers w 0 [0, 0, 0, 0] v t ∧ v = { u with rst.unfence := v.rst.unfence }
      ∧ (halfFenced s (pByte ps 0) = true → (if pByte ps 0 = 0 then Half.east else Half.west) ∈ v.rst.unfence)
      ∧ (halfFenced s (pByte ps 0) = false → v.rst.unfence = s.rst.unfence))
  ∧ (∀ e ∈ ([(.zoetrope, .blockResetZoetrope), (.bag, .blockResetBag), (.kaleidoscope, .blockResetKaleidoscope), (.hbm, .blockResetHbm),
      (.guest, .blockResetGuest), (.interhub, .blockResetInterhub), (.marionette, .blockResetMarionette)]
      : List (BlockKind × (Fn → Packet → Instr))),
    ∀ (w : Fn) (pk : Packet) (s u : State) (ps : List Byte), Passed (e.2 w pk) w s u ps →
    let i := fieldAt ps 4 2
    (e.1 = .marionette ∧ s.mrt.holder = some (if i = 0 then .m0 else .m1) → ∃ t, exec (e.2 w pk) s = .next t ∧ Answers w 0x13 [] u t)
    ∧ (¬(e.1 = .marionette ∧ s.mrt.holder = some (if i = 0 then .m0 else .m1)) → blockHeld s e.1 i = false →
      ∃ t, exec (e.2 w pk) s = .next t ∧ blockHeld t e.1 i = true
        ∧ t = modWindow w (fun x => { x with run := x.run.map (fun r => { r with xs := [kindNo e.1, i] }) })
          (blockReset e.1 i { u with rst.blocks := u.rst.blocks ++ [(e.1, i)] })))
  ∧ (∀ (k : BlockKind) (i : Nat) (s : State), blockHeld s k i = true → (window s .pf).run = none →
    ∃ t, exec (.blockResetRelease k i) s = .next t ∧ blockHeld t k i = false
      ∧ t = blockRelease k i { s with rst.blocks := s.rst.blocks.filter (fun e => decide (e ≠ (k, i))) })

/-- What a block reset does to each kind of block, and what it spares: a Zoetrope's windows, queues, slots and gap accounts are gone
and it is Trimming with cause 5; a Bag's Marbles stop with cause 6, cleared, its Parcels wait; a stack is not up; a guest port is
released; a reset of one kind leaves the memory's bytes alone (R59, R144, R369). -/
def Claims.BlockResets : Prop :=
  (∀ (z : Nat) (s : State),
    let t := blockReset .zoetrope z s
    let x := zoe t z
    OnlyZoe z s t ∧ (∀ k, (look x.slots k {}).valid = false) ∧ x.halt0 = false ∧ x.halt1 = false ∧ x.trim.owed200 = 0 ∧ x.trim.gapRun = 0 ∧ x.trim.passPos = 0
      ∧ x.ram = (zoe s z).ram ∧ x.trim.elems = (zoe s z).trim.elems ∧ x.cWin = (zoe s z).cWin ∧ x.dma = (zoe s z).dma
      ∧ (∀ q, (stream x q).integ = none ∧ (stream x q).post = [] ∧ (stream x q).qstate = .idle ∧ (stream x q).pos = 0
        ∧ (stream x q).gapRuns = 0 ∧ (stream x q).fenceRuns = 0 ∧ (stream x q).thread = none)
      ∧ ((zoe s z).state = .ready ∨ (zoe s z).state = .running ∨ (zoe s z).state = .gap ∨ (zoe s z).state = .trimming →
        x.state = .trimming ∧ x.trim.cause = 5)
      ∧ ((zoe s z).state = .off ∨ (zoe s z).state = .warming ∨ (zoe s z).state = .fenced → x.state = (zoe s z).state))
  ∧ (∀ (b : Nat) (s : State),
    let t := blockReset .bag b s
    (∀ n, n / 8192 = b → (marble t n).cause = 6 ∧ (marble t n).pc = 0 ∧ (marble t n).outst = [] ∧ (marble t n).waiting = .none
      ∧ (∀ r, getM (marble t n) r = 0) ∧ (∀ r, getV (marble t n) r = 0) ∧ (marble t n).mflags = 0 ∧ (marble t n).rstatCount = 0)
      ∧ (∀ p ∈ t.fab.tx, p.n.toNat / 8192 = b → p.blocked = true))
  ∧ (∀ (k : Nat) (s : State), (hstack (blockReset .hbm k s) k).up = false ∧ (blockReset .hbm k s).hbm.mem = s.hbm.mem)
  ∧ (∀ (g : Nat) (s : State), g < 2 →
    let x := guest (blockReset .guest g s) g
    x.isHeld = false ∧ x.link = 0 ∧ x.reason = 0 ∧ x.descOk = false ∧ x.desc = [] ∧ x.trds = [] ∧ x.denials = 0
      ∧ x.en = (guest s g).en ∧ x.part = (guest s g).part ∧ (blockReset .guest g s).mrb = s.mrb)

/-- The module commands, and the resets of blocks. The clauses that rest on log entries 19, 56 and 74 are the model's choices. -/
def Obligations.ModuleAndBlockCommands : Prop := Claims.ModuleCommands ∧ Claims.BlockResets

/-- Partitions: PART_CREATE, PART_GRANT and PART_RELEASE give and take Quads, pseudo-channels, queues, vectors and budgets, banks
scrubbed and pseudo-channels zeroed, and stay busy until both are over; one of another partition's is IN_USE, here or, as it answers,
on another member (log entry 48); PART_DESTROY takes all; PART_QUERY reads what is owned (R172, R183, R229, R238, R240, R241, R404). -/
def Claims.PartitionCommands : Prop :=
  ∀ (w : Fn) (pk : Packet) (s u : State) (ps : List Byte),
    let p := cmdPart w ps
    let x := part s p
    let fails (c : Instr) (st : Nat) : Prop := ∃ t, exec c s = .next t ∧ Answers w st [] u t
    let refused (c : Instr) (op : Nat) : Prop := ∃ t, exec c s = .next t ∧ Answers w 0x28 [] (askMembers op ps u).2 t
    (Passed (.partCreate w pk) w s u ps →
      (x.exist = true ∨ ownedElsewhere s p ps = true → fails (.partCreate w pk) 0x28)
      ∧ (x.exist = false → ownedElsewhere s p ps = false →
        (rangeBad s p (psQbase ps) (psQcount ps) = true ∨ 8192 < vecSum s p (psVecs ps) ∨ 896 < budgetSum s p (psLit ps) →
          fails (.partCreate w pk) 0x11)
        ∧ ∀ b, lowBlock s (psVecs ps) = some b → rangeBad s p (psQbase ps) (psQcount ps) = false → vecSum s p (psVecs ps) ≤ 8192 →
          budgetSum s p (psLit ps) ≤ 896 → ((askMembers 0x0200 ps u).1 = false → refused (.partCreate w pk) 0x0200)
          ∧ ((askMembers 0x0200 ps u).1 = true → ∃ t, exec (.partCreate w pk) s = .next t
          ∧ part t p = {
              exist := true, quads := BitVec.ofNat 32 (fieldAt ps 4 4), qbase := psQbase ps, qcount := psQcount ps, vecBase := b
              vecCount := psVecs ps, litBudget := psLit ps, ceil := psCeil ps, memKey := s.sec.draws }
          ∧ OtherPartitions p s t ∧ BanksHanded (psQuads ps) (tagOf p 0xFFFF) s t ∧ PchsGiven (psPchs ps) (some p) s t
          ∧ (∀ z, zoe t z = if z ∈ psQuads ps then { zoe s z with part := BitVec.ofNat 4 p } else zoe s z)
          ∧ look t.hbm.ways p 0 = psWays ps ∧ t.sessions = s.sessions ∧ t.shows = s.shows ∧ t.host.queues = s.host.queues
          ∧ Waits w 1 (psPchs ps ++ (psQuads ps).map (· + 192)) u t)))
    ∧ (Passed (.partGrant w pk) w s u ps →
      let lit := if psLit ps = 0xFFFF then x.litBudget else psLit ps
      let ceil := if psCeil ps = 0 then x.ceil else psCeil ps
      let qs := (psQuads ps).filter (fun q => !x.quads.getLsbD q)
      let cs := (psPchs ps).filter (fun c => !(pch s c).valid)
      (x.exist = false → fails (.partGrant w pk) 0x11)
      ∧ (x.exist = true → ownedElsewhere s p ps = true ∨ psPchs ps ≠ [] ∧ guestOn s p = true → fails (.partGrant w pk) 0x28)
      ∧ (x.exist = true → ownedElsewhere s p ps = false → psPchs ps = [] ∨ guestOn s p = false → x.litBudget ≤ lit → lit ≤ 896 →
        budgetSum s p lit ≤ 896 → x.ceil ≤ ceil → ceil ≤ 1000 → ∀ r v, grantRange s p ps = some r → grantVecs s p (psVecs ps) = some v →
        ((askMembers 0x0201 ps u).1 = false → refused (.partGrant w pk) 0x0201)
        ∧ ((askMembers 0x0201 ps u).1 = true → ∃ t, exec (.partGrant w pk) s = .next t
          ∧ part t p = { x with
              quads := x.quads ||| BitVec.ofNat 32 (fieldAt ps 4 4), qbase := r.1, qcount := r.2, vecBase := v.1
              vecCount := v.2, litBudget := lit, ceil := ceil }
          ∧ OtherPartitions p s t ∧ BanksHanded qs (tagOf p 0xFFFF) s t ∧ PchsGiven cs (some p) s t
          ∧ look t.hbm.ways p 0 = look s.hbm.ways p 0 ||| psWays ps ∧ t.sessions = s.sessions ∧ t.shows = s.shows
          ∧ Waits w 1 (cs ++ qs.map (· + 192)) u t)))
    ∧ (Passed (.partRelease w pk) w s u ps →
      let lit := if psLit ps = 0xFFFF then x.litBudget else psLit ps
      let ceil := if psCeil ps = 0 then x.ceil else psCeil ps
      let vecs := if psVecs ps = 0 then x.vecCount else psVecs ps
      let qs := (psQuads ps).filter (fun q => x.quads.getLsbD q)
      let cs := (psPchs ps).filter (fun c => (pch s c).valid)
      (x.exist = false → fails (.partRelease w pk) 0x11)
      ∧ (x.exist = true → partWindowBusy s p = true → fails (.partRelease w pk) 0x2A)
      ∧ (x.exist = true → partWindowBusy s p = false →
        (ownedElsewhere s p ps = true ∨ showMaps s p ps = true → fails (.partRelease w pk) 0x28)
        ∧ (ownedElsewhere s p ps = false → showMaps s p ps = false → psPchs ps = [] ∨ guestOn s p = false → lit ≤ x.litBudget → ceil ≤ x.ceil →
          vecs ≤ x.vecCount → 2 ≤ vecs → ∀ r, releaseRange s p ps = some r →
          (lit < lanesHeld s p ∨ vecUsed s p vecs = true → fails (.partRelease w pk) 0x28)
          ∧ (lanesHeld s p ≤ lit → vecUsed s p vecs = false → (∀ q ∈ r.2.2, (queue s q).state = .disabled) →
            ((askMembers 0x0202 ps u).1 = false → refused (.partRelease w pk) 0x0202)
            ∧ ((askMembers 0x0202 ps u).1 = true → ∃ t, exec (.partRelease w pk) s = .next t
              ∧ part t p = { x with
                  quads := x.quads &&& ~~~BitVec.ofNat 32 (fieldAt ps 4 4), qbase := r.1, qcount := r.2.1, vecCount := vecs
                  litBudget := lit, ceil := ceil }
              ∧ OtherPartitions p s t ∧ BanksHanded qs 0 s t ∧ PchsGiven cs none s t ∧ (∀ z ∈ qs, (zoe t z).part = 0xF)
              ∧ (∀ n, n < 1048576 → n / 32768 ∈ qs → (marble s n).cause = 0 → (marble t n).cause = 7)
              ∧ look t.hbm.ways p 0 = look s.hbm.ways p 0 &&& ~~~psWays ps ∧ t.sessions = s.sessions ∧ t.shows = s.shows
              ∧ Waits w 1 (cs ++ qs.map (· + 192)) u t)))))
    ∧ (Passed (.partDestroy w pk) w s u ps →
      (x.exist = false → fails (.partDestroy w pk) 0x11)
      ∧ (x.exist = true → pByte ps 1 = 0 → partWindowBusy s p = true → fails (.partDestroy w pk) 0x2A)
      ∧ (x.exist = true → pByte ps 1 = 0 → partWindowBusy s p = false → (find s.shows p).isSome = true ∨ sessionsOf s p ≠ [] →
        fails (.partDestroy w pk) 0x28)
      ∧ (x.exist = true → pByte ps 1 = 0 → partWindowBusy s p = false → find s.shows p = none → sessionsOf s p = [] →
        ∃ t, exec (.partDestroy w pk) s = .next t ∧ part t p = {} ∧ OtherPartitions p s t ∧ BanksHanded (quadsOf s p) 0 s t
          ∧ PchsGiven (ownedPchs s p) none s t ∧ (∀ q ∈ partQueues s p, queue t q = {}) ∧ (∀ q, q ∉ partQueues s p → queue t q = queue s q)
          ∧ (∀ k, find t.staged k = if k / 256 = p then none else find s.staged k) ∧ (∀ g ∈ [0, 1], (guest t g).en = true → (guest t g).part.toNat ≠ p)
          ∧ Waits w 1 (ownedPchs s p ++ (quadsOf s p).map (· + 192)) u t)
      ∧ (x.exist = true → pByte ps 1 = 1 → ∃ t, exec (.partDestroy w pk) s = .next t ∧ (part t p).resetting = true ∧ OtherPartitions p s t
        ∧ find t.shows p = none ∧ Waits w 2 [p] u t))
    ∧ (Passed (.partQuery w pk) w s u ps →
      (x.exist = false → fails (.partQuery w pk) 0x11)
      ∧ (x.exist = true → ∃ t bits, exec (.partQuery w pk) s = .next t ∧ (∀ c, bits.testBit c = true ↔ c ∈ ownedPchs s p)
        ∧ Answers w 0 (leBytes 4 p ++ leBytes 4 x.quads.toNat ++ leBytes 24 bits ++ leBytes 2 x.qbase ++ leBytes 2 x.qcount
          ++ leBytes 2 x.vecCount ++ leBytes 2 x.litBudget ++ leBytes 2 x.ceil ++ leBytes 2 (look s.hbm.ways p 0).toNat ++ [0, 0, 0, 0]) u t))
    ∧ (Passed (.partSettings w pk) w s u ps → x.exist = true → ∃ t v, exec (.partSettings w pk) s = .next t ∧ Answers w 0 [] v t
      ∧ v = { u with parts := v.parts, out := v.out } ∧ OtherPartitions p s v
      ∧ part v p = { x with
          mixNext := decide (pByte ps 1 = 1), delegate := decide (pByte ps 2 = 1), swaitNext := fieldAt ps 4 4
          parkingNext := fieldAt ps 8 8 })

/-- The queue commands: QUEUE_CREATE enables a disabled queue with its rings, vector, PASID and tag, its rate limit at the reset value; QUEUE_DESTROY disables it and
closes the Open sessions homed on it; QUEUE_RATE sets the token bucket; the PF names queues by number, a partition's window within
its range (R197, R200, R218, R229). -/
def Claims.QueueCommands : Prop :=
  ∀ (w : Fn) (pk : Packet) (s u : State) (ps : List Byte) (q : Nat), cmdQueue s w ps = some q →
    let n := fieldAt ps 0 2
    let x := queue s q
    let others (t : State) : Prop := ∀ k, k ≠ q → queue t k = queue s k
    (w = .pf → q = n ∧ n < queueCount s)
    ∧ (∀ p, w = .vf p → (part s p.val).exist = true ∧ n < (part s p.val).qcount ∧ q = (part s p.val).qbase + n)
    ∧ (Passed (.queueCreate w pk) w s u ps →
      (x.state ≠ .disabled → ∃ t, exec (.queueCreate w pk) s = .next t ∧ Answers w 0x28 [] u t)
      ∧ (x.state = .disabled → ∃ t v, exec (.queueCreate w pk) s = .next t ∧ Answers w 0 [] v t
        ∧ v = { u with host.queues := v.host.queues } ∧ others v
        ∧ queue v q = { ({} : Queue) with
            tokens := 1, refilled := timeNs s, state := .enabled
            sqLog := BitVec.ofNat 5 (pByte ps 2), cqLog := BitVec.ofNat 5 (pByte ps 3), vector := BitVec.ofNat 11 (fieldAt ps 4 2)
            ithr := BitVec.ofNat 9 (fieldAt ps 6 2), itime := BitVec.ofNat 10 (fieldAt ps 8 2), pasidEn := decide (pByte ps 10 = 1)
            pasid := BitVec.ofNat 20 (fieldAt ps 12 4), capTag := BitVec.ofNat 16 (fieldAt ps 16 2)
            sqBase := BitVec.ofNat 64 (fieldAt ps 24 8), cqBase := BitVec.ofNat 64 (fieldAt ps 32 8) }))
    ∧ (Passed (.queueDestroy w pk) w s u ps → (∀ e ∈ homedOn s q, e.2.state = .opened) →
      ∃ t, exec (.queueDestroy w pk) s = .next t ∧ queue t q = { ({} : Queue) with rate := x.rate, burst := x.burst } ∧ others t
        ∧ (∀ e ∈ homedOn s q, find t.sessions e.1 = none) ∧ (∀ k, (∀ e ∈ homedOn s q, e.1 ≠ k) → find t.sessions k = find s.sessions k)
        ∧ t.parts = s.parts ∧ t.shows = s.shows ∧ Waits w (homedOn s q).length [] u t)
    ∧ (Passed (.queueRate w pk) w s u ps → ∃ t v, exec (.queueRate w pk) s = .next t ∧ Answers w 0 [] v t
      ∧ v = { u with host.queues := v.host.queues } ∧ others v
      ∧ queue v q = { refill (timeNs s) x with
          rate := BitVec.ofNat 16 (fieldAt ps 2 2), burst := BitVec.ofNat 16 (fieldAt ps 4 2)
          tokens := Min.min (refill (timeNs s) x).tokens (fieldAt ps 4 2) })

/-- The commands for partitions and for queues. The clauses that rest on log entries 48, 49, 50 and 51 are the model's choices. -/
def Obligations.PartitionAndQueueCommands : Prop := Claims.PartitionCommands ∧ Claims.QueueCommands

/-- The Show commands: SHOW_STAGE checks and holds an image, SHOW_UNSTAGE empties a slot, IN_USE where it holds the loaded Show;
SHOW_LOAD ends at the first check of R150 that fails, with the failing member, or stops the running Show and begins the load;
SHOW_STOP stops the threads at their Scenes' ends; SHOW_QUERY reads the Show and its sessions (R148, R150 to R153, R230). -/
def Claims.ShowCommands : Prop :=
  ∀ (w : Fn) (pk : Packet) (s u : State) (ps : List Byte), (part s (cmdPart w ps)).exist = true →
    let p := cmdPart w ps
    let slot := pByte ps 1
    let key := stageKey p slot
    (Passed (.showStage w pk) w s u ps →
      let len := fieldAt ps 16 8
      let r := pmaScan p (fieldAt ps 8 8) (Min.min len 1125000000) u
      let o := partnersAgree (relayAll 0x0300 ps r)
      let fails (st : Nat) (v : State) : Prop := ∃ t, exec (.showStage w pk) s = .next t ∧ Answers w st [] v t
      (slotLoaded s p slot = true → fails 0x28 u)
      ∧ (slotLoaded s p slot = false →
        (pmaRead r p (fieldAt ps 8 8) (Min.min len 1125000000) = none → fails 0x11 r)
        ∧ ∀ b, pmaRead r p (fieldAt ps 8 8) (Min.min len 1125000000) = some b →
          (hdrOf b = none → fails 0x20 r)
          ∧ ∀ h, hdrOf b = some h →
            (sectsOk b h = false ∨ o.1 = false → fails 0x20 o.2)
            ∧ (sectsOk b h = true → o.1 = true → len ≠ h.imageLen.toNat → fails 0x29 o.2)
            ∧ (sectsOk b h = true → o.1 = true → len = h.imageLen.toNat → ∃ t v, exec (.showStage w pk) s = .next t
              ∧ Answers w 0 (leBytes 8 h.showId.toNat ++ leBytes 2 h.groupN) v t ∧ v = { o.2 with staged := v.staged }
              ∧ (∀ k, k ≠ key → find v.staged k = find s.staged k)
              ∧ find v.staged key = some { pma := fieldAt ps 8 8, len := len, hdr := h })))
    ∧ (Passed (.showUnstage w pk) w s u ps →
      (slotLoaded s p slot = true → ∃ t, exec (.showUnstage w pk) s = .next t ∧ Answers w 0x28 [] u t)
      ∧ (slotLoaded s p slot = false → ∃ t v, exec (.showUnstage w pk) s = .next t ∧ Answers w 0 [] v t
        ∧ v = { u with staged := v.staged, out := v.out } ∧ ∀ k, find v.staged k = if k = key then none else find s.staged k))
    ∧ (Passed (.showLoad w pk) w s u ps → otherMembers s = [] →
      let discard := decide (pByte ps 2 = 1)
      (find s.staged key = none → ∃ t, exec (.showLoad w pk) s = .next t ∧ Answers w 0x29 [] (useFree u) t)
      ∧ (∀ g, find s.staged key = some g →
        let r := pmaScan p g.pma g.len u
        let k := loadCheck r p slot discard
        (1 ≤ k → k ≤ 6 → ∃ t, exec (.showLoad w pk) s = .next t
          ∧ Answers w (0x1F + k) (loadReply g.hdr.showId 0 0 (if k = 3 then 0xFF else selfId s) 0xFF) (useFree r) t)
        ∧ (k = 7 → ∀ b z, pmaRead r p g.pma g.len = some b → deadDiffer r p g.hdr b = some z →
          ∃ t, exec (.showLoad w pk) s = .next t ∧ Answers w 0x26 (loadReply g.hdr.showId 0 0 (selfId s) z) (useFree r) t)
        ∧ (k = 8 → ∀ x, find s.shows p = some x → x.loading = false →
          ∃ t, exec (.showLoad w pk) s = .next t ∧ t = settleStop p (beginStop p false r))
        ∧ (k = 8 → find s.shows p = none → s.las.off = true →
          ∃ t, exec (.showLoad w pk) s = .next t ∧ Answers w 0x34 (loadReply g.hdr.showId 0 0 (selfId s) 0xFF) (removeShow p r) t)
        ∧ (k = 8 → find s.shows p = none → s.las.off = false → discard = false →
          let qs := mappedQuads s p g.hdr
          ∃ t, exec (.showLoad w pk) s = .next t ∧ Waits w 1 [] u t
            ∧ find t.shows p = some { slot := slot, hdr := g.hdr, loading := true, changed := qs.filter (loadChanges s p 0 g.hdr) }
            ∧ OtherPartitions p s t ∧ part t p = { part s p with
              mix := (part s p).mixNext, swait := (part s p).swaitNext, parking := (part s p).parkingNext, fmt := some g.hdr.stateFmt }
            ∧ BanksHanded qs (tagOf p 0xFFFF) s t ∧ t.sessions = s.sessions
            ∧ (∀ z ∈ qs, (zoe t z).modeReq = g.hdr.flags.getLsbD 1 ∧ (zoe t z).scn.showId = g.hdr.showId.setWidth 32
              ∧ ((zoe s z).state = .ready → loadChanges s p 0 g.hdr z = true → (zoe t z).state = .trimming ∧ (zoe t z).trim.cause = 2)
              ∧ ((zoe s z).state = .fenced → (zoe t z).state
                = (if fenceCured s (g.hdr.flags.getLsbD 1) z (zoe s z) = true then .trimming else .fenced))
              ∧ (loadChanges s p 0 g.hdr z = false → (zoe t z).state = (zoe s z).state)
              ∧ ∀ q, (stream (zoe t z) q).qstate = .idle ∧ (stream (zoe t z) q).err = 0 ∧ (stream (zoe t z) q).pend = (stream (zoe s z) q).pend)
            ∧ (∀ z ∈ quadsOf s p, (zoe t z).scn.arrivals = []) ∧ ∀ z, z ∉ quadsOf s p → zoe t z = zoe s z)))
    ∧ (Passed (.showStop w pk) w s u ps →
      (find s.shows p = none → ∃ t, exec (.showStop w pk) s = .next t ∧ Answers w 0 [0, 0, 0, 0] u t)
      ∧ ∀ x, find s.shows p = some x →
        (pByte ps 1 = 0 → residentOf s p ≠ [] → ∃ t, exec (.showStop w pk) s = .next t ∧ Answers w 0x24 [] u t)
        ∧ (x.loading = true → residentOf s p = [] →
          ∃ t, exec (.showStop w pk) s = .next t ∧ Answers w 0 [0, 0, 0, 0] (removeShow p (relayAll 0x0303 ps u)) t)
        ∧ (x.loading = false → residentOf s p = [] →
          let v := beginStop p false (relayAll 0x0303 ps u)
          ∃ t, exec (.showStop w pk) s = .next t ∧ Waits w 0 [] u t
            ∧ ((∀ e ∈ sessionsOf s p, e.2.op = .none ∧ e.2.inStep = false) → t.sessions = s.sessions)
            ∧ (stopDone v p = true → find t.shows p = none) ∧ (stopDone v p = false → find t.shows p = some { x with stopping := true })))
    ∧ (Passed (.showQuery w pk) w s u ps →
      let tail := leBytes 4 (residentOf s p).length ++ leBytes 4 (parkedOf s p).length
      ((∀ x, find s.shows p = some x → x.loading = true) →
        ∃ t, exec (.showQuery w pk) s = .next t ∧ Answers w 0 (leBytes 12 0 ++ tail ++ leBytes 4 0) u t)
      ∧ ∀ x, find s.shows p = some x → x.loading = false → ∃ t, exec (.showQuery w pk) s = .next t
        ∧ Answers w 0 (leBytes 8 x.hdr.showId.toNat ++ [if x.stopping then 3 else 1] ++ leBytes 1 x.hdr.threads ++ [0, 0] ++ tail
          ++ leBytes 4 (lostSteps s p x)) u t)

/-- The end of a load: it waits for what it changes; a mapped Zoetrope that is Fenced ends it with ZOE_FENCED, the partition left
without a Show; else the sections are in the mapped Quads, the mailboxes are prepared, the threads stand at their first ENTRY Scene, and
the Show runs (R133, R149, R151, R153, R245). -/
def Claims.ShowLoads : Prop :=
  ∀ (p : Part) (w : Fn) (sh : ShowSt) (s : State), loadWindow s p = some w → find s.shows p.val = some sh → sh.loading = true →
    s.las.off = false →
    let h := sh.hdr
    let qs := mappedQuads s p.val h
    (loadWaits s p.val sh = true → exec (.showLoadDone p) s = .next s)
    ∧ (loadWaits s p.val sh = false →
      (∀ z, qs.find? (fun z => decide ((zoe s z).state = .fenced)) = some z → ∃ t v, exec (.showLoadDone p) s = .next t
        ∧ Answers w 0x27 (loadReply h.showId sh.changed.length sh.closed (selfId s) z) v t ∧ find v.shows p.val = none
        ∧ BanksHanded qs (tagOf p.val 0xFFFF) s v ∧ v.sessions = s.sessions ∧ v.parts = s.parts)
      ∧ (∀ g b u, (∀ z ∈ qs, (zoe s z).state ≠ .fenced) → find s.staged (stageKey p.val sh.slot) = some g →
        let r := pmaScan p.val g.pma g.len s
        pmaRead r p.val g.pma g.len = some b → planUnmet r p.val h b = false →
        writeQuads p.val h b (qs.mapIdx (fun i z => (i, z))) r = some u →
        let get (k i : Nat) : List (List Byte) := sectBytes s p.val h b k i
        ∃ t v, exec (.showLoadDone p) s = .next t
          ∧ Answers w 0 (loadReply h.showId sh.changed.length sh.closed 0xFF 0xFF) v t
          ∧ v.sessions = s.sessions ∧ v.parts = s.parts ∧ v.mrb.marbles = s.mrb.marbles ∧ v.mrb.banks = s.mrb.banks
          ∧ v.hbm.mem = s.hbm.mem ∧ find v.sec.meas (16 + p.val) = some (imageId b)
          ∧ (∃ n, find v.shows p.val = some { sh with
              loading := false, lost0 := n, layout := qs.mapIdx (fun i z => (z, (get 8 i).flatten)), plan := get 7 0xFF })
          ∧ (∀ i z, qs[i]? = some z →
            let x := zoe v z
            x.ram = ofList (((get 4 i).flatMap (fun y => words128 y (y.length / 16))).take 16384) 0
            ∧ x.scn.table = ofList ((get 6 i).flatMap (fun y => words128 y h.scenes)) 0
            ∧ (∀ t', t' < h.threads →
              let th := threadOf x t'
              th.used = (List.range h.scenes).any (fun k => scEntry (sceneEntry x k) && decide (scThread (sceneEntry x k) = t'))
              ∧ th.next = firstEntry x h.scenes t' ∧ th.since = timeNs s ∧ th.running = false ∧ th.halted = false ∧ th.mid = false)
            ∧ x.state = (zoe s z).state ∧ x.trim = (zoe s z).trim)
          ∧ (∀ n, n / 32768 ∈ quadsOf s p.val → (mailbox v n).seq = 0 ∧ (tagPass mrtTag (bank s n) = true →
            bankNum v n 0x7C8 4 = 0xFFFF ∧ ∀ i, i < 32 → look v.mrb.scratch (2048 * n + 0x7E0 + i) 0 = 0))
          ∧ (∀ z, z ∉ quadsOf s p.val → zoe v z = zoe s z)
          ∧ ∀ k, k / 67108864 ∉ quadsOf s p.val → look v.mrb.scratch k 0 = look s.mrb.scratch k 0))

/-- The commands for Shows, and the stages of a load. The clauses that rest on log entries 52 and 53 are the model's choices. -/
def Obligations.Shows : Prop := Claims.ShowCommands ∧ Claims.ShowLoads

/-! ### Parcels and the fabric -/

/-- MPOST: a slot still busy completes at once with SLOT_BUSY; a bad descriptor completes with DESC_ERR; a good one enters the
sending hub with its SEQ, partner, deadline, header and the source bytes as they stand, and the slot is busy (R130 to R132, R279,
R282). -/
def Claims.MarblePosts : Prop :=
  ∀ (n : MarbleId) (slot : BitVec 1) (f : FmtR) (s : State), Issues n s → (getP (marble s n.toNat) f.p).getLsbD 0 = true →
    (Instr.mpost n slot f).wf = true → (marble s n.toNat).outst.length < 4 →
    let m := marble s n.toNat
    let d (i : Nat) : Nat := bankNum s n.toNat (0x780 + 0x20 * slot.toNat + 4 * i) 4
    let len := if d 1 % 131072 = 0 then 65536 else d 1 % 131072
    let src := d 2 % 131072
    let dest := d 3 % 128
    let bad := d 0 / 2 ^ 24 ≠ 1 ∨ 65536 < len ∨ len % 32 ≠ 0 ∨ src % 32 ≠ 0 ∨ 0x1E000 < src + len ∨ d 4 % 32 ≠ 0 ∨ 2 ^ 30 ≤ d 4
    (slotBusy s n.toNat slot = true → ∃ t, exec (.mpost n slot f) s = .next t ∧ OnlyMarble n s t ∧ WentOn m (marble t n.toNat)
      ∧ (marble t n.toNat).rstatLast = 4 ∧ (marble t n.toNat).rstatCount = satInc m.rstatCount ∧ (marble t n.toNat).outst = m.outst
      ∧ SameScalars m (marble t n.toNat) ∧ SameVectors m (marble t n.toNat) ∧ SamePreds m (marble t n.toNat))
    ∧ (slotBusy s n.toNat slot = false → bad → ∃ t, exec (.mpost n slot f) s = .next t ∧ WentOn m (marble t n.toNat)
      ∧ t.fab.tx = s.fab.tx ∧ t.fab.ptx = s.fab.ptx ∧ slotBusy t n.toNat slot = false ∧ (marble t n.toNat).rstatLast = 3
      ∧ (marble t n.toNat).outst.length = m.outst.length
      ∧ (Lands s.free n.toNat (marbleTag s n.toNat) s → bankNum t n.toNat (0x7C0 + 4 * slot.toNat) 4 = d 0 % 65536 * 65536 + 0x300))
    ∧ (slotBusy s n.toNat slot = false → ¬bad → isMember s (dest % 64) = true →
      (∀ b ∈ clusterBanks (n.toNat / 64) src len, tagPass (marbleTag s n.toNat) (bank s b) = true) → SourcesHeld s →
      ∃ t, exec (.mpost n slot f) s = .next t ∧ t.mrb.scratch = s.mrb.scratch ∧ t.fab.ptx = s.fab.ptx + 1 ∧ slotBusy t n.toNat slot = true
        ∧ t.fab.tx.length = s.fab.tx.length + 1
        ∧ marble t n.toNat = { m with outst := m.outst ++ [⟨.post slot, true⟩], pc := (advance m).pc, loop0 := (advance m).loop0
                                      loop1 := (advance m).loop1 }
        ∧ (∀ k, k ≠ n.toNat → marble t k = marble s k)
        ∧ ∃ p ∈ t.fab.tx, p.n = n ∧ p.slot = slot ∧ p.seq.toNat = d 0 % 65536 ∧ p.partner = dest % 64 ∧ p.blocked = false
          ∧ p.due = timeNs s + s.fab.dl.toNat ∧ p.data = clusterRead s (n.toNat / 64) src len ∧ p.hdr.len = len
          ∧ p.hdr.xid.toNat = d 5 % 65536 ∧ p.hdr.step.toNat = d 5 / 65536 ∧ p.hdr.daddr.toNat = d 4 ∧ p.hdr.dest.toNat = dest
          ∧ p.hdr.payloads = (if len ≤ 84 then 1 else 1 + (len - 84 + 115) / 116))

/-- Remote accesses and posts of a Marble: their issue and their completions. The clauses that rest on log entries 9, 36, 77 and 79
are the model's choices. -/
def Obligations.MarbleRemoteAccess : Prop := Claims.MarbleRemoteIssue ∧ Claims.MarblePosts ∧ Claims.RemoteCompletions

/-- Parcels that arrive: refused, duplicate and stale ones are discarded with DONE; the bytes of one that is complete are written
under the ownership check; its notice waits while more than 4 stand unread, then the mailbox, the filter and the arrival counter
take it and DONE goes out (R133, R154, R280, R281, R283). -/
def Claims.ParcelArrivals : Prop :=
  (∀ (m : ModuleId) (tag : BitVec 12) (pt : BitVec 4) (hdr : ParcelHdr) (s : State),
    let fresh : RxParcel := { partner := m.val, tag := tag }
    let old := (rxFind s m.val tag).getD fresh
    let r := { (if old.delivered || old.dup then fresh else old) with part := pt, hdr := some hdr }
    let k := filterCheck (filterAt s (filterKey (hdr.dest.toNat / 64) pt.toNat hdr.src.val hdr.xid.toNat)) hdr.step
    (tagDead s m.val tag = true → ∃ t, exec (.first m tag pt hdr) s = .next t ∧ t = { s with fab.peers := t.fab.peers, out := t.out })
    ∧ (tagDead s m.val tag = false → parcelRefused s pt hdr = true → ∃ t, exec (.first m tag pt hdr) s = .next t ∧ Discards r 7 s t)
    ∧ (tagDead s m.val tag = false → parcelRefused s pt hdr = false →
      (k = 1 → ∃ t, exec (.first m tag pt hdr) s = .next t ∧ Discards r 0 { s with fab.dup := s.fab.dup + 1 } t)
      ∧ (k = 2 → ∃ t, exec (.first m tag pt hdr) s = .next t ∧ Discards r 7 { s with fab.stale := s.fab.stale + 1 } t)
      ∧ (k = 0 → ∃ t, exec (.first m tag pt hdr) s = .next t ∧ t = { s with fab.rx := t.fab.rx } ∧ rxFind t m.val tag = some r)))
  ∧ (∀ (m : ModuleId) (tag : BitVec 12) (r : RxParcel) (h : ParcelHdr) (data : List Byte) (s : State), rxFind s m.val tag = some r →
    r.hdr = some h → rxData r h = some data → data.length = h.len → h.len % 32 = 0 → 0 < h.len → h.daddr.toNat % 32 = 0 → r.delivered = false →
    r.dup = false → h.daddr.toNat + h.len ≤ 2 ^ 30 → r.partner = m.val → r.tag = tag →
    let half := h.dest.toNat / 64
    let n := (fabricByte half h.daddr.toNat).1
    let key (j : Nat) : Nat := 2048 * (fabricByte half (h.daddr.toNat + j)).1 + (fabricByte half (h.daddr.toNat + j)).2
    (∀ x ∈ (mailbox s n).held, ¬(x.partner = m.val ∧ x.tag = tag)) →
    (bagInReset s n = true ∨ crossesReset s m.val h = true → ∃ t, exec (.parcelDelivered m tag) s = .next t ∧ Discards r 5 s t)
    ∧ (bagInReset s n = false → crossesReset s m.val h = false → granulesPass s half h.daddr.toNat h.len (tagOf r.part.toNat 0xFFFF) = true →
      ∃ t, exec (.parcelDelivered m tag) s = .next t ∧ t = { s with mrb.scratch := t.mrb.scratch, mrb.mailboxes := t.mrb.mailboxes }
        ∧ (mailbox t n).held = (mailbox s n).held ++ [{ partner := m.val, tag := tag }] ∧ (mailbox t n).seq = (mailbox s n).seq
        ∧ (∀ j, j < h.len → look t.mrb.scratch (key j) 0 = data.getD j 0)
        ∧ ∀ a, (∀ j, j < h.len → a ≠ key j) → look t.mrb.scratch a 0 = look s.mrb.scratch a 0)
    ∧ (bagInReset s n = false → crossesReset s m.val h = false →
      granulesPass s half h.daddr.toNat h.len (tagOf r.part.toNat 0xFFFF) = false →
      ∃ t, exec (.parcelDelivered m tag) s = .next t ∧ rxFind t m.val tag = some { r with got := [], dup := true }
        ∧ .done m.val tag 2 0 ∈ t.out ∧ t.mrb.mailboxes = s.mrb.mailboxes))
  ∧ (∀ (n : MarbleId) (x : Notice) (rest : List Notice) (r : RxParcel) (h : ParcelHdr) (s : State),
    (mailbox s n.toNat).held = x :: rest → rxFind s x.partner x.tag = some r → r.partner = x.partner → r.tag = x.tag → r.hdr = some h →
    let mb := mailbox s n.toNat
    let ack : BitVec 16 := BitVec.ofNat 16 (bankNum s n.toNat 0x7C8 4)
    let a := 0x7E0 + 8 * (mb.seq.toNat % 4)
    let k := filterKey (h.dest.toNat / 64) r.part.toNat h.src.val h.xid.toNat
    (4 < (mb.seq - ack).toNat → exec (.noticeWrite n) s = .next s)
    ∧ ((mb.seq - ack).toNat ≤ 4 → tagPass (tagOf r.part.toNat 0xFFFF) (bank s n.toNat) = true →
      ∃ t, exec (.noticeWrite n) s = .next t ∧ (mailbox t n.toNat).held = rest ∧ (mailbox t n.toNat).seq = mb.seq + 1
        ∧ (Lands (s.free + 1) n.toNat (tagOf r.part.toNat 0xFFFF) s → bankNum t n.toNat a 4 = h.xid.toNat * 65536 + mb.seq.toNat)
        ∧ (Lands s.free n.toNat (tagOf r.part.toNat 0xFFFF) s →
          bankNum t n.toNat (a + 4) 4 = h.step.toNat * 65536 + h.len / 32 % 65536)
        ∧ (∀ key, ¬(2048 * n.toNat + a ≤ key ∧ key < 2048 * n.toNat + a + 8) → look t.mrb.scratch key 0 = look s.mrb.scratch key 0)
        ∧ t.fab.prx = s.fab.prx + 1 ∧ filterAt t k = some (filterMark (filterAt s k) h.step) ∧ (∀ j, j ≠ k → filterAt t j = filterAt s j)
        ∧ rxFind t x.partner x.tag = some { r with delivered := true, got := [] } ∧ .done x.partner x.tag 0 0 ∈ t.out
        ∧ (h.xid.toNat ≤ 1023 → look (zoe s (n.toNat / 32768)).scn.arrivals h.xid.toNat 0 ≠ 0xFFFF →
          look (zoe t (n.toNat / 32768)).scn.arrivals h.xid.toNat 0 = look (zoe s (n.toNat / 32768)).scn.arrivals h.xid.toNat 0 + 1)
        ∧ (1023 < h.xid.toNat → (zoe t (n.toNat / 32768)).scn.arrivals = (zoe s (n.toNat / 32768)).scn.arrivals)))

/-- Parcels at their sender: DONE ends one with its status and its count of resends in TXS and frees the slot; at its deadline one
ends with DEADLINE, ABORT goes out, and its DONE is late; ABORT before delivery makes the TAG dead for 16 µs (R130, R132, R280,
R282). -/
def Claims.ParcelCompletions : Prop :=
  (∀ (m : ModuleId) (tag : BitVec 12) (st : Byte) (resends : Nat) (p : TxParcel) (s : State), txFind s m.val tag = some p →
    p.blocked = false → st ≠ 7 → Lands s.free p.n.toNat (marbleTag s p.n.toNat) s →
    ∃ t, exec (.done m tag st resends) s = .next t
      ∧ t = { s with mrb.marbles := t.mrb.marbles, mrb.scratch := t.mrb.scratch, mrb.mailboxes := t.mrb.mailboxes, fab.tx := t.fab.tx
                     mrb.conflicts := t.mrb.conflicts, mrb.clSum := t.mrb.clSum, mrb.bagSum := t.mrb.bagSum, free := s.free + 1 }
      ∧ txFind t m.val tag = none ∧ slotBusy t p.n.toNat p.slot = false
      ∧ bankNum t p.n.toNat (0x7C0 + 4 * p.slot.toNat) 4 = p.seq.toNat * 65536 + st.toNat * 256 + Min.min 255 resends
      ∧ (marble t p.n.toNat).outst = removeFirst (isPost p.slot) (marble s p.n.toNat).outst
      ∧ (st = 0 → (marble t p.n.toNat).rstatCount = (marble s p.n.toNat).rstatCount) ∧ (st ≠ 0 → (marble t p.n.toNat).rstatLast = st)
      ∧ ∀ key, ¬(2048 * p.n.toNat + 0x7C0 + 4 * p.slot.toNat ≤ key ∧ key < 2048 * p.n.toNat + 0x7C4 + 4 * p.slot.toNat) →
        look t.mrb.scratch key 0 = look s.mrb.scratch key 0)
  ∧ (∀ (m : ModuleId) (tag : BitVec 12) (st : Byte) (resends : Nat) (p : TxParcel) (s : State), txFind s m.val tag = some p →
    (p.blocked = true → exec (.done m tag st resends) s = .next s)
    ∧ (p.blocked = false → tagPass (marbleTag s p.n.toNat) (bank s p.n.toNat) = true →
      (Config.routerLosses s.free p.n.toNat).val = 64 → ∃ t, exec (.done m tag st resends) s = .next t ∧ txFind t m.val tag = none
        ∧ slotBusy t p.n.toNat p.slot = false ∧ t.mrb.scratch = s.mrb.scratch ∧ t.flt.nCont = s.flt.nCont + 1))
  ∧ (∀ (m : ModuleId) (tag : BitVec 12) (st : Byte) (resends : Nat) (s : State), txFind s m.val tag = none → (m.val, tag) ∈ s.fab.lateTags →
    ∃ t, exec (.done m tag st resends) s = .next t ∧ t = { s with fab.late := s.fab.late + 1, fab.lateTags := t.fab.lateTags }
      ∧ (m.val, tag) ∉ t.fab.lateTags)
  ∧ (∀ (n : MarbleId) (slot : BitVec 1) (p : TxParcel) (s : State),
    s.fab.tx.find? (fun p => decide (p.n = n ∧ p.slot = slot ∧ p.blocked = false)) = some p →
    ∃ t, exec (.parcelDeadline n slot) s = .next t ∧ p.due ≤ timeNs t ∧ t.fab.deadline = s.fab.deadline + 1
      ∧ txFind t p.partner p.tag = none ∧ slotBusy t n.toNat slot = false ∧ (p.partner, p.tag) ∈ t.fab.lateTags
      ∧ .abort p.partner p.tag ∈ t.out ∧ (marble t n.toNat).rstatLast = 6
      ∧ (Lands (s.free + 1) n.toNat (marbleTag s n.toNat) s →
        bankNum t n.toNat (0x7C0 + 4 * slot.toNat) 4 / 256 = p.seq.toNat * 256 + 6))
  ∧ (∀ (m : ModuleId) (tag : BitVec 12) (s : State),
    (∀ r, rxFind s m.val tag = some r → r.delivered = true → exec (.abort m tag) s = .next s)
    ∧ ((∀ r, rxFind s m.val tag = some r → r.delivered = false) → ∃ t, exec (.abort m tag) s = .next t ∧ rxFind t m.val tag = none
      ∧ t.fab.dead = s.fab.dead ++ [(m.val, tag, timeNs s + 16000)] ∧ t.mrb.scratch = s.mrb.scratch)
    ∧ ∀ e, s.fab.dead.find? (fun e => decide (e.1 = m.val ∧ e.2.1 = tag)) = some e →
      ∃ t, exec (.deadTagEnd m tag) s = .next t ∧ t = { s with ident.aux := t.ident.aux, fab.dead := s.fab.dead.filter (fun x => decide (x ≠ e)) }
        ∧ e.2.2 ≤ timeNs t)

/-- Parcels between modules: arrivals and completions. The clauses that rest on log entries 38 and 78 are the model's choices. -/
def Obligations.Parcels : Prop := Claims.ParcelArrivals ∧ Claims.ParcelCompletions

/-- Lanes change state as R295 to R303 say: Tuning, Locking, the margin test, Lit with its share of the pair's credits, Idle,
Draining, Dormant, Dark, and Spared with the limit's cause, counted and recorded; a Spared lane that a partition held, or the
keep-alive lane, is replaced for its holder by at most one Dark position of the pair. -/
def Claims.LaneStates : Prop :=
  ∀ (l : LaneId) (m : Nat) (s : State), s.ident.ml = false → lanePartner s l.val = some m →
    let x := lane s l.val
    let y (t : State) : Lane := lane t l.val
    let others (t : State) : Prop := ∀ k, k ≠ l.val → (lane t k).state = (lane s k).state
    let lit (t : State) : Prop := (y t).state = .lit ∧ (y t).slice = x.slice ∧ (y t).holder = x.holder ∧ (y t).rxAck = 1023 ∧ others t
      ∧ ∀ c, c < 3 → (vc t m c).pool = (vc s m c).pool + (if c = 0 then 4 else 32)
    let replaced (t : State) : Prop := (11 < x.holder.toNat → keepAlive s m ≠ some l.val → others t)
      ∧ ∃ r, (∀ k, k ≠ l.val → k ≠ r → (lane t k).state = (lane s k).state)
        ∧ (r ≠ l.val → (lane t r).state ≠ (lane s r).state →
          r ∈ pairLanes s m ∧ (lane s r).state = .dark ∧ (lane t r).state = .tuning ∧ (lane t r).holder = x.holder)
    (∃ t, exec (.ringLocked l) s = .next t ∧ OnlyLane l.val (if x.state = .tuning then { x with state := .locking } else x) s t)
    ∧ (x.state = .locking → x.underTest = false → x.tested = true ∨ x.relock = true ∨ x.afterComb = true →
      ∃ t, exec (.laneLocked l) s = .next t ∧ lit t)
    ∧ (x.state ≠ .locking ∨ x.underTest = true ∨ (x.tested = false ∧ x.relock = false ∧ x.afterComb = false) →
      exec (.laneLocked l) s = .next s)
    ∧ (∀ tx rx : Nat, x.state = .locking → x.underTest = false → x.relock = false →
      (tx ≤ 640 → rx ≤ 640 → ¬(s.rst.stepNine = true ∧ hasSlice x = false) →
        ∃ t, exec (.marginTestDone l tx rx) s = .next t ∧ lit t ∧ (y t).tested = true)
      ∧ (tx ≤ 640 → rx ≤ 640 → s.rst.stepNine = true → hasSlice x = false →
        ∃ t, exec (.marginTestDone l tx rx) s = .next t ∧ OnlyLane l.val { x with state := .dark, tested := true } s t)
      ∧ (640 < tx ∨ 640 < rx → ∃ t, exec (.marginTestDone l tx rx) s = .next t ∧ SparedWith l.val 1 s t ∧ replaced t
        ∧ t.fab.kMarginFail = s.fab.kMarginFail + 1))
    ∧ (x.state = .tuning ∨ x.state = .locking → x.underTest = false → isTraining s l.val = false → x.fresh = true ∨ x.afterComb = true →
      ∃ t, exec (.lightingTimeout l) s = .next t ∧ SparedWith l.val 2 s t ∧ replaced t)
    ∧ (∃ t, exec (.idleEntry l) s = .next t ∧ OnlyLane l.val
      (if x.state = .lit ∧ s.fab.idleEn = true ∧ x.buf = [] ∧ x.nak = false then { x with idle := true } else x) s t)
    ∧ (s.fab.dormMs ≠ 0 → x.state = .lit → x.holder ≠ 0xF → (heldLit s m x.holder).head? ≠ some l.val →
      ∃ t, exec (.dormantTimeout l) s = .next t ∧ OnlyLane l.val { x with state := .draining, idle := false, toDormant := true } s t)
    ∧ (s.fab.dormMs = 0 ∨ x.state ≠ .lit ∨ x.holder = 0xF ∨ (heldLit s m x.holder).head? = some l.val →
      exec (.dormantTimeout l) s = .next s)
    ∧ (x.state = .draining → x.buf = [] → shareBack s m = true → ∃ t, exec (.drainComplete l) s = .next t ∧ others t
      ∧ (y t).state = (if x.toDormant then .dormant else .dark) ∧ (y t).toDormant = false
      ∧ (x.toDormant = false → (y t).slice = 127 ∧ (y t).holder = 0xE) ∧ (x.toDormant = true → (y t).slice = x.slice)
      ∧ ∀ c, c < 3 → (vc t m c).pool = (vc s m c).pool - (if c = 0 then 4 else 32))
    ∧ (x.state = .draining → x.buf ≠ [] ∨ shareBack s m = false → exec (.drainComplete l) s = .next s)
    ∧ (x.state = .dormant → ∃ t, exec (.dormantWake l) s = .next t ∧ t.fab.kDorm = s.fab.kDorm + 1
      ∧ OnlyLane l.val { x with state := .tuning, fresh := false } { s with fab.kDorm := s.fab.kDorm + 1 } t)
    ∧ (∀ cause : BitVec 4, cause = 3 ∨ cause = 4 ∨ cause = 5 ∨ cause = 7 → x.state = .lit ∨ x.state = .draining ∨ x.state = .dormant →
      ∃ t, exec (.laneHealthLimit l cause) s = .next t ∧ SparedWith l.val cause s t ∧ replaced t
        ∧ .laneMsg l.val (.limit l cause) ∈ t.out)
    ∧ (x.state = .lit → ∃ t, exec (.clockUnlock l) s = .next t ∧ (y t).state = .locking ∧ (y t).relock = true ∧ (y t).slice = x.slice ∧ others t
      ∧ .laneMsg l.val (.limit l 6) ∈ t.out)
    ∧ (x.state = .locking → x.relock = true → ∃ t, exec (.relockTimeout l) s = .next t ∧ SparedWith l.val 6 s t ∧ replaced t)

/-- Codewords that arrive on a lane: one that fails decode is counted and asks for a resend; DATA is accepted once by its LSEQ;
LINK, SKIP and MARK act as R273 to R278 and R302 say on the state that the link word left; acknowledged payloads leave the retry
buffer, credits return, and a payload unacknowledged for 430 ns is resent (R273 to R278). The clauses that rest on log entries
38, 86 and 106 are the model's choices. -/
def Obligations.Codewords : Prop :=
  ∀ (l : LaneId) (m : Nat) (cw : Codeword) (s : State), s.ident.ml = false → lanePartner s l.val = some m →
    let x := lane s l.val
    let v := linkWord l.val m (fieldAt (payloadOf cw) 0 4) (modPeer m (fun p => { p with ctrlUp := true }) (countCodeword l.val cw s))
    let q : BitVec 10 := BitVec.ofNat 10 (fieldAt (payloadOf cw) 0 4 / 2 ^ 22)
    let all : List Instr := [.data l cw, .link l cw .none, .skip l cw .keep, .mark l cw []]
    (x.state ≠ .lit → x.state ≠ .draining → ∀ c ∈ all, exec c s = .next s)
    ∧ (x.state = .lit ∨ x.state = .draining → Machine.codewordOk cw = false → ∀ c ∈ all, ∃ t, exec c s = .next t
      ∧ OnlyLane l.val { x with nak := true } { s with fab.cwBad := s.fab.cwBad + 1 } t)
    ∧ (x.state = .lit ∨ x.state = .draining → Machine.codewordOk cw = true →
      (lseqSeen (lane v l.val) q = true → exec (.data l cw) s = .next v)
      ∧ (lseqSeen (lane v l.val) q = false → ∃ t, exec (.data l cw) s = .next t ∧ lane t l.val = lseqTake q (lane v l.val)
        ∧ t = { v with fab.lanes := t.fab.lanes, fab.peers := t.fab.peers, fab.rx := t.fab.rx, out := t.out }
        ∧ (let w := fieldAt (payloadOf cw) 4 4
          let tag : BitVec 12 := BitVec.ofNat 12 (w / 2 ^ 12)
          let r := (rxFind v m tag).getD { partner := m, tag := tag, part := BitVec.ofNat 4 (w / 2 ^ 24) }
          w / 2 ^ 28 % 16 = 4 → tagDead v m tag = false → r.dup = false → r.delivered = false →
            rxFind t m tag = some { r with got := ins r.got (w % 2 ^ 12) (slice (payloadOf cw) 8 116) }))
      ∧ (∀ (k : LaneId) (cause : BitVec 4),
        exec (.link l cw (.limit k cause)) s = .next (if cause = 6 then laneUnlock k.val v else laneLimit k.val cause v)
        ∧ exec (.link l cw (.drain k)) s = .next (laneDrain k.val v) ∧ exec (.link l cw .none) s = .next v)
      ∧ exec (.skip l cw .keep) s = .next v
      ∧ (∀ adj, adj ≠ .keep → (lane v l.val).skips = 0 → ∃ t, exec (.skip l cw adj) s = .next t
        ∧ OnlyLane l.val { lane v l.val with skips := 1 } { v with fab.skipAdj := v.fab.skipAdj + 1 } t)
      ∧ (∀ adj, adj ≠ .keep → (lane v l.val).skips = 1 → inPool (lane v l.val) = true → ∃ t, exec (.skip l cw adj) s = .next t
        ∧ SparedWith l.val 5 v t ∧ t.fab.skipAdj = v.fab.skipAdj + 1)
      ∧ (∀ g0 g1 g2 : Ledger, (∀ e ∈ [(0, g0), (1, g1), (2, g2)], ledgerOk (vc v m e.1) e.2 = true) → ∃ t, exec (.mark l cw [g0, g1, g2]) s = .next t
        ∧ (lane t l.val).skips = 0 ∧ t.fab.credErr = v.fab.credErr
        ∧ ∀ c, c < 3 → vc t m c = { vc v m c with bad := 0 }))
    ∧ (∀ w : Nat, NothingToSend m s →
      let ack : BitVec 10 := BitVec.ofNat 10 (w / 2 ^ 12)
      let u := linkWord l.val m w s
      (lane u l.val).buf = x.buf.filter (fun b => decide (512 ≤ (ack - b.lseq).toNat))
      ∧ (∀ c, c < 3 → (vc u m c).credits = if w / 2 ^ 9 % 4 = c then (vc s m c).credits + ((w % 2 ^ 9 : Nat) : Int) else (vc s m c).credits)
      ∧ (w / 2 ^ 11 % 2 = 0 → u.fab.retx = s.fab.retx))
    ∧ (∀ (lseq : BitVec 10),
      (∀ u, x.buf.find? (fun u => decide (u.lseq = lseq)) = some u → ∃ t, exec (.retryTimeout l lseq) s = .next t
        ∧ t = { s with fab.retx := s.fab.retx + 1, out := s.out ++ [.resend l.val u] })
      ∧ (x.buf.find? (fun u => decide (u.lseq = lseq)) = none → exec (.retryTimeout l lseq) s = .next s))

/-- LANES_LIGHT and the allocator's LANE_REQUEST reserve Dark positions of a pair, lowest first, as far as slices go; LANES_DARK and
LANE_RELEASE drain the holder's lanes, highest first; LANE_TEST lights a Dark or Spared position under test, and at most 10⁻⁵ errors
a bit return it to Dark; with no Active Marionette the allocation waits (R232, R270 to R272, R297, R305, R333). -/
def Claims.LaneAllocation : Prop :=
  (∀ (w : Fn) (pk : Packet) (s u : State) (ps : List Byte),
    let m := pByte ps 0
    let n := fieldAt ps 2 2
    (Passed (.lanesLight w pk) w s u ps →
      (s.las.off = true → ∃ t, exec (.lanesLight w pk) s = .next t ∧ Answers w 0x34 [] u t)
      ∧ (s.las.off = false → isMember s m = false → ∃ t, exec (.lanesLight w pk) s = .next t ∧ Answers w 0x16 [] u t)
      ∧ (s.las.off = false → isMember s m = true → ∃ t xs, exec (.lanesLight w pk) s = .next t ∧ xs.length ≤ n
        ∧ (let open' := (pairLanes s m).any (positionOpen t)
          Waits w (if xs.length < n ∧ open' = true then n + 65536 else n) xs u t)
        ∧ (∀ l ∈ xs, l ∈ pairLanes s m ∧ (lane s l).state = .dark ∧ (lane t l).state = .tuning ∧ (lane t l).holder = 0xF)
        ∧ (xs.length = n ∨ ∀ l ∈ pairLanes s m, positionOpen t l = false ∨ freeSlice t (l / 128) = none ∨ farSlice s l = false)
        ∧ (∀ l ∈ pairLanes s m, (lane s l).state = .dormant → (lane t l).state = .tuning)
        ∧ (∀ l, l ∉ pairLanes s m → lane t l = lane s l) ∧ t.flt = s.flt ∧ t.mrb = s.mrb))
    ∧ (Passed (.lanesDark w pk) w s u ps →
      (isMember s m = false → ∃ t, exec (.lanesDark w pk) s = .next t ∧ Answers w 0x16 [] u t)
      ∧ (isMember s m = true → ∃ t v, exec (.lanesDark w pk) s = .next t ∧ Answers w 0 (leBytes 2 (releaseNames s m 0xF n).1.length) v t
        ∧ (∀ l, (lane v l).state = if l ∈ (releaseNames s m 0xF n).1 then .draining else (lane s l).state)
        ∧ ∀ l, (releaseNames s m 0xF n).2 = some l → (lane v l).holder = 0xF)))
  ∧ (∀ (m : ModuleId) (h : BitVec 4) (n : Nat) (s : State), s.ident.ml = false →
    (s.fab.gid.toNat < m.val → isMember s m.val = true → mrtServes s = true →
      ∃ t, exec (.laneRequest m h n) s = .next t ∧ t = (askLanes m.val h n s).2 ∧ (askLanes m.val h n s).1.length ≤ n
        ∧ (∀ l ∈ (askLanes m.val h n s).1, (lane t l).holder = h ∧ ((lane t l).state = .tuning ∨ (lane t l).state = .lit))
        ∧ ∀ l, l ∉ (askLanes m.val h n s).1 → lane t l = lane s l)
    ∧ (m.val ≤ s.fab.gid.toNat → exec (.laneRequest m h n) s = .next s ∧ exec (.laneRelease m h n) s = .next s)
    ∧ (s.fab.gid.toNat < m.val → mrtServes s = false →
      exec (.laneRelease m h n) s = .next { s with fab.asks := s.fab.asks ++ [⟨.release, m.val, h, n⟩] }
      ∧ (isMember s m.val = true → exec (.laneRequest m h n) s = .next { s with fab.asks := s.fab.asks ++ [⟨.request, m.val, h, n⟩] }))
    ∧ (s.fab.gid.toNat < m.val → mrtServes s = true → ∃ t, exec (.laneRelease m h n) s = .next t
      ∧ ∀ l, (lane t l).state = if l ∈ (releaseNames s m.val h n).1 then .draining else (lane s l).state))
  ∧ (∀ (w : Fn) (pk : Packet) (s u : State) (ps : List Byte) (m : Nat), Passed (.laneTest w pk) w s u ps →
    let l := testLane ps
    let x := lane s l
    (s.las.off = true → ∃ t, exec (.laneTest w pk) s = .next t ∧ Answers w 0x34 [] u t)
    ∧ (s.las.off = false → lanePartner s l = some m → isMember s m = true → isSelf s m = false →
      (x.state ≠ .dark → x.state ≠ .spared → ∃ t, exec (.laneTest w pk) s = .next t ∧ Answers w 0x28 [] u t)
      ∧ (x.state = .dark ∨ x.state = .spared →
        (freeSlice s (l / 128) = none → ∃ t, exec (.laneTest w pk) s = .next t ∧ Answers w 0x32 [] u t)
        ∧ ∀ k, freeSlice s (l / 128) = some k →
          (farSlice s l = false → ∃ t, exec (.laneTest w pk) s = .next t ∧ Answers w 0x32 [] { u with free := s.free + 1024 } t)
          ∧ (farSlice s l = true → ∃ t, exec (.laneTest w pk) s = .next t ∧ Waits w 0 [l] u t
          ∧ t = { u with fab.lanes := t.fab.lanes, fab.prbs := t.fab.prbs, windows := t.windows, free := s.free + 1024 } ∧ (∀ j, j ≠ l → lane t j = lane s j)
          ∧ lane t l = { x with before := x.state, state := .tuning, underTest := true, slice := k, holder := 0xF }))))
  ∧ (∀ (l : LaneId) (bits errs : BitVec 64) (w : Fn) (s : State), s.ident.ml = false → testWindow s l.val = some w →
    let x := lane s l.val
    let reply := leBytes 8 bits.toNat ++ leBytes 8 errs.toNat
    x.underTest = true → x.state = .locking → ∃ t v, exec (.laneTestDone l bits errs) s = .next t ∧ Answers w 0 reply v t
      ∧ (lane v l.val).underTest = false ∧ (lane v l.val).slice = 127
      ∧ (errs.toNat * 100000 ≤ bits.toNat → (lane v l.val).state = .dark ∧ (SourcesHeld s → v.flt = s.flt) ∧ ∀ k, k ≠ l.val → lane v k = lane s k)
      ∧ (bits.toNat < errs.toNat * 100000 → (x.before = .spared → (lane v l.val).state = .spared ∧ (lane v l.val).cause = x.cause)
        ∧ (x.before ≠ .spared → SparedWith l.val 9 s v)))

/-- The lanes of a pair: their states and their allocation. The clauses that rest on log entries 38, 55 and 106 are the model's
choices. -/
def Obligations.LanesOfAPair : Prop := Claims.LaneStates ∧ Claims.LaneAllocation

/-- The calibration commands: CAL_FULL begins once no partition command touches its Zoetropes, at the next boundary of one that
runs; PREC_SET, PREC_READ, TRIM_READ and ZOE_QUERY read and set a Zoetrope's precision and trim, the window's own alone; ZOE_FENCE
fences with cause 1 (R80, R88, R89, R102, R226, R231, R311). The clauses that rest on log entry 54 are the model's choices. -/
def Obligations.CalibrationCommands : Prop :=
  ∀ (w : Fn) (pk : Packet) (s u : State) (ps : List Byte),
    let z := pByte ps 0
    (Passed (.calFull w pk) w s u ps → isSelf s z = true ∨ z = 0xFF ∧ otherMembers s = [] →
      let zs := maskZoes (fieldAt ps 4 4)
      (s.las.off = true → ∃ t, exec (.calFull w pk) s = .next t ∧ Answers w 0x34 [] u t)
      ∧ (s.las.off = false → touched s zs = true → exec (.calFull w pk) s = .next u)
      ∧ (s.las.off = false → touched s zs = false → ∃ t, exec (.calFull w pk) s = .next t ∧ Waits w 1 zs u t ∧ t.rst.unfence = []
        ∧ t = { u with windows := t.windows, zoes := t.zoes, rst.unfence := [], rst.fencedEast := t.rst.fencedEast
                       rst.fencedWest := t.rst.fencedWest }
        ∧ t.rst.fencedEast = (s.rst.fencedEast && !s.rst.unfence.contains .east)
        ∧ t.rst.fencedWest = (s.rst.fencedWest && !s.rst.unfence.contains .west)
        ∧ (∀ k, k ∉ zs → zoe t k = zoe s k)
        ∧ ∀ k ∈ zs, let x := zoe s k
          (x.state = .running ∨ x.state = .gap → zoe t k = { x with calDue := true })
          ∧ (x.state = .off ∨ x.state = .warming → zoe t k = x)
          ∧ (x.state = .fenced → halfFenced t (k / 16) = true → zoe t k = x)
          ∧ (x.state = .ready ∨ x.state = .trimming ∨ x.state = .fenced ∧ halfFenced t (k / 16) = false →
            zoe t k = enterCal k (timeNs s) x ∧ (zoe t k).state = .trimming ∧ (zoe t k).fenceCause = 0 ∧ (zoe t k).part = x.part
              ∧ (zoe t k).trim.cause = 1 ∧ (zoe t k).trim.since = timeNs s ∧ (zoe t k).trim.gapKind = .none
              ∧ (zoe t k).trim.wrapCnt = 0)))
    ∧ (Passed (.precSet w pk) w s u ps → (part s (cmdPart w ps)).exist = true →
      let p := cmdPart w ps
      let b (i : Nat) : Byte := ps.getD i 0
      ∃ t v, exec (.precSet w pk) s = .next t ∧ Answers w 0 [] v t ∧ v = { u with parts := v.parts, zoes := v.zoes, out := v.out }
        ∧ OtherPartitions p s v ∧ part v p = { part s p with
          detNext := BitVec.ofNat 7 (pByte ps 1), audNext := BitVec.ofNat 5 (pByte ps 2)
          thrFlag := b 4, thrGap := b 5, cntGap := b 6, thrFence := b 7, cntFence := b 8 }
        ∧ (∀ k, k ∉ quadsOf s p → zoe v k = zoe s k)
        ∧ ∀ k ∈ quadsOf s p, zoe v k = { zoe s k with prec := { (zoe s k).prec with
          thrFlag := b 4, thrGap := b 5, cntGap := b 6, thrFence := b 7, cntFence := b 8 } })
    ∧ (winReaches s w z = false →
      (Passed (.precRead w pk) w s u ps → ∃ t, exec (.precRead w pk) s = .next t ∧ Answers w 0x13 [] u t)
      ∧ (Passed (.trimRead w pk) w s u ps → ∃ t, exec (.trimRead w pk) s = .next t ∧ Answers w 0x13 [] u t))
    ∧ (winReaches s w z = true →
      (Passed (.precRead w pk) w s u ps → ∃ t, exec (.precRead w pk) s = .next t ∧ Answers w 0 (precReply s (zoe s z)) u t)
      ∧ (Passed (.precReadClear w pk) w s u ps → ∃ t v, exec (.precReadClear w pk) s = .next t ∧ Answers w 0 (precReply s (zoe s z)) v t
        ∧ OnlyZoe z u v ∧ zoe v z = { zoe s z with prec := (zoe v z).prec } ∧ precCounts (zoe v z).prec = List.replicate 12 0
        ∧ (zoe v z).prec.audMax = 0 ∧ (zoe v z).prec.hist = [])
      ∧ (Passed (.trimRead w pk) w s u ps → ∃ t, exec (.trimRead w pk) s = .next t
        ∧ Answers w 0 ((List.range (pByte ps 7)).flatMap (fun i => trimEntry z (zoe s z) (fieldAt ps 4 3 + i))) u t))
    ∧ (Passed (.zoeFence w pk) w s u ps → isSelf s z = true →
      (touched s [pByte ps 1] = true → exec (.zoeFence w pk) s = .next u)
      ∧ (touched s [pByte ps 1] = false → ∃ t v, exec (.zoeFence w pk) s = .next t ∧ Answers w 0 [] v t ∧ v = requestFence (pByte ps 1) 1 u
        ∧ ((zoe s (pByte ps 1)).state = .ready → quadPart s (pByte ps 1) = none → (zoe v (pByte ps 1)).state = .fenced
          ∧ (zoe v (pByte ps 1)).fenceCause = 1)))
    ∧ (Passed (.zoeQuery w pk) w s u ps → isSelf s z = true → ∃ t reply, exec (.zoeQuery w pk) s = .next t ∧ Answers w 0 reply u t
      ∧ reply.length = 256 ∧ ∀ k, k < 32 →
        fieldAt reply (4 * k) 4 = (if winReaches s w k then (regZoeState (zoe s k)).toNat else 0)
        ∧ fieldAt reply (128 + 4 * k) 4 = (if winReaches s w k then (regTrimState (timeNs s) (zoe s k)).toNat else 0))

/-- The group's commands: GROUP_DECLARE stores N and the ID and tears every pair down where it differs; PARTNER_TRAIN starts the
training of the pairs named, which 12 ms after CMD_GO ends Absent; GROUP_QUERY reads epoch, members and lit counts; LASER_REARM
clears the latch and starts the rearm delay with both channels closed (R232, R260, R265, R309). -/
def Claims.GroupCommands : Prop :=
  (∀ (w : Fn) (pk : Packet) (s u : State) (ps : List Byte),
    (Passed (.groupDeclare w pk) w s u ps →
      let n := pByte ps 0
      let id := pByte ps 1
      let round := if s.pwr.modeSet then s.pwr.round else decide (16 ≤ n)
      (s.shows ≠ [] → ∃ t, exec (.groupDeclare w pk) s = .next t ∧ Answers w 0x28 [] u t)
      ∧ (s.shows = [] → s.fab.declared = true → s.fab.gn.toNat = n → s.fab.gid.toNat = id →
        ∃ t, exec (.groupDeclare w pk) s = .next t ∧ Answers w 0 [] { u with pwr.round := round } t)
      ∧ (s.shows = [] → ¬(s.fab.declared = true ∧ s.fab.gn.toNat = n ∧ s.fab.gid.toNat = id) →
        ∃ t v, exec (.groupDeclare w pk) s = .next t ∧ Answers w 0 [] v t ∧ v.fab.declared = true ∧ v.fab.gn.toNat = n ∧ v.fab.gid.toNat = id
          ∧ v.fab.front = false ∧ v.fab.peers = [] ∧ v.fab.train = none ∧ v.pwr.round = round ∧ v.parts = s.parts ∧ v.sessions = s.sessions
          ∧ v.hbm = s.hbm ∧ v.zoes = s.zoes))
    ∧ (Passed (.partnerTrain w pk) w s u ps →
      let ms := maskMods ps
      let new := ms.filter (fun m => !(peer s m).trained)
      (ms = [] → ∃ t, exec (.partnerTrain w pk) s = .next t ∧ Answers w 0 (leBytes 16 0 ++ leBytes 4 s.fab.epoch.toNat) u t)
      ∧ (ms ≠ [] → ∃ t r, exec (.partnerTrain w pk) s = .next t ∧ t.fab.train = some r ∧ r.mask = BitVec.ofNat 64 (fieldAt ps 0 8)
        ∧ r.pending = new ∧ r.started = mtime s ∧ (∀ m, r.trained.getLsbD m = true ↔ m ∈ ms ∧ m ∉ new) ∧ t.fab.trainRes = none
        ∧ (∀ m ∈ new, (peer t m).slot = .training ∧ (peer t m).phase = 0 ∧ (peer t m).attempts = 0 ∧ (peer t m).okFibre = false)
        ∧ (∀ m, m ∉ new → peer t m = if m ∈ members s then { peer s m with ctrlSeq := (peer s m).ctrlSeq + 1 } else peer s m)
        ∧ (∀ m ∈ members s, m ∉ new → .trainReq m r.mask ∈ t.out) ∧ window t w = window u w ∧ t.mrb = s.mrb))
    ∧ (Passed (.groupQuery w pk) w s u ps → ∃ t mask, exec (.groupQuery w pk) s = .next t
      ∧ (∀ m, mask.testBit m = true ↔ m < 64 ∧ s.fab.declared = true ∧ isMember s m = true)
      ∧ Answers w 0 (leBytes 4 s.fab.epoch.toNat ++ leBytes 1 s.fab.gn.toNat ++ [0, 0, 0] ++ leBytes 8 mask
        ++ (List.range 64).flatMap (fun m => leBytes 2 (if isPartner s m then (litLanes s m).length else 0))) u t)
    ∧ (Passed (.laserRearm w pk) w s u ps →
      let bits : Nat := (if s.las.aClosed then 1 else 0) + (if s.las.bClosed then 2 else 0)
      (s.las.latch = true → s.las.aClosed = true → s.las.bClosed = true → ∃ t v, exec (.laserRearm w pk) s = .next t
        ∧ Answers w 0 [BitVec.ofNat 8 bits] v t ∧ v = { u with las := v.las, flt.quiets := v.flt.quiets }
        ∧ v.las = { s.las with latch := false, rearm := true, rearmStart := mtime s })
      ∧ (s.las.latch = false ∨ s.las.aClosed = false ∨ s.las.bClosed = false →
        ∃ t, exec (.laserRearm w pk) s = .next t ∧ Answers w 0 [BitVec.ofNat 8 bits] u t)))
  ∧ (∀ (r : TrainCmd) (s : State), s.ident.ml = false → s.fab.train = some r → ∃ t, exec .partnerTrainExpiry s = .next t
    ∧ r.started.toNat + 12000000 ≤ timeNs t ∧ t.fab.train = some { r with pending := [] } ∧ ∀ m ∈ r.pending, (peer t m).slot = .absent)

/-- Training, epochs and losses: the phases of a pair's training, its attempts and backoff; the front module commits changes of its
directory and every member takes them over; a pair without codewords for 100 µs is lost, and a member without the front module
leaves (R262 to R267). -/
def Claims.GroupMembership : Prop :=
  ∀ (s : State), s.ident.ml = false →
    (∀ (i : Fin 64) (pr : ProbeMsg) (m : Nat), planPartner (groupN s) s.fab.gid.toNat i.val = some m → (peer s m).slot = .training →
      (peer s m).phase = 1 → (peer s m).backoff = false → i.val ∉ s.fab.refusedFibres →
      let good := pr.modId = m ∧ pr.gn = groupN s ∧ pr.plan = farPlan s m i.val
      (good → ∃ t, exec (.probe i pr) s = .next t ∧ t = { s with fab.peers := t.fab.peers } ∧ peer t m = { peer s m with okFibre := true }
        ∧ ∀ k, k ≠ m → peer t k = peer s k)
      ∧ (¬good → ∃ t, exec (.probe i pr) s = .next t ∧ t.fab.refusedFibres = s.fab.refusedFibres ++ [i.val]
        ∧ (peer t m).refused = satInc (peer s m).refused ∧ (peer t m).okFibre = (peer s m).okFibre ∧ (SourcesHeld s → t.flt.nCorr = s.flt.nCorr + 1)
        ∧ ∀ k, k < 16 → (lane s (planLane i.val k)).underTest = false →
          (lane t (planLane i.val k)).state = .dark ∨ (lane t (planLane i.val k)).state = .spared))
    ∧ (∀ (m : ModuleId) (rtt : BitVec 16), (peer s m.val).slot = .training → (peer s m.val).backoff = false →
      let p := peer s m.val
      let only (x : Peer) (t : State) : Prop := t = { s with fab.peers := t.fab.peers } ∧ peer t m.val = x ∧ ∀ k, k ≠ m.val → peer t k = peer s k
      (p.phase = 1 → p.okFibre = true → ∃ t, exec (.trainingPhaseDone m rtt) s = .next t ∧ only { p with phase := 2, attempts := 0 } t)
      ∧ (p.phase = 2 → rtt.toNat ≤ 400 → ∃ t, exec (.trainingPhaseDone m rtt) s = .next t
        ∧ t = { s with fab.peers := t.fab.peers, out := t.out } ∧ (∀ k, k ≠ m.val → peer t k = peer s k)
        ∧ peer t m.val = { p with phase := 3, attempts := 0, rtt := rtt, ctrlSeq := (peer t m.val).ctrlSeq }
        ∧ ∀ r, s.fab.train = some r → r.mask.getLsbD m.val = true → .trainReq m.val r.mask ∈ t.out)
      ∧ (p.phase = 1 ∧ p.okFibre = false ∨ p.phase = 2 ∧ 400 < rtt.toNat → exec (.trainingPhaseDone m rtt) s = .next s)
      ∧ (p.phase = 3 → ∃ t, exec (.trainingPhaseDone m rtt) s = .next t ∧ (peer t m.val).phase = 4
        ∧ ∀ c, c < 3 → vc t m.val c = { pool := (litLanes s m.val).length * (if c = 0 then 4 else 32)
                                        credits := (((litLanes s m.val).length * (if c = 0 then 4 else 32) : Nat) : Int) })
      ∧ (p.phase = 4 → p.trained = false → ∃ t, exec (.trainingPhaseDone m rtt) s = .next t
        ∧ peer t m.val = { p with trained := true, ctrlUp := true } ∧ ∀ r, t.fab.train = some r → m.val ∉ r.pending)
      ∧ (p.trained = false → p.attempts < 3 → ∃ t, exec (.trainingTimeout m) s = .next t
        ∧ t = { s with fab.peers := t.fab.peers, fab.trainFail := s.fab.trainFail + 1 }
        ∧ peer t m.val = { p with attempts := p.attempts + 1, backoff := true, phase := if p.phase = 0 then 1 else p.phase })
      ∧ (p.trained = false → 3 ≤ p.attempts → ∃ t, exec (.trainingTimeout m) s = .next t ∧ t.fab.trainFail = s.fab.trainFail + 1
        ∧ (peer t m.val).slot = .absent ∧ t.fab.dirChanged = true))
    ∧ (∀ m : ModuleId, ∃ t, exec (.trainingRetry m) s = .next t ∧ t = { s with fab.peers := t.fab.peers }
      ∧ peer t m.val = { peer s m.val with backoff := false } ∧ ∀ k, k ≠ m.val → peer t k = peer s k)
    ∧ (isFront s = true → s.fab.dirChanged = true → mrtServes s = true →
      ∃ t, exec .epochCommit s = .next t ∧ t.fab.epoch = s.fab.epoch + 1 ∧ t.fab.dirChanged = false
        ∧ (∀ m ∈ members s, .epoch m (s.fab.epoch + 1) (directory s) ∈ t.out) ∧ ∀ m, (peer t m).slot = (peer s m).slot)
    ∧ (∀ (epoch : Word) (dir : List (BitVec 3)),
      (isFront s = true ∨ epoch = s.fab.epoch → exec (.epochMessage epoch dir) s = .next s)
      ∧ (isFront s = false → epoch ≠ s.fab.epoch → ∃ t, exec (.epochMessage epoch dir) s = .next t ∧ t.fab.epoch = epoch
        ∧ ∀ m c, dir[m]? = some c → m < groupN s → isSelf s m = false →
          (c = 4 → (peer t m).slot = .member) ∧ (c = 5 → (peer t m).slot = .absent)))
    ∧ (∀ m : ModuleId, (peer s m.val).trained = true → ∃ t, exec (.pairLost m) s = .next t ∧ (peer t m.val).trained = false
      ∧ (∀ p ∈ t.fab.tx, p.partner = m.val → p.blocked = true)
      ∧ (isFront s = true → (peer s m.val).slot = .member → (peer t m.val).slot = .absent ∧ t.fab.dirChanged = true)
      ∧ (isFront s = false → m.val ≠ 0 → .lossReport s.fab.gid.toNat m.val ∈ t.out))
    ∧ (∀ a b : ModuleId, (isFront s = false → exec (.lossReport a b) s = .next s)
      ∧ (isFront s = true → a ≠ b → (peer s (max a.val b.val)).slot = .member →
        ∃ t, exec (.lossReport a b) s = .next t ∧ (peer t (max a.val b.val)).slot = .absent ∧ t.fab.dirChanged = true))
    ∧ (isFront s = false → s.fab.declared = true → 1 < groupN s → (peer s 0).trained = false → (peer s 0).slot = .member →
      ∃ t, exec .memberLeave s = .next t ∧ t.fab.epoch = s.fab.epoch ∧ ∀ m ∈ members s, (peer t m).slot = .absent)

/-- Group time: the front module sends its module time to each trained partner; a member's offset is the tick plus half the round
trip less the arrival; it slews toward it, and a correction above 10 µs is recorded, stepped when forward and met at half rate when
backward; ten missed ticks are recorded (R268). -/
def Claims.GroupTime : Prop :=
  ∀ (s : State), s.ident.ml = false →
    (isFront s = true → ∃ t, exec .grpTick s = .next t ∧ t = { s with fab.peers := t.fab.peers, out := t.out }
      ∧ ∀ m, m < 64 → (peer s m).trained = true → .grpTick m (mtime s) ∈ t.out)
    ∧ (isFront s = false → exec .grpTick s = .next s)
    ∧ (∀ tick : DWord, isFront s = false → s.fab.declared = true → (peer s 0).trained = true →
      let off : Int := (tick.toNat : Int) + (((peer s 0).rtt.toNat / 2 : Nat) : Int) - (timeNs s : Int)
      let d := off - gtOffsetNow s
      ∃ t, exec (.grpTickReceived tick) s = .next t ∧ t.fab.missed = 0 ∧ t.fab.gtTarget = off ∧ t.ident = s.ident ∧ t.mrb = s.mrb
        ∧ (-10000 ≤ d → d ≤ 10000 → gtOffsetNow t = gtOffsetNow s ∧ t.flt = s.flt ∧ t.fab.gtHalf = false)
        ∧ (10000 < d → gtOffsetNow t = off ∧ t.flt.nCorr = s.flt.nCorr + 1)
        ∧ (d < -10000 → gtOffsetNow t = gtOffsetNow s ∧ t.fab.gtHalf = true ∧ t.flt.nCorr = s.flt.nCorr + 1))
    ∧ (isFront s = false → s.fab.declared = true → (peer s 0).slot = .member → ∃ t, exec .tickMissed s = .next t
      ∧ t.fab.missed = satAdd s.fab.missed 10 ∧ t.fab.gtTarget = s.fab.gtTarget ∧ t.flt.nCorr = s.flt.nCorr + 1)

/-- Groups of modules: commands, membership and group time. The clauses that rest on log entries 38, 39 and 55 are the model's
choices. -/
def Obligations.Groups : Prop := Claims.GroupCommands ∧ Claims.GroupMembership ∧ Claims.GroupTime

/-! ### Power, faults, keys and firmware -/

/-- The power commands: POWER_QUERY reads what is committed, the ceiling and the hottest dies; POWER_CEILING and THERMAL_MODE set
them; an ORDERLY_STOP puts the module into Stopping, and at its end grants are 0, lasers and lanes dark, and the module serves
again, or after a sensor's stop is Fault-held (R233, R350, R351, R357, R361). -/
def Claims.PowerCommands : Prop :=
  (∀ (w : Fn) (pk : Packet) (s u : State) (ps : List Byte),
    let p := cmdPart w ps
    let v := fieldAt ps 2 2
    (Passed (.powerQuery w pk) w s u ps →
      let whole := w = .pf ∧ pByte ps 0 = 0xFE
      let dies := leBytes 2 (hottestDeg s allLight % 65536).toNat ++ leBytes 2 (hottestDeg s allLogic % 65536).toNat
      (whole → ∃ t us, exec (.powerQuery w pk) s = .next t ∧ us ≤ 1000000 ∧ (throttledLately s (List.range 32) = false → us = 0)
        ∧ Answers w 0 (leBytes 2 (committed s) ++ leBytes 2 s.pwr.env.toNat ++ leBytes 4 us ++ dies) { u with free := s.free + 1 } t)
      ∧ (¬whole → (part s p).exist = false → ∃ t, exec (.powerQuery w pk) s = .next t ∧ Answers w 0x11 [] u t)
      ∧ (¬whole → (part s p).exist = true → ∃ t us, exec (.powerQuery w pk) s = .next t ∧ us ≤ 1000000
        ∧ (throttledLately s (quadsOf s p) = false → us = 0)
        ∧ Answers w 0 (leBytes 2 (partWatts s p) ++ leBytes 2 (part s p).ceil ++ leBytes 4 us ++ dies) { u with free := s.free + 1 } t))
    ∧ (Passed (.powerCeiling w pk) w s u ps →
      (pByte ps 0 = 0xFE → ∃ t, exec (.powerCeiling w pk) s = .next t ∧ Answers w 0 [] { u with pwr.env := BitVec.ofNat 10 v } t)
      ∧ (pByte ps 0 ≠ 0xFE → (part s (pByte ps 0)).exist = true → ∃ t x, exec (.powerCeiling w pk) s = .next t ∧ Answers w 0 [] x t
        ∧ x = { u with parts := x.parts, out := x.out } ∧ OtherPartitions (pByte ps 0) s x
        ∧ part x (pByte ps 0) = { part s (pByte ps 0) with ceil := v }))
    ∧ (Passed (.thermalMode w pk) w s u ps → ∃ t, exec (.thermalMode w pk) s = .next t
      ∧ Answers w 0 [] { u with pwr.round := decide (pByte ps 0 = 1), pwr.modeSet := true } t)
    ∧ (Passed (.orderlyStop w pk) w s u ps →
      (s.pwr.stopRun = false → touched s (List.range 32) = true → exec (.orderlyStop w pk) s = .next u)
      ∧ (s.pwr.stopRun = true → ∃ t, exec (.orderlyStop w pk) s = .next t ∧ t = { u with windows := t.windows }
        ∧ Waits w 1 (residentKeys s) u t)
      ∧ (s.pwr.stopRun = false → s.pwr.stop = none → s.rst.fatalHeld = false → touched s (List.range 32) = false → s.shows = [] →
        s.sessions = [] → ∃ t, exec (.orderlyStop w pk) s = .next t
        ∧ t.rst.service = .stopping ∧ t.pwr.stopRun = true ∧ t.pwr.stop = some (.command w) ∧ t.pwr.stopAt = mtime s ∧ Waits w 1 (residentKeys s) u t
        ∧ t.mrb = s.mrb ∧ t.hbm = s.hbm)))
  ∧ (∀ (c : StopCause) (s : State), s.pwr.stop = some c → s.pwr.stopRun = true → s.sessions = [] → s.shows = [] →
    ∃ t, exec .orderlyStopComplete s = .next t ∧ s.pwr.stopAt.toNat + 50000000 ≤ timeNs t
      ∧ (∀ z, z < 32 → (quadPwr t z).run = 0 ∧ (quadPwr t z).marble = 0 ∧ (zoe t z).trim.light = false)
      ∧ (∀ n, n < 1048576 → (marble s n).cause = 0 → (marble t n).cause = 7)
      ∧ (∀ l, l < 1024 → (lane s l).underTest = false → (lane t l).state = .dark ∨ (lane t l).state = .spared)
      ∧ (∀ m ∈ members s, (peer t m).slot = .absent)
      ∧ t.pwr.stopRun = false
      ∧ (∀ w, c = .command w → s.rst.fatalHeld = false → t.pwr.stop = none ∧ t.pwr.stopped = false
        ∧ (7 ≤ s.rst.step.toNat → s.rst.calDone = true → s.mrt.restricted = false → s.rst.fencedEast = false → s.rst.fencedWest = false →
          t.rst.service = .serving))
      ∧ (∀ k, c = .sensor k → t.rst.service = .faultHeld ∧ t.pwr.stopped = true
        ∧ (s.fab.tx = [] → t.flt.nCont = s.flt.nCont + 1)))

/-- The fault and log commands: FAULT_READ and OWNLOG_READ return records in ring order, a partition window's its own alone;
FAULT_CLEAR clears a Contained record that nothing holds, never a Fatal one; QUIET_SET sets the quiet period, whose end clears and
marks RECOVERED the source's records that nothing holds (R186, R234, R375, R377, R378). -/
def Claims.FaultCommands : Prop :=
  (∀ (w : Fn) (pk : Packet) (s u : State) (ps : List Byte),
    let first := fieldAt ps 2 2
    let n := pByte ps 4
    (Passed (.faultRead w pk) w s u ps → isSelf s (pByte ps 0) = true → ∃ t body, exec (.faultRead w pk) s = .next t
      ∧ Answers w 0 (leBytes 4 s.flt.ovf.toNat ++ leBytes 4 s.flt.newest.toNat ++ body) u t
      ∧ (w = .pf → body.length = 32 * n ∧ ∀ i, i < n → slice body (32 * i) 32 = recAt s ((first + i) % 512))
      ∧ (∀ p, w = .vf p → body = ((((List.range 512).map (fun i => (first + i) % 512)).filter (fun i =>
          (find s.flt.log i).any (fun r => decide (r.part.toNat = p.val)))).take n).flatMap (recAt s)))
    ∧ (Passed (.faultClear w pk) w s u ps → isSelf s (pByte ps 0) = true →
      (find s.flt.log first = none → ∃ t, exec (.faultClear w pk) s = .next t ∧ Answers w 0 [] u t)
      ∧ ∀ r, find s.flt.log first = some r →
        (r.high = 2 ∨ r.high = 1 ∧ r.cleared = false ∧ recHeld s r = true → ∃ t, exec (.faultClear w pk) s = .next t ∧ Answers w 0x13 [] u t)
        ∧ (r.high = 0 → ∃ t, exec (.faultClear w pk) s = .next t ∧ Answers w 0 [] u t)
        ∧ (r.high = 1 → r.cleared = true ∨ recHeld s r = false → s.pwr.stop = none → ∃ t v, exec (.faultClear w pk) s = .next t
          ∧ Answers w 0 [] v t ∧ v = { u with flt.log := v.flt.log } ∧ find v.flt.log first = some { r with cleared := true }
          ∧ ∀ i, i ≠ first → find v.flt.log i = find s.flt.log i))
    ∧ (Passed (.ownlogRead w pk) w s u ps →
      let l := if pByte ps 0 = 0 then s.mrb.logEast else s.mrb.logWest
      ∃ t body newest, exec (.ownlogRead w pk) s = .next t ∧ Answers w 0 (leBytes 4 l.overflow.toNat ++ leBytes 4 newest ++ body) u t
      ∧ (l.entries ≠ [] → newest = (l.next + 255) % 256)
      ∧ (w = .pf → ∀ i e, i < n → entryAt l ((first + i) % 256) = some e → slice body (32 * i) 32 = entryBytes .pf e))
    ∧ (Passed (.quietSet w pk) w s u ps → ∃ t, exec (.quietSet w pk) s = .next t
      ∧ Answers w 0 [] { u with flt.quiet := BitVec.ofNat 16 (fieldAt ps 0 4) } t))
  ∧ (∀ (src : FaultSource) (q : Quiet) (s : State), s.flt.quiets.find? (fun q => decide (q.src = src)) = some q →
    (mrtServes s = false → exec (.quietPeriodEnd src) s = .next s)
    ∧ (mrtServes s = true → s.pwr.stop = none → ∃ t, exec (.quietPeriodEnd src) s = .next t
      ∧ q.start.toNat + 1000000 * s.flt.quiet.toNat ≤ timeNs t ∧ (∀ e ∈ t.flt.quiets, e.src ≠ src) ∧ t.flt.newest = s.flt.newest
      ∧ ∀ i r, find s.flt.log i = some r → find t.flt.log i = some
        (if r.src = src ∧ r.high = 1 ∧ r.cleared = false ∧ recHeld s r = false then { r with cleared := true, recovered := true } else r)))

/-- The commands for power and for the fault log. The clauses that rest on log entries 58, 63 and 64 are the model's choices. -/
def Obligations.PowerAndFaultCommands : Prop := Claims.PowerCommands ∧ Claims.FaultCommands

/-- The key commands: KEY_INSTALL refuses a partition in use, a blob that does not open or is another's, and a generation not above
the stored one; else it installs key, signer and generation, and what the partition's memory held can no longer be read; an accepted
allowance lifts Restricted; MEASUREMENTS reads the digests; a factory opcode ends with FACTORY_ONLY in the field, one that is not listed with BAD_OPCODE (R171, R222, R235, R236,
R245, R249, R250, R343, R403). -/
def Claims.KeyCommands : Prop :=
  ∀ (w : Fn) (pk : Packet) (s u : State) (ps : List Byte),
    let b := ps.drop 8
    let fails (c : Instr) (st : Nat) : Prop := ∃ t, exec c s = .next t ∧ Answers w st [] u t
    (Passed (.keyInstall w pk) w s u ps →
      let p := pByte ps 0
      let gen := fieldAt b 4 4
      ((part s p).exist = false ∨ blobForm b = false → fails (.keyInstall w pk) 0x11)
      ∧ ((part s p).exist = true → blobForm b = true → keyInUse s p = true → fails (.keyInstall w pk) 0x28)
      ∧ ((part s p).exist = true → blobForm b = true → keyInUse s p = false →
        let good := blobOpens s b = true ∧ fieldAt b 8 8 = s.ident.serial.toNat ∧ fieldAt b 16 1 = p
        (¬good → fails (.keyInstall w pk) 0x40)
        ∧ (good → gen ≤ (part s p).keygen.toNat → fails (.keyInstall w pk) 0x11)
        ∧ (good → (part s p).keygen.toNat < gen → ∃ t v, exec (.keyInstall w pk) s = .next t ∧ Answers w 0 (leBytes 4 gen) v t
          ∧ v = { u with parts := v.parts, hbm := v.hbm, free := v.free, sec.draws := s.sec.draws + 1 } ∧ OtherPartitions p s v
          ∧ part v p = { part s p with keygen := BitVec.ofNat 32 gen, hasKey := true, imageKey := (blobKeys b).take 32
                                       signer := (blobKeys b).drop 32, memKey := s.sec.draws }
          ∧ (∀ h, ∀ l ∈ (rlc v h).lines, h < 2 → l.part.toNat ≠ p)
          ∧ (∀ c, c ∉ ownedPchs s p → pch v c = pch s c)
          ∧ ∀ c o, c < 192 → o < 2147483648 →
            find v.hbm.mem (hbmKey c o) = if c ∈ ownedPchs s p then none else find s.hbm.mem (hbmKey c o))))
    ∧ (Passed (.allowance w pk) w s u ps →
      let good := allowanceForm b = true ∧ allowanceSigned b = true ∧ fieldAt b 8 8 = s.ident.serial.toNat
      (¬good → fails (.allowance w pk) 0x40)
      ∧ (good → slice b 16 144 ≠ imageDigests s → fails (.allowance w pk) 0x11)
      ∧ (good → slice b 16 144 = imageDigests s → ∃ t v, exec (.allowance w pk) s = .next t ∧ Answers w 0 [BitVec.ofNat 8 v.rst.service.code] v t
        ∧ v = { u with mrt.allowance := b, mrt.allowed := true, rst.service := v.rst.service, rst.cause := v.rst.cause }
        ∧ (s.rst.service ≠ .restricted → v.rst.service = s.rst.service)
        ∧ (s.rst.service = .restricted → v.rst.service = (if s.rst.calDone then
            (if s.rst.fencedEast || s.rst.fencedWest then .degraded else .serving) else .calibrating))))
    ∧ (Passed (.measurements w pk) w s u ps → isSelf s (pByte ps 0) = true → ∃ t show', exec (.measurements w pk) s = .next t
      ∧ Answers w 0 ([4, 5, 6].flatMap (fun i => digestOf (find s.sec.meas i)) ++ show') { u with free := s.free + 48 } t
      ∧ ∀ p, w = .vf p → show' = digestOf (find s.sec.meas (16 + p.val)))
    ∧ (∀ op : BitVec 16, let code := op.toNat
      let ready := fnOn s w = true ∧ winBusy s w = false ∧ mrtServes s = true ∧ pk.plen.toNat ≤ 2048
      let ended (st : BitVec 16) (t : State) : Prop := (window t w).status = st ∧ (window t w).rlen = 0 ∧ (window t w).run = none
        ∧ (window t w).opcode = op ∧ (∀ f, f ≠ w → window t f = window s f) ∧ t.parts = s.parts
      (code / 256 = 15 → s.sec.factory = true → exec (.factoryOpcode w op pk) s = .refused .factoryMode)
      ∧ (code / 256 = 15 → s.sec.factory = false → ready → ∃ t, exec (.factoryOpcode w op pk) s = .next t ∧ ended 0x14 t
        ∧ t.flt.nCorr = s.flt.nCorr + (if look s.flt.firsts 13 0 = timeNs s / 1000000000 + 1 then 0 else 1))
      ∧ (code / 256 ≠ 15 → code ∉ listedOpcodes → ready → ∃ t, exec (.factoryOpcode w op pk) s = .next t ∧ ended 0x10 t ∧ t.flt = s.flt)
      ∧ (code ∈ listedOpcodes → exec (.factoryOpcode w op pk) s = .next s))

/-- Firmware: FW_STAGE reads the image from host memory and stages it once it verifies; FW_COMMIT writes the bank that was not
booted and sets the boot pointer, defers outside 0 to 85 °C, refuses an untested Marionette image, and resets the Standby; the
hand-over and the deferred writes follow (R103, R235, R340, R341, R344, R363). -/
def Claims.FirmwareCommands : Prop :=
  (∀ (w : Fn) (pk : Packet) (s u : State) (ps : List Byte),
    let kind := pByte ps 0
    (Passed (.fwStage w pk) w s u ps →
      let len := fieldAt ps 16 8
      let addr := fieldAt ps 8 8
      (0 < len → imageReading s = false → fnDma s .pf = false → ∃ t, exec (.fwStage w pk) s = .next t ∧ Waits w 0 [1] u t)
      ∧ (0 < len → imageReading s = false → fnDma s .pf = true → ∀ v, hostReadReq 4096 .image addr (readLen u 4096 addr len) u = some v →
        exec (.fwStage w pk) s = .next v)
      ∧ (len = 0 → Config.imageVerifies kind (imageId []) = false → ∃ t, exec (.fwStage w pk) s = .next t ∧ Answers w 0x40 [] u t))
    ∧ (Passed (.fwCommit w pk) w s u ps → isSelf s (pByte ps 1) = true →
      let src := if kind = 0 then s.mrt.mrtSrc else if kind = 1 then s.mrt.trimSrc else s.mrt.kalSrc
      let bank := decide (src ≠ 1)
      let key := 2 * kind + (if bank then 1 else 0)
      let fails (st : Nat) (v : State) : Prop := ∃ t, exec (.fwCommit w pk) s = .next t ∧ Answers w st [] v t
      let wrote (v : State) : Prop := find v.mrt.flash key = some (look s.mrt.staged kind 0) ∧ look v.mrt.bootBank kind false = bank
        ∧ (∀ k, k ≠ key → find v.mrt.flash k = find s.mrt.flash k) ∧ (∀ k, k ≠ kind → look v.mrt.bootBank k false = look s.mrt.bootBank k false)
        ∧ v.rst = s.rst ∧ v.parts = s.parts ∧ v.mrb = s.mrb
      (has s.mrt.staged kind = false → fails 0x29 u)
      ∧ (has s.mrt.staged kind = true → kind = 0 → commitTested s = false → fails 0x21 u)
      ∧ (has s.mrt.staged kind = true → kind ≠ 0 ∨ commitTested s = true →
        (flashOk s = false → ∃ v, fails 0x1A v ∧ 1 ∈ v.mrt.deferred ∧ v.mrt.commit = some kind ∧ v.mrt.flash = s.mrt.flash)
        ∧ (flashOk s = true → kind ≠ 0 ∨ standbyMrt s = none → ∃ t v, exec (.fwCommit w pk) s = .next t
          ∧ Answers w 0 [if bank then 1 else 0] v t ∧ wrote v)
        ∧ (flashOk s = true → kind = 0 → ∀ m, standbyMrt s = some m → ∃ t, exec (.fwCommit w pk) s = .next t ∧ wrote t ∧ t.mrt.commit = some 0
          ∧ (mrtOf t m).role = .resyncing ∧ (mrtOf t m).booting = true ∧ (mrtOf t m).isHeld = false
          ∧ window t w = { window u w with run := (window u w).run.map (fun r => { r with arg := 1, acc := [if bank then 1 else 0] }) }))))
  ∧ (∀ (m : Mrt) (due : DWord) (s : State), s.mrt.auth = some m → s.mrt.handAt = some due → mrtServes s = true →
    ∃ t, exec .handOverStop s = .next t ∧ due.toNat ≤ timeNs t
      ∧ t = { s with ident.aux := t.ident.aux, mrt.stopped := true, mrt.handAt := none, rst.handover := true })
  ∧ (∀ (s : State), s.mrt.deferred ≠ [] →
    let temp := Max.max (sensor s 154).value (sensor s 155).value
    (temp < 32 ∨ 1328 < temp → exec .flashWriteResume s = .next s)
    ∧ (32 ≤ temp → temp ≤ 1328 → ∃ t, exec .flashWriteResume s = .next t ∧ t.mrt.deferred = []
      ∧ (∀ z, z < 32 → let x := (zoe s z).trim
        (∀ r, 0 ∈ s.mrt.deferred → x.flashPend = some r → zoe t z = { zoe s z with trim := (zoe t z).trim } ∧ flashRec (zoe t z).trim = r
          ∧ (zoe t z).trim.flashInB = !x.flashInB ∧ (zoe t z).trim.flashPend = none ∧ (zoe t z).trim.elems = x.elems)
        ∧ (0 ∉ s.mrt.deferred ∨ x.flashPend = none → zoe t z = zoe s z))
      ∧ (1 ∉ s.mrt.deferred → t.mrt.flash = s.mrt.flash)
      ∧ (∀ k, 1 ∈ s.mrt.deferred → s.mrt.commit = some k → k < 3 → ∃ b : Bool, look t.mrt.bootBank k false = b
        ∧ find t.mrt.flash (2 * k + (if b then 1 else 0)) = some (look s.mrt.staged k 0))))

/-- The commands for keys and for firmware. The clauses that rest on log entries 65, 66 and 67 are the model's choices. -/
def Obligations.KeyAndFirmwareCommands : Prop := Claims.KeyCommands ∧ Claims.FirmwareCommands

/-! ### Light and links -/

/-- The laser banks: a source in service; a failed source gives way to its spare, or lowers the ceiling, or fences the half; a
failed comb takes its lanes back to Locking or Spares them; an open channel stops every source; a disagreement latches; the rearm
delay starts the banks again (R290 to R293, R307 to R310). -/
def Claims.LaserBanks : Prop :=
  ∀ (s : State),
    (∀ k : Fin 30, let x := source s k.val
      let fitted := k.val < 10 ∨ s.ident.ml = false
      (¬fitted → exec (.laserSourceStable k) s = .next s ∧ exec (.sourceDegrading k) s = .next s)
      ∧ (fitted → x.state = .starting → x.switching = false → ∃ t, exec (.laserSourceStable k) s = .next t
        ∧ t = { s with las.sources := t.las.sources, free := s.free + 1 } ∧ (source t k.val).state = .inService
        ∧ (source t k.val).slot = x.slot ∧ ∀ j, j ≠ k.val → source t j = source s j)
      ∧ (fitted → x.state = .inService → ∃ t, exec (.sourceDegrading k) s = .next t ∧ source t k.val = { x with degrading := true }
        ∧ t.flt.nCorr = s.flt.nCorr + 1 ∧ ∀ j, j ≠ k.val → source t j = source s j)
      ∧ (x.switching = true → ∃ t, exec (.spareSwitchDone k) s = .next t ∧ t.las.swaps = s.las.swaps + 1 ∧ t.flt.nCorr = s.flt.nCorr + 1
        ∧ source t k.val = { x with switching := false, state := if s.las.off = false ∧ s.las.allowed = true then .inService else .off }))
    ∧ (∀ k : Fin 10, let x := source s k.val
      let h := k.val / 5
      x.state = .inService ∨ x.state = .starting → ∃ t, exec (.computeSourceFailure k) s = .next t
        ∧ source t k.val = { x with state := .failed, slot := 31, out := 0, degrading := false, switching := false }
        ∧ ((source s (5 * h + 4)).state = .standby → (source t (5 * h + 4)).slot = x.slot ∧ (source t (5 * h + 4)).switching = true ∧ t.flt = s.flt)
        ∧ ((source s (5 * h + 4)).state ≠ .standby → 0 < laserCount t h → t.flt.nCont = s.flt.nCont + 1
          ∧ ∀ z, z / 16 = h → (zoe t z).detpwr = limitDet t h (zoe s z).detpwr)
        ∧ ((source s (5 * h + 4)).state ≠ .standby → laserCount t h = 0 → halfFenced t h = true
          ∧ ∀ z, z / 16 = h → z < 32 → (zoe t z).trim.light = false))
    ∧ (∀ k : Fin 20, s.ident.ml = false → let x := source s (k.val + 10)
      let spare := 26 + x.slot.toNat / 4
      x.slot.toNat < 16 → x.state = .inService → ∃ t, exec (.combFailure k) s = .next t
        ∧ source t (k.val + 10) = { x with state := .failed, slot := 31, out := 0, degrading := false, switching := false }
        ∧ ((source s spare).state = .standby → (source t spare).slot = x.slot ∧ (source t spare).switching = true
          ∧ ∀ l ∈ combLanes x.slot.toNat, ((lane s l).state = .lit → (lanePartner s l).isSome = true →
              (lane t l).state = .locking ∧ (lane t l).afterComb = true ∧ (lane t l).slice = (lane s l).slice)
            ∧ ((lane s l).state = .draining → (lane t l).state = .dark))
        ∧ ((source s spare).state ≠ .standby → ∀ l ∈ combLanes x.slot.toNat,
          (lane s l).state = .lit ∨ (lane s l).state = .draining ∨ (lane s l).state = .dormant → (lane t l).state = .spared ∧ (lane t l).cause = 8))
    ∧ (∀ (ch : Channel) (ma : Byte),
      (chClosed s ch = true → ∃ t, exec (.interlockOpen ch ma) s = .next t ∧ chClosed t ch = false ∧ t.las.off = true ∧ t.las.rearm = false
        ∧ t.las.opens = s.las.opens + 1 ∧ (SourcesHeld s → t.flt.nCorr = s.flt.nCorr + 1)
        ∧ (s.las.off = false → t.side.laserOn = false ∧ (∀ n, n < 30 → (source t n).state ≠ .starting ∧ (source t n).state ≠ .inService)
          ∧ ∀ z, z < 32 → (zoe t z).trim.light = false))
      ∧ (chClosed s ch = false → ∃ t, exec (.interlockOpen ch ma) s = .next t ∧ t = { s with las := t.las } ∧ chClosed t ch = false
        ∧ t.las.opens = s.las.opens ∧ t.las.off = s.las.off ∧ t.las.rearm = s.las.rearm)
      ∧ ∃ t, exec (.interlockClose ch ma) s = .next t ∧ t = { s with las := t.las } ∧ chClosed t ch = true ∧ t.las.off = s.las.off
        ∧ (chClosed s ch = false → t.las.aClosed = true → t.las.bClosed = true → s.las.latch = false → s.las.off = true →
          t.las.rearm = true ∧ t.las.rearmStart = mtime s)
        ∧ (s.las.latch = true → t.las.rearm = s.las.rearm))
    ∧ (∀ a : DWord, s.las.differSince = some a → s.las.latch = false → ∃ t, exec .disagreementLatch s = .next t ∧ t.las.latch = true
      ∧ t.las.rearm = false ∧ t.las.disagree = s.las.disagree + 1 ∧ t.flt.nCont = s.flt.nCont + 1 ∧ a.toNat + 10000000 ≤ timeNs t)
    ∧ (s.las.rearm = true → s.las.latch = false → s.las.aClosed = true → s.las.bClosed = true → ∃ t, exec .rearmDelayEnd s = .next t
      ∧ t.las.off = false ∧ t.las.rearm = false ∧ s.las.rearmStart.toNat + 1000000000 ≤ timeNs t
      ∧ (s.las.allowed = true → t.side.laserOn = true ∧ ∀ n, n < 10 ∨ n < 30 ∧ s.ident.ml = false → (source s n).state = .off → (source s n).slot ≠ 31 →
        (source t n).state = .starting))

/-- Die links: a UCIe module trains, drops, or fails, and a logic-die port with fewer than 24 modules up fences its half; the
inter-hub link counts beats, steers spares, asks for replays, and retrains, a failure being Fatal; loop-backs run on ports that are
down (R180, R318 to R324, R326). -/
def Claims.DieLinkEvents : Prop :=
  ∀ (s : State),
    (∀ (h : Half) (m : Fin 65),
      let x := ucie s (halfNo h) m.val
      let others (t : State) : Prop := ∀ g k, g < 2 → k < 65 → (g ≠ halfNo h ∨ k ≠ m.val) → ucie t g k = ucie s g k
      let port (t : State) : Prop := m.val < 48 → (∀ i, i < 48 → (ucie t (halfNo h) i).state ≠ 1) →
        (portUp t (halfNo h) m.val < 24 → halfFenced t (halfNo h) = true)
        ∧ (24 ≤ portUp t (halfNo h) m.val → halfFenced t (halfNo h) = halfFenced s (halfNo h))
      (∀ rep : UcieReport, x.state = 1 →
        let wrong : Bool := decide (m.val < 48) && !s.ident.ml && rep.bridge
        let ok : Bool := rep.rateOk && (decide (48 ≤ m.val) || rep.dieOk) && !wrong
        ∃ t, exec (.ucieModuleTrained h m rep) s = .next t ∧ others t ∧ port t
          ∧ ucie t (halfNo h) m.val = { x with state := if ok then (if rep.repaired = 0 then 2 else 3) else 4, proto := rep.bridge
                                               repaired := rep.repaired }
          ∧ (wrong = true → t.flt.nFatal = s.flt.nFatal + 1 ∧ t.rst.fatalHeld = true))
      ∧ (x.state ≠ 1 → ∀ rep, exec (.ucieModuleTrained h m rep) s = .next s)
      ∧ (x.state = 2 ∨ x.state = 3 → ∃ t, exec (.ucieModuleDrop h m) s = .next t ∧ t = { s with d2d.mods := t.d2d.mods, free := s.free + 1 }
        ∧ others t ∧ (ucie t (halfNo h) m.val).state = 1)
      ∧ (x.state = 1 → ∃ t, exec (.ucieRetrainTimeout h m) s = .next t ∧ others t ∧ port t ∧ ucie t (halfNo h) m.val = { x with state := 4 }))
    ∧ (∀ (h : Half) (g : Fin 48),
      let x := ihl s (halfNo h) g.val
      let recent (ts : List Nat) : Nat := (ts.filter (fun t => decide (timeNs s < t + 1000000))).length + 1
      (x.trained = true →
        (∀ wire : Fin 138, ∃ t, exec (.ihlCorrectedBeat h g wire) s = .next t ∧ t = { s with d2d.groups := t.d2d.groups, d2d.ihlCe := s.d2d.ihlCe + 1 }
          ∧ let n := recent (look x.wires wire.val [])
            let y := ihl t (halfNo h) g.val
            (n ≤ 16 → y.spareFor = x.spareFor ∧ y.retrainDue = x.retrainDue)
            ∧ (16 < n → x.spareFor = none → y.spareFor = some wire.val ∧ y.retrainDue = x.retrainDue)
            ∧ (16 < n → x.spareFor.isSome = true → x.spareFor ≠ some wire.val ∨ x.spareUsed = true → y.retrainDue = true))
        ∧ ∃ t, exec (.ihlUncorrectableBeat h g) s = .next t ∧ t.d2d.ihlUe = s.d2d.ihlUe + 1 ∧ .replay h g.val ∈ t.out
          ∧ (ihl t (halfNo h) g.val).retrainDue = (x.retrainDue || decide (4 < recent x.ueTimes))
          ∧ (ihl t (halfNo h) g.val).spareUsed = (x.spareUsed || x.spareFor.isSome))
      ∧ (x.retrainDue = true → ∃ t, exec (.ihlRetrain h g) s = .next t ∧ t.d2d.ihlTraining = true ∧ t.d2d.ihlReset = true
        ∧ t.d2d.retrains = satInc s.d2d.retrains ∧ (∀ k, k < 2 → (rlc t k).lines = []) ∧ t.hbm.mem = s.hbm.mem
        ∧ ∀ i j, i < 2 → j < 48 → (ihl t i j).trained = false))
    ∧ (s.d2d.ihlTraining = true →
      (∃ t, exec (.ihlTrained none) s = .next t ∧ t.d2d.ihlTraining = false ∧ t.d2d.ihlReset = false ∧ t.flt = s.flt
        ∧ ∀ i j, i < 2 → j < 48 → (ihl t i j).trained = true)
      ∧ ∀ g : Fin 48, ∃ t, exec (.ihlTrained (some g)) s = .next t ∧ t.flt.nFatal = s.flt.nFatal + 1 ∧ t.rst.service = .faultHeld
        ∧ t.d2d.ihlReset = s.d2d.ihlReset ∧ (ihl t 0 g.val).trained = false)
    ∧ (∀ v : Word, s.d2d.lbRunning = false →
      let point := v.toNat / 2 ^ 24 % 32
      let ms := v.toNat % 2 ^ 16
      let go := v.getLsbD 31 = true ∧ point ≤ 2 ∧ 1 ≤ ms ∧ ms ≤ 1000
        ∧ lbIdle s point (v.toNat / 2 ^ 23 % 2) (v.toNat / 2 ^ 16 % 128) = true
      ∃ t, exec (.d2dLbCtl v) s = .next t ∧ t = { s with d2d := t.d2d } ∧ t.d2d.lbPoint.toNat = point ∧ t.d2d.lbMs.toNat = ms
        ∧ t.d2d.lbModule.toNat = v.toNat / 2 ^ 16 % 128 ∧ t.d2d.mods = s.d2d.mods ∧ t.d2d.groups = s.d2d.groups
        ∧ (go → t.d2d.lbRunning = true ∧ t.d2d.lbDone = false ∧ t.d2d.lbStart = timeNs s) ∧ (¬go → t.d2d.lbRunning = false ∧ t.d2d.lbDone = s.d2d.lbDone))
    ∧ (∀ bits errs : BitVec 48, s.d2d.lbRunning = true → ∃ t, exec (.loopbackDone bits errs) s = .next t
      ∧ t = { s with ident.aux := t.ident.aux, d2d := t.d2d } ∧ s.d2d.lbStart + 1000000 * s.d2d.lbMs.toNat ≤ timeNs t
      ∧ t.d2d = { s.d2d with lbRunning := false, lbDone := true, lbPass := decide (errs = 0), lbBits := bits, lbErr := errs })

/-- The laser banks with their interlock, and the links between dies. The clauses that rest on log entries 40, 41, 42, 43 and 44 are
the model's choices. -/
def Obligations.LasersAndDieLinks : Prop := Claims.LaserBanks ∧ Claims.DieLinkEvents

/-! ### The Marionettes -/

/-- The lease: renewals reach the peer keeper and are acknowledged; three unconfirmed let the Active hold its peer; a watchdog, an
expiry, a claim and its timeout, the first claims after a reset, and what a boot joins, with the Out causes of R336 (R327 to R332,
R336, R338, R342, R344). -/
def Claims.MarionetteLease : Prop :=
  ∀ (s : State),
    (∀ (a : Mrt) (seq : Word) (yoyo wires : Bool), s.mrt.holder = some a → s.mrt.pendRenewal = some seq →
      (yoyo = false → wires = false → exec (.renewal seq yoyo wires) s = .next s)
      ∧ (yoyo = true ∨ wires = true → ∃ t, exec (.renewal seq yoyo wires) s = .next t ∧ t.mrt.recvSeq = seq ∧ t.mrt.lastRecv = mtime s
        ∧ (mrtOf t (otherMrt a)).lastKick = mtime s ∧ .renewalAck seq ∈ t.out ∧ t = { s with mrt := t.mrt, out := t.out })
      ∧ ∃ t, exec (.renewalAck seq) s = .next t ∧ t = { s with mrt := t.mrt } ∧ t.mrt.rseq = seq ∧ t.mrt.pendRenewal = none
        ∧ t.mrt.unconfRun = 0 ∧ t.mrt.lastRenewal = (mrtOf s a).lastKick)
    ∧ (∀ a : Mrt, s.mrt.holder = some a → 3 ≤ s.mrt.unconfRun → s.mrt.peerHeld = false → s.mrt.stopped = false →
      (∃ t, exec (.peerResetAssert false) s = .next t ∧ t = { s with mrt.stopped := true })
      ∧ ∃ t, exec (.peerResetAssert true) s = .next t ∧ t.mrt.peerHeld = true ∧ (mrtOf t (otherMrt a)).isHeld = true
        ∧ (mrtOf t (otherMrt a)).role = .out ∧ (mrtOf t (otherMrt a)).cause = 5 ∧ t.mrt.pendRenewal = none ∧ t.mrt.unconfRun = 0
        ∧ t.mrt.lastRenewal = mtime s ∧ t.mrt.holder = some a)
    ∧ (∀ m : Mrt, let x := mrtOf s m
      x.role ≠ .out → x.isHeld = false → x.booted = true → ∃ t, exec (.watchdogExpiry m) s = .next t ∧ x.lastKick.toNat + 60000 ≤ timeNs t
        ∧ (mrtOf t m).role = .out ∧ (mrtOf t m).cause = 1 ∧ (mrtOf t m).isHeld = true ∧ mrtOf t (otherMrt m) = mrtOf s (otherMrt m)
        ∧ t.mrt.outs = s.mrt.outs + 1 ∧ t.flt.nCorr = s.flt.nCorr + 1 ∧ t.mrt.holder = s.mrt.holder)
    ∧ (∀ a : Mrt, s.mrt.holder = some a → (mrtOf s a).role = .active → ∃ t, exec .leaseExpiry s = .next t ∧ t.mrt.holder = none
      ∧ s.mrt.lastRenewal.toNat + 100000 ≤ timeNs t ∧ (mrtOf t a).role = .out ∧ (mrtOf t a).cause = 5
      ∧ ((mrtOf s (otherMrt a)).role = .standby → t.mrt.expiredAt = some (mtime t) ∧ t.rst = s.rst)
      ∧ ((mrtOf s (otherMrt a)).role = .resyncing → t.rst.service = .faultHeld ∧ t.flt.nFatal = s.flt.nFatal + 1))
    ∧ (∀ (m : Mrt) (due : DWord), s.mrt.expiredAt = some due → s.mrt.holder = none →
      ((mrtOf s m).role = .standby → (mrtOf s m).armed = true → ∃ t, exec (.claimGrant m) s = .next t ∧ t.mrt.holder = some m
        ∧ (mrtOf t m).role = .active ∧ (mrtOf t m).armed = false ∧ t.mrt.expiredAt = none ∧ t.mrt.takeovers = s.mrt.takeovers + 1
        ∧ t.mrt.rseq = s.mrt.recvSeq + 1 ∧ t.mrt.firstTick = true ∧ due.toNat ≤ timeNs t ∧ s.mrt.lastRecv.toNat + 140000 ≤ timeNs t
        ∧ s.mrt.nohold.toNat ≤ t.mrt.nohold.toNat)
      ∧ ∃ t, exec .claimTimeout s = .next t ∧ due.toNat + 1000000 ≤ timeNs t ∧ t.rst.service = .faultHeld ∧ t.mrt.expiredAt = none
        ∧ t.flt.nFatal = s.flt.nFatal + 1)
    ∧ (∀ m : Mrt, (mrtOf s m).booting = true → (mrtOf s m).isHeld = false → 4 ≤ s.sec.stage.toNat → s.mrt.commit ≠ some 0 → s.rst.begun ≠ 1 →
      (∃ t, exec (.marionetteBootDone m false) s = .next t ∧ (mrtOf t m).role = .out ∧ (mrtOf t m).booting = false
        ∧ ((mrtOf s m).role ≠ .out → (mrtOf t m).cause = 7))
      ∧ (s.mrt.holder = none → ∃ t, exec (.marionetteBootDone m true) s = .next t ∧ (mrtOf t m).booted = true
        ∧ (mrtOf t m).version = (bootImage s 0).setWidth 48 ∧ (mrtOf t m).image = bootId s 0
        ∧ ((mrtOf t m).src = 2 ∨ Config.imageVerifies 0 (mrtOf t m).image = true
          ∧ look s.mrt.minSec 0 0 ≤ Config.imageSecurity 0 (mrtOf t m).image)
        ∧ (m = .m0 → s.mrt.claimed = false → t.mrt.holder = some .m0 ∧ (mrtOf t .m0).role = .active)
        ∧ (m = .m1 → t.mrt.holder = none ∧ (mrtOf t .m1).role = (mrtOf s .m1).role))
      ∧ (s.mrt.holder = some (otherMrt m) → ∃ t, exec (.marionetteBootDone m true) s = .next t ∧ t.mrt.holder = s.mrt.holder
        ∧ (mrtOf t m).booted = true
        ∧ ((bootImage s 0).setWidth 48 = (mrtOf s (otherMrt m)).version → (mrtOf t m).role = .resyncing ∧ (mrtOf t m).copied = 0)
        ∧ ((bootImage s 0).setWidth 48 ≠ (mrtOf s (otherMrt m)).version → (mrtOf t m).role = .out ∧ (mrtOf t m).cause = 2)))
    ∧ (s.mrt.holder = none → s.mrt.claimed = false → s.mrt.m1.booted = true → s.mrt.m1.isHeld = false → s.rst.begun ≠ 1 →
      ∃ t, exec .initialClaimTimeout s = .next t ∧ t.mrt.holder = some .m1 ∧ t.mrt.m1.role = .active ∧ s.mrt.m1.bootAt + 20000000 ≤ timeNs t
        ∧ t.mrt.m0.isHeld = true)
    ∧ (s.mrt.rebuild = true → s.mrt.holder.isSome = true → ∃ t, exec .rebuildDone s = .next t
      ∧ t = { s with mrt.rebuild := false, mrt.firstTick := true, mrt.nextTick := timeNs s })

/-- Mirroring and health: a frame in sequence is applied and acknowledged; one lost puts the Standby into Resyncing, which after
1,928 frames is Standby again; another version is Out with cause 2, silence with cause 4, a failed or missing report with cause 3
(R334 to R337, R346). -/
def Claims.MarionetteMirror : Prop :=
  ∀ (s : State) (a : Mrt), s.mrt.holder = some a →
    let o := otherMrt a
    let x := mrtOf s o
    (∀ (tick : Nat) (ver : BitVec 48) (crcOk : Bool), x.booted = true →
      (x.role = .standby → crcOk = true → ver = x.version → tick = s.mrt.lastFrame + 1 → ∃ t, exec (.mirrorFrame tick ver crcOk) s = .next t
        ∧ t = { s with mrt.lastFrame := tick, out := s.out ++ [.frameAck tick] })
      ∧ (x.role = .standby → crcOk = false ∨ ver = x.version ∧ tick ≠ s.mrt.lastFrame + 1 → ∃ t, exec (.mirrorFrame tick ver crcOk) s = .next t
        ∧ (mrtOf t o) = { x with role := .resyncing, armed := false, copied := 0 } ∧ t = { s with mrt := t.mrt })
      ∧ (x.role = .standby ∨ x.role = .resyncing → crcOk = true → ver ≠ x.version → ∃ t, exec (.mirrorFrame tick ver crcOk) s = .next t
        ∧ (mrtOf t o).role = .out ∧ (mrtOf t o).cause = 2 ∧ t.mrt.outs = s.mrt.outs + 1)
      ∧ (x.role = .resyncing → crcOk = true → ver = x.version → ∃ t, exec (.mirrorFrame tick ver crcOk) s = .next t ∧ t.mrt.lastFrame = tick
        ∧ (mrtOf t o).copied = x.copied + 1 ∧ .frameAck tick ∈ t.out ∧ (x.copied + 1 < 1928 → (mrtOf t o).role = .resyncing)
        ∧ (1928 ≤ x.copied + 1 → (mrtOf t o).role = .standby ∧ t.mrt.resyncs = s.mrt.resyncs + 1)))
    ∧ (∃ t, exec .frameAck s = .next t ∧ t = { s with mrt.lastAck := mtime s })
    ∧ (∀ v : Word, ∃ t, exec (.mrtCfg v) s = .next t ∧ t = { s with mrt.exercisedNext := v.getLsbD 0 })
    ∧ (x.role = .standby ∨ x.role = .resyncing → x.booted = true → ∃ t, exec .ackTimeout s = .next t ∧ (mrtOf t o).role = .out
      ∧ (mrtOf t o).cause = 4 ∧ s.mrt.lastAck.toNat + 1000000 ≤ timeNs t ∧ t.mrt.holder = some a)
    ∧ (x.role = .standby → (mrtOf s a).role = .active → s.mrt.exercised = true →
      (∃ t, exec (.healthReport true) s = .next t ∧ t = { s with mrt := t.mrt } ∧ t.mrt.healthPass = true ∧ t.mrt.healthAt = some (mtime s)
        ∧ (mrtOf t o).role = .standby)
      ∧ (∃ t, exec (.healthReport false) s = .next t ∧ (mrtOf t o).role = .out ∧ (mrtOf t o).cause = 3 ∧ t.mrt.healthPass = false)
      ∧ ∃ t, exec .healthTimeout s = .next t ∧ (mrtOf t o).role = .out ∧ (mrtOf t o).cause = 3 ∧ s.mrt.healthFrom + 300000000 ≤ timeNs t)

/-- The two Marionettes: the lease, and the mirror. The clauses that rest on log entries 56, 81 and 82 are the model's choices. -/
def Obligations.MarionettePair : Prop := Claims.MarionetteLease ∧ Claims.MarionetteMirror

/-- The control tick: without an Active holder nothing happens; the Active renews its lease with the next sequence, counts what went
unconfirmed, and, unless it rebuilds, does the tick's work, in which the commands that wait end once what they wait for has come
(R225, R327, R328, R334, R338). The clauses that rest on log entries 80 and 84 are the model's choices. -/
def Obligations.ControlTicks : Prop :=
  (∀ s : State, (∀ a, s.mrt.holder = some a → (mrtOf s a).role ≠ .active) → exec .controlTick s = .next s)
  ∧ (∀ (s : State) (a : Mrt), s.mrt.holder = some a → (mrtOf s a).role = .active →
    let v := renew a { (advanceTo (tickTime s) s) with mrt.nextTick := tickTime s + 20000 }
    let q := s.mrt.pendRenewal.getD s.mrt.rseq + 1
    tickTime s ≤ timeNs v
    ∧ (s.mrt.stopped = false → (mrtOf s a).lastKick ≠ mtime v → s.mrt.peerHeld = false → v.mrt.pendRenewal = some q ∧ .renewal q ∈ v.out
      ∧ v.mrt.unconf = s.mrt.unconf + (if s.mrt.pendRenewal.isSome then 1 else 0) ∧ (mrtOf v a).lastKick = mtime v)
    ∧ (s.mrt.stopped = false → (mrtOf s a).lastKick ≠ mtime v → s.mrt.peerHeld = true → v.mrt.rseq = q ∧ v.mrt.pendRenewal = none
      ∧ v.mrt.lastRenewal = mtime v)
    ∧ (s.mrt.rebuild = true → exec .controlTick s = .next v)
    ∧ (s.mrt.rebuild = false → s.rst.resetDue = none → ∃ t, exec .controlTick s = .next t ∧ t = dueReset (tickWork a v)))
  ∧ (∀ (w : Fn) (r : RunCmd) (s : State), (window s w).run = some r →
    let ps := cmdParams s w
    let p := cmdPart w ps
    let waits := settleCmd w s = s
    (r.opcode.toNat = 0x0200 ∨ r.opcode.toNat = 0x0201 ∨ r.opcode.toNat = 0x0202 ∨ r.opcode.toNat = 0x0203 → r.arg = 1 →
      (unitsDone s r.xs = false → waits) ∧ (unitsDone s r.xs = true → Answers w 0 [] s (settleCmd w s)))
    ∧ (r.opcode.toNat = 0x0303 → find s.shows p = none →
      Answers w 0 (leBytes 4 (r.xs.filter (fun k => (find s.sessions k).any (fun x => decide (x.state = .parked)))).length) s (settleCmd w s))
    ∧ (r.opcode.toNat = 0x0400 → s.las.off = true → Answers w 0x34 [] s (settleCmd w s))
    ∧ (r.opcode.toNat = 0x0400 → s.las.off = false → r.arg = 1 → calWaits s r.xs = true → waits)
    ∧ (r.opcode.toNat = 0x0404 → touched s [pByte ps 1] = false → Answers w 0 [] (requestFence (pByte ps 1) 1 s) (settleCmd w s))
    ∧ (r.opcode.toNat = 0x0501 → s.fab.trainRes = none → waits)
    ∧ (r.opcode.toNat = 0x0502 → s.las.off = false → (∃ l ∈ r.xs, (lane s l).state = .tuning ∨ (lane s l).state = .locking) → waits)
    ∧ (r.opcode.toNat = 0x0502 → s.las.off = false → (∀ l ∈ r.xs, (lane s l).state = .lit) →
      Answers w (if 65536 ≤ r.arg then 0x32 else if r.xs.length < r.arg then 0x31 else 0) (leBytes 2 r.xs.length ++ leBytes 2 0) s (settleCmd w s)))

/-! ### Sensors, supplies and resets -/

/-- The meters and sensors: Marbles pause above their cap; the thermal cap falls above a threshold and rises to 6 W below the
release point; input power over the envelope for 10 ms lowers the pool, 1 s below it restores it; a removed domain fences its
blocks; a sensor's reading trips, stops, or is kept; a stack's report sets its TEMP and REFX2, and stops the module above 95 °C
(R105, R169, R188, R349, R354, R355, R358 to R362). The clauses that rest on log entries 60, 61, 62 and 87 are the model's choices. -/
def Obligations.MetersAndSensors : Prop :=
  ∀ (s : State),
    (∀ (z : ZoeId) (energy : Nat), let q := quadPwr s z.val
      ∃ t, exec (.marblePowerMeter z energy) s = .next t ∧ t = { s with pwr := t.pwr, free := s.free + 1 }
        ∧ ((quadPwr t z.val).paused = true ↔ 100 * Min.min (10 * q.marble) (Min.min q.ramp q.thermal) < energy)
        ∧ t.pwr.mpause = s.pwr.mpause + (if q.paused then 64 else 0) ∧ (quadPwr t z.val).thermal = q.thermal ∧ (quadPwr t z.val).marble = q.marble)
    ∧ (∀ z : ZoeId, let q := quadPwr s z.val
      let above (ds : List Nat) (c : Int) : Prop := ∃ k ∈ ds, 16 * c < (sensor s k).value
      ∃ t, exec (.thermalCapUpdate z) s = .next t ∧ (quadPwr t z.val).ramp = Min.min (10 * q.marble) (q.ramp + 5)
        ∧ (above (logicDiodes z.val) 95 → (quadPwr t z.val).thermal = Max.max 10 (q.thermal - 10))
        ∧ (¬above (logicDiodes z.val) 95 → above (lightDiodes z.val) 62 → (quadPwr t z.val).thermal = Max.max 10 (q.thermal - 5))
        ∧ (¬above (logicDiodes z.val) 93 → ¬above (lightDiodes z.val) 60 → (quadPwr t z.val).thermal = Min.min 60 (q.thermal + 5))
        ∧ t = { s with pwr.quads := t.pwr.quads, side.alerts := t.side.alerts, host.pf := t.host.pf, out := t.out })
    ∧ (∀ watts dv : Nat, let env := s.pwr.env.toNat
      (watts ≤ env → s.pwr.underMs < 999 → ∃ t, exec (.inputPowerSample watts dv) s = .next t ∧ t.pwr.overMs = 0 ∧ t.pwr.poolCut = s.pwr.poolCut
        ∧ t.pwr.pin.toNat = Min.min 1023 watts ∧ t.pwr.volt.toNat = Min.min 1023 dv ∧ t.flt.nCorr = s.flt.nCorr)
      ∧ (env < watts → s.pwr.overMs < 9 → ∃ t, exec (.inputPowerSample watts dv) s = .next t ∧ t.pwr.overMs = s.pwr.overMs + 1
        ∧ t.pwr.poolCut = s.pwr.poolCut)
      ∧ (env < watts → s.pwr.overMs = 9 → ∃ t, exec (.inputPowerSample watts dv) s = .next t ∧ t.pwr.overMs = 0 ∧ t.flt.nCorr = s.flt.nCorr + 1
        ∧ t.pwr.poolCut = s.pwr.poolCut + (100 * (watts - env) + s.pwr.conv.toNat - 1) / s.pwr.conv.toNat)
      ∧ (watts < env → 999 ≤ s.pwr.underMs → ∃ t, exec (.inputPowerSample watts dv) s = .next t ∧ t.pwr.poolCut = 0))
    ∧ (∀ d : Domain,
      (domainFitted s d = false ∨ s.pwr.railsOn = false ∨ domainNo d ∈ s.pwr.domainsOff → exec (.domainOutOfRegulation d) s = .next s)
      ∧ (domainFitted s d = true → s.pwr.railsOn = true → domainNo d ∉ s.pwr.domainsOff → ∃ t, exec (.domainOutOfRegulation d) s = .next t
        ∧ domainNo d ∈ t.pwr.domainsOff
        ∧ (∀ z, d = .quad z → (zoe s z.val).state ≠ .off → (zoe t z.val).state = .fenced)
        ∧ (∀ h, d = .hubCore h ∨ d = .uncore h → halfFenced t (halfNo h) = true)
        ∧ (∀ h z, d = .lightAnalogue h ∨ d = .lightDigital h → z / 16 = halfNo h → (zoe t z).state = .off)
        ∧ (∀ k, d = .hbm k → (hstack t k.val).up = false)
        ∧ (∀ c l, d = .kaleidoscope c → l / 128 = c.val → (lane s l).underTest = false → (lane t l).state = .dark ∨ (lane t l).state = .spared)
        ∧ (∀ g, d = .guest g → (guest t (siteNo g)).isHeld = true ∧ (guest t (siteNo g)).link = 0)))
    ∧ (∀ (k : Fin 162) (temp : Int), k.val < 156 →
      let v := takeSample k.val temp s
      (s.pwr.auxOn = false → exec (.sensorSample k temp) s = .next s)
      ∧ (s.pwr.auxOn = true → s.rst.resetDue = none →
        (v.pwr.railsOn = true → aboveDeg v k.val (tripThreshold k.val) = true → ∃ t, exec (.sensorSample k temp) s = .next t
          ∧ t.rst.service = .faultHeld ∧ t.rst.last = 3 ∧ t.pwr.tripped = true ∧ t.pwr.railsOn = false ∧ t.rst.number = s.rst.number + 1)
        ∧ (aboveDeg v k.val (tripThreshold k.val) = false → aboveDeg v k.val (stopThreshold k.val) = true → v.pwr.railsOn = true →
          mrtServes s = true → s.pwr.stopRun = false → s.pwr.stop = none → s.pwr.stopped = false → s.rst.fatalHeld = false → s.shows = [] →
          ∃ t, exec (.sensorSample k temp) s = .next t ∧ t.rst.service = .stopping ∧ t.pwr.stop = some (.sensor k.val) ∧ k.val ∈ t.pwr.stopHeld)
        ∧ (aboveDeg v k.val (tripThreshold k.val) = false → aboveDeg v k.val (stopThreshold k.val) = false → s.pwr.stopHeld = [] →
          ∃ t, exec (.sensorSample k temp) s = .next t ∧ sensor t k.val = sensor v k.val ∧ t.rst = s.rst ∧ t.pwr.stop = s.pwr.stop
            ∧ (sensor t k.val).sampled = true ∧ (sensor t k.val).temp = temp)))
    ∧ (∀ (i : Fin 6) (k : Fin 162) (temp : Int), k.val = 156 + i.val → s.rst.resetDue = none →
      (s.ident.ml = true → 4 ≤ i.val → exec (.sensorSample k temp) s = .next s)
      ∧ (s.ident.ml = false ∨ i.val < 4 →
        (s.pwr.auxOn = false ∨ (hstack s i.val).up = false → exec (.sensorSample k temp) s = .next s)
        ∧ (s.pwr.auxOn = true → (hstack s i.val).up = true →
          (temp ≤ 1520 → s.pwr.stopHeld = [] → ∃ t, exec (.sensorSample k temp) s = .next t ∧ (hstack t i.val).refx2 = decide (1360 < temp)
            ∧ (0 ≤ temp → ((hstack t i.val).temp.toNat : Int) = temp / 16) ∧ (∀ j, j ≠ i.val → hstack t j = hstack s j)
            ∧ t.rst = s.rst ∧ t.pwr.stop = s.pwr.stop)
          ∧ (1520 < temp → s.pwr.railsOn = true → mrtServes s = true → s.pwr.stopRun = false → s.pwr.stop = none → s.pwr.stopped = false →
            s.rst.fatalHeld = false → s.shows = [] → ∃ t, exec (.sensorSample k temp) s = .next t ∧ (hstack t i.val).refx2 = true
              ∧ t.rst.service = .stopping ∧ t.pwr.stop = some (.sensor k.val) ∧ k.val ∈ t.pwr.stopHeld))))

/-- The supplies: a droop carried by hold-up and ridden through, or after 200 µs asking for an orderly stop, as 10 ms of overvoltage
do; a loss resets a module with rails; without the auxiliary rail nothing is kept but module flash, and with it again the release
order starts (R360, R367, R370, R389 to R391, R401). The clauses that rest on log entry 73 are the model's choices. -/
def Obligations.Supplies : Prop :=
  ∀ (s : State),
    (∀ dv : Nat, dv < 500 → s.pwr.mainOk = true → ∃ t, exec (.mainInputDroop dv) s = .next t
      ∧ t = { s with pwr.mainOk := false, pwr.holdup := true, pwr.droopAt := mtime s, pwr.inputDv := dv, pwr.overAt := none })
    ∧ (∀ dv : Nat, 500 ≤ dv → dv ≤ 560 → s.pwr.holdup = true → ∃ t, exec (.mainInputReturn dv) s = .next t ∧ t.pwr.holdup = false
      ∧ t.pwr.mainOk = true ∧ t.pwr.droops = satInc s.pwr.droops ∧ t.pwr.inputDv = dv ∧ t.rst = s.rst)
    ∧ (∀ dv : Nat, dv < 500 ∨ 560 < dv → exec (.mainInputReturn dv) s = .next s)
    ∧ (s.pwr.railsOn = true → s.pwr.stopRun = false → s.pwr.stop = none → s.pwr.stopped = false → s.rst.fatalHeld = false →
      (s.pwr.holdup = true → ∃ t, exec .holdupExpiry s = .next t ∧ t.pwr.holdup = false
        ∧ t.pwr.stop = some .supply ∧ s.pwr.droopAt.toNat + 200000 ≤ timeNs t ∧ (mrtServes s = true → t.rst.service = .stopping)
        ∧ (mrtServes s = false → t.rst = s.rst))
      ∧ ∀ a : DWord, s.pwr.overAt = some a → ∃ t, exec .overvoltageTimeout s = .next t ∧ t.pwr.stop = some .supply
        ∧ a.toNat + 10000000 ≤ timeNs t ∧ (mrtServes s = true → t.rst.service = .stopping))
    ∧ (∀ dv : Nat,
      ((440 ≤ dv ∨ s.pwr.holdup = true) → dv ≤ 580 → exec (.mainInputLoss dv) s = .next s)
      ∧ (dv < 440 ∧ s.pwr.holdup = false ∨ 580 < dv → ∃ t, exec (.mainInputLoss dv) s = .next t ∧ t.pwr.mainOk = false ∧ t.pwr.inputDv = dv
        ∧ (s.pwr.auxOn = true → s.pwr.railsOn = true → t.rst.last = 2 ∧ t.rst.number = s.rst.number + 1 ∧ t.pwr.railsOn = false)
        ∧ (s.pwr.auxOn = false ∨ s.pwr.railsOn = false → t.rst = s.rst)))
    ∧ (∃ t, exec .auxPowerLoss s = .next t ∧ t.pwr.auxOn = false ∧ t.parts = [] ∧ t.sessions = [] ∧ t.shows = [] ∧ t.mrb = {} ∧ t.hbm = {}
      ∧ t.flt = {} ∧ t.ident.aux = 0 ∧ t.mrt.flash = s.mrt.flash ∧ t.mrt.bootBank = s.mrt.bootBank ∧ t.fab.gn = s.fab.gn ∧ t.fab.gid = s.fab.gid
      ∧ t.fab.declared = s.fab.declared ∧ ∀ z, (zoe t z).dead = (zoe s z).dead ∧ (zoe t z).spare = (flashRec (zoe s z).trim).spare
        ∧ (zoe t z).trim.failed = (flashRec (zoe s z).trim).failed ∧ flashRec (zoe t z).trim = flashRec (zoe s z).trim)
    ∧ (∀ straps : BitVec 4, (s.pwr.auxOn = true → exec (.auxPowerOn straps) s = .next s)
      ∧ (s.pwr.auxOn = false → ∃ t, exec (.auxPowerOn straps) s = .next t ∧ t.pwr.auxOn = true ∧ t.side.straps = straps ∧ t.rst.begun = 1
        ∧ t.rst.service = .booting ∧ t.parts = [] ∧ t.mrt.flash = s.mrt.flash ∧ t.rst.perst = s.rst.perst))

/-- Module resets and the release order: PERST# resets and holds the module; a due reset waits for hot dies after a trip; what a
reset keeps is the auxiliary domain's; the fused minimum rises as both Marionettes' images ask and the golden image meets; a step of
the release order begins once the step before it is complete and waits with its reason (R240, R345, R362, R367, R368, R370, R371,
R382, R401). The clauses that rest on log entries 67, 73, 74, 75 and 76 are the model's choices. -/
def Obligations.ResetsAndRelease : Prop :=
  ∀ (s : State),
    (∀ src : BitVec 4, let t := resetNow src s
      t.parts = [] ∧ t.sessions = [] ∧ t.shows = [] ∧ t.windows = [] ∧ t.staged = [] ∧ t.mrb.scratch = [] ∧ t.mrb.marbles = [] ∧ t.hbm = {}
        ∧ t.rst.keep = s.rst.keep ∧ t.rst.ecc = s.rst.ecc ∧ t.ident.aux = s.ident.aux ∧ t.ident.resetAt = mtime s
        ∧ (s.mrt.deferred = [] → t.flt.newest = s.flt.newest ∧ t.flt.log.map (·.1) = s.flt.log.map (·.1) ∧ ∀ e ∈ t.flt.log, e.2.cleared = true)
        ∧ t.las.off = s.las.off ∧ t.las.latch = s.las.latch ∧ t.las.opens = s.las.opens ∧ t.rst.last = src ∧ t.rst.number = s.rst.number + 1
        ∧ t.rst.count = satInc s.rst.count ∧ t.rst.service = .booting ∧ t.rst.step = 0 ∧ t.pwr.railsOn = false ∧ t.side.laserOn = false
        ∧ t.fab.gn = s.fab.gn ∧ t.fab.gid = s.fab.gid ∧ t.mrt.flash = s.mrt.flash ∧ t.pending = s.pending
        ∧ (∀ kind, look s.mrt.minSec kind 0 ≤ look t.mrt.minSec kind 0)
        ∧ ∀ kind id, (kind, id) ∈ s.mrt.m0.ran → (kind, id) ∈ s.mrt.m1.ran →
          (Config.imageRequest kind id ≤ Config.imageSecurity kind (Config.factoryId kind 2) → Config.imageRequest kind id ≤ look t.mrt.minSec kind 0))
    ∧ (s.pwr.auxOn = true → s.rst.perst = false →
      (s.pwr.tripped = false → ∃ t, exec .perstAssert s = .next t ∧ t.rst.perst = true ∧ t.rst.last = 1
        ∧ t.rst.number = s.rst.number + 1 ∧ t.rst.wait = 2 ∧ t.parts = [] ∧ t.rst.keep = s.rst.keep)
      ∧ (s.pwr.tripped = true → diesHot s = true → ∃ t, exec .perstAssert s = .next t ∧ t.rst.perst = true
        ∧ t.rst.resetDue = some (mtime s) ∧ t.rst.wait = 4 ∧ t.parts = s.parts))
    ∧ (s.pwr.auxOn = false → exec .perstAssert s = .next { s with rst.perst := true }
      ∧ exec .perstDeassert s = .next { s with rst.perst := false })
    ∧ (s.rst.last = 0 → s.rst.perst = true → exec .perstDeassert s = .next { s with rst.perst := false })
    ∧ (s.pwr.auxOn = true → s.rst.perst = true → s.rst.last ≠ 0 → s.rst.resetDue = none → ∃ t, exec .perstDeassert s = .next t
      ∧ t.rst.perst = false ∧ t.rst.origin = mtime s ∧ (s.rst.step = 0 → s.rst.begun = 0 → t.rst.begun = 2 ∧ t.rst.wait = 0
        ∧ t.sec.bootOk = (stageOk s 4 Config.islandId && stageOk s 5 (Config.boardId s.side.straps.toNat))))
    ∧ (∀ k : Fin 12, s.pwr.auxOn = true → s.rst.resetDue = none → s.rst.begun = 0 → 2 ≤ k.val → k.val ≠ 9 → k.val ≠ 10 → k.val ≠ 11 →
      s.rst.step.toNat + 1 = k.val →
      let w := stepWait s k.val
      ∃ t, exec (.releaseStep k) s = .next t ∧ t.rst.wait = w
        ∧ (w ≠ 0 → t = { s with rst.wait := w }) ∧ (w = 0 → t.rst.begun = k.val ∧ t.rst.begunAt = timeNs s)
        ∧ (w = 0 → k.val = 3 → t.pwr.railsOn = true) ∧ (w = 0 → k.val = 8 → t.las.allowed = true)
        ∧ (w = 0 → k.val = 7 → ∀ z, z < 32 → (zoe s z).state = .off →
          (zoe t z).state = if (zoe s z).fenceReq = 0 then .warming else .fenced)
        ∧ (w = 0 → k.val = 6 → t.mrb.scratch = [] ∧ t.mrb.iram = []))
    ∧ (s.pwr.auxOn = true → s.rst.resetDue = none → s.rst.begun = 0 → s.rst.step = 10 → s.rst.perst = false → s.rst.stepNine = false →
      s.rst.service = .calibrating → ∃ t, exec (.releaseStep 11) s = .next t ∧ t.rst.step = 11 ∧ t.rst.begun = 0
        ∧ t.rst.service = if s.rst.fencedEast || s.rst.fencedWest then .degraded else .serving)

/-- The sideband: reads are answered once step 2 has ended and the PEC is right, else NACKed; DECLARE and RESET act as the commands
they stand for, are NACKed while one has not ended, and leave their status to RESULT; the readback check raises a fault at the
second mismatch (R260, R368, R382, R393, R394). The clauses that rest on log entry 83 are the model's choices. -/
def Obligations.Sideband : Prop :=
  ∀ (s : State) (pec : Bool),
    let reads : List (Instr × List Byte) := [
      (.identity pec, leBytes 4 (regBuild s).toNat ++ leBytes 8 s.ident.serial.toNat),
      (.status pec, leBytes 4 s.rst.service.code ++ leBytes 4 (regFltStat s).toNat ++ leBytes 4 (regIntlk s).toNat ++ leBytes 4 (regSupply s).toNat),
      (.result pec, leBytes 2 s.side.smbStatus.toNat ++ leBytes 2 s.side.smbWrites.toNat)]
    let up := pec = true ∧ s.pwr.auxOn = true ∧ 2 ≤ s.rst.step.toNat
    (up → ∀ e ∈ reads, exec e.1 s = .next { s with out := s.out ++ [.smbRead e.2] })
    ∧ (¬up → ∀ e ∈ reads, exec e.1 s = .next { s with out := s.out ++ [.smbNack] })
    ∧ (∀ (gn gid : Byte) (key : Word),
      (¬up ∨ s.side.smbStatus = 1 → ∀ c ∈ ([.declare gn gid pec, .reset key pec] : List Instr), exec c s = .next { s with out := s.out ++ [.smbNack] })
      ∧ (up → s.side.smbStatus ≠ 1 →
        let u := { s with out := s.out ++ [.smbAck], side.smbWrites := s.side.smbWrites + 1, side.smbStatus := 1 }
        let ends (c : Instr) (v : State) (st : BitVec 16) : Prop := exec c s = .next { v with side.smbStatus := st }
        (mrtServes s = false → ∀ c ∈ ([.declare gn gid pec, .reset key pec] : List Instr), exec c s = .next u)
        ∧ (mrtServes s = true → serviceAllows s .pf 0x0500 = false → ends (.declare gn gid pec) u 0x16)
        ∧ (mrtServes s = true → serviceAllows s .pf 0x0500 = true →
          (declOk s gn.toNat gid.toNat = false → ends (.declare gn gid pec) u 0x11)
          ∧ (declOk s gn.toNat gid.toNat = true → s.shows ≠ [] → ends (.declare gn gid pec) u 0x28)
          ∧ (declOk s gn.toNat gid.toNat = true → s.shows = [] → ends (.declare gn gid pec) (declare gn.toNat gid.toNat u) 0))
        ∧ (mrtServes s = true → serviceAllows s .pf 0x0102 = false → ends (.reset key pec) u 0x16)
        ∧ (mrtServes s = true → serviceAllows s .pf 0x0102 = true →
          (key ≠ 0x5EC0DE01 → ends (.reset key pec) u 0x11)
          ∧ (key = 0x5EC0DE01 → s.rst.resetDue = none →
            ends (.reset key pec) { u with rst.resetDue := some (mtime s + 1000000), rst.resetSrc := 2 } 0))))
    ∧ (∀ faultLow alertLow laserHigh : Bool, s.pwr.auxOn = true → ∃ t, exec (.readbackCheck faultLow alertLow laserHigh) s = .next t
      ∧ t.flt.line = faultLow ∧ s.side.checkAt < t.side.checkAt ∧ t.side.checkAt % 1000000 = 0 ∧ t.side.checkAt ≤ timeNs t
      ∧ (s.side.laserOn = laserHigh → look t.side.mismatch 2 0 = 0)
      ∧ (s.side.laserOn ≠ laserHigh → look t.side.mismatch 2 0 = Min.min 3 (look s.side.mismatch 2 0 + 1))
      ∧ (faultAssert s.flt = false → s.side.alerts = 0 → s.side.laserOn ≠ laserHigh → look s.side.mismatch 2 0 = 1 →
        t.flt.nCorr = s.flt.nCorr + 1)
      ∧ (faultAssert s.flt = false → s.side.alerts = 0 → s.side.laserOn = laserHigh → t.flt = { s.flt with line := faultLow }))

/-- The SPDM responder: one answer for each request, refused unless version, capabilities and algorithms were agreed before; at most
four sessions, each used once its handshake is complete; the chains carry public parts of the island's keys, and signatures are free
(R245, R247, R254). The clauses that rest on log entry 69 are the model's choices. -/
def Obligations.SpdmResponder : Prop :=
  ∀ (s : State),
    let saying (req : Byte) (ok : Bool) (body : List Byte) (u : State) : State := { u with out := u.out ++ [.spdm req ok body] }
    let agreed := s.sec.spdm.version = true ∧ s.sec.spdm.caps = true ∧ s.sec.spdm.algs = true
    exec .getVersion s = .next (saying 0x84 true [0x12] { s with sec.spdm := { version := true } })
    ∧ exec .getCapabilities s = .next (if s.sec.spdm.version then saying 0xE1 true [0xD6, 0x62, 0, 0] { s with sec.spdm.caps := true }
      else saying 0xE1 false [] s)
    ∧ (∀ a : SpdmAlgs,
      let ok := s.sec.spdm.version = true ∧ s.sec.spdm.caps = true ∧ a.ecdsaP384 = true ∧ a.sha384 = true ∧ a.secp384r1 = true ∧ a.aes256Gcm = true
      (ok → exec (.negotiateAlgorithms a) s = .next (saying 0xE3 true [] { s with sec.spdm.algs := true }))
      ∧ (¬ok → exec (.negotiateAlgorithms a) s = .next (saying 0xE3 false [] s)))
    ∧ (agreed → exec .getDigests s = .next (saying 0x81 true
      (7 :: (sha384 (slotChain s 0) ++ sha384 (slotChain s 1) ++ sha384 (slotChain s 2))) s))
    ∧ (¬agreed → exec .getDigests s = .next (saying 0x81 false [] s))
    ∧ (∀ slot : Byte,
      (agreed → slot.toNat < 3 → exec (.getCertificate slot) s = .next (saying 0x82 true (slot :: slotChain s slot.toNat) s)
        ∧ ∃ sig : List Byte, sig.length = 96 ∧ exec (.challenge slot) s = .next (saying 0x83 true (slot :: sig) { s with free := s.free + 96 }))
      ∧ (¬agreed ∨ 3 ≤ slot.toNat → exec (.getCertificate slot) s = .next (saying 0x82 false [] s)
        ∧ exec (.challenge slot) s = .next (saying 0x83 false [] { s with free := s.free + 96 })))
    ∧ (∀ i : Byte, let listed := 1 ≤ i.toNat ∧ i.toNat ≤ 6 ∨ 16 ≤ i.toNat ∧ i.toNat ≤ 27
      (agreed → listed → ∃ sig : List Byte, sig.length = 96
        ∧ exec (.getMeasurements i) s = .next (saying 0xE0 true
          (i :: measurement s i.toNat ++ (if 16 ≤ i.toNat then (part s (i.toNat - 16)).signer else []) ++ sig) { s with free := s.free + 96 }))
      ∧ (¬agreed ∨ ¬listed → exec (.getMeasurements i) s = .next (saying 0xE0 false [] { s with free := s.free + 96 })))
    ∧ (∀ i : Fin 4, find s.sec.spdm.sessions i.val = none → (∀ j < i.val, find s.sec.spdm.sessions j ≠ none) → agreed →
      ∃ t, exec .keyExchange s = .next t ∧ find t.sec.spdm.sessions i.val = some {}
        ∧ t = saying 0xE4 true [BitVec.ofNat 8 i.val] { s with sec.spdm.sessions := t.sec.spdm.sessions }
        ∧ ∀ j, j ≠ i.val → find t.sec.spdm.sessions j = find s.sec.spdm.sessions j)
    ∧ ((∀ i < 4, find s.sec.spdm.sessions i ≠ none) ∨ ¬agreed → exec .keyExchange s = .next (saying 0xE4 false [] s))
    ∧ (∀ (i : Fin 4) (ok : Bool),
      let none' := ∀ x, find s.sec.spdm.sessions i.val = some x → x.finished = false
      (∀ x, find s.sec.spdm.sessions i.val = some x → x.finished = false →
        ∃ t, exec (.finish i ok) s = .next t ∧ t = saying 0xE5 ok [] { s with sec.spdm.sessions := t.sec.spdm.sessions }
          ∧ find t.sec.spdm.sessions i.val = (if ok then some { x with finished := true } else none)
          ∧ ∀ j, j ≠ i.val → find t.sec.spdm.sessions j = find s.sec.spdm.sessions j)
      ∧ (∀ x, find s.sec.spdm.sessions i.val = some x → x.finished = true →
        exec (.finish i ok) s = .next (saying 0xE5 false [] s)
        ∧ exec (.heartbeat i) s = .next (saying 0xE8 true [] s)
        ∧ (∃ t, exec (.keyUpdate i) s = .next t ∧ t = saying 0xE9 true [] { s with sec.spdm.sessions := t.sec.spdm.sessions }
          ∧ find t.sec.spdm.sessions i.val = some { x with keyGen := x.keyGen + 1 }
          ∧ ∀ j, j ≠ i.val → find t.sec.spdm.sessions j = find s.sec.spdm.sessions j)
        ∧ ∃ t, exec (.endSession i) s = .next t ∧ t = saying 0xEC true [] { s with sec.spdm.sessions := t.sec.spdm.sessions }
          ∧ find t.sec.spdm.sessions i.val = none ∧ ∀ j, j ≠ i.val → find t.sec.spdm.sessions j = find s.sec.spdm.sessions j)
      ∧ (find s.sec.spdm.sessions i.val = none → exec (.finish i ok) s = .next (saying 0xE5 false [] s))
      ∧ (none' → exec (.heartbeat i) s = .next (saying 0xE8 false [] s) ∧ exec (.keyUpdate i) s = .next (saying 0xE9 false [] s)
        ∧ exec (.endSession i) s = .next (saying 0xEC false [] s)))

/-- The guest-die sites: the descriptor that brings the link up or holds the port; the firewall's checks in their order, a denial
counted and the sixteenth of a millisecond holding the port; the partition's vector; the answers to hub reads; SEC_GST_CTL (R253,
R255 to R259). -/
def Claims.GuestSites : Prop :=
  ∀ (g : Site) (s : State), s.ident.ml = false →
    let i := siteNo g
    let x := guest s i
    let p := x.part.toNat
    let talks := x.link = 3 ∧ x.isHeld = false ∧ blockHeld s .guest i = false
    (∀ d : List Byte,
      (x.link ≠ 1 ∨ x.isHeld = true ∨ blockHeld s .guest i = true → exec (.desc g d) s = .next s)
      ∧ (x.link = 1 → x.isHeld = false → blockHeld s .guest i = false → ∃ t, exec (.desc g d) s = .next t ∧ OnlyGuest i s t
        ∧ guest t i = { x with desc := d.take 64, descOk := descPasses d, link := if descPasses d then 3 else 2, isHeld := !descPasses d }))
    ∧ (∀ (h : GuestHdr) (bs : List Byte),
      let w := look x.wins h.win.toNat {}
      let addr := w.base.toNat + h.off.toNat
      let denied (right : Nat) (lenOk : Prop) (r : Nat) : Prop :=
        (r = 5 ∧ (¬lenOk ∨ h.off.toNat % 32 ≠ 0 ∨ 16 < h.len))
        ∨ (lenOk ∧ h.off.toNat % 32 = 0 ∧ h.len ≤ 16
          ∧ ((r = 1 ∧ (x.en = false ∨ (part s p).resetting = true))
            ∨ (x.en = true ∧ (part s p).resetting = false
              ∧ ((r = 2 ∧ (w.size = 0 ∨ w.rights.getLsbD right = false))
                ∨ (w.size ≠ 0 ∧ w.rights.getLsbD right = true
                  ∧ ((r = 3 ∧ 4096 * w.size.toNat < h.off.toNat + 32 * h.len)
                    ∨ (h.off.toNat + 32 * h.len ≤ 4096 * w.size.toNat ∧ r = 4 ∧ onDenyList s p addr (32 * h.len) = true)))))))
      let refuses (r : Nat) (u : State) : Prop :=
        let n := if x.denyMs = some (timeNs s / 1000000) then x.denials + 1 else 1
        (∃ v, OnlyGuest i s v ∧ OnlyFaults v u)
          ∧ guest u i = { x with deny := x.deny + 1, reason := BitVec.ofNat 8 r, denials := n, denyMs := some (timeNs s / 1000000)
                                 isHeld := x.isHeld || decide (n = 16) }
          ∧ (n = 16 → u.flt.nCont = s.flt.nCont + 1)
      (¬talks → exec (.mrd g h) s = .next s ∧ exec (.mwr g h bs) s = .next s)
      ∧ (talks → ∀ r, denied 0 True r → ∃ u, refuses r u ∧ exec (.mrd g h) s
        = .next { u with out := u.out ++ [.guestCpl g h.tag (if x.en = true ∧ (part s p).resetting = true then 4 else 1) []] })
      ∧ (talks → ∀ r, denied 1 (bs.length = 32 * h.len) r → ∃ u, refuses r u ∧ exec (.mwr g h bs) s = .next u)
      ∧ (talks → (∀ r, ¬denied 0 True r) →
        (x.rdRate = 0 → exec (.mrd g h) s = .next s)
        ∧ (x.rdRate ≠ 0 → ∃ u : (Byte × List Byte) × State, u = guestRead i p addr (32 * h.len) s
          ∧ exec (.mrd g h) s = .next { u.2 with out := u.2.out ++ [.guestCpl g h.tag u.1.1 u.1.2] }
          ∧ (pmaMap s p addr (32 * h.len) = none → u = ((2, []), s))
          ∧ ∀ c a, pmaMap s p addr (32 * h.len) = some (c, a) → blockHeld s .hbm (c / 32) = true ∨ s.d2d.ihlReset = true ∧ pchHalf s c ≠ i →
            u = ((4, []), s)))
      ∧ (talks → (∀ r, ¬denied 1 (bs.length = 32 * h.len) r) →
        (x.wrRate = 0 → exec (.mwr g h bs) s = .next s)
        ∧ (x.wrRate ≠ 0 → exec (.mwr g h bs) s = .next (guestWrite i p addr bs s))))
    ∧ (∀ q : Part, q.val = p →
      (talks ∧ x.en = true ∧ (part s p).resetting = false ∧ 2 ≤ x.nvec.toNat → exec (.notify g) s = .next (signalVec (.vf q) x.nvec.toNat s))
      ∧ (¬(talks ∧ x.en = true ∧ (part s p).resetting = false ∧ 2 ≤ x.nvec.toNat) → exec (.notify g) s = .next s))
    ∧ (∀ (h : GuestHdr) (bs : List Byte),
      (¬talks ∨ has x.trds h.tag.toNat = false → exec (.guestCompletion g h bs) s = .next s)
      ∧ (talks → has x.trds h.tag.toNat = true → ∀ q : Part, q.val = p → ∃ v, OnlyGuest i s v
        ∧ guest v i = { x with trds := drop x.trds h.tag.toNat }
        ∧ exec (.guestCompletion g h bs) s
          = .next { v with out := v.out ++ [.targetRead q (if h.status = 0 then bs else List.replicate 32 0xFF)] }))
    ∧ (∀ tag : BitVec 10,
      (find x.trds tag.toNat = none → exec (.trdTimeout g tag) s = .next s)
      ∧ (∀ a, find x.trds tag.toNat = some a → ∃ t, exec (.trdTimeout g tag) s = .next t ∧ guest t i = { x with trds := drop x.trds tag.toNat }
        ∧ a + 100000 ≤ timeNs t ∧ t.flt.nCont = s.flt.nCont + 1
        ∧ ∀ q : Part, q.val = p → (.targetRead q (List.replicate 32 0xFF)) ∈ t.out))
    ∧ (∀ v : Word,
      let takes := v.getLsbD 31 = true ∧ (part s (v.extractLsb' 24 4).toNat).exist = true ∧ (v.extractLsb' 24 4).toNat < 12
      (x.en = true ∧ v.getLsbD 31 = true ∨ cutOff s i = true → exec (.secGstCtl g v) s = .next s)
      ∧ (¬(x.en = true ∧ v.getLsbD 31 = true) → cutOff s i = false → ∃ t, exec (.secGstCtl g v) s = .next t
        ∧ ((guest t i).en = true ↔ takes) ∧ (guest t i).part = v.extractLsb' 24 4 ∧ (guest t i).nvec = v.extractLsb' 13 11
        ∧ (guest t i).wins = x.wins
        ∧ (takes → x.isHeld = true → (guest t i).isHeld = false ∧ (guest t i).descOk = false ∧ (guest t i).denials = 0)
        ∧ (¬(takes ∧ x.isHeld = true) → OnlyGuest i s t ∧ (guest t i).isHeld = x.isHeld ∧ (guest t i).link = x.link)))

/-- The target window: a host access goes out to the partition's guest as TRD, under a tag in use by no other, or TWR; past the
guest's window reads are 0, and a port in reset or held answers all ones; without guest sites every row changes
nothing (R1, R242, R256). -/
def Claims.TargetWindow : Prop :=
  ∀ (s : State),
    (s.ident.ml = false → ∀ (p : Part) (off : BitVec 16) (bs : List Byte),
      let reads (b : Byte) : State := { s with out := s.out ++ [.targetRead p (List.replicate 32 b)] }
      (siteOf s p.val = none → exec (.targetWindowAccess p off (some bs)) s = .next s ∧ exec (.targetWindowAccess p off none) s = .next (reads 0))
      ∧ (∀ g, siteOf s p.val = some g →
        let x := guest s (siteNo g)
        (x.en = true ∧ x.part.toNat = p.val)
        ∧ (let size := if x.descOk ∧ fieldAt x.desc 17 1 ≠ 0 then 2 ^ fieldAt x.desc 17 1 else 0
          let talks := x.link = 3 ∧ x.isHeld = false ∧ blockHeld s .guest (siteNo g) = false ∧ (part s p.val).resetting = false
          (size ≤ off.toNat → exec (.targetWindowAccess p off (some bs)) s = .next s
            ∧ exec (.targetWindowAccess p off none) s = .next (reads 0))
          ∧ (off.toNat < size → ¬talks → exec (.targetWindowAccess p off (some bs)) s = .next s
            ∧ exec (.targetWindowAccess p off none) s = .next (reads 0xFF))
          ∧ (off.toNat < size → talks → (∃ tag, exec (.targetWindowAccess p off (some bs)) s
            = .next { s with free := s.free + 1, out := s.out ++ [.guestReq g tag (off.setWidth 40) (some bs)] })
            ∧ ((∀ tag < 1024, has x.trds tag = true) → exec (.targetWindowAccess p off none) s = .next s)
            ∧ (∀ k, k < 1024 → has x.trds k = false → ∃ t, ∃ tag : BitVec 10, has x.trds tag.toNat = false
              ∧ exec (.targetWindowAccess p off none) s = .next t ∧ find (guest t (siteNo g)).trds tag.toNat = some (timeNs s)
              ∧ (∃ v, OnlyGuest (siteNo g) s v
                ∧ t = { v with free := s.free + 1, out := s.out ++ [.guestReq g tag (off.setWidth 40) none] }))))))
    ∧ (s.ident.ml = true → ∀ (g : Site) (p : Part) (h : GuestHdr) (bs : List Byte) (tag : BitVec 10) (v : Word) (off : BitVec 16)
      (wr : Option (List Byte)),
      ∀ c ∈ ([.desc g bs, .mrd g h, .mwr g h bs, .notify g, .guestCompletion g h bs, .targetWindowAccess p off wr, .trdTimeout g tag,
        .secGstCtl g v] : List Instr), exec c s = .next s)

/-- The guest sites, and the host's window to a guest. The clauses that rest on log entries 28, 57, 70, 77, 99 and 105 are the
model's choices. -/
def Obligations.GuestPorts : Prop := Claims.GuestSites ∧ Claims.TargetWindow

/-- The registers with a behaviour of their own: reads that latch the high half, selections that show a copy, FAB_DL, KAL_CTL and
KAL_PRBS_INJ; what a link in reset cuts off; an access that no block decodes (R9, R13, R20, R65, R127, R146, R188, R282, R288, R300,
R306, R313). -/
def Claims.RegisterEffects : Prop :=
  ∀ (s : State),
    let gives (f : Fn) (x : Word) (u : State) : State := { u with out := u.out ++ [.readData f x] }
    (exec (.modTimeLo .pf) s = .next (gives .pf ((mtime s).setWidth 32) { s with ident.timeHi := (mtime s).extractLsb' 32 32 })
      ∧ exec (.fabGtimeLo .pf) s = .next (gives .pf ((gtime s).setWidth 32) { s with ident.gtimeHi := (gtime s).extractLsb' 32 32 })
      ∧ ∀ p : Part, exec (.modTimeLo (.vf p)) s = .next s ∧ exec (.fabGtimeLo (.vf p)) s = .next s)
    ∧ (∀ (f : Fn) (bar2 : Bool) (off : BitVec 26),
      (wideAt s f bar2 off.toNat = none ∨ fnOn s f = false → exec (.counterLowRead f bar2 off) s = .next s)
      ∧ (wideAt s f bar2 off.toNat ≠ none → fnOn s f = true → accessCut s f bar2 off.toNat = true →
        ∃ x, exec (.counterLowRead f bar2 off) s = .next (gives f x { s with free := s.free + 1 }))
      ∧ (wideAt s f bar2 off.toNat ≠ none → fnOn s f = true → accessCut s f bar2 off.toNat = false →
        let u := counterNow f bar2 off.toNat s
        u = { s with mrb := u.mrb, host := u.host, free := u.free } ∧ (f = .pf → bar2 = false → off.toNat < 0x3001000 → u = s)
        ∧ ∀ v, wideAt u f bar2 off.toNat = some v → ∃ t, exec (.counterLowRead f bar2 off) s = .next t
          ∧ t = gives f (BitVec.ofNat 32 v) { u with ident.latches := t.ident.latches }
          ∧ (wideAt t f bar2 (off.toNat + 4) = none → accessCut s f bar2 (off.toNat + 4) = false → wideAt t f bar2 off.toNat ≠ none →
            regRead t f bar2 (off.toNat + 4) = BitVec.ofNat 32 (v / 2 ^ 32))
          ∧ ∀ k, k ≠ latchKey f bar2 (off.toNat + 4) → look t.ident.latches k 0 = look s.ident.latches k 0))
    ∧ (∀ v : Word, let n := v.toNat % 1048576
      let cut := cutOff s (n / 524288)
      (cut = true → exec (.mrbCntSel v) s = .next { s with mrb.cntSel := v &&& 0x00CFFFFF, mrb.cntValid := false }
        ∧ (∃ t, exec (.mrbMsel v) s = .next t ∧ t = { s with mrb.msel := v &&& 0x000FFFFF, mrb.mstat := t.mrb.mstat }
          ∧ t.mrb.mstat.getLsbD 31 = false)
        ∧ ∃ t, exec (.mrbOwnSel v) s = .next t ∧ t = { s with mrb.ownSel := v &&& 0x000FFFFF, mrb.own := t.mrb.own }
          ∧ t.mrb.own.getLsbD 31 = false)
      ∧ (cut = false →
        (let key := 4 * n + v.toNat / 4194304 % 4
          let u := portWaits (v.toNat / 4194304 % 4) n s
          exec (.mrbCntSel v) s = .next { u with mrb.cntSel := v &&& 0x00CFFFFF, mrb.cntVal := look u.mrb.conflicts key 0, mrb.cntValid := true }
          ∧ u = { s with free := s.free + 1, mrb.conflicts := u.mrb.conflicts, mrb.clSum := u.mrb.clSum, mrb.bagSum := u.mrb.bagSum }
          ∧ ∀ k, k ≠ key → look u.mrb.conflicts k 0 = look s.mrb.conflicts k 0)
        ∧ (let m := marble s n
          exec (.mrbMsel v) s = .next { s with
            mrb.msel := v &&& 0x000FFFFF
            mrb.mstat := (1 : BitVec 1) ++ m.cause ++ m.pc ++ m.code ++ (0 : BitVec 3) ++ BitVec.ofNat 3 m.outst.length ++ m.mflags })
        ∧ (∃ t, exec (.mrbOwnSel v) s = .next t ∧ t = { s with mrb.ownSel := v &&& 0x000FFFFF, mrb.own := t.mrb.own }
          ∧ t.mrb.own = regOwn s n)))
    ∧ (∀ v : Word, let n := v.toNat % 8192
      let follows := s.fab.declared = true ∧ ¬(s.fab.declared = true ∧ s.fab.gid = 0)
      (n < 1000 ∨ 8000 < n → exec (.fabDl v true) s = .next s ∧ ∃ t, exec (.fabDl v false) s = .next t ∧ OnlyFaults s t
        ∧ t.flt.nCorr = s.flt.nCorr + 1)
      ∧ (1000 ≤ n → n ≤ 8000 →
        (follows → exec (.fabDl v true) s = .next { s with fab.dl := BitVec.ofNat 13 n } ∧ exec (.fabDl v false) s = .next s)
        ∧ (¬follows → exec (.fabDl v true) s = .next s ∧ ∃ t, exec (.fabDl v false) s = .next t
          ∧ t = { s with fab.dl := BitVec.ofNat 13 n, out := t.out }
          ∧ t.out = s.out ++ (otherMembers s).map (fun m => .fabDl m (BitVec.ofNat 13 n)))))
    ∧ (s.ident.ml = true → ∀ v, exec (.kalCtl v) s = .next s)
    ∧ (s.ident.ml = false → ∀ v : Word, ∃ t, exec (.kalCtl v) s = .next t ∧ t = { s with fab.idleEn := v.getLsbD 16, fab.dormMs := t.fab.dormMs, fab.lanes := t.fab.lanes }
      ∧ t.fab.dormMs = (if 1000 < v.toNat % 1024 then s.fab.dormMs else BitVec.ofNat 10 (v.toNat % 1024))
      ∧ ∀ l, lane t l = if v.getLsbD 16 then lane s l else { lane s l with idle := false })
    ∧ (∀ v : Word, let l := s.fab.prbsSel.toNat
      let mode := v.toNat / 1048576 % 16
      let period := v.toNat % 1048576
      ((lane s l).underTest = false ∨ 2 < mode ∨ mode = 2 ∧ period = 0 → exec (.kalPrbsInj v) s = .next s)
      ∧ ((lane s l).underTest = true → mode ≤ 2 → ¬(mode = 2 ∧ period = 0) → ∃ t, exec (.kalPrbsInj v) s = .next t
        ∧ t = { s with fab.prbs := t.fab.prbs }
        ∧ look t.fab.prbs l {} = { look s.fab.prbs l {} with injMode := BitVec.ofNat 4 mode, injPeriod := BitVec.ofNat 20 period }
        ∧ ∀ k, k ≠ l → look t.fab.prbs k {} = look s.fab.prbs k {}))
    ∧ (∀ off : BitVec 26,
      (decoded off.toNat = true → ∀ a, exec (.undecodedAccess off a) s = .next s)
      ∧ (decoded off.toNat = false →
        (∃ u, OnlyFaults s u ∧ u.flt.nCorr = s.flt.nCorr + 1 ∧ exec (.undecodedAccess off .write) s = .next u
          ∧ exec (.undecodedAccess off .read) s = .next (gives .pf 0xFFFFFFFF u))))

/-- Plain register writes and Toybox reads: window registers while no command runs, the firewall's windows while EN is 0, the tested
lane's number; a function that is off writes nothing; Toybox words with their error results (R7, R219, R221, R259, R373). -/
def Claims.RegisterWritesAndToybox : Prop :=
  ∀ (s : State),
    (∀ (f : Fn) (off : BitVec 26) (v : Word), fnOn s f = false → exec (.registerWrite f off v) s = .next s)
    ∧ (∀ (w : Fn) (o : Nat) (v : Word), fnOn s w = true →
      let base := match w with
        | .pf => 0x100000
        | .vf _ => 0x4000
      let wr := exec (.registerWrite w (BitVec.ofNat 26 (base + o)) v) s
      let x := window s w
      let busy := x.status = 1 ∨ (fnCfg s w).inReset = true
      (o < 0x1000 → o ≠ 0x0C → busy → ∃ t, wr = .next t ∧ window t w = { x with ignored := x.ignored + 1 })
      ∧ (¬busy →
        (o = 0 → ∃ t, wr = .next t ∧ window t w = { x with opcode := v.setWidth 16, flags := v.extractLsb' 16 8 })
        ∧ (o = 4 → ∃ t, wr = .next t ∧ window t w = { x with plen := v.setWidth 12 })
        ∧ (o = 8 → ∃ t, wr = .next t ∧ window t w = { x with tag := v })
        ∧ (0x40 ≤ o → o < 0x840 → o % 4 = 0 → ∃ t, wr = .next t
          ∧ (∀ i, (window t w).params.getD i 0 = if o - 0x40 ≤ i ∧ i < o - 0x3C then numByte v.toNat (i - (o - 0x40)) else x.params.getD i 0)
          ∧ window t w = { x with params := (window t w).params })))
    ∧ (s.ident.ml = false → ∀ (g : Fin 2) (v : Word) (k : Fin 8) (j : Fin 4), let x := guest s g.val
      let wr := exec (.registerWrite .pf (BitVec.ofNat 26 (0x501040 + 1024 * g.val + 16 * k.val + 4 * j.val)) v) s
      let y := look x.wins k.val {}
      (x.en = true ∨ cutOff s g.val = true → wr = .next s)
      ∧ (x.en = false → cutOff s g.val = false → ∃ t, wr = .next t ∧ OnlyGuest g.val s t ∧ guest t g.val = { x with wins := (guest t g.val).wins }
        ∧ (∀ i, i ≠ k.val → look (guest t g.val).wins i {} = look x.wins i {})
        ∧ (let y' := look (guest t g.val).wins k.val {}
          (j = 0 → y' = { y with base := (y.base.extractLsb' 32 7) ++ (v &&& 0xFFFFF000) })
          ∧ (j = 1 → y' = { y with base := (v.setWidth 7) ++ (y.base.setWidth 32) })
          ∧ (j = 2 → y' = { y with size := v.setWidth 24 }) ∧ (j = 3 → y' = { y with rights := v.setWidth 2 }))))
    ∧ (∀ v : Word, exec (.registerWrite .pf 0x2012010 v) s = .next { s with fab.prbsSel := v.setWidth 10 })
    ∧ (∀ i : Fin 8192, let o := 8 * i.val
      (∃ t, exec (.toyboxWordRead i .clean) s = .next t ∧ t = { s with free := t.free, out := t.out }
        ∧ t.out = s.out ++ [.readData .pf (toyboxWord s o), .readData .pf (toyboxWord s (o + 4))])
      ∧ (∃ t, exec (.toyboxWordRead i .corrected) s = .next t ∧ t.rst.ecc.setWidth 16 = satInc (s.rst.ecc.setWidth 16 : BitVec 16)
        ∧ t.rst.ecc.extractLsb' 16 16 = s.rst.ecc.extractLsb' 16 16 ∧ t.flt = s.flt ∧ t.rst.keep = s.rst.keep)
      ∧ ∃ t, exec (.toyboxWordRead i .uncorrectable) s = .next t
        ∧ t.rst.ecc.extractLsb' 16 16 = satInc (s.rst.ecc.extractLsb' 16 16) ∧ (t.rst.ecc.setWidth 16 : BitVec 16) = s.rst.ecc.setWidth 16
        ∧ t.flt.nCorr = s.flt.nCorr + 1 ∧ t.rst.keep = s.rst.keep)

/-- Registers with an effect, plain writes, and the Toybox. The clauses that rest on log entries 72, 99, 100 and 105 are the
model's choices. -/
def Obligations.RegisterAccesses : Prop := Claims.RegisterEffects ∧ Claims.RegisterWritesAndToybox

/-- The keepsake registers: the PF alone writes and reads them, a VF has no effect on them and reads 0; no command but that write
and power-on changes one, and neither does an idle cycle, resets included (R372). -/
def Obligations.KeepsakeRegisters : Prop :=
  (∀ (s : State) (k : Fin 16), let off := 0x700000 + 4 * k.val
    (∀ v : Word, ∃ t, exec (.registerWrite .pf (BitVec.ofNat 26 off) v) s = .next t ∧ t = { s with rst.keep := t.rst.keep }
      ∧ ∀ j, look t.rst.keep j 0 = if j = k.val then v else look s.rst.keep j 0)
    ∧ regRead s .pf false off = look s.rst.keep k.val 0
    ∧ ∀ p : Part, regRead s (.vf p) false off = 0 ∧ ∀ v : Word, exec (.registerWrite (.vf p) (BitVec.ofNat 26 off) v) s = .next s)
  ∧ (∀ (c : Instr) (s t : State), exec c s = .next t →
    (∀ off v, c = .registerWrite .pf off v → ∀ k : Fin 16, off.toNat ≠ 0x700000 + 4 * k.val) → c ≠ .auxPowerLoss → (∀ x, c ≠ .auxPowerOn x) →
    t.rst.keep = s.rst.keep)
  ∧ (∀ s t : State, s.pending = [] → step s = .next t → t.rst.keep = s.rst.keep)
  ∧ (∀ s : State, (∃ t, exec .auxPowerLoss s = .next t ∧ t.rst.keep = [])
    ∧ (s.pwr.auxOn = false → ∀ x, ∃ t, exec (.auxPowerOn x) s = .next t ∧ t.rst.keep = []))

/-- Power-on and every module reset (PERST#, a due MODULE_RESET, a loss of input, a hard trip) leave no partition and no key; the
function-level resets keep both (R240). -/
def Obligations.PartitionsAndResets : Prop :=
  ∀ s : State,
    let lost (o : Host.Outcome State Fault Refusal) : Prop :=
      ∃ t, o = .next t ∧ t.parts = [] ∧ ∀ p, (part t p).exist = false ∧ (part t p).hasKey = false
    let kept (o : Host.Outcome State Fault Refusal) : Prop :=
      ∃ t, o = .next t ∧ ∀ p, (part t p).exist = (part s p).exist ∧ (part t p).hasKey = (part s p).hasKey ∧ (part t p).keygen = (part s p).keygen
        ∧ (part t p).signer = (part s p).signer ∧ (part t p).imageKey = (part s p).imageKey
    lost (exec .auxPowerLoss s)
    ∧ (s.pwr.auxOn = false → ∀ x, lost (exec (.auxPowerOn x) s))
    ∧ (s.pwr.auxOn = true → s.rst.perst = false → s.pwr.tripped = false → lost (exec .perstAssert s))
    ∧ (∀ d, s.pending = [] → s.rst.resetDue = some d → d.toNat ≤ timeNs s → (s.pwr.tripped = false ∨ diesHot s = false) → lost (step s))
    ∧ (∀ dv : Nat, 580 < dv → s.pwr.auxOn = true → s.pwr.railsOn = true → lost (exec (.mainInputLoss dv) s))
    ∧ (∀ (k : Fin 162) (temp : Int), s.pwr.auxOn = true → s.pwr.railsOn = true →
      aboveDeg (takeSample k.val temp s) k.val (tripThreshold k.val) = true → lost (exec (.sensorSample k temp) s))
    ∧ (∀ p : Part, kept (exec (.vfFunctionLevelReset p) s) ∧ kept (exec (.flrComplete p) s))
    ∧ kept (exec .pfFunctionLevelReset s)

/-- The reset history: each reset writes its entry as its source acts, numbered from power-on, with its time and source, into the
ring of 16 that the Toybox shows at 0x5200; entries not written read as zeros (R401). -/
def Obligations.ResetHistory : Prop :=
  ∀ s : State,
    let logs (src : Nat) (t : State) : Prop :=
      t.rst.number = s.rst.number + 1
        ∧ find t.rst.history (s.rst.number.toNat % 16) = some { mtime := mtime s, source := BitVec.ofNat 8 src, number := s.rst.number }
        ∧ ∀ k, k ≠ s.rst.number.toNat % 16 → find t.rst.history k = find s.rst.history k
    (s.pwr.auxOn = false → ∀ x, ∃ t, exec (.auxPowerOn x) s = .next t ∧ t.rst.number = 1
      ∧ t.rst.history = [(0, { mtime := 0, source := 0, number := 0 })])
    ∧ (s.pwr.auxOn = true → s.rst.perst = false → s.pwr.tripped = false → ∃ t, exec .perstAssert s = .next t ∧ logs 1 t)
    ∧ (∀ d, s.rst.resetDue = some d → d.toNat ≤ timeNs s → (s.pwr.tripped = false ∨ diesHot s = false) → logs s.rst.resetSrc.toNat (dueReset s))
    ∧ (∀ d, s.pending = [] → s.rst.resetDue = some d → step s = .next (dueReset { s with ident.aux := s.ident.aux + 1 }))
    ∧ (∀ dv : Nat, 580 < dv → s.pwr.auxOn = true → s.pwr.railsOn = true → ∃ t, exec (.mainInputLoss dv) s = .next t ∧ logs 2 t)
    ∧ (∀ (k : Fin 162) (temp : Int), s.pwr.auxOn = true → s.pwr.railsOn = true →
      aboveDeg (takeSample k.val temp s) k.val (tripThreshold k.val) = true → ∃ t, exec (.sensorSample k temp) s = .next t ∧ logs 3 t)
    ∧ (∀ c : Fin 16,
      let entry (m : DWord) (src : Byte) (n : Word) : Prop :=
        toyboxWord s (0x5200 + 16 * c.val) = m.setWidth 32 ∧ toyboxWord s (0x5200 + 16 * c.val + 4) = m.extractLsb' 32 32
          ∧ toyboxWord s (0x5200 + 16 * c.val + 8) = src.setWidth 32 ∧ toyboxWord s (0x5200 + 16 * c.val + 12) = n
      (find s.rst.history c.val = none → entry 0 0 0)
      ∧ ∀ e, find s.rst.history c.val = some e → entry e.mtime e.source e.number)

/-- ALERT_N: an invariant of every step, that it is low for exactly the conditions that hold, and what those are (R364). The clauses
that rest on log entry 2 are the model's choices. -/
def Obligations.AlertFollowsConditions : Prop :=
  (∀ s t : State, AlertInv s → step s = .next t → AlertInv t)
  ∧ ∀ s : State, AlertInv s → (s.side.alerts ≠ 0 ↔ (∃ z, (quadPwr s z).thermal < 60) ∨ (∃ k, (sensor s k).suspect = true)
    ∨ s.mrt.deferred ≠ [] ∨ 0 < s.pwr.poolCut ∨ s.rst.service = .stopping)

/-- An empty queue: the block idles for one auxiliary clock cycle, in which only module time goes on while no reset is due (the
model's choice, log entry 5; the clock is R20's). -/
def Obligations.EmptyQueueIdles : Prop :=
  ∀ s : State, s.pending = [] → s.rst.resetDue = none → step s = .next { s with ident.aux := s.ident.aux + 1 }

/-- Every step that answers a next state keeps the canonical form of the memories. -/
def Obligations.StepKeepsMemoriesCanonical : Prop :=
  ∀ s t : State, Inv s → step s = .next t → Inv t

/-- The state after reset holds its memories in canonical form, and ALERT_N is not driven in it. -/
def Obligations.ResetHoldsInvariants : Prop := Inv State.reset ∧ AlertInv State.reset ∧ State.reset.side.alerts = 0

/-- QUEUE_NOP completes: of an enabled queue that may write, with room in its ring and nothing held, the NOP at the head ends with OK
in the next entry of the completion ring, under its CID, and no other queue changes; what else may follow is the end of fences and of
reserved descriptors behind it (R203, R205, R209). -/
def Obligations.QueueNopCompletes : Prop :=
  ∀ (q : QueueId) (f : Fetched) (rest : List Fetched) (s : State),
    let x := queue s q.val
    x.fetched = f :: rest → fieldAt f.bytes 0 1 = 0 → canStart s q.val f = true → fieldAt f.bytes 2 2 = x.capTag.toNat →
    headerOk f.bytes = true → zeroBytes f.bytes 16 64 = true → x.held = [] → x.stalled = [] → ringFull x = false →
    (∀ d ∈ x.flight, d.uid ≠ s.host.uid) →
    ∃ t c, exec (.queueNop q) s = .next t ∧ t = { s with host := t.host, out := t.out }
      ∧ .completion (queueFn s q.val) (queuePasid x) (x.cqBase.toNat + 32 * x.cqTail.toNat) q.val x.cqTail.toNat x.phase x.seq c
        (cplBytes x.phase x.seq c) ∈ t.out
      ∧ c.cid = BitVec.ofNat 16 (fieldAt f.bytes 4 2) ∧ c.status = 0 ∧ c.typ = 0 ∧ c.time = mtime s
      ∧ (∀ d ∈ (queue t q.val).flight, d.uid ≠ s.host.uid)
      ∧ ∀ k, k ≠ q.val → queue t k = queue s k

/-- Where each command about a lane completes, in conditions on the state alone: the ring's lock, the lane's lock, the margin test,
Idle, Dormant, waking, draining and the limits leave the lane in the state that R295 to R303 give, and change nothing but the fabric,
what its Parcels' ends write, the fault log, the host's side and the command windows; LANES_LIGHT and LANE_REQUEST light at least one
lane where a position is open and has slices, LANES_DARK and LANE_RELEASE drain the lanes they name, and LANE_TEST takes its lane under
test and returns it (R232, R270 to R272, R295 to R303, R305). The far end's slices are the partner's own (log entry 106). -/
def Obligations.LaneCommandsComplete : Prop :=
  (∀ (l : LaneId) (m tx rx : Nat) (bits errs : BitVec 64) (cause : BitVec 4) (s : State), s.ident.ml = false → lanePartner s l.val = some m →
    let x := lane s l.val
    let ends : List (Instr × Prop × LState) :=
      [(.ringLocked l, x.state = .tuning, .locking),
       (.laneLocked l, x.state = .locking ∧ x.underTest = false ∧ (x.tested = true ∨ x.relock = true ∨ x.afterComb = true), .lit),
       (.marginTestDone l tx rx, x.state = .locking ∧ x.underTest = false ∧ x.relock = false ∧ s.rst.stepNine = false
         ∧ tx ≤ 640 ∧ rx ≤ 640, .lit),
       (.marginTestDone l tx rx, x.state = .locking ∧ x.underTest = false ∧ x.relock = false ∧ (640 < tx ∨ 640 < rx), .spared),
       (.lightingTimeout l, (x.state = .tuning ∨ x.state = .locking) ∧ x.underTest = false ∧ isTraining s l.val = false
         ∧ (x.fresh = true ∨ x.afterComb = true), .spared),
       (.idleEntry l, x.state = .lit, .lit),
       (.dormantTimeout l, s.fab.dormMs ≠ 0 ∧ x.state = .lit ∧ x.holder ≠ 0xF ∧ (heldLit s m x.holder).head? ≠ some l.val, .draining),
       (.dormantWake l, x.state = .dormant, .tuning),
       (.drainComplete l, x.state = .draining ∧ x.buf = [] ∧ shareBack s m = true ∧ x.toDormant = false, .dark),
       (.drainComplete l, x.state = .draining ∧ x.buf = [] ∧ shareBack s m = true ∧ x.toDormant = true, .dormant),
       (.laneHealthLimit l cause, (x.state = .lit ∨ x.state = .draining ∨ x.state = .dormant)
         ∧ (cause = 3 ∨ cause = 4 ∨ cause = 5 ∨ cause = 7), .spared),
       (.clockUnlock l, x.state = .lit, .locking),
       (.relockTimeout l, x.state = .locking ∧ x.relock = true, .spared),
       (.laneTestDone l bits errs, x.underTest = true ∧ x.state = .locking ∧ errs.toNat * 100000 ≤ bits.toNat, .dark)]
    (∀ e ∈ ends, e.2.1 → ∃ t, exec e.1 s = .next t ∧ (lane t l.val).state = e.2.2
      ∧ t = { s with fab := t.fab, mrb := t.mrb, flt := t.flt, host := t.host, windows := t.windows, free := t.free, out := t.out })
    ∧ (x.state = .lit → s.fab.idleEn = true → x.buf = [] → x.nak = false →
      ∃ t, exec (.idleEntry l) s = .next t ∧ (lane t l.val).idle = true))
  ∧ (∀ (w : Fn) (pk : Packet) (s u : State) (ps : List Byte),
    let m := pByte ps 0
    let n := fieldAt ps 2 2
    (Passed (.lanesLight w pk) w s u ps → s.las.off = false → isMember s m = true → 1 ≤ n →
      (pairLanes s m).any (fun l => positionOpen s l && (freeSlice s (l / 128)).isSome && farSlice s l) = true →
      ∃ t xs, exec (.lanesLight w pk) s = .next t ∧ xs ≠ []
        ∧ ∀ l ∈ xs, l ∈ pairLanes s m ∧ (lane s l).state = .dark ∧ (lane t l).state = .tuning ∧ (lane t l).holder = 0xF)
    ∧ (Passed (.lanesDark w pk) w s u ps → isMember s m = true →
      ∃ t v, exec (.lanesDark w pk) s = .next t ∧ Answers w 0 (leBytes 2 (releaseNames s m 0xF n).1.length) v t
        ∧ ∀ l ∈ (releaseNames s m 0xF n).1, (lane s l).state = .lit ∧ (lane t l).state = .draining)
    ∧ (∀ k : BitVec 7, Passed (.laneTest w pk) w s u ps → s.las.off = false →
      (lanePartner s (testLane ps)).elim false (fun p => isMember s p && !isSelf s p) = true →
      (lane s (testLane ps)).state = .dark ∨ (lane s (testLane ps)).state = .spared →
      freeSlice s (testLane ps / 128) = some k → farSlice s (testLane ps) = true →
      ∃ t, exec (.laneTest w pk) s = .next t ∧ lane t (testLane ps)
        = { lane s (testLane ps) with before := (lane s (testLane ps)).state, state := .tuning, underTest := true, slice := k, holder := 0xF }))
  ∧ (∀ (m : ModuleId) (h : BitVec 4) (n : Nat) (s : State), s.ident.ml = false → s.fab.gid.toNat < m.val → mrtServes s = true →
    (isMember s m.val = true → 1 ≤ n →
      (pairLanes s m.val).any (fun l => positionOpen s l && (freeSlice s (l / 128)).isSome && farSlice s l) = true →
      ∃ t xs, exec (.laneRequest m h n) s = .next t ∧ xs ≠ [] ∧ xs.length ≤ n
        ∧ ∀ l ∈ xs, l ∈ pairLanes s m.val ∧ (lane t l).holder = h ∧ ((lane t l).state = .tuning ∨ (lane t l).state = .lit))
    ∧ ∃ t, exec (.laneRelease m h n) s = .next t
      ∧ ∀ l ∈ (releaseNames s m.val h n).1, (lane s l).state = .lit ∧ (lane s l).holder = h ∧ (lane t l).state = .draining)
end

