-- ==== Sys2Proof/Laws/Maps.lean ====
section
/-! SUPPORT. What the operations over sparse maps and byte memories do: read after write, and the canonical form they keep. -/

namespace Sys2Proof.Machine

open Sys2Proof

/-! ### Filters of a map with rising keys -/

theorem rising_filter {α : Type} {m : SMap α} (p : Nat × α → Bool) (h : Rising m) : Rising (m.filter p) :=
  List.Pairwise.sublist List.filter_sublist h

theorem mem_below {α : Type} {m : SMap α} {k : Nat} {e : Nat × α} (h : e ∈ m.filter (fun e => decide (e.1 < k))) : e.1 < k := by
  simpa using (List.mem_filter.mp h).2

theorem mem_above {α : Type} {m : SMap α} {k : Nat} {e : Nat × α} (h : e ∈ m.filter (fun e => decide (k < e.1))) : k < e.1 := by
  simpa using (List.mem_filter.mp h).2

theorem rising_split {α : Type} {m : SMap α} (k : Nat) (mid : SMap α) (hm : ∀ e ∈ mid, e.1 = k) (hs : Rising mid) (h : Rising m) :
    Rising (m.filter (fun e => decide (e.1 < k)) ++ mid ++ m.filter (fun e => decide (k < e.1))) := by
  have hb := rising_filter (fun e : Nat × α => decide (e.1 < k)) h
  have ha := rising_filter (fun e : Nat × α => decide (k < e.1)) h
  refine List.pairwise_append.mpr ⟨List.pairwise_append.mpr ⟨hb, hs, ?_⟩, ha, ?_⟩
  · intro a h1 b h2
    have := mem_below h1
    have := hm b h2
    omega
  · intro a h1 b h2
    have := mem_above h2
    rcases List.mem_append.mp h1 with h3 | h3
    · have := mem_below h3
      omega
    · have := hm a h3
      omega

/-- A write keeps the keys rising. -/
theorem rising_put {α : Type} [DecidableEq α] {m : SMap α} (k : Nat) (v d : α) (h : Rising m) : Rising (put m k v d) := by
  unfold put
  refine rising_split k _ ?_ ?_ h
  · intro e he
    split at he
    · cases he
    · simpa using congrArg Prod.fst (List.mem_singleton.mp he)
  · split
    · exact List.Pairwise.nil
    · exact List.pairwise_singleton _ _

/-- A listing keeps the keys rising. -/
theorem rising_ins {α : Type} {m : SMap α} (k : Nat) (v : α) (h : Rising m) : Rising (ins m k v) := by
  unfold ins
  refine rising_split k _ ?_ (List.pairwise_singleton _ _) h
  intro e he
  simpa using congrArg Prod.fst (List.mem_singleton.mp he)

/-- Dropping a range keeps the keys rising. -/
theorem rising_dropRange {α : Type} {m : SMap α} (lo hi : Nat) (h : Rising m) : Rising (dropRange m lo hi) := rising_filter _ h

/-! ### The canonical form -/

/-- A write keeps the canonical form: an entry equal to the default is not listed. -/
theorem canon_put {α : Type} [DecidableEq α] {m : SMap α} (k : Nat) (v d : α) (h : Canon d m) : Canon d (put m k v d) := by
  refine ⟨rising_put k v d h.1, ?_⟩
  intro e he
  unfold put at he
  rcases List.mem_append.mp he with h1 | h1
  · rcases List.mem_append.mp h1 with h2 | h2
    · exact h.2 e (List.mem_filter.mp h2).1
    · split at h2
      · cases h2
      · rw [List.mem_singleton.mp h2]
        assumption
  · exact h.2 e (List.mem_filter.mp h1).1

/-- A filter keeps the canonical form. -/
theorem canon_filter {α : Type} {m : SMap α} {d : α} (p : Nat × α → Bool) (h : Canon d m) : Canon d (m.filter p) :=
  ⟨rising_filter p h.1, fun e he => h.2 e (List.mem_filter.mp he).1⟩

/-- Dropping a range keeps the canonical form. -/
theorem canon_dropRange {α : Type} {m : SMap α} {d : α} (lo hi : Nat) (h : Canon d m) : Canon d (dropRange m lo hi) :=
  canon_filter _ h

/-- A change of a block keeps the canonical form. -/
theorem canon_mapBlock {α : Type} [DecidableEq α] {m : SMap α} (lo n : Nat) (d : α) (f : α → α) (h : Canon d m) :
    Canon d (mapBlock m lo n d f) := by
  unfold mapBlock
  have mid : ∀ e ∈ ((List.range n).map (fun i =>
      (lo + i, f (look (m.filter (fun e => decide (lo ≤ e.1) && decide (e.1 < lo + n))) (lo + i) d)))).filter
        (fun e => decide (e.2 ≠ d)), lo ≤ e.1 ∧ e.1 < lo + n ∧ e.2 ≠ d := by
    intro e he
    obtain ⟨hm, hd⟩ := List.mem_filter.mp he
    obtain ⟨i, hi, rfl⟩ := List.mem_map.mp hm
    have := List.mem_range.mp hi
    exact ⟨by simp, by simp; omega, by simpa using hd⟩
  have below : ∀ e ∈ m.filter (fun e => decide (e.1 < lo)), e.1 < lo := fun e he => by simpa using (List.mem_filter.mp he).2
  have above : ∀ e ∈ m.filter (fun e => decide (lo + n ≤ e.1)), lo + n ≤ e.1 := fun e he => by simpa using (List.mem_filter.mp he).2
  refine ⟨List.pairwise_append.mpr ⟨List.pairwise_append.mpr ⟨rising_filter _ h.1, rising_filter _ ?_, ?_⟩, rising_filter _ h.1, ?_⟩, ?_⟩
  · exact List.pairwise_map.mpr (List.Pairwise.imp (fun hab => by simpa using hab) List.pairwise_lt_range)
  · intro a ha b hb
    have := below a ha
    have := mid b hb
    omega
  · intro a ha b hb
    have := above b hb
    rcases List.mem_append.mp ha with h1 | h1
    · have := below a h1
      omega
    · have := mid a h1
      omega
  · intro e he
    rcases List.mem_append.mp he with h1 | h1
    · rcases List.mem_append.mp h1 with h2 | h2
      · exact h.2 e (List.mem_filter.mp h2).1
      · exact (mid e h2).2.2
    · exact h.2 e (List.mem_filter.mp h1).1

theorem canon_nil {α : Type} (d : α) : Canon d ([] : SMap α) := ⟨List.Pairwise.nil, fun _ h => nomatch h⟩

/-- Writes in turn keep the canonical form. -/
theorem canon_foldl_put {α β : Type} [DecidableEq α] (d : α) (key : β → Nat) (val : β → α) (xs : List β) (m : SMap α)
    (h : Canon d m) : Canon d (xs.foldl (fun m e => put m (key e) (val e) d) m) := by
  induction xs generalizing m with
  | nil => exact h
  | cons x xs ih => exact ih _ (canon_put _ _ _ h)

/-- Writing bytes keeps the canonical form of a memory. -/
theorem canon_writeBytes {m : SMap Byte} (a : Nat) (bs : List Byte) (h : Canon 0 m) : Canon 0 (writeBytes m a bs) :=
  canon_foldl_put 0 (fun e : Nat × Byte => e.1) (fun e => e.2) _ m h

/-- The canonical form of a memory, as a test. -/
theorem memory_wf_iff (m : List Host.Cell) : Memory.wf m = true ↔ Canon 0 m := by
  simp [Memory.wf]

/-! ### Read after write -/

theorem look_nil {α : Type} (k : Nat) (d : α) : look ([] : SMap α) k d = d := rfl

theorem look_cons {α : Type} (e : Nat × α) (m : SMap α) (k : Nat) (d : α) :
    look (e :: m) k d = if e.1 = k then e.2 else look m k d := by
  by_cases h : e.1 = k <;> simp [look, h]

theorem look_append {α : Type} (m n : SMap α) (k : Nat) (d : α) :
    look (m ++ n) k d = look m k (look n k d) := by
  induction m with
  | nil => rfl
  | cons e m ih => simp only [List.cons_append, look_cons, ih]

theorem look_filter_pos {α : Type} (m : SMap α) (p : Nat → Bool) (k : Nat) (d : α) (h : p k = true) :
    look (m.filter (fun e => p e.1)) k d = look m k d := by
  induction m with
  | nil => rfl
  | cons e m ih =>
    by_cases hp : p e.1 = true
    · simp only [List.filter_cons, hp, if_true, look_cons, ih]
    · have hk : e.1 ≠ k := fun c => hp (c ▸ h)
      simp only [List.filter_cons, hp, look_cons, if_neg hk]
      simpa using ih

theorem look_filter_neg {α : Type} (m : SMap α) (p : Nat → Bool) (k : Nat) (d : α) (h : p k = false) :
    look (m.filter (fun e => p e.1)) k d = d := by
  induction m with
  | nil => rfl
  | cons e m ih =>
    by_cases hp : p e.1 = true
    · have hk : e.1 ≠ k := fun c => by rw [c, h] at hp; cases hp
      simp only [List.filter_cons, hp, if_true, look_cons, ih, if_neg hk]
    · simp only [List.filter_cons, hp]
      simpa using ih

/-- A read of the key written gives the value written. -/
@[simp] theorem look_put_same {α : Type} [DecidableEq α] (m : SMap α) (k : Nat) (v d : α) : look (put m k v d) k d = v := by
  unfold put
  rw [look_append, look_append, look_filter_neg m (fun i => decide (i < k)) k _ (by simp),
    look_filter_neg m (fun i => decide (k < i)) k d (by simp)]
  split
  · simp_all [look_nil]
  · simp [look_cons]

/-- A read of another key gives what it gave. -/
theorem look_put_ne {α : Type} [DecidableEq α] (m : SMap α) {k j : Nat} (v d : α) (h : j ≠ k) :
    look (put m k v d) j d = look m j d := by
  unfold put
  rw [look_append, look_append]
  have hmid : look (if v = d then [] else [(k, v)]) j (look (m.filter (fun e => decide (k < e.1))) j d)
      = look (m.filter (fun e => decide (k < e.1))) j d := by
    split
    · rfl
    · simp [look_cons, look_nil, Ne.symm h]
  rw [hmid]
  rcases Nat.lt_or_gt_of_ne h with hlt | hgt
  · rw [look_filter_pos m (fun i => decide (i < k)) j _ (by simpa using hlt),
      look_filter_neg m (fun i => decide (k < i)) j d (by simp; omega)]
  · rw [look_filter_neg m (fun i => decide (i < k)) j _ (by simp; omega),
      look_filter_pos m (fun i => decide (k < i)) j d (by simpa using hgt)]

/-- A read after a write, at any key. -/
theorem look_put {α : Type} [DecidableEq α] (m : SMap α) (k j : Nat) (v d : α) :
    look (put m k v d) j d = if j = k then v else look m j d := by
  by_cases h : j = k
  · subst h; simp
  · rw [look_put_ne m v d h, if_neg h]

/-- A read of the key changed. -/
@[simp] theorem look_modAt_same {α : Type} [DecidableEq α] (m : SMap α) (k : Nat) (d : α) (f : α → α) :
    look (modAt m k d f) k d = f (look m k d) := look_put_same _ _ _ _

/-- A read of another key than the one changed. -/
theorem look_modAt_ne {α : Type} [DecidableEq α] (m : SMap α) {k j : Nat} (d : α) (f : α → α) (h : j ≠ k) :
    look (modAt m k d f) j d = look m j d := look_put_ne _ _ _ h

/-- A read of a dropped key gives the default, of another key what it gave. -/
theorem look_dropRange {α : Type} (m : SMap α) (lo hi k : Nat) (d : α) :
    look (dropRange m lo hi) k d = if lo ≤ k ∧ k < hi then d else look m k d := by
  by_cases h : lo ≤ k ∧ k < hi
  · rw [if_pos h]
    exact look_filter_neg m (fun i => decide (i < lo) || decide (hi ≤ i)) k d (by simp; omega)
  · rw [if_neg h]
    exact look_filter_pos m (fun i => decide (i < lo) || decide (hi ≤ i)) k d (by simp; omega)

/-- A read of what a function lists at some keys, where what equals the default is not listed. -/
theorem look_listed {α : Type} [DecidableEq α] (xs : List Nat) (g : Nat → α) (k : Nat) (d : α) :
    look ((xs.map (fun i => (i, g i))).filter (fun e => decide (e.2 ≠ d))) k d = if k ∈ xs then g k else d := by
  induction xs with
  | nil => rfl
  | cons x xs ih =>
    simp only [List.map_cons, List.filter_cons, List.mem_cons]
    by_cases hk : k = x
    · subst hk
      by_cases hd : g k = d
      · simp [hd] at ih ⊢
        exact ih
      · simp [hd, look_cons]
    · by_cases hd : g x = d
      · simp only [hd, hk, false_or, ne_eq, not_true, decide_false]
        exact ih
      · simpa [hd, look_cons, Ne.symm hk, hk] using ih

/-- A read of a key of the block changed gives `f` of what it gave, of another key what it gave. -/
theorem look_mapBlock {α : Type} [DecidableEq α] (m : SMap α) (lo n k : Nat) (d : α) (f : α → α) :
    look (mapBlock m lo n d f) k d = if lo ≤ k ∧ k < lo + n then f (look m k d) else look m k d := by
  unfold mapBlock
  have e : (List.range n).map (fun i => (lo + i, f (look (m.filter (fun e => decide (lo ≤ e.1) && decide (e.1 < lo + n))) (lo + i) d)))
      = ((List.range n).map (lo + ·)).map
          (fun i => (i, f (look (m.filter (fun e => decide (lo ≤ e.1) && decide (e.1 < lo + n))) i d))) := by
    simp
  rw [look_append, look_append, e]
  have mid := fun d' => look_listed ((List.range n).map (lo + ·))
    (fun i => f (look (m.filter (fun e => decide (lo ≤ e.1) && decide (e.1 < lo + n))) i d)) k d'
  by_cases h : lo ≤ k ∧ k < lo + n
  · have hk : k ∈ (List.range n).map (lo + ·) := List.mem_map.mpr ⟨k - lo, by simp; omega, by omega⟩
    rw [look_filter_neg m (fun i => decide (i < lo)) k _ (by simp; omega),
      look_filter_neg m (fun i => decide (lo + n ≤ i)) k d (by simp; omega), mid d, if_pos hk, if_pos h,
      look_filter_pos m (fun i => decide (lo ≤ i) && decide (i < lo + n)) k d (by simp; omega)]
  · have hk : ∀ d', look ((((List.range n).map (lo + ·)).map
        (fun i => (i, f (look (m.filter (fun e => decide (lo ≤ e.1) && decide (e.1 < lo + n))) i d)))).filter
          (fun e => decide (e.2 ≠ d))) k d' = d' := by
      intro d'
      unfold look
      rw [List.find?_eq_none.mpr]
      intro e he
      obtain ⟨i, hi, rfl⟩ := List.mem_map.mp (List.mem_filter.mp he).1
      obtain ⟨j, hj, rfl⟩ := List.mem_map.mp hi
      have := List.mem_range.mp hj
      simp
      omega
    rw [hk, if_neg h]
    by_cases hl : k < lo
    · rw [look_filter_pos m (fun i => decide (i < lo)) k _ (by simpa using hl),
        look_filter_neg m (fun i => decide (lo + n ≤ i)) k d (by simp; omega)]
    · rw [look_filter_neg m (fun i => decide (i < lo)) k _ (by simp; omega),
        look_filter_pos m (fun i => decide (lo + n ≤ i)) k d (by simp; omega)]

/-- Writes at keys other than `j` leave what is read there. -/
theorem look_foldl_put_ne (xs : List (Nat × Byte)) (m : SMap Byte) (j : Nat) (h : ∀ e ∈ xs, e.1 ≠ j) :
    look (xs.foldl (fun m e => put m e.1 e.2 0) m) j 0 = look m j 0 := by
  induction xs generalizing m with
  | nil => rfl
  | cons x xs ih =>
    rw [List.foldl_cons, ih _ (fun e he => h e (List.mem_cons_of_mem _ he)),
      look_put_ne m x.2 0 (Ne.symm (h x List.mem_cons_self))]

/-- Every byte outside those written reads as before. -/
theorem look_writeBytes_ne (m : SMap Byte) (a : Nat) (bs : List Byte) (j : Nat) (h : j < a ∨ a + bs.length ≤ j) :
    look (writeBytes m a bs) j 0 = look m j 0 := by
  refine look_foldl_put_ne _ m j ?_
  intro e he
  obtain ⟨i, hi, rfl⟩ := List.mem_mapIdx.mp he
  simp only
  omega

/-! ### Maps whose keys are what exists -/

/-- What `find` gives is what `look` gives, where the key is listed. -/
theorem look_eq_find {α : Type} (m : SMap α) (k : Nat) (d : α) : look m k d = (find m k).getD d := by
  unfold look find
  cases m.find? (fun e => e.1 == k) <;> rfl

theorem find_append {α : Type} (m n : SMap α) (k : Nat) : find (m ++ n) k = (find m k).or (find n k) := by
  simp only [find, List.find?_append]
  cases m.find? (fun e => e.1 == k) <;> simp

theorem find_filter_pos {α : Type} (m : SMap α) (p : Nat → Bool) (k : Nat) (h : p k = true) :
    find (m.filter (fun e => p e.1)) k = find m k := by
  induction m with
  | nil => rfl
  | cons e m ih =>
    by_cases hk : e.1 = k
    · simp [find, hk, h]
    · by_cases hp : p e.1 <;> simp_all [find]

theorem find_filter_neg {α : Type} (m : SMap α) (p : Nat → Bool) (k : Nat) (h : p k = false) :
    find (m.filter (fun e => p e.1)) k = none := by
  induction m with
  | nil => rfl
  | cons e m ih =>
    by_cases hp : p e.1
    · have hk : e.1 ≠ k := fun c => by rw [c, h] at hp; exact absurd hp (by simp)
      simp_all [find]
      exact ih
    · simp_all [find]
      exact ih

/-- An entry put in is found, and no other key changes. -/
theorem find_ins {α : Type} (m : SMap α) (k j : Nat) (v : α) : find (ins m k v) j = if j = k then some v else find m j := by
  unfold ins
  rw [find_append, find_append]
  by_cases h : j = k
  · subst h
    rw [find_filter_neg m (fun i => decide (i < j)) j (by simp), find_filter_neg m (fun i => decide (j < i)) j (by simp)]
    simp [find]
  · have hs : find [(k, v)] j = none := by simp [find, Ne.symm h]
    rw [hs, if_neg h]
    by_cases hl : j < k
    · rw [find_filter_pos m (fun i => decide (i < k)) j (by simpa using hl),
        find_filter_neg m (fun i => decide (k < i)) j (by simp; omega)]
      simp
    · rw [find_filter_neg m (fun i => decide (i < k)) j (by simpa using hl),
        find_filter_pos m (fun i => decide (k < i)) j (by simp; omega)]
      simp

/-- A dropped key is not found, and no other key changes. -/
theorem find_drop {α : Type} (m : SMap α) (k j : Nat) : find (drop m k) j = if j = k then none else find m j := by
  unfold drop
  by_cases h : j = k
  · subst h
    rw [find_filter_neg m (fun i => i != j) j (by simp), if_pos rfl]
  · rw [find_filter_pos m (fun i => i != k) j (by simpa using h), if_neg h]

/-- A key is listed exactly where it is found. -/
theorem has_iff_find {α : Type} (m : SMap α) (k : Nat) : has m k = (find m k).isSome := by
  induction m with
  | nil => rfl
  | cons e m ih =>
    by_cases h : e.1 = k <;> simp_all [has, find]

/-- A read of a map whose values were all changed alike. -/
theorem look_mapVals {α β : Type} [DecidableEq β] (m : SMap α) (a : α) (d : β) (f : α → β) (k : Nat) (h : f a = d) :
    look (mapVals m d f) k d = f (look m k a) := by
  unfold mapVals
  induction m with
  | nil => simp [look_nil, h]
  | cons e m ih =>
    rw [List.foldr_cons, look_put, look_cons]
    by_cases hk : k = e.1
    · subst hk; simp
    · rw [if_neg hk, if_neg (Ne.symm hk), ih]

/-- A map whose values were all changed alike lists rising keys. -/
theorem canon_mapVals {α β : Type} [DecidableEq β] (m : SMap α) (d : β) (f : α → β) : Canon d (mapVals m d f) := by
  unfold mapVals
  induction m with
  | nil => exact canon_nil d
  | cons e m ih => exact canon_put e.1 (f e.2) d ih

end Sys2Proof.Machine
end

