-- ==== Sys2Proof/Laws/State.lean ====
section
/-! SUPPORT. What each update of the state leaves as it was, one lemma for each field, and what a read gives after an update of the
unit read. -/

namespace Sys2Proof.Machine

open Sys2Proof

/-! ### emit -/

@[simp] theorem emit_ident (o : Output) (s : State) : (emit o s).ident = s.ident := rfl
@[simp] theorem emit_mrb (o : Output) (s : State) : (emit o s).mrb = s.mrb := rfl
@[simp] theorem emit_zoes (o : Output) (s : State) : (emit o s).zoes = s.zoes := rfl
@[simp] theorem emit_hbm (o : Output) (s : State) : (emit o s).hbm = s.hbm := rfl
@[simp] theorem emit_sessions (o : Output) (s : State) : (emit o s).sessions = s.sessions := rfl
@[simp] theorem emit_staged (o : Output) (s : State) : (emit o s).staged = s.staged := rfl
@[simp] theorem emit_shows (o : Output) (s : State) : (emit o s).shows = s.shows := rfl
@[simp] theorem emit_host (o : Output) (s : State) : (emit o s).host = s.host := rfl
@[simp] theorem emit_windows (o : Output) (s : State) : (emit o s).windows = s.windows := rfl
@[simp] theorem emit_parts (o : Output) (s : State) : (emit o s).parts = s.parts := rfl
@[simp] theorem emit_sec (o : Output) (s : State) : (emit o s).sec = s.sec := rfl
@[simp] theorem emit_fab (o : Output) (s : State) : (emit o s).fab = s.fab := rfl
@[simp] theorem emit_las (o : Output) (s : State) : (emit o s).las = s.las := rfl
@[simp] theorem emit_d2d (o : Output) (s : State) : (emit o s).d2d = s.d2d := rfl
@[simp] theorem emit_mrt (o : Output) (s : State) : (emit o s).mrt = s.mrt := rfl
@[simp] theorem emit_pwr (o : Output) (s : State) : (emit o s).pwr = s.pwr := rfl
@[simp] theorem emit_flt (o : Output) (s : State) : (emit o s).flt = s.flt := rfl
@[simp] theorem emit_rst (o : Output) (s : State) : (emit o s).rst = s.rst := rfl
@[simp] theorem emit_side (o : Output) (s : State) : (emit o s).side = s.side := rfl
@[simp] theorem emit_free (o : Output) (s : State) : (emit o s).free = s.free := rfl
@[simp] theorem emit_pending (o : Output) (s : State) : (emit o s).pending = s.pending := rfl

/-! ### useFree -/

@[simp] theorem useFree_ident (s : State) : (useFree s).ident = s.ident := rfl
@[simp] theorem useFree_mrb (s : State) : (useFree s).mrb = s.mrb := rfl
@[simp] theorem useFree_zoes (s : State) : (useFree s).zoes = s.zoes := rfl
@[simp] theorem useFree_hbm (s : State) : (useFree s).hbm = s.hbm := rfl
@[simp] theorem useFree_sessions (s : State) : (useFree s).sessions = s.sessions := rfl
@[simp] theorem useFree_staged (s : State) : (useFree s).staged = s.staged := rfl
@[simp] theorem useFree_shows (s : State) : (useFree s).shows = s.shows := rfl
@[simp] theorem useFree_host (s : State) : (useFree s).host = s.host := rfl
@[simp] theorem useFree_windows (s : State) : (useFree s).windows = s.windows := rfl
@[simp] theorem useFree_parts (s : State) : (useFree s).parts = s.parts := rfl
@[simp] theorem useFree_sec (s : State) : (useFree s).sec = s.sec := rfl
@[simp] theorem useFree_fab (s : State) : (useFree s).fab = s.fab := rfl
@[simp] theorem useFree_las (s : State) : (useFree s).las = s.las := rfl
@[simp] theorem useFree_d2d (s : State) : (useFree s).d2d = s.d2d := rfl
@[simp] theorem useFree_mrt (s : State) : (useFree s).mrt = s.mrt := rfl
@[simp] theorem useFree_pwr (s : State) : (useFree s).pwr = s.pwr := rfl
@[simp] theorem useFree_flt (s : State) : (useFree s).flt = s.flt := rfl
@[simp] theorem useFree_rst (s : State) : (useFree s).rst = s.rst := rfl
@[simp] theorem useFree_side (s : State) : (useFree s).side = s.side := rfl
@[simp] theorem useFree_out (s : State) : (useFree s).out = s.out := rfl
@[simp] theorem useFree_pending (s : State) : (useFree s).pending = s.pending := rfl

/-! ### useFrees -/

@[simp] theorem useFrees_ident (n : Nat) (s : State) : (useFrees n s).ident = s.ident := rfl
@[simp] theorem useFrees_mrb (n : Nat) (s : State) : (useFrees n s).mrb = s.mrb := rfl
@[simp] theorem useFrees_zoes (n : Nat) (s : State) : (useFrees n s).zoes = s.zoes := rfl
@[simp] theorem useFrees_hbm (n : Nat) (s : State) : (useFrees n s).hbm = s.hbm := rfl
@[simp] theorem useFrees_sessions (n : Nat) (s : State) : (useFrees n s).sessions = s.sessions := rfl
@[simp] theorem useFrees_staged (n : Nat) (s : State) : (useFrees n s).staged = s.staged := rfl
@[simp] theorem useFrees_shows (n : Nat) (s : State) : (useFrees n s).shows = s.shows := rfl
@[simp] theorem useFrees_host (n : Nat) (s : State) : (useFrees n s).host = s.host := rfl
@[simp] theorem useFrees_windows (n : Nat) (s : State) : (useFrees n s).windows = s.windows := rfl
@[simp] theorem useFrees_parts (n : Nat) (s : State) : (useFrees n s).parts = s.parts := rfl
@[simp] theorem useFrees_sec (n : Nat) (s : State) : (useFrees n s).sec = s.sec := rfl
@[simp] theorem useFrees_fab (n : Nat) (s : State) : (useFrees n s).fab = s.fab := rfl
@[simp] theorem useFrees_las (n : Nat) (s : State) : (useFrees n s).las = s.las := rfl
@[simp] theorem useFrees_d2d (n : Nat) (s : State) : (useFrees n s).d2d = s.d2d := rfl
@[simp] theorem useFrees_mrt (n : Nat) (s : State) : (useFrees n s).mrt = s.mrt := rfl
@[simp] theorem useFrees_pwr (n : Nat) (s : State) : (useFrees n s).pwr = s.pwr := rfl
@[simp] theorem useFrees_flt (n : Nat) (s : State) : (useFrees n s).flt = s.flt := rfl
@[simp] theorem useFrees_rst (n : Nat) (s : State) : (useFrees n s).rst = s.rst := rfl
@[simp] theorem useFrees_side (n : Nat) (s : State) : (useFrees n s).side = s.side := rfl
@[simp] theorem useFrees_out (n : Nat) (s : State) : (useFrees n s).out = s.out := rfl
@[simp] theorem useFrees_pending (n : Nat) (s : State) : (useFrees n s).pending = s.pending := rfl

/-! ### advanceTo -/

@[simp] theorem advanceTo_mrb (due : Nat) (s : State) : (advanceTo due s).mrb = s.mrb := rfl
@[simp] theorem advanceTo_zoes (due : Nat) (s : State) : (advanceTo due s).zoes = s.zoes := rfl
@[simp] theorem advanceTo_hbm (due : Nat) (s : State) : (advanceTo due s).hbm = s.hbm := rfl
@[simp] theorem advanceTo_sessions (due : Nat) (s : State) : (advanceTo due s).sessions = s.sessions := rfl
@[simp] theorem advanceTo_staged (due : Nat) (s : State) : (advanceTo due s).staged = s.staged := rfl
@[simp] theorem advanceTo_shows (due : Nat) (s : State) : (advanceTo due s).shows = s.shows := rfl
@[simp] theorem advanceTo_host (due : Nat) (s : State) : (advanceTo due s).host = s.host := rfl
@[simp] theorem advanceTo_windows (due : Nat) (s : State) : (advanceTo due s).windows = s.windows := rfl
@[simp] theorem advanceTo_parts (due : Nat) (s : State) : (advanceTo due s).parts = s.parts := rfl
@[simp] theorem advanceTo_sec (due : Nat) (s : State) : (advanceTo due s).sec = s.sec := rfl
@[simp] theorem advanceTo_fab (due : Nat) (s : State) : (advanceTo due s).fab = s.fab := rfl
@[simp] theorem advanceTo_las (due : Nat) (s : State) : (advanceTo due s).las = s.las := rfl
@[simp] theorem advanceTo_d2d (due : Nat) (s : State) : (advanceTo due s).d2d = s.d2d := rfl
@[simp] theorem advanceTo_mrt (due : Nat) (s : State) : (advanceTo due s).mrt = s.mrt := rfl
@[simp] theorem advanceTo_pwr (due : Nat) (s : State) : (advanceTo due s).pwr = s.pwr := rfl
@[simp] theorem advanceTo_flt (due : Nat) (s : State) : (advanceTo due s).flt = s.flt := rfl
@[simp] theorem advanceTo_rst (due : Nat) (s : State) : (advanceTo due s).rst = s.rst := rfl
@[simp] theorem advanceTo_side (due : Nat) (s : State) : (advanceTo due s).side = s.side := rfl
@[simp] theorem advanceTo_free (due : Nat) (s : State) : (advanceTo due s).free = s.free := rfl
@[simp] theorem advanceTo_out (due : Nat) (s : State) : (advanceTo due s).out = s.out := rfl
@[simp] theorem advanceTo_pending (due : Nat) (s : State) : (advanceTo due s).pending = s.pending := rfl

/-! ### setService -/

@[simp] theorem setService_ident (st : Service) (r : Nat) (s : State) : (setService st r s).ident = s.ident := by unfold setService; split <;> rfl
@[simp] theorem setService_mrb (st : Service) (r : Nat) (s : State) : (setService st r s).mrb = s.mrb := by unfold setService; split <;> rfl
@[simp] theorem setService_zoes (st : Service) (r : Nat) (s : State) : (setService st r s).zoes = s.zoes := by unfold setService; split <;> rfl
@[simp] theorem setService_hbm (st : Service) (r : Nat) (s : State) : (setService st r s).hbm = s.hbm := by unfold setService; split <;> rfl
@[simp] theorem setService_sessions (st : Service) (r : Nat) (s : State) : (setService st r s).sessions = s.sessions := by unfold setService; split <;> rfl
@[simp] theorem setService_staged (st : Service) (r : Nat) (s : State) : (setService st r s).staged = s.staged := by unfold setService; split <;> rfl
@[simp] theorem setService_shows (st : Service) (r : Nat) (s : State) : (setService st r s).shows = s.shows := by unfold setService; split <;> rfl
@[simp] theorem setService_host (st : Service) (r : Nat) (s : State) : (setService st r s).host = s.host := by unfold setService; split <;> rfl
@[simp] theorem setService_windows (st : Service) (r : Nat) (s : State) : (setService st r s).windows = s.windows := by unfold setService; split <;> rfl
@[simp] theorem setService_parts (st : Service) (r : Nat) (s : State) : (setService st r s).parts = s.parts := by unfold setService; split <;> rfl
@[simp] theorem setService_sec (st : Service) (r : Nat) (s : State) : (setService st r s).sec = s.sec := by unfold setService; split <;> rfl
@[simp] theorem setService_fab (st : Service) (r : Nat) (s : State) : (setService st r s).fab = s.fab := by unfold setService; split <;> rfl
@[simp] theorem setService_las (st : Service) (r : Nat) (s : State) : (setService st r s).las = s.las := by unfold setService; split <;> rfl
@[simp] theorem setService_d2d (st : Service) (r : Nat) (s : State) : (setService st r s).d2d = s.d2d := by unfold setService; split <;> rfl
@[simp] theorem setService_mrt (st : Service) (r : Nat) (s : State) : (setService st r s).mrt = s.mrt := by unfold setService; split <;> rfl
@[simp] theorem setService_pwr (st : Service) (r : Nat) (s : State) : (setService st r s).pwr = s.pwr := by unfold setService; split <;> rfl
@[simp] theorem setService_flt (st : Service) (r : Nat) (s : State) : (setService st r s).flt = s.flt := by unfold setService; split <;> rfl
@[simp] theorem setService_side (st : Service) (r : Nat) (s : State) : (setService st r s).side = s.side := by unfold setService; split <;> rfl
@[simp] theorem setService_free (st : Service) (r : Nat) (s : State) : (setService st r s).free = s.free := by unfold setService; split <;> rfl
@[simp] theorem setService_out (st : Service) (r : Nat) (s : State) : (setService st r s).out = s.out := by unfold setService; split <;> rfl
@[simp] theorem setService_pending (st : Service) (r : Nat) (s : State) : (setService st r s).pending = s.pending := by unfold setService; split <;> rfl

/-! ### modPart -/

@[simp] theorem modPart_ident (p : Nat) (f : PartSt → PartSt) (s : State) : (modPart p f s).ident = s.ident := rfl
@[simp] theorem modPart_mrb (p : Nat) (f : PartSt → PartSt) (s : State) : (modPart p f s).mrb = s.mrb := rfl
@[simp] theorem modPart_zoes (p : Nat) (f : PartSt → PartSt) (s : State) : (modPart p f s).zoes = s.zoes := rfl
@[simp] theorem modPart_hbm (p : Nat) (f : PartSt → PartSt) (s : State) : (modPart p f s).hbm = s.hbm := rfl
@[simp] theorem modPart_sessions (p : Nat) (f : PartSt → PartSt) (s : State) : (modPart p f s).sessions = s.sessions := rfl
@[simp] theorem modPart_staged (p : Nat) (f : PartSt → PartSt) (s : State) : (modPart p f s).staged = s.staged := rfl
@[simp] theorem modPart_shows (p : Nat) (f : PartSt → PartSt) (s : State) : (modPart p f s).shows = s.shows := rfl
@[simp] theorem modPart_host (p : Nat) (f : PartSt → PartSt) (s : State) : (modPart p f s).host = s.host := rfl
@[simp] theorem modPart_windows (p : Nat) (f : PartSt → PartSt) (s : State) : (modPart p f s).windows = s.windows := rfl
@[simp] theorem modPart_sec (p : Nat) (f : PartSt → PartSt) (s : State) : (modPart p f s).sec = s.sec := rfl
@[simp] theorem modPart_fab (p : Nat) (f : PartSt → PartSt) (s : State) : (modPart p f s).fab = s.fab := rfl
@[simp] theorem modPart_las (p : Nat) (f : PartSt → PartSt) (s : State) : (modPart p f s).las = s.las := rfl
@[simp] theorem modPart_d2d (p : Nat) (f : PartSt → PartSt) (s : State) : (modPart p f s).d2d = s.d2d := rfl
@[simp] theorem modPart_mrt (p : Nat) (f : PartSt → PartSt) (s : State) : (modPart p f s).mrt = s.mrt := rfl
@[simp] theorem modPart_pwr (p : Nat) (f : PartSt → PartSt) (s : State) : (modPart p f s).pwr = s.pwr := rfl
@[simp] theorem modPart_flt (p : Nat) (f : PartSt → PartSt) (s : State) : (modPart p f s).flt = s.flt := rfl
@[simp] theorem modPart_rst (p : Nat) (f : PartSt → PartSt) (s : State) : (modPart p f s).rst = s.rst := rfl
@[simp] theorem modPart_side (p : Nat) (f : PartSt → PartSt) (s : State) : (modPart p f s).side = s.side := rfl
@[simp] theorem modPart_free (p : Nat) (f : PartSt → PartSt) (s : State) : (modPart p f s).free = s.free := rfl
@[simp] theorem modPart_out (p : Nat) (f : PartSt → PartSt) (s : State) : (modPart p f s).out = s.out := rfl
@[simp] theorem modPart_pending (p : Nat) (f : PartSt → PartSt) (s : State) : (modPart p f s).pending = s.pending := rfl

/-! ### modFnCfg -/

@[simp] theorem modFnCfg_ident (w : Fn) (f : FnCfg → FnCfg) (s : State) : (modFnCfg w f s).ident = s.ident := by cases w <;> rfl
@[simp] theorem modFnCfg_mrb (w : Fn) (f : FnCfg → FnCfg) (s : State) : (modFnCfg w f s).mrb = s.mrb := by cases w <;> rfl
@[simp] theorem modFnCfg_zoes (w : Fn) (f : FnCfg → FnCfg) (s : State) : (modFnCfg w f s).zoes = s.zoes := by cases w <;> rfl
@[simp] theorem modFnCfg_hbm (w : Fn) (f : FnCfg → FnCfg) (s : State) : (modFnCfg w f s).hbm = s.hbm := by cases w <;> rfl
@[simp] theorem modFnCfg_sessions (w : Fn) (f : FnCfg → FnCfg) (s : State) : (modFnCfg w f s).sessions = s.sessions := by cases w <;> rfl
@[simp] theorem modFnCfg_staged (w : Fn) (f : FnCfg → FnCfg) (s : State) : (modFnCfg w f s).staged = s.staged := by cases w <;> rfl
@[simp] theorem modFnCfg_shows (w : Fn) (f : FnCfg → FnCfg) (s : State) : (modFnCfg w f s).shows = s.shows := by cases w <;> rfl
@[simp] theorem modFnCfg_windows (w : Fn) (f : FnCfg → FnCfg) (s : State) : (modFnCfg w f s).windows = s.windows := by cases w <;> rfl
@[simp] theorem modFnCfg_parts (w : Fn) (f : FnCfg → FnCfg) (s : State) : (modFnCfg w f s).parts = s.parts := by cases w <;> rfl
@[simp] theorem modFnCfg_sec (w : Fn) (f : FnCfg → FnCfg) (s : State) : (modFnCfg w f s).sec = s.sec := by cases w <;> rfl
@[simp] theorem modFnCfg_fab (w : Fn) (f : FnCfg → FnCfg) (s : State) : (modFnCfg w f s).fab = s.fab := by cases w <;> rfl
@[simp] theorem modFnCfg_las (w : Fn) (f : FnCfg → FnCfg) (s : State) : (modFnCfg w f s).las = s.las := by cases w <;> rfl
@[simp] theorem modFnCfg_d2d (w : Fn) (f : FnCfg → FnCfg) (s : State) : (modFnCfg w f s).d2d = s.d2d := by cases w <;> rfl
@[simp] theorem modFnCfg_mrt (w : Fn) (f : FnCfg → FnCfg) (s : State) : (modFnCfg w f s).mrt = s.mrt := by cases w <;> rfl
@[simp] theorem modFnCfg_pwr (w : Fn) (f : FnCfg → FnCfg) (s : State) : (modFnCfg w f s).pwr = s.pwr := by cases w <;> rfl
@[simp] theorem modFnCfg_flt (w : Fn) (f : FnCfg → FnCfg) (s : State) : (modFnCfg w f s).flt = s.flt := by cases w <;> rfl
@[simp] theorem modFnCfg_rst (w : Fn) (f : FnCfg → FnCfg) (s : State) : (modFnCfg w f s).rst = s.rst := by cases w <;> rfl
@[simp] theorem modFnCfg_side (w : Fn) (f : FnCfg → FnCfg) (s : State) : (modFnCfg w f s).side = s.side := by cases w <;> rfl
@[simp] theorem modFnCfg_free (w : Fn) (f : FnCfg → FnCfg) (s : State) : (modFnCfg w f s).free = s.free := by cases w <;> rfl
@[simp] theorem modFnCfg_out (w : Fn) (f : FnCfg → FnCfg) (s : State) : (modFnCfg w f s).out = s.out := by cases w <;> rfl
@[simp] theorem modFnCfg_pending (w : Fn) (f : FnCfg → FnCfg) (s : State) : (modFnCfg w f s).pending = s.pending := by cases w <;> rfl

/-! ### setMarble -/

@[simp] theorem setMarble_ident (n : Nat) (m : Marble) (s : State) : (setMarble n m s).ident = s.ident := rfl
@[simp] theorem setMarble_zoes (n : Nat) (m : Marble) (s : State) : (setMarble n m s).zoes = s.zoes := rfl
@[simp] theorem setMarble_hbm (n : Nat) (m : Marble) (s : State) : (setMarble n m s).hbm = s.hbm := rfl
@[simp] theorem setMarble_sessions (n : Nat) (m : Marble) (s : State) : (setMarble n m s).sessions = s.sessions := rfl
@[simp] theorem setMarble_staged (n : Nat) (m : Marble) (s : State) : (setMarble n m s).staged = s.staged := rfl
@[simp] theorem setMarble_shows (n : Nat) (m : Marble) (s : State) : (setMarble n m s).shows = s.shows := rfl
@[simp] theorem setMarble_host (n : Nat) (m : Marble) (s : State) : (setMarble n m s).host = s.host := rfl
@[simp] theorem setMarble_windows (n : Nat) (m : Marble) (s : State) : (setMarble n m s).windows = s.windows := rfl
@[simp] theorem setMarble_parts (n : Nat) (m : Marble) (s : State) : (setMarble n m s).parts = s.parts := rfl
@[simp] theorem setMarble_sec (n : Nat) (m : Marble) (s : State) : (setMarble n m s).sec = s.sec := rfl
@[simp] theorem setMarble_fab (n : Nat) (m : Marble) (s : State) : (setMarble n m s).fab = s.fab := rfl
@[simp] theorem setMarble_las (n : Nat) (m : Marble) (s : State) : (setMarble n m s).las = s.las := rfl
@[simp] theorem setMarble_d2d (n : Nat) (m : Marble) (s : State) : (setMarble n m s).d2d = s.d2d := rfl
@[simp] theorem setMarble_mrt (n : Nat) (m : Marble) (s : State) : (setMarble n m s).mrt = s.mrt := rfl
@[simp] theorem setMarble_pwr (n : Nat) (m : Marble) (s : State) : (setMarble n m s).pwr = s.pwr := rfl
@[simp] theorem setMarble_flt (n : Nat) (m : Marble) (s : State) : (setMarble n m s).flt = s.flt := rfl
@[simp] theorem setMarble_rst (n : Nat) (m : Marble) (s : State) : (setMarble n m s).rst = s.rst := rfl
@[simp] theorem setMarble_side (n : Nat) (m : Marble) (s : State) : (setMarble n m s).side = s.side := rfl
@[simp] theorem setMarble_free (n : Nat) (m : Marble) (s : State) : (setMarble n m s).free = s.free := rfl
@[simp] theorem setMarble_out (n : Nat) (m : Marble) (s : State) : (setMarble n m s).out = s.out := rfl
@[simp] theorem setMarble_pending (n : Nat) (m : Marble) (s : State) : (setMarble n m s).pending = s.pending := rfl

/-! ### modMarble -/

@[simp] theorem modMarble_ident (n : Nat) (f : Marble → Marble) (s : State) : (modMarble n f s).ident = s.ident := rfl
@[simp] theorem modMarble_zoes (n : Nat) (f : Marble → Marble) (s : State) : (modMarble n f s).zoes = s.zoes := rfl
@[simp] theorem modMarble_hbm (n : Nat) (f : Marble → Marble) (s : State) : (modMarble n f s).hbm = s.hbm := rfl
@[simp] theorem modMarble_sessions (n : Nat) (f : Marble → Marble) (s : State) : (modMarble n f s).sessions = s.sessions := rfl
@[simp] theorem modMarble_staged (n : Nat) (f : Marble → Marble) (s : State) : (modMarble n f s).staged = s.staged := rfl
@[simp] theorem modMarble_shows (n : Nat) (f : Marble → Marble) (s : State) : (modMarble n f s).shows = s.shows := rfl
@[simp] theorem modMarble_host (n : Nat) (f : Marble → Marble) (s : State) : (modMarble n f s).host = s.host := rfl
@[simp] theorem modMarble_windows (n : Nat) (f : Marble → Marble) (s : State) : (modMarble n f s).windows = s.windows := rfl
@[simp] theorem modMarble_parts (n : Nat) (f : Marble → Marble) (s : State) : (modMarble n f s).parts = s.parts := rfl
@[simp] theorem modMarble_sec (n : Nat) (f : Marble → Marble) (s : State) : (modMarble n f s).sec = s.sec := rfl
@[simp] theorem modMarble_fab (n : Nat) (f : Marble → Marble) (s : State) : (modMarble n f s).fab = s.fab := rfl
@[simp] theorem modMarble_las (n : Nat) (f : Marble → Marble) (s : State) : (modMarble n f s).las = s.las := rfl
@[simp] theorem modMarble_d2d (n : Nat) (f : Marble → Marble) (s : State) : (modMarble n f s).d2d = s.d2d := rfl
@[simp] theorem modMarble_mrt (n : Nat) (f : Marble → Marble) (s : State) : (modMarble n f s).mrt = s.mrt := rfl
@[simp] theorem modMarble_pwr (n : Nat) (f : Marble → Marble) (s : State) : (modMarble n f s).pwr = s.pwr := rfl
@[simp] theorem modMarble_flt (n : Nat) (f : Marble → Marble) (s : State) : (modMarble n f s).flt = s.flt := rfl
@[simp] theorem modMarble_rst (n : Nat) (f : Marble → Marble) (s : State) : (modMarble n f s).rst = s.rst := rfl
@[simp] theorem modMarble_side (n : Nat) (f : Marble → Marble) (s : State) : (modMarble n f s).side = s.side := rfl
@[simp] theorem modMarble_free (n : Nat) (f : Marble → Marble) (s : State) : (modMarble n f s).free = s.free := rfl
@[simp] theorem modMarble_out (n : Nat) (f : Marble → Marble) (s : State) : (modMarble n f s).out = s.out := rfl
@[simp] theorem modMarble_pending (n : Nat) (f : Marble → Marble) (s : State) : (modMarble n f s).pending = s.pending := rfl

/-! ### setBank -/

@[simp] theorem setBank_ident (n : Nat) (b : BankState) (s : State) : (setBank n b s).ident = s.ident := rfl
@[simp] theorem setBank_zoes (n : Nat) (b : BankState) (s : State) : (setBank n b s).zoes = s.zoes := rfl
@[simp] theorem setBank_hbm (n : Nat) (b : BankState) (s : State) : (setBank n b s).hbm = s.hbm := rfl
@[simp] theorem setBank_sessions (n : Nat) (b : BankState) (s : State) : (setBank n b s).sessions = s.sessions := rfl
@[simp] theorem setBank_staged (n : Nat) (b : BankState) (s : State) : (setBank n b s).staged = s.staged := rfl
@[simp] theorem setBank_shows (n : Nat) (b : BankState) (s : State) : (setBank n b s).shows = s.shows := rfl
@[simp] theorem setBank_host (n : Nat) (b : BankState) (s : State) : (setBank n b s).host = s.host := rfl
@[simp] theorem setBank_windows (n : Nat) (b : BankState) (s : State) : (setBank n b s).windows = s.windows := rfl
@[simp] theorem setBank_parts (n : Nat) (b : BankState) (s : State) : (setBank n b s).parts = s.parts := rfl
@[simp] theorem setBank_sec (n : Nat) (b : BankState) (s : State) : (setBank n b s).sec = s.sec := rfl
@[simp] theorem setBank_fab (n : Nat) (b : BankState) (s : State) : (setBank n b s).fab = s.fab := rfl
@[simp] theorem setBank_las (n : Nat) (b : BankState) (s : State) : (setBank n b s).las = s.las := rfl
@[simp] theorem setBank_d2d (n : Nat) (b : BankState) (s : State) : (setBank n b s).d2d = s.d2d := rfl
@[simp] theorem setBank_mrt (n : Nat) (b : BankState) (s : State) : (setBank n b s).mrt = s.mrt := rfl
@[simp] theorem setBank_pwr (n : Nat) (b : BankState) (s : State) : (setBank n b s).pwr = s.pwr := rfl
@[simp] theorem setBank_flt (n : Nat) (b : BankState) (s : State) : (setBank n b s).flt = s.flt := rfl
@[simp] theorem setBank_rst (n : Nat) (b : BankState) (s : State) : (setBank n b s).rst = s.rst := rfl
@[simp] theorem setBank_side (n : Nat) (b : BankState) (s : State) : (setBank n b s).side = s.side := rfl
@[simp] theorem setBank_free (n : Nat) (b : BankState) (s : State) : (setBank n b s).free = s.free := rfl
@[simp] theorem setBank_out (n : Nat) (b : BankState) (s : State) : (setBank n b s).out = s.out := rfl
@[simp] theorem setBank_pending (n : Nat) (b : BankState) (s : State) : (setBank n b s).pending = s.pending := rfl

/-! ### modMailbox -/

@[simp] theorem modMailbox_ident (n : Nat) (f : Mailbox → Mailbox) (s : State) : (modMailbox n f s).ident = s.ident := rfl
@[simp] theorem modMailbox_zoes (n : Nat) (f : Mailbox → Mailbox) (s : State) : (modMailbox n f s).zoes = s.zoes := rfl
@[simp] theorem modMailbox_hbm (n : Nat) (f : Mailbox → Mailbox) (s : State) : (modMailbox n f s).hbm = s.hbm := rfl
@[simp] theorem modMailbox_sessions (n : Nat) (f : Mailbox → Mailbox) (s : State) : (modMailbox n f s).sessions = s.sessions := rfl
@[simp] theorem modMailbox_staged (n : Nat) (f : Mailbox → Mailbox) (s : State) : (modMailbox n f s).staged = s.staged := rfl
@[simp] theorem modMailbox_shows (n : Nat) (f : Mailbox → Mailbox) (s : State) : (modMailbox n f s).shows = s.shows := rfl
@[simp] theorem modMailbox_host (n : Nat) (f : Mailbox → Mailbox) (s : State) : (modMailbox n f s).host = s.host := rfl
@[simp] theorem modMailbox_windows (n : Nat) (f : Mailbox → Mailbox) (s : State) : (modMailbox n f s).windows = s.windows := rfl
@[simp] theorem modMailbox_parts (n : Nat) (f : Mailbox → Mailbox) (s : State) : (modMailbox n f s).parts = s.parts := rfl
@[simp] theorem modMailbox_sec (n : Nat) (f : Mailbox → Mailbox) (s : State) : (modMailbox n f s).sec = s.sec := rfl
@[simp] theorem modMailbox_fab (n : Nat) (f : Mailbox → Mailbox) (s : State) : (modMailbox n f s).fab = s.fab := rfl
@[simp] theorem modMailbox_las (n : Nat) (f : Mailbox → Mailbox) (s : State) : (modMailbox n f s).las = s.las := rfl
@[simp] theorem modMailbox_d2d (n : Nat) (f : Mailbox → Mailbox) (s : State) : (modMailbox n f s).d2d = s.d2d := rfl
@[simp] theorem modMailbox_mrt (n : Nat) (f : Mailbox → Mailbox) (s : State) : (modMailbox n f s).mrt = s.mrt := rfl
@[simp] theorem modMailbox_pwr (n : Nat) (f : Mailbox → Mailbox) (s : State) : (modMailbox n f s).pwr = s.pwr := rfl
@[simp] theorem modMailbox_flt (n : Nat) (f : Mailbox → Mailbox) (s : State) : (modMailbox n f s).flt = s.flt := rfl
@[simp] theorem modMailbox_rst (n : Nat) (f : Mailbox → Mailbox) (s : State) : (modMailbox n f s).rst = s.rst := rfl
@[simp] theorem modMailbox_side (n : Nat) (f : Mailbox → Mailbox) (s : State) : (modMailbox n f s).side = s.side := rfl
@[simp] theorem modMailbox_free (n : Nat) (f : Mailbox → Mailbox) (s : State) : (modMailbox n f s).free = s.free := rfl
@[simp] theorem modMailbox_out (n : Nat) (f : Mailbox → Mailbox) (s : State) : (modMailbox n f s).out = s.out := rfl
@[simp] theorem modMailbox_pending (n : Nat) (f : Mailbox → Mailbox) (s : State) : (modMailbox n f s).pending = s.pending := rfl

/-! ### scratchWrite -/

@[simp] theorem scratchWrite_ident (n a : Nat) (bs : List Byte) (s : State) : (scratchWrite n a bs s).ident = s.ident := rfl
@[simp] theorem scratchWrite_zoes (n a : Nat) (bs : List Byte) (s : State) : (scratchWrite n a bs s).zoes = s.zoes := rfl
@[simp] theorem scratchWrite_hbm (n a : Nat) (bs : List Byte) (s : State) : (scratchWrite n a bs s).hbm = s.hbm := rfl
@[simp] theorem scratchWrite_sessions (n a : Nat) (bs : List Byte) (s : State) : (scratchWrite n a bs s).sessions = s.sessions := rfl
@[simp] theorem scratchWrite_staged (n a : Nat) (bs : List Byte) (s : State) : (scratchWrite n a bs s).staged = s.staged := rfl
@[simp] theorem scratchWrite_shows (n a : Nat) (bs : List Byte) (s : State) : (scratchWrite n a bs s).shows = s.shows := rfl
@[simp] theorem scratchWrite_host (n a : Nat) (bs : List Byte) (s : State) : (scratchWrite n a bs s).host = s.host := rfl
@[simp] theorem scratchWrite_windows (n a : Nat) (bs : List Byte) (s : State) : (scratchWrite n a bs s).windows = s.windows := rfl
@[simp] theorem scratchWrite_parts (n a : Nat) (bs : List Byte) (s : State) : (scratchWrite n a bs s).parts = s.parts := rfl
@[simp] theorem scratchWrite_sec (n a : Nat) (bs : List Byte) (s : State) : (scratchWrite n a bs s).sec = s.sec := rfl
@[simp] theorem scratchWrite_fab (n a : Nat) (bs : List Byte) (s : State) : (scratchWrite n a bs s).fab = s.fab := rfl
@[simp] theorem scratchWrite_las (n a : Nat) (bs : List Byte) (s : State) : (scratchWrite n a bs s).las = s.las := rfl
@[simp] theorem scratchWrite_d2d (n a : Nat) (bs : List Byte) (s : State) : (scratchWrite n a bs s).d2d = s.d2d := rfl
@[simp] theorem scratchWrite_mrt (n a : Nat) (bs : List Byte) (s : State) : (scratchWrite n a bs s).mrt = s.mrt := rfl
@[simp] theorem scratchWrite_pwr (n a : Nat) (bs : List Byte) (s : State) : (scratchWrite n a bs s).pwr = s.pwr := rfl
@[simp] theorem scratchWrite_flt (n a : Nat) (bs : List Byte) (s : State) : (scratchWrite n a bs s).flt = s.flt := rfl
@[simp] theorem scratchWrite_rst (n a : Nat) (bs : List Byte) (s : State) : (scratchWrite n a bs s).rst = s.rst := rfl
@[simp] theorem scratchWrite_side (n a : Nat) (bs : List Byte) (s : State) : (scratchWrite n a bs s).side = s.side := rfl
@[simp] theorem scratchWrite_free (n a : Nat) (bs : List Byte) (s : State) : (scratchWrite n a bs s).free = s.free := rfl
@[simp] theorem scratchWrite_out (n a : Nat) (bs : List Byte) (s : State) : (scratchWrite n a bs s).out = s.out := rfl
@[simp] theorem scratchWrite_pending (n a : Nat) (bs : List Byte) (s : State) : (scratchWrite n a bs s).pending = s.pending := rfl

/-! ### scratchClear -/

@[simp] theorem scratchClear_ident (n : Nat) (s : State) : (scratchClear n s).ident = s.ident := rfl
@[simp] theorem scratchClear_zoes (n : Nat) (s : State) : (scratchClear n s).zoes = s.zoes := rfl
@[simp] theorem scratchClear_hbm (n : Nat) (s : State) : (scratchClear n s).hbm = s.hbm := rfl
@[simp] theorem scratchClear_sessions (n : Nat) (s : State) : (scratchClear n s).sessions = s.sessions := rfl
@[simp] theorem scratchClear_staged (n : Nat) (s : State) : (scratchClear n s).staged = s.staged := rfl
@[simp] theorem scratchClear_shows (n : Nat) (s : State) : (scratchClear n s).shows = s.shows := rfl
@[simp] theorem scratchClear_host (n : Nat) (s : State) : (scratchClear n s).host = s.host := rfl
@[simp] theorem scratchClear_windows (n : Nat) (s : State) : (scratchClear n s).windows = s.windows := rfl
@[simp] theorem scratchClear_parts (n : Nat) (s : State) : (scratchClear n s).parts = s.parts := rfl
@[simp] theorem scratchClear_sec (n : Nat) (s : State) : (scratchClear n s).sec = s.sec := rfl
@[simp] theorem scratchClear_fab (n : Nat) (s : State) : (scratchClear n s).fab = s.fab := rfl
@[simp] theorem scratchClear_las (n : Nat) (s : State) : (scratchClear n s).las = s.las := rfl
@[simp] theorem scratchClear_d2d (n : Nat) (s : State) : (scratchClear n s).d2d = s.d2d := rfl
@[simp] theorem scratchClear_mrt (n : Nat) (s : State) : (scratchClear n s).mrt = s.mrt := rfl
@[simp] theorem scratchClear_pwr (n : Nat) (s : State) : (scratchClear n s).pwr = s.pwr := rfl
@[simp] theorem scratchClear_flt (n : Nat) (s : State) : (scratchClear n s).flt = s.flt := rfl
@[simp] theorem scratchClear_rst (n : Nat) (s : State) : (scratchClear n s).rst = s.rst := rfl
@[simp] theorem scratchClear_side (n : Nat) (s : State) : (scratchClear n s).side = s.side := rfl
@[simp] theorem scratchClear_free (n : Nat) (s : State) : (scratchClear n s).free = s.free := rfl
@[simp] theorem scratchClear_out (n : Nat) (s : State) : (scratchClear n s).out = s.out := rfl
@[simp] theorem scratchClear_pending (n : Nat) (s : State) : (scratchClear n s).pending = s.pending := rfl

/-! ### modZoe -/

@[simp] theorem modZoe_ident (z : Nat) (f : Zoe → Zoe) (s : State) : (modZoe z f s).ident = s.ident := rfl
@[simp] theorem modZoe_mrb (z : Nat) (f : Zoe → Zoe) (s : State) : (modZoe z f s).mrb = s.mrb := rfl
@[simp] theorem modZoe_hbm (z : Nat) (f : Zoe → Zoe) (s : State) : (modZoe z f s).hbm = s.hbm := rfl
@[simp] theorem modZoe_sessions (z : Nat) (f : Zoe → Zoe) (s : State) : (modZoe z f s).sessions = s.sessions := rfl
@[simp] theorem modZoe_staged (z : Nat) (f : Zoe → Zoe) (s : State) : (modZoe z f s).staged = s.staged := rfl
@[simp] theorem modZoe_shows (z : Nat) (f : Zoe → Zoe) (s : State) : (modZoe z f s).shows = s.shows := rfl
@[simp] theorem modZoe_host (z : Nat) (f : Zoe → Zoe) (s : State) : (modZoe z f s).host = s.host := rfl
@[simp] theorem modZoe_windows (z : Nat) (f : Zoe → Zoe) (s : State) : (modZoe z f s).windows = s.windows := rfl
@[simp] theorem modZoe_parts (z : Nat) (f : Zoe → Zoe) (s : State) : (modZoe z f s).parts = s.parts := rfl
@[simp] theorem modZoe_sec (z : Nat) (f : Zoe → Zoe) (s : State) : (modZoe z f s).sec = s.sec := rfl
@[simp] theorem modZoe_fab (z : Nat) (f : Zoe → Zoe) (s : State) : (modZoe z f s).fab = s.fab := rfl
@[simp] theorem modZoe_las (z : Nat) (f : Zoe → Zoe) (s : State) : (modZoe z f s).las = s.las := rfl
@[simp] theorem modZoe_d2d (z : Nat) (f : Zoe → Zoe) (s : State) : (modZoe z f s).d2d = s.d2d := rfl
@[simp] theorem modZoe_mrt (z : Nat) (f : Zoe → Zoe) (s : State) : (modZoe z f s).mrt = s.mrt := rfl
@[simp] theorem modZoe_pwr (z : Nat) (f : Zoe → Zoe) (s : State) : (modZoe z f s).pwr = s.pwr := rfl
@[simp] theorem modZoe_flt (z : Nat) (f : Zoe → Zoe) (s : State) : (modZoe z f s).flt = s.flt := rfl
@[simp] theorem modZoe_rst (z : Nat) (f : Zoe → Zoe) (s : State) : (modZoe z f s).rst = s.rst := rfl
@[simp] theorem modZoe_side (z : Nat) (f : Zoe → Zoe) (s : State) : (modZoe z f s).side = s.side := rfl
@[simp] theorem modZoe_free (z : Nat) (f : Zoe → Zoe) (s : State) : (modZoe z f s).free = s.free := rfl
@[simp] theorem modZoe_out (z : Nat) (f : Zoe → Zoe) (s : State) : (modZoe z f s).out = s.out := rfl
@[simp] theorem modZoe_pending (z : Nat) (f : Zoe → Zoe) (s : State) : (modZoe z f s).pending = s.pending := rfl

/-! ### modStream -/

@[simp] theorem modStream_ident (z q : Nat) (f : StreamSt → StreamSt) (s : State) : (modStream z q f s).ident = s.ident := rfl
@[simp] theorem modStream_mrb (z q : Nat) (f : StreamSt → StreamSt) (s : State) : (modStream z q f s).mrb = s.mrb := rfl
@[simp] theorem modStream_hbm (z q : Nat) (f : StreamSt → StreamSt) (s : State) : (modStream z q f s).hbm = s.hbm := rfl
@[simp] theorem modStream_sessions (z q : Nat) (f : StreamSt → StreamSt) (s : State) : (modStream z q f s).sessions = s.sessions := rfl
@[simp] theorem modStream_staged (z q : Nat) (f : StreamSt → StreamSt) (s : State) : (modStream z q f s).staged = s.staged := rfl
@[simp] theorem modStream_shows (z q : Nat) (f : StreamSt → StreamSt) (s : State) : (modStream z q f s).shows = s.shows := rfl
@[simp] theorem modStream_host (z q : Nat) (f : StreamSt → StreamSt) (s : State) : (modStream z q f s).host = s.host := rfl
@[simp] theorem modStream_windows (z q : Nat) (f : StreamSt → StreamSt) (s : State) : (modStream z q f s).windows = s.windows := rfl
@[simp] theorem modStream_parts (z q : Nat) (f : StreamSt → StreamSt) (s : State) : (modStream z q f s).parts = s.parts := rfl
@[simp] theorem modStream_sec (z q : Nat) (f : StreamSt → StreamSt) (s : State) : (modStream z q f s).sec = s.sec := rfl
@[simp] theorem modStream_fab (z q : Nat) (f : StreamSt → StreamSt) (s : State) : (modStream z q f s).fab = s.fab := rfl
@[simp] theorem modStream_las (z q : Nat) (f : StreamSt → StreamSt) (s : State) : (modStream z q f s).las = s.las := rfl
@[simp] theorem modStream_d2d (z q : Nat) (f : StreamSt → StreamSt) (s : State) : (modStream z q f s).d2d = s.d2d := rfl
@[simp] theorem modStream_mrt (z q : Nat) (f : StreamSt → StreamSt) (s : State) : (modStream z q f s).mrt = s.mrt := rfl
@[simp] theorem modStream_pwr (z q : Nat) (f : StreamSt → StreamSt) (s : State) : (modStream z q f s).pwr = s.pwr := rfl
@[simp] theorem modStream_flt (z q : Nat) (f : StreamSt → StreamSt) (s : State) : (modStream z q f s).flt = s.flt := rfl
@[simp] theorem modStream_rst (z q : Nat) (f : StreamSt → StreamSt) (s : State) : (modStream z q f s).rst = s.rst := rfl
@[simp] theorem modStream_side (z q : Nat) (f : StreamSt → StreamSt) (s : State) : (modStream z q f s).side = s.side := rfl
@[simp] theorem modStream_free (z q : Nat) (f : StreamSt → StreamSt) (s : State) : (modStream z q f s).free = s.free := rfl
@[simp] theorem modStream_out (z q : Nat) (f : StreamSt → StreamSt) (s : State) : (modStream z q f s).out = s.out := rfl
@[simp] theorem modStream_pending (z q : Nat) (f : StreamSt → StreamSt) (s : State) : (modStream z q f s).pending = s.pending := rfl

/-! ### modThread -/

@[simp] theorem modThread_ident (z t : Nat) (f : ThreadSt → ThreadSt) (s : State) : (modThread z t f s).ident = s.ident := rfl
@[simp] theorem modThread_mrb (z t : Nat) (f : ThreadSt → ThreadSt) (s : State) : (modThread z t f s).mrb = s.mrb := rfl
@[simp] theorem modThread_hbm (z t : Nat) (f : ThreadSt → ThreadSt) (s : State) : (modThread z t f s).hbm = s.hbm := rfl
@[simp] theorem modThread_sessions (z t : Nat) (f : ThreadSt → ThreadSt) (s : State) : (modThread z t f s).sessions = s.sessions := rfl
@[simp] theorem modThread_staged (z t : Nat) (f : ThreadSt → ThreadSt) (s : State) : (modThread z t f s).staged = s.staged := rfl
@[simp] theorem modThread_shows (z t : Nat) (f : ThreadSt → ThreadSt) (s : State) : (modThread z t f s).shows = s.shows := rfl
@[simp] theorem modThread_host (z t : Nat) (f : ThreadSt → ThreadSt) (s : State) : (modThread z t f s).host = s.host := rfl
@[simp] theorem modThread_windows (z t : Nat) (f : ThreadSt → ThreadSt) (s : State) : (modThread z t f s).windows = s.windows := rfl
@[simp] theorem modThread_parts (z t : Nat) (f : ThreadSt → ThreadSt) (s : State) : (modThread z t f s).parts = s.parts := rfl
@[simp] theorem modThread_sec (z t : Nat) (f : ThreadSt → ThreadSt) (s : State) : (modThread z t f s).sec = s.sec := rfl
@[simp] theorem modThread_fab (z t : Nat) (f : ThreadSt → ThreadSt) (s : State) : (modThread z t f s).fab = s.fab := rfl
@[simp] theorem modThread_las (z t : Nat) (f : ThreadSt → ThreadSt) (s : State) : (modThread z t f s).las = s.las := rfl
@[simp] theorem modThread_d2d (z t : Nat) (f : ThreadSt → ThreadSt) (s : State) : (modThread z t f s).d2d = s.d2d := rfl
@[simp] theorem modThread_mrt (z t : Nat) (f : ThreadSt → ThreadSt) (s : State) : (modThread z t f s).mrt = s.mrt := rfl
@[simp] theorem modThread_pwr (z t : Nat) (f : ThreadSt → ThreadSt) (s : State) : (modThread z t f s).pwr = s.pwr := rfl
@[simp] theorem modThread_flt (z t : Nat) (f : ThreadSt → ThreadSt) (s : State) : (modThread z t f s).flt = s.flt := rfl
@[simp] theorem modThread_rst (z t : Nat) (f : ThreadSt → ThreadSt) (s : State) : (modThread z t f s).rst = s.rst := rfl
@[simp] theorem modThread_side (z t : Nat) (f : ThreadSt → ThreadSt) (s : State) : (modThread z t f s).side = s.side := rfl
@[simp] theorem modThread_free (z t : Nat) (f : ThreadSt → ThreadSt) (s : State) : (modThread z t f s).free = s.free := rfl
@[simp] theorem modThread_out (z t : Nat) (f : ThreadSt → ThreadSt) (s : State) : (modThread z t f s).out = s.out := rfl
@[simp] theorem modThread_pending (z t : Nat) (f : ThreadSt → ThreadSt) (s : State) : (modThread z t f s).pending = s.pending := rfl

/-! ### modWindow -/

@[simp] theorem modWindow_ident (w : Fn) (f : Window → Window) (s : State) : (modWindow w f s).ident = s.ident := rfl
@[simp] theorem modWindow_mrb (w : Fn) (f : Window → Window) (s : State) : (modWindow w f s).mrb = s.mrb := rfl
@[simp] theorem modWindow_zoes (w : Fn) (f : Window → Window) (s : State) : (modWindow w f s).zoes = s.zoes := rfl
@[simp] theorem modWindow_hbm (w : Fn) (f : Window → Window) (s : State) : (modWindow w f s).hbm = s.hbm := rfl
@[simp] theorem modWindow_sessions (w : Fn) (f : Window → Window) (s : State) : (modWindow w f s).sessions = s.sessions := rfl
@[simp] theorem modWindow_staged (w : Fn) (f : Window → Window) (s : State) : (modWindow w f s).staged = s.staged := rfl
@[simp] theorem modWindow_shows (w : Fn) (f : Window → Window) (s : State) : (modWindow w f s).shows = s.shows := rfl
@[simp] theorem modWindow_host (w : Fn) (f : Window → Window) (s : State) : (modWindow w f s).host = s.host := rfl
@[simp] theorem modWindow_parts (w : Fn) (f : Window → Window) (s : State) : (modWindow w f s).parts = s.parts := rfl
@[simp] theorem modWindow_sec (w : Fn) (f : Window → Window) (s : State) : (modWindow w f s).sec = s.sec := rfl
@[simp] theorem modWindow_fab (w : Fn) (f : Window → Window) (s : State) : (modWindow w f s).fab = s.fab := rfl
@[simp] theorem modWindow_las (w : Fn) (f : Window → Window) (s : State) : (modWindow w f s).las = s.las := rfl
@[simp] theorem modWindow_d2d (w : Fn) (f : Window → Window) (s : State) : (modWindow w f s).d2d = s.d2d := rfl
@[simp] theorem modWindow_mrt (w : Fn) (f : Window → Window) (s : State) : (modWindow w f s).mrt = s.mrt := rfl
@[simp] theorem modWindow_pwr (w : Fn) (f : Window → Window) (s : State) : (modWindow w f s).pwr = s.pwr := rfl
@[simp] theorem modWindow_flt (w : Fn) (f : Window → Window) (s : State) : (modWindow w f s).flt = s.flt := rfl
@[simp] theorem modWindow_rst (w : Fn) (f : Window → Window) (s : State) : (modWindow w f s).rst = s.rst := rfl
@[simp] theorem modWindow_side (w : Fn) (f : Window → Window) (s : State) : (modWindow w f s).side = s.side := rfl
@[simp] theorem modWindow_free (w : Fn) (f : Window → Window) (s : State) : (modWindow w f s).free = s.free := rfl
@[simp] theorem modWindow_out (w : Fn) (f : Window → Window) (s : State) : (modWindow w f s).out = s.out := rfl
@[simp] theorem modWindow_pending (w : Fn) (f : Window → Window) (s : State) : (modWindow w f s).pending = s.pending := rfl

/-! ### modQueue -/

@[simp] theorem modQueue_ident (q : Nat) (f : Queue → Queue) (s : State) : (modQueue q f s).ident = s.ident := rfl
@[simp] theorem modQueue_mrb (q : Nat) (f : Queue → Queue) (s : State) : (modQueue q f s).mrb = s.mrb := rfl
@[simp] theorem modQueue_zoes (q : Nat) (f : Queue → Queue) (s : State) : (modQueue q f s).zoes = s.zoes := rfl
@[simp] theorem modQueue_hbm (q : Nat) (f : Queue → Queue) (s : State) : (modQueue q f s).hbm = s.hbm := rfl
@[simp] theorem modQueue_sessions (q : Nat) (f : Queue → Queue) (s : State) : (modQueue q f s).sessions = s.sessions := rfl
@[simp] theorem modQueue_staged (q : Nat) (f : Queue → Queue) (s : State) : (modQueue q f s).staged = s.staged := rfl
@[simp] theorem modQueue_shows (q : Nat) (f : Queue → Queue) (s : State) : (modQueue q f s).shows = s.shows := rfl
@[simp] theorem modQueue_windows (q : Nat) (f : Queue → Queue) (s : State) : (modQueue q f s).windows = s.windows := rfl
@[simp] theorem modQueue_parts (q : Nat) (f : Queue → Queue) (s : State) : (modQueue q f s).parts = s.parts := rfl
@[simp] theorem modQueue_sec (q : Nat) (f : Queue → Queue) (s : State) : (modQueue q f s).sec = s.sec := rfl
@[simp] theorem modQueue_fab (q : Nat) (f : Queue → Queue) (s : State) : (modQueue q f s).fab = s.fab := rfl
@[simp] theorem modQueue_las (q : Nat) (f : Queue → Queue) (s : State) : (modQueue q f s).las = s.las := rfl
@[simp] theorem modQueue_d2d (q : Nat) (f : Queue → Queue) (s : State) : (modQueue q f s).d2d = s.d2d := rfl
@[simp] theorem modQueue_mrt (q : Nat) (f : Queue → Queue) (s : State) : (modQueue q f s).mrt = s.mrt := rfl
@[simp] theorem modQueue_pwr (q : Nat) (f : Queue → Queue) (s : State) : (modQueue q f s).pwr = s.pwr := rfl
@[simp] theorem modQueue_flt (q : Nat) (f : Queue → Queue) (s : State) : (modQueue q f s).flt = s.flt := rfl
@[simp] theorem modQueue_rst (q : Nat) (f : Queue → Queue) (s : State) : (modQueue q f s).rst = s.rst := rfl
@[simp] theorem modQueue_side (q : Nat) (f : Queue → Queue) (s : State) : (modQueue q f s).side = s.side := rfl
@[simp] theorem modQueue_free (q : Nat) (f : Queue → Queue) (s : State) : (modQueue q f s).free = s.free := rfl
@[simp] theorem modQueue_out (q : Nat) (f : Queue → Queue) (s : State) : (modQueue q f s).out = s.out := rfl
@[simp] theorem modQueue_pending (q : Nat) (f : Queue → Queue) (s : State) : (modQueue q f s).pending = s.pending := rfl

/-! ### modFlight -/

@[simp] theorem modFlight_ident (q i : Nat) (f : InFlight → InFlight) (s : State) : (modFlight q i f s).ident = s.ident := rfl
@[simp] theorem modFlight_mrb (q i : Nat) (f : InFlight → InFlight) (s : State) : (modFlight q i f s).mrb = s.mrb := rfl
@[simp] theorem modFlight_zoes (q i : Nat) (f : InFlight → InFlight) (s : State) : (modFlight q i f s).zoes = s.zoes := rfl
@[simp] theorem modFlight_hbm (q i : Nat) (f : InFlight → InFlight) (s : State) : (modFlight q i f s).hbm = s.hbm := rfl
@[simp] theorem modFlight_sessions (q i : Nat) (f : InFlight → InFlight) (s : State) : (modFlight q i f s).sessions = s.sessions := rfl
@[simp] theorem modFlight_staged (q i : Nat) (f : InFlight → InFlight) (s : State) : (modFlight q i f s).staged = s.staged := rfl
@[simp] theorem modFlight_shows (q i : Nat) (f : InFlight → InFlight) (s : State) : (modFlight q i f s).shows = s.shows := rfl
@[simp] theorem modFlight_windows (q i : Nat) (f : InFlight → InFlight) (s : State) : (modFlight q i f s).windows = s.windows := rfl
@[simp] theorem modFlight_parts (q i : Nat) (f : InFlight → InFlight) (s : State) : (modFlight q i f s).parts = s.parts := rfl
@[simp] theorem modFlight_sec (q i : Nat) (f : InFlight → InFlight) (s : State) : (modFlight q i f s).sec = s.sec := rfl
@[simp] theorem modFlight_fab (q i : Nat) (f : InFlight → InFlight) (s : State) : (modFlight q i f s).fab = s.fab := rfl
@[simp] theorem modFlight_las (q i : Nat) (f : InFlight → InFlight) (s : State) : (modFlight q i f s).las = s.las := rfl
@[simp] theorem modFlight_d2d (q i : Nat) (f : InFlight → InFlight) (s : State) : (modFlight q i f s).d2d = s.d2d := rfl
@[simp] theorem modFlight_mrt (q i : Nat) (f : InFlight → InFlight) (s : State) : (modFlight q i f s).mrt = s.mrt := rfl
@[simp] theorem modFlight_pwr (q i : Nat) (f : InFlight → InFlight) (s : State) : (modFlight q i f s).pwr = s.pwr := rfl
@[simp] theorem modFlight_flt (q i : Nat) (f : InFlight → InFlight) (s : State) : (modFlight q i f s).flt = s.flt := rfl
@[simp] theorem modFlight_rst (q i : Nat) (f : InFlight → InFlight) (s : State) : (modFlight q i f s).rst = s.rst := rfl
@[simp] theorem modFlight_side (q i : Nat) (f : InFlight → InFlight) (s : State) : (modFlight q i f s).side = s.side := rfl
@[simp] theorem modFlight_free (q i : Nat) (f : InFlight → InFlight) (s : State) : (modFlight q i f s).free = s.free := rfl
@[simp] theorem modFlight_out (q i : Nat) (f : InFlight → InFlight) (s : State) : (modFlight q i f s).out = s.out := rfl
@[simp] theorem modFlight_pending (q i : Nat) (f : InFlight → InFlight) (s : State) : (modFlight q i f s).pending = s.pending := rfl

/-! ### modPeer -/

@[simp] theorem modPeer_ident (m : Nat) (f : Peer → Peer) (s : State) : (modPeer m f s).ident = s.ident := rfl
@[simp] theorem modPeer_mrb (m : Nat) (f : Peer → Peer) (s : State) : (modPeer m f s).mrb = s.mrb := rfl
@[simp] theorem modPeer_zoes (m : Nat) (f : Peer → Peer) (s : State) : (modPeer m f s).zoes = s.zoes := rfl
@[simp] theorem modPeer_hbm (m : Nat) (f : Peer → Peer) (s : State) : (modPeer m f s).hbm = s.hbm := rfl
@[simp] theorem modPeer_sessions (m : Nat) (f : Peer → Peer) (s : State) : (modPeer m f s).sessions = s.sessions := rfl
@[simp] theorem modPeer_staged (m : Nat) (f : Peer → Peer) (s : State) : (modPeer m f s).staged = s.staged := rfl
@[simp] theorem modPeer_shows (m : Nat) (f : Peer → Peer) (s : State) : (modPeer m f s).shows = s.shows := rfl
@[simp] theorem modPeer_host (m : Nat) (f : Peer → Peer) (s : State) : (modPeer m f s).host = s.host := rfl
@[simp] theorem modPeer_windows (m : Nat) (f : Peer → Peer) (s : State) : (modPeer m f s).windows = s.windows := rfl
@[simp] theorem modPeer_parts (m : Nat) (f : Peer → Peer) (s : State) : (modPeer m f s).parts = s.parts := rfl
@[simp] theorem modPeer_sec (m : Nat) (f : Peer → Peer) (s : State) : (modPeer m f s).sec = s.sec := rfl
@[simp] theorem modPeer_las (m : Nat) (f : Peer → Peer) (s : State) : (modPeer m f s).las = s.las := rfl
@[simp] theorem modPeer_d2d (m : Nat) (f : Peer → Peer) (s : State) : (modPeer m f s).d2d = s.d2d := rfl
@[simp] theorem modPeer_mrt (m : Nat) (f : Peer → Peer) (s : State) : (modPeer m f s).mrt = s.mrt := rfl
@[simp] theorem modPeer_pwr (m : Nat) (f : Peer → Peer) (s : State) : (modPeer m f s).pwr = s.pwr := rfl
@[simp] theorem modPeer_flt (m : Nat) (f : Peer → Peer) (s : State) : (modPeer m f s).flt = s.flt := rfl
@[simp] theorem modPeer_rst (m : Nat) (f : Peer → Peer) (s : State) : (modPeer m f s).rst = s.rst := rfl
@[simp] theorem modPeer_side (m : Nat) (f : Peer → Peer) (s : State) : (modPeer m f s).side = s.side := rfl
@[simp] theorem modPeer_free (m : Nat) (f : Peer → Peer) (s : State) : (modPeer m f s).free = s.free := rfl
@[simp] theorem modPeer_out (m : Nat) (f : Peer → Peer) (s : State) : (modPeer m f s).out = s.out := rfl
@[simp] theorem modPeer_pending (m : Nat) (f : Peer → Peer) (s : State) : (modPeer m f s).pending = s.pending := rfl

/-! ### modVc -/

@[simp] theorem modVc_ident (m c : Nat) (f : VcCredit → VcCredit) (s : State) : (modVc m c f s).ident = s.ident := rfl
@[simp] theorem modVc_mrb (m c : Nat) (f : VcCredit → VcCredit) (s : State) : (modVc m c f s).mrb = s.mrb := rfl
@[simp] theorem modVc_zoes (m c : Nat) (f : VcCredit → VcCredit) (s : State) : (modVc m c f s).zoes = s.zoes := rfl
@[simp] theorem modVc_hbm (m c : Nat) (f : VcCredit → VcCredit) (s : State) : (modVc m c f s).hbm = s.hbm := rfl
@[simp] theorem modVc_sessions (m c : Nat) (f : VcCredit → VcCredit) (s : State) : (modVc m c f s).sessions = s.sessions := rfl
@[simp] theorem modVc_staged (m c : Nat) (f : VcCredit → VcCredit) (s : State) : (modVc m c f s).staged = s.staged := rfl
@[simp] theorem modVc_shows (m c : Nat) (f : VcCredit → VcCredit) (s : State) : (modVc m c f s).shows = s.shows := rfl
@[simp] theorem modVc_host (m c : Nat) (f : VcCredit → VcCredit) (s : State) : (modVc m c f s).host = s.host := rfl
@[simp] theorem modVc_windows (m c : Nat) (f : VcCredit → VcCredit) (s : State) : (modVc m c f s).windows = s.windows := rfl
@[simp] theorem modVc_parts (m c : Nat) (f : VcCredit → VcCredit) (s : State) : (modVc m c f s).parts = s.parts := rfl
@[simp] theorem modVc_sec (m c : Nat) (f : VcCredit → VcCredit) (s : State) : (modVc m c f s).sec = s.sec := rfl
@[simp] theorem modVc_las (m c : Nat) (f : VcCredit → VcCredit) (s : State) : (modVc m c f s).las = s.las := rfl
@[simp] theorem modVc_d2d (m c : Nat) (f : VcCredit → VcCredit) (s : State) : (modVc m c f s).d2d = s.d2d := rfl
@[simp] theorem modVc_mrt (m c : Nat) (f : VcCredit → VcCredit) (s : State) : (modVc m c f s).mrt = s.mrt := rfl
@[simp] theorem modVc_pwr (m c : Nat) (f : VcCredit → VcCredit) (s : State) : (modVc m c f s).pwr = s.pwr := rfl
@[simp] theorem modVc_flt (m c : Nat) (f : VcCredit → VcCredit) (s : State) : (modVc m c f s).flt = s.flt := rfl
@[simp] theorem modVc_rst (m c : Nat) (f : VcCredit → VcCredit) (s : State) : (modVc m c f s).rst = s.rst := rfl
@[simp] theorem modVc_side (m c : Nat) (f : VcCredit → VcCredit) (s : State) : (modVc m c f s).side = s.side := rfl
@[simp] theorem modVc_free (m c : Nat) (f : VcCredit → VcCredit) (s : State) : (modVc m c f s).free = s.free := rfl
@[simp] theorem modVc_out (m c : Nat) (f : VcCredit → VcCredit) (s : State) : (modVc m c f s).out = s.out := rfl
@[simp] theorem modVc_pending (m c : Nat) (f : VcCredit → VcCredit) (s : State) : (modVc m c f s).pending = s.pending := rfl

/-! ### modLane -/

@[simp] theorem modLane_ident (l : Nat) (f : Lane → Lane) (s : State) : (modLane l f s).ident = s.ident := rfl
@[simp] theorem modLane_mrb (l : Nat) (f : Lane → Lane) (s : State) : (modLane l f s).mrb = s.mrb := rfl
@[simp] theorem modLane_zoes (l : Nat) (f : Lane → Lane) (s : State) : (modLane l f s).zoes = s.zoes := rfl
@[simp] theorem modLane_hbm (l : Nat) (f : Lane → Lane) (s : State) : (modLane l f s).hbm = s.hbm := rfl
@[simp] theorem modLane_sessions (l : Nat) (f : Lane → Lane) (s : State) : (modLane l f s).sessions = s.sessions := rfl
@[simp] theorem modLane_staged (l : Nat) (f : Lane → Lane) (s : State) : (modLane l f s).staged = s.staged := rfl
@[simp] theorem modLane_shows (l : Nat) (f : Lane → Lane) (s : State) : (modLane l f s).shows = s.shows := rfl
@[simp] theorem modLane_host (l : Nat) (f : Lane → Lane) (s : State) : (modLane l f s).host = s.host := rfl
@[simp] theorem modLane_windows (l : Nat) (f : Lane → Lane) (s : State) : (modLane l f s).windows = s.windows := rfl
@[simp] theorem modLane_parts (l : Nat) (f : Lane → Lane) (s : State) : (modLane l f s).parts = s.parts := rfl
@[simp] theorem modLane_sec (l : Nat) (f : Lane → Lane) (s : State) : (modLane l f s).sec = s.sec := rfl
@[simp] theorem modLane_las (l : Nat) (f : Lane → Lane) (s : State) : (modLane l f s).las = s.las := rfl
@[simp] theorem modLane_d2d (l : Nat) (f : Lane → Lane) (s : State) : (modLane l f s).d2d = s.d2d := rfl
@[simp] theorem modLane_mrt (l : Nat) (f : Lane → Lane) (s : State) : (modLane l f s).mrt = s.mrt := rfl
@[simp] theorem modLane_pwr (l : Nat) (f : Lane → Lane) (s : State) : (modLane l f s).pwr = s.pwr := rfl
@[simp] theorem modLane_flt (l : Nat) (f : Lane → Lane) (s : State) : (modLane l f s).flt = s.flt := rfl
@[simp] theorem modLane_rst (l : Nat) (f : Lane → Lane) (s : State) : (modLane l f s).rst = s.rst := rfl
@[simp] theorem modLane_side (l : Nat) (f : Lane → Lane) (s : State) : (modLane l f s).side = s.side := rfl
@[simp] theorem modLane_free (l : Nat) (f : Lane → Lane) (s : State) : (modLane l f s).free = s.free := rfl
@[simp] theorem modLane_out (l : Nat) (f : Lane → Lane) (s : State) : (modLane l f s).out = s.out := rfl
@[simp] theorem modLane_pending (l : Nat) (f : Lane → Lane) (s : State) : (modLane l f s).pending = s.pending := rfl

/-! ### modPch -/

@[simp] theorem modPch_ident (c : Nat) (f : Pch → Pch) (s : State) : (modPch c f s).ident = s.ident := rfl
@[simp] theorem modPch_mrb (c : Nat) (f : Pch → Pch) (s : State) : (modPch c f s).mrb = s.mrb := rfl
@[simp] theorem modPch_zoes (c : Nat) (f : Pch → Pch) (s : State) : (modPch c f s).zoes = s.zoes := rfl
@[simp] theorem modPch_sessions (c : Nat) (f : Pch → Pch) (s : State) : (modPch c f s).sessions = s.sessions := rfl
@[simp] theorem modPch_staged (c : Nat) (f : Pch → Pch) (s : State) : (modPch c f s).staged = s.staged := rfl
@[simp] theorem modPch_shows (c : Nat) (f : Pch → Pch) (s : State) : (modPch c f s).shows = s.shows := rfl
@[simp] theorem modPch_host (c : Nat) (f : Pch → Pch) (s : State) : (modPch c f s).host = s.host := rfl
@[simp] theorem modPch_windows (c : Nat) (f : Pch → Pch) (s : State) : (modPch c f s).windows = s.windows := rfl
@[simp] theorem modPch_parts (c : Nat) (f : Pch → Pch) (s : State) : (modPch c f s).parts = s.parts := rfl
@[simp] theorem modPch_sec (c : Nat) (f : Pch → Pch) (s : State) : (modPch c f s).sec = s.sec := rfl
@[simp] theorem modPch_fab (c : Nat) (f : Pch → Pch) (s : State) : (modPch c f s).fab = s.fab := rfl
@[simp] theorem modPch_las (c : Nat) (f : Pch → Pch) (s : State) : (modPch c f s).las = s.las := rfl
@[simp] theorem modPch_d2d (c : Nat) (f : Pch → Pch) (s : State) : (modPch c f s).d2d = s.d2d := rfl
@[simp] theorem modPch_mrt (c : Nat) (f : Pch → Pch) (s : State) : (modPch c f s).mrt = s.mrt := rfl
@[simp] theorem modPch_pwr (c : Nat) (f : Pch → Pch) (s : State) : (modPch c f s).pwr = s.pwr := rfl
@[simp] theorem modPch_flt (c : Nat) (f : Pch → Pch) (s : State) : (modPch c f s).flt = s.flt := rfl
@[simp] theorem modPch_rst (c : Nat) (f : Pch → Pch) (s : State) : (modPch c f s).rst = s.rst := rfl
@[simp] theorem modPch_side (c : Nat) (f : Pch → Pch) (s : State) : (modPch c f s).side = s.side := rfl
@[simp] theorem modPch_free (c : Nat) (f : Pch → Pch) (s : State) : (modPch c f s).free = s.free := rfl
@[simp] theorem modPch_out (c : Nat) (f : Pch → Pch) (s : State) : (modPch c f s).out = s.out := rfl
@[simp] theorem modPch_pending (c : Nat) (f : Pch → Pch) (s : State) : (modPch c f s).pending = s.pending := rfl

/-! ### modStack -/

@[simp] theorem modStack_ident (k : Nat) (f : Stack → Stack) (s : State) : (modStack k f s).ident = s.ident := rfl
@[simp] theorem modStack_mrb (k : Nat) (f : Stack → Stack) (s : State) : (modStack k f s).mrb = s.mrb := rfl
@[simp] theorem modStack_zoes (k : Nat) (f : Stack → Stack) (s : State) : (modStack k f s).zoes = s.zoes := rfl
@[simp] theorem modStack_sessions (k : Nat) (f : Stack → Stack) (s : State) : (modStack k f s).sessions = s.sessions := rfl
@[simp] theorem modStack_staged (k : Nat) (f : Stack → Stack) (s : State) : (modStack k f s).staged = s.staged := rfl
@[simp] theorem modStack_shows (k : Nat) (f : Stack → Stack) (s : State) : (modStack k f s).shows = s.shows := rfl
@[simp] theorem modStack_host (k : Nat) (f : Stack → Stack) (s : State) : (modStack k f s).host = s.host := rfl
@[simp] theorem modStack_windows (k : Nat) (f : Stack → Stack) (s : State) : (modStack k f s).windows = s.windows := rfl
@[simp] theorem modStack_parts (k : Nat) (f : Stack → Stack) (s : State) : (modStack k f s).parts = s.parts := rfl
@[simp] theorem modStack_sec (k : Nat) (f : Stack → Stack) (s : State) : (modStack k f s).sec = s.sec := rfl
@[simp] theorem modStack_fab (k : Nat) (f : Stack → Stack) (s : State) : (modStack k f s).fab = s.fab := rfl
@[simp] theorem modStack_las (k : Nat) (f : Stack → Stack) (s : State) : (modStack k f s).las = s.las := rfl
@[simp] theorem modStack_d2d (k : Nat) (f : Stack → Stack) (s : State) : (modStack k f s).d2d = s.d2d := rfl
@[simp] theorem modStack_mrt (k : Nat) (f : Stack → Stack) (s : State) : (modStack k f s).mrt = s.mrt := rfl
@[simp] theorem modStack_pwr (k : Nat) (f : Stack → Stack) (s : State) : (modStack k f s).pwr = s.pwr := rfl
@[simp] theorem modStack_flt (k : Nat) (f : Stack → Stack) (s : State) : (modStack k f s).flt = s.flt := rfl
@[simp] theorem modStack_rst (k : Nat) (f : Stack → Stack) (s : State) : (modStack k f s).rst = s.rst := rfl
@[simp] theorem modStack_side (k : Nat) (f : Stack → Stack) (s : State) : (modStack k f s).side = s.side := rfl
@[simp] theorem modStack_free (k : Nat) (f : Stack → Stack) (s : State) : (modStack k f s).free = s.free := rfl
@[simp] theorem modStack_out (k : Nat) (f : Stack → Stack) (s : State) : (modStack k f s).out = s.out := rfl
@[simp] theorem modStack_pending (k : Nat) (f : Stack → Stack) (s : State) : (modStack k f s).pending = s.pending := rfl

/-! ### modRlc -/

@[simp] theorem modRlc_ident (h : Nat) (f : Rlc → Rlc) (s : State) : (modRlc h f s).ident = s.ident := by unfold modRlc; split <;> rfl
@[simp] theorem modRlc_mrb (h : Nat) (f : Rlc → Rlc) (s : State) : (modRlc h f s).mrb = s.mrb := by unfold modRlc; split <;> rfl
@[simp] theorem modRlc_zoes (h : Nat) (f : Rlc → Rlc) (s : State) : (modRlc h f s).zoes = s.zoes := by unfold modRlc; split <;> rfl
@[simp] theorem modRlc_sessions (h : Nat) (f : Rlc → Rlc) (s : State) : (modRlc h f s).sessions = s.sessions := by unfold modRlc; split <;> rfl
@[simp] theorem modRlc_staged (h : Nat) (f : Rlc → Rlc) (s : State) : (modRlc h f s).staged = s.staged := by unfold modRlc; split <;> rfl
@[simp] theorem modRlc_shows (h : Nat) (f : Rlc → Rlc) (s : State) : (modRlc h f s).shows = s.shows := by unfold modRlc; split <;> rfl
@[simp] theorem modRlc_host (h : Nat) (f : Rlc → Rlc) (s : State) : (modRlc h f s).host = s.host := by unfold modRlc; split <;> rfl
@[simp] theorem modRlc_windows (h : Nat) (f : Rlc → Rlc) (s : State) : (modRlc h f s).windows = s.windows := by unfold modRlc; split <;> rfl
@[simp] theorem modRlc_parts (h : Nat) (f : Rlc → Rlc) (s : State) : (modRlc h f s).parts = s.parts := by unfold modRlc; split <;> rfl
@[simp] theorem modRlc_sec (h : Nat) (f : Rlc → Rlc) (s : State) : (modRlc h f s).sec = s.sec := by unfold modRlc; split <;> rfl
@[simp] theorem modRlc_fab (h : Nat) (f : Rlc → Rlc) (s : State) : (modRlc h f s).fab = s.fab := by unfold modRlc; split <;> rfl
@[simp] theorem modRlc_las (h : Nat) (f : Rlc → Rlc) (s : State) : (modRlc h f s).las = s.las := by unfold modRlc; split <;> rfl
@[simp] theorem modRlc_d2d (h : Nat) (f : Rlc → Rlc) (s : State) : (modRlc h f s).d2d = s.d2d := by unfold modRlc; split <;> rfl
@[simp] theorem modRlc_mrt (h : Nat) (f : Rlc → Rlc) (s : State) : (modRlc h f s).mrt = s.mrt := by unfold modRlc; split <;> rfl
@[simp] theorem modRlc_pwr (h : Nat) (f : Rlc → Rlc) (s : State) : (modRlc h f s).pwr = s.pwr := by unfold modRlc; split <;> rfl
@[simp] theorem modRlc_flt (h : Nat) (f : Rlc → Rlc) (s : State) : (modRlc h f s).flt = s.flt := by unfold modRlc; split <;> rfl
@[simp] theorem modRlc_rst (h : Nat) (f : Rlc → Rlc) (s : State) : (modRlc h f s).rst = s.rst := by unfold modRlc; split <;> rfl
@[simp] theorem modRlc_side (h : Nat) (f : Rlc → Rlc) (s : State) : (modRlc h f s).side = s.side := by unfold modRlc; split <;> rfl
@[simp] theorem modRlc_free (h : Nat) (f : Rlc → Rlc) (s : State) : (modRlc h f s).free = s.free := by unfold modRlc; split <;> rfl
@[simp] theorem modRlc_out (h : Nat) (f : Rlc → Rlc) (s : State) : (modRlc h f s).out = s.out := by unfold modRlc; split <;> rfl
@[simp] theorem modRlc_pending (h : Nat) (f : Rlc → Rlc) (s : State) : (modRlc h f s).pending = s.pending := by unfold modRlc; split <;> rfl

/-! ### modUcie -/

@[simp] theorem modUcie_ident (h m : Nat) (f : Ucie → Ucie) (s : State) : (modUcie h m f s).ident = s.ident := rfl
@[simp] theorem modUcie_mrb (h m : Nat) (f : Ucie → Ucie) (s : State) : (modUcie h m f s).mrb = s.mrb := rfl
@[simp] theorem modUcie_zoes (h m : Nat) (f : Ucie → Ucie) (s : State) : (modUcie h m f s).zoes = s.zoes := rfl
@[simp] theorem modUcie_hbm (h m : Nat) (f : Ucie → Ucie) (s : State) : (modUcie h m f s).hbm = s.hbm := rfl
@[simp] theorem modUcie_sessions (h m : Nat) (f : Ucie → Ucie) (s : State) : (modUcie h m f s).sessions = s.sessions := rfl
@[simp] theorem modUcie_staged (h m : Nat) (f : Ucie → Ucie) (s : State) : (modUcie h m f s).staged = s.staged := rfl
@[simp] theorem modUcie_shows (h m : Nat) (f : Ucie → Ucie) (s : State) : (modUcie h m f s).shows = s.shows := rfl
@[simp] theorem modUcie_host (h m : Nat) (f : Ucie → Ucie) (s : State) : (modUcie h m f s).host = s.host := rfl
@[simp] theorem modUcie_windows (h m : Nat) (f : Ucie → Ucie) (s : State) : (modUcie h m f s).windows = s.windows := rfl
@[simp] theorem modUcie_parts (h m : Nat) (f : Ucie → Ucie) (s : State) : (modUcie h m f s).parts = s.parts := rfl
@[simp] theorem modUcie_sec (h m : Nat) (f : Ucie → Ucie) (s : State) : (modUcie h m f s).sec = s.sec := rfl
@[simp] theorem modUcie_fab (h m : Nat) (f : Ucie → Ucie) (s : State) : (modUcie h m f s).fab = s.fab := rfl
@[simp] theorem modUcie_las (h m : Nat) (f : Ucie → Ucie) (s : State) : (modUcie h m f s).las = s.las := rfl
@[simp] theorem modUcie_mrt (h m : Nat) (f : Ucie → Ucie) (s : State) : (modUcie h m f s).mrt = s.mrt := rfl
@[simp] theorem modUcie_pwr (h m : Nat) (f : Ucie → Ucie) (s : State) : (modUcie h m f s).pwr = s.pwr := rfl
@[simp] theorem modUcie_flt (h m : Nat) (f : Ucie → Ucie) (s : State) : (modUcie h m f s).flt = s.flt := rfl
@[simp] theorem modUcie_rst (h m : Nat) (f : Ucie → Ucie) (s : State) : (modUcie h m f s).rst = s.rst := rfl
@[simp] theorem modUcie_side (h m : Nat) (f : Ucie → Ucie) (s : State) : (modUcie h m f s).side = s.side := rfl
@[simp] theorem modUcie_free (h m : Nat) (f : Ucie → Ucie) (s : State) : (modUcie h m f s).free = s.free := rfl
@[simp] theorem modUcie_out (h m : Nat) (f : Ucie → Ucie) (s : State) : (modUcie h m f s).out = s.out := rfl
@[simp] theorem modUcie_pending (h m : Nat) (f : Ucie → Ucie) (s : State) : (modUcie h m f s).pending = s.pending := rfl

/-! ### modIhl -/

@[simp] theorem modIhl_ident (h g : Nat) (f : IhlGroup → IhlGroup) (s : State) : (modIhl h g f s).ident = s.ident := rfl
@[simp] theorem modIhl_mrb (h g : Nat) (f : IhlGroup → IhlGroup) (s : State) : (modIhl h g f s).mrb = s.mrb := rfl
@[simp] theorem modIhl_zoes (h g : Nat) (f : IhlGroup → IhlGroup) (s : State) : (modIhl h g f s).zoes = s.zoes := rfl
@[simp] theorem modIhl_hbm (h g : Nat) (f : IhlGroup → IhlGroup) (s : State) : (modIhl h g f s).hbm = s.hbm := rfl
@[simp] theorem modIhl_sessions (h g : Nat) (f : IhlGroup → IhlGroup) (s : State) : (modIhl h g f s).sessions = s.sessions := rfl
@[simp] theorem modIhl_staged (h g : Nat) (f : IhlGroup → IhlGroup) (s : State) : (modIhl h g f s).staged = s.staged := rfl
@[simp] theorem modIhl_shows (h g : Nat) (f : IhlGroup → IhlGroup) (s : State) : (modIhl h g f s).shows = s.shows := rfl
@[simp] theorem modIhl_host (h g : Nat) (f : IhlGroup → IhlGroup) (s : State) : (modIhl h g f s).host = s.host := rfl
@[simp] theorem modIhl_windows (h g : Nat) (f : IhlGroup → IhlGroup) (s : State) : (modIhl h g f s).windows = s.windows := rfl
@[simp] theorem modIhl_parts (h g : Nat) (f : IhlGroup → IhlGroup) (s : State) : (modIhl h g f s).parts = s.parts := rfl
@[simp] theorem modIhl_sec (h g : Nat) (f : IhlGroup → IhlGroup) (s : State) : (modIhl h g f s).sec = s.sec := rfl
@[simp] theorem modIhl_fab (h g : Nat) (f : IhlGroup → IhlGroup) (s : State) : (modIhl h g f s).fab = s.fab := rfl
@[simp] theorem modIhl_las (h g : Nat) (f : IhlGroup → IhlGroup) (s : State) : (modIhl h g f s).las = s.las := rfl
@[simp] theorem modIhl_mrt (h g : Nat) (f : IhlGroup → IhlGroup) (s : State) : (modIhl h g f s).mrt = s.mrt := rfl
@[simp] theorem modIhl_pwr (h g : Nat) (f : IhlGroup → IhlGroup) (s : State) : (modIhl h g f s).pwr = s.pwr := rfl
@[simp] theorem modIhl_flt (h g : Nat) (f : IhlGroup → IhlGroup) (s : State) : (modIhl h g f s).flt = s.flt := rfl
@[simp] theorem modIhl_rst (h g : Nat) (f : IhlGroup → IhlGroup) (s : State) : (modIhl h g f s).rst = s.rst := rfl
@[simp] theorem modIhl_side (h g : Nat) (f : IhlGroup → IhlGroup) (s : State) : (modIhl h g f s).side = s.side := rfl
@[simp] theorem modIhl_free (h g : Nat) (f : IhlGroup → IhlGroup) (s : State) : (modIhl h g f s).free = s.free := rfl
@[simp] theorem modIhl_out (h g : Nat) (f : IhlGroup → IhlGroup) (s : State) : (modIhl h g f s).out = s.out := rfl
@[simp] theorem modIhl_pending (h g : Nat) (f : IhlGroup → IhlGroup) (s : State) : (modIhl h g f s).pending = s.pending := rfl

/-! ### modGuest -/

@[simp] theorem modGuest_ident (g : Nat) (f : Guest → Guest) (s : State) : (modGuest g f s).ident = s.ident := by unfold modGuest; split <;> rfl
@[simp] theorem modGuest_mrb (g : Nat) (f : Guest → Guest) (s : State) : (modGuest g f s).mrb = s.mrb := by unfold modGuest; split <;> rfl
@[simp] theorem modGuest_zoes (g : Nat) (f : Guest → Guest) (s : State) : (modGuest g f s).zoes = s.zoes := by unfold modGuest; split <;> rfl
@[simp] theorem modGuest_hbm (g : Nat) (f : Guest → Guest) (s : State) : (modGuest g f s).hbm = s.hbm := by unfold modGuest; split <;> rfl
@[simp] theorem modGuest_sessions (g : Nat) (f : Guest → Guest) (s : State) : (modGuest g f s).sessions = s.sessions := by unfold modGuest; split <;> rfl
@[simp] theorem modGuest_staged (g : Nat) (f : Guest → Guest) (s : State) : (modGuest g f s).staged = s.staged := by unfold modGuest; split <;> rfl
@[simp] theorem modGuest_shows (g : Nat) (f : Guest → Guest) (s : State) : (modGuest g f s).shows = s.shows := by unfold modGuest; split <;> rfl
@[simp] theorem modGuest_host (g : Nat) (f : Guest → Guest) (s : State) : (modGuest g f s).host = s.host := by unfold modGuest; split <;> rfl
@[simp] theorem modGuest_windows (g : Nat) (f : Guest → Guest) (s : State) : (modGuest g f s).windows = s.windows := by unfold modGuest; split <;> rfl
@[simp] theorem modGuest_parts (g : Nat) (f : Guest → Guest) (s : State) : (modGuest g f s).parts = s.parts := by unfold modGuest; split <;> rfl
@[simp] theorem modGuest_fab (g : Nat) (f : Guest → Guest) (s : State) : (modGuest g f s).fab = s.fab := by unfold modGuest; split <;> rfl
@[simp] theorem modGuest_las (g : Nat) (f : Guest → Guest) (s : State) : (modGuest g f s).las = s.las := by unfold modGuest; split <;> rfl
@[simp] theorem modGuest_d2d (g : Nat) (f : Guest → Guest) (s : State) : (modGuest g f s).d2d = s.d2d := by unfold modGuest; split <;> rfl
@[simp] theorem modGuest_mrt (g : Nat) (f : Guest → Guest) (s : State) : (modGuest g f s).mrt = s.mrt := by unfold modGuest; split <;> rfl
@[simp] theorem modGuest_pwr (g : Nat) (f : Guest → Guest) (s : State) : (modGuest g f s).pwr = s.pwr := by unfold modGuest; split <;> rfl
@[simp] theorem modGuest_flt (g : Nat) (f : Guest → Guest) (s : State) : (modGuest g f s).flt = s.flt := by unfold modGuest; split <;> rfl
@[simp] theorem modGuest_rst (g : Nat) (f : Guest → Guest) (s : State) : (modGuest g f s).rst = s.rst := by unfold modGuest; split <;> rfl
@[simp] theorem modGuest_side (g : Nat) (f : Guest → Guest) (s : State) : (modGuest g f s).side = s.side := by unfold modGuest; split <;> rfl
@[simp] theorem modGuest_free (g : Nat) (f : Guest → Guest) (s : State) : (modGuest g f s).free = s.free := by unfold modGuest; split <;> rfl
@[simp] theorem modGuest_out (g : Nat) (f : Guest → Guest) (s : State) : (modGuest g f s).out = s.out := by unfold modGuest; split <;> rfl
@[simp] theorem modGuest_pending (g : Nat) (f : Guest → Guest) (s : State) : (modGuest g f s).pending = s.pending := by unfold modGuest; split <;> rfl

/-! ### modSpdm -/

@[simp] theorem modSpdm_ident (f : Spdm → Spdm) (s : State) : (modSpdm f s).ident = s.ident := rfl
@[simp] theorem modSpdm_mrb (f : Spdm → Spdm) (s : State) : (modSpdm f s).mrb = s.mrb := rfl
@[simp] theorem modSpdm_zoes (f : Spdm → Spdm) (s : State) : (modSpdm f s).zoes = s.zoes := rfl
@[simp] theorem modSpdm_hbm (f : Spdm → Spdm) (s : State) : (modSpdm f s).hbm = s.hbm := rfl
@[simp] theorem modSpdm_sessions (f : Spdm → Spdm) (s : State) : (modSpdm f s).sessions = s.sessions := rfl
@[simp] theorem modSpdm_staged (f : Spdm → Spdm) (s : State) : (modSpdm f s).staged = s.staged := rfl
@[simp] theorem modSpdm_shows (f : Spdm → Spdm) (s : State) : (modSpdm f s).shows = s.shows := rfl
@[simp] theorem modSpdm_host (f : Spdm → Spdm) (s : State) : (modSpdm f s).host = s.host := rfl
@[simp] theorem modSpdm_windows (f : Spdm → Spdm) (s : State) : (modSpdm f s).windows = s.windows := rfl
@[simp] theorem modSpdm_parts (f : Spdm → Spdm) (s : State) : (modSpdm f s).parts = s.parts := rfl
@[simp] theorem modSpdm_fab (f : Spdm → Spdm) (s : State) : (modSpdm f s).fab = s.fab := rfl
@[simp] theorem modSpdm_las (f : Spdm → Spdm) (s : State) : (modSpdm f s).las = s.las := rfl
@[simp] theorem modSpdm_d2d (f : Spdm → Spdm) (s : State) : (modSpdm f s).d2d = s.d2d := rfl
@[simp] theorem modSpdm_mrt (f : Spdm → Spdm) (s : State) : (modSpdm f s).mrt = s.mrt := rfl
@[simp] theorem modSpdm_pwr (f : Spdm → Spdm) (s : State) : (modSpdm f s).pwr = s.pwr := rfl
@[simp] theorem modSpdm_flt (f : Spdm → Spdm) (s : State) : (modSpdm f s).flt = s.flt := rfl
@[simp] theorem modSpdm_rst (f : Spdm → Spdm) (s : State) : (modSpdm f s).rst = s.rst := rfl
@[simp] theorem modSpdm_side (f : Spdm → Spdm) (s : State) : (modSpdm f s).side = s.side := rfl
@[simp] theorem modSpdm_free (f : Spdm → Spdm) (s : State) : (modSpdm f s).free = s.free := rfl
@[simp] theorem modSpdm_out (f : Spdm → Spdm) (s : State) : (modSpdm f s).out = s.out := rfl
@[simp] theorem modSpdm_pending (f : Spdm → Spdm) (s : State) : (modSpdm f s).pending = s.pending := rfl

/-! ### modSource -/

@[simp] theorem modSource_ident (n : Nat) (f : Source → Source) (s : State) : (modSource n f s).ident = s.ident := rfl
@[simp] theorem modSource_mrb (n : Nat) (f : Source → Source) (s : State) : (modSource n f s).mrb = s.mrb := rfl
@[simp] theorem modSource_zoes (n : Nat) (f : Source → Source) (s : State) : (modSource n f s).zoes = s.zoes := rfl
@[simp] theorem modSource_hbm (n : Nat) (f : Source → Source) (s : State) : (modSource n f s).hbm = s.hbm := rfl
@[simp] theorem modSource_sessions (n : Nat) (f : Source → Source) (s : State) : (modSource n f s).sessions = s.sessions := rfl
@[simp] theorem modSource_staged (n : Nat) (f : Source → Source) (s : State) : (modSource n f s).staged = s.staged := rfl
@[simp] theorem modSource_shows (n : Nat) (f : Source → Source) (s : State) : (modSource n f s).shows = s.shows := rfl
@[simp] theorem modSource_host (n : Nat) (f : Source → Source) (s : State) : (modSource n f s).host = s.host := rfl
@[simp] theorem modSource_windows (n : Nat) (f : Source → Source) (s : State) : (modSource n f s).windows = s.windows := rfl
@[simp] theorem modSource_parts (n : Nat) (f : Source → Source) (s : State) : (modSource n f s).parts = s.parts := rfl
@[simp] theorem modSource_sec (n : Nat) (f : Source → Source) (s : State) : (modSource n f s).sec = s.sec := rfl
@[simp] theorem modSource_fab (n : Nat) (f : Source → Source) (s : State) : (modSource n f s).fab = s.fab := rfl
@[simp] theorem modSource_d2d (n : Nat) (f : Source → Source) (s : State) : (modSource n f s).d2d = s.d2d := rfl
@[simp] theorem modSource_mrt (n : Nat) (f : Source → Source) (s : State) : (modSource n f s).mrt = s.mrt := rfl
@[simp] theorem modSource_pwr (n : Nat) (f : Source → Source) (s : State) : (modSource n f s).pwr = s.pwr := rfl
@[simp] theorem modSource_flt (n : Nat) (f : Source → Source) (s : State) : (modSource n f s).flt = s.flt := rfl
@[simp] theorem modSource_rst (n : Nat) (f : Source → Source) (s : State) : (modSource n f s).rst = s.rst := rfl
@[simp] theorem modSource_side (n : Nat) (f : Source → Source) (s : State) : (modSource n f s).side = s.side := rfl
@[simp] theorem modSource_free (n : Nat) (f : Source → Source) (s : State) : (modSource n f s).free = s.free := rfl
@[simp] theorem modSource_out (n : Nat) (f : Source → Source) (s : State) : (modSource n f s).out = s.out := rfl
@[simp] theorem modSource_pending (n : Nat) (f : Source → Source) (s : State) : (modSource n f s).pending = s.pending := rfl

/-! ### modQuadPwr -/

@[simp] theorem modQuadPwr_ident (z : Nat) (f : QuadPwr → QuadPwr) (s : State) : (modQuadPwr z f s).ident = s.ident := rfl
@[simp] theorem modQuadPwr_mrb (z : Nat) (f : QuadPwr → QuadPwr) (s : State) : (modQuadPwr z f s).mrb = s.mrb := rfl
@[simp] theorem modQuadPwr_zoes (z : Nat) (f : QuadPwr → QuadPwr) (s : State) : (modQuadPwr z f s).zoes = s.zoes := rfl
@[simp] theorem modQuadPwr_hbm (z : Nat) (f : QuadPwr → QuadPwr) (s : State) : (modQuadPwr z f s).hbm = s.hbm := rfl
@[simp] theorem modQuadPwr_sessions (z : Nat) (f : QuadPwr → QuadPwr) (s : State) : (modQuadPwr z f s).sessions = s.sessions := rfl
@[simp] theorem modQuadPwr_staged (z : Nat) (f : QuadPwr → QuadPwr) (s : State) : (modQuadPwr z f s).staged = s.staged := rfl
@[simp] theorem modQuadPwr_shows (z : Nat) (f : QuadPwr → QuadPwr) (s : State) : (modQuadPwr z f s).shows = s.shows := rfl
@[simp] theorem modQuadPwr_host (z : Nat) (f : QuadPwr → QuadPwr) (s : State) : (modQuadPwr z f s).host = s.host := rfl
@[simp] theorem modQuadPwr_windows (z : Nat) (f : QuadPwr → QuadPwr) (s : State) : (modQuadPwr z f s).windows = s.windows := rfl
@[simp] theorem modQuadPwr_parts (z : Nat) (f : QuadPwr → QuadPwr) (s : State) : (modQuadPwr z f s).parts = s.parts := rfl
@[simp] theorem modQuadPwr_sec (z : Nat) (f : QuadPwr → QuadPwr) (s : State) : (modQuadPwr z f s).sec = s.sec := rfl
@[simp] theorem modQuadPwr_fab (z : Nat) (f : QuadPwr → QuadPwr) (s : State) : (modQuadPwr z f s).fab = s.fab := rfl
@[simp] theorem modQuadPwr_las (z : Nat) (f : QuadPwr → QuadPwr) (s : State) : (modQuadPwr z f s).las = s.las := rfl
@[simp] theorem modQuadPwr_d2d (z : Nat) (f : QuadPwr → QuadPwr) (s : State) : (modQuadPwr z f s).d2d = s.d2d := rfl
@[simp] theorem modQuadPwr_mrt (z : Nat) (f : QuadPwr → QuadPwr) (s : State) : (modQuadPwr z f s).mrt = s.mrt := rfl
@[simp] theorem modQuadPwr_flt (z : Nat) (f : QuadPwr → QuadPwr) (s : State) : (modQuadPwr z f s).flt = s.flt := rfl
@[simp] theorem modQuadPwr_rst (z : Nat) (f : QuadPwr → QuadPwr) (s : State) : (modQuadPwr z f s).rst = s.rst := rfl
@[simp] theorem modQuadPwr_side (z : Nat) (f : QuadPwr → QuadPwr) (s : State) : (modQuadPwr z f s).side = s.side := rfl
@[simp] theorem modQuadPwr_free (z : Nat) (f : QuadPwr → QuadPwr) (s : State) : (modQuadPwr z f s).free = s.free := rfl
@[simp] theorem modQuadPwr_out (z : Nat) (f : QuadPwr → QuadPwr) (s : State) : (modQuadPwr z f s).out = s.out := rfl
@[simp] theorem modQuadPwr_pending (z : Nat) (f : QuadPwr → QuadPwr) (s : State) : (modQuadPwr z f s).pending = s.pending := rfl

/-! ### modSensor -/

@[simp] theorem modSensor_ident (k : Nat) (f : Sensor → Sensor) (s : State) : (modSensor k f s).ident = s.ident := rfl
@[simp] theorem modSensor_mrb (k : Nat) (f : Sensor → Sensor) (s : State) : (modSensor k f s).mrb = s.mrb := rfl
@[simp] theorem modSensor_zoes (k : Nat) (f : Sensor → Sensor) (s : State) : (modSensor k f s).zoes = s.zoes := rfl
@[simp] theorem modSensor_hbm (k : Nat) (f : Sensor → Sensor) (s : State) : (modSensor k f s).hbm = s.hbm := rfl
@[simp] theorem modSensor_sessions (k : Nat) (f : Sensor → Sensor) (s : State) : (modSensor k f s).sessions = s.sessions := rfl
@[simp] theorem modSensor_staged (k : Nat) (f : Sensor → Sensor) (s : State) : (modSensor k f s).staged = s.staged := rfl
@[simp] theorem modSensor_shows (k : Nat) (f : Sensor → Sensor) (s : State) : (modSensor k f s).shows = s.shows := rfl
@[simp] theorem modSensor_host (k : Nat) (f : Sensor → Sensor) (s : State) : (modSensor k f s).host = s.host := rfl
@[simp] theorem modSensor_windows (k : Nat) (f : Sensor → Sensor) (s : State) : (modSensor k f s).windows = s.windows := rfl
@[simp] theorem modSensor_parts (k : Nat) (f : Sensor → Sensor) (s : State) : (modSensor k f s).parts = s.parts := rfl
@[simp] theorem modSensor_sec (k : Nat) (f : Sensor → Sensor) (s : State) : (modSensor k f s).sec = s.sec := rfl
@[simp] theorem modSensor_fab (k : Nat) (f : Sensor → Sensor) (s : State) : (modSensor k f s).fab = s.fab := rfl
@[simp] theorem modSensor_las (k : Nat) (f : Sensor → Sensor) (s : State) : (modSensor k f s).las = s.las := rfl
@[simp] theorem modSensor_d2d (k : Nat) (f : Sensor → Sensor) (s : State) : (modSensor k f s).d2d = s.d2d := rfl
@[simp] theorem modSensor_mrt (k : Nat) (f : Sensor → Sensor) (s : State) : (modSensor k f s).mrt = s.mrt := rfl
@[simp] theorem modSensor_flt (k : Nat) (f : Sensor → Sensor) (s : State) : (modSensor k f s).flt = s.flt := rfl
@[simp] theorem modSensor_rst (k : Nat) (f : Sensor → Sensor) (s : State) : (modSensor k f s).rst = s.rst := rfl
@[simp] theorem modSensor_side (k : Nat) (f : Sensor → Sensor) (s : State) : (modSensor k f s).side = s.side := rfl
@[simp] theorem modSensor_free (k : Nat) (f : Sensor → Sensor) (s : State) : (modSensor k f s).free = s.free := rfl
@[simp] theorem modSensor_out (k : Nat) (f : Sensor → Sensor) (s : State) : (modSensor k f s).out = s.out := rfl
@[simp] theorem modSensor_pending (k : Nat) (f : Sensor → Sensor) (s : State) : (modSensor k f s).pending = s.pending := rfl

/-! ### modMrt -/

@[simp] theorem modMrt_ident (m : Mrt) (f : MrtSt → MrtSt) (s : State) : (modMrt m f s).ident = s.ident := by cases m <;> rfl
@[simp] theorem modMrt_mrb (m : Mrt) (f : MrtSt → MrtSt) (s : State) : (modMrt m f s).mrb = s.mrb := by cases m <;> rfl
@[simp] theorem modMrt_zoes (m : Mrt) (f : MrtSt → MrtSt) (s : State) : (modMrt m f s).zoes = s.zoes := by cases m <;> rfl
@[simp] theorem modMrt_hbm (m : Mrt) (f : MrtSt → MrtSt) (s : State) : (modMrt m f s).hbm = s.hbm := by cases m <;> rfl
@[simp] theorem modMrt_sessions (m : Mrt) (f : MrtSt → MrtSt) (s : State) : (modMrt m f s).sessions = s.sessions := by cases m <;> rfl
@[simp] theorem modMrt_staged (m : Mrt) (f : MrtSt → MrtSt) (s : State) : (modMrt m f s).staged = s.staged := by cases m <;> rfl
@[simp] theorem modMrt_shows (m : Mrt) (f : MrtSt → MrtSt) (s : State) : (modMrt m f s).shows = s.shows := by cases m <;> rfl
@[simp] theorem modMrt_host (m : Mrt) (f : MrtSt → MrtSt) (s : State) : (modMrt m f s).host = s.host := by cases m <;> rfl
@[simp] theorem modMrt_windows (m : Mrt) (f : MrtSt → MrtSt) (s : State) : (modMrt m f s).windows = s.windows := by cases m <;> rfl
@[simp] theorem modMrt_parts (m : Mrt) (f : MrtSt → MrtSt) (s : State) : (modMrt m f s).parts = s.parts := by cases m <;> rfl
@[simp] theorem modMrt_sec (m : Mrt) (f : MrtSt → MrtSt) (s : State) : (modMrt m f s).sec = s.sec := by cases m <;> rfl
@[simp] theorem modMrt_fab (m : Mrt) (f : MrtSt → MrtSt) (s : State) : (modMrt m f s).fab = s.fab := by cases m <;> rfl
@[simp] theorem modMrt_las (m : Mrt) (f : MrtSt → MrtSt) (s : State) : (modMrt m f s).las = s.las := by cases m <;> rfl
@[simp] theorem modMrt_d2d (m : Mrt) (f : MrtSt → MrtSt) (s : State) : (modMrt m f s).d2d = s.d2d := by cases m <;> rfl
@[simp] theorem modMrt_pwr (m : Mrt) (f : MrtSt → MrtSt) (s : State) : (modMrt m f s).pwr = s.pwr := by cases m <;> rfl
@[simp] theorem modMrt_flt (m : Mrt) (f : MrtSt → MrtSt) (s : State) : (modMrt m f s).flt = s.flt := by cases m <;> rfl
@[simp] theorem modMrt_rst (m : Mrt) (f : MrtSt → MrtSt) (s : State) : (modMrt m f s).rst = s.rst := by cases m <;> rfl
@[simp] theorem modMrt_side (m : Mrt) (f : MrtSt → MrtSt) (s : State) : (modMrt m f s).side = s.side := by cases m <;> rfl
@[simp] theorem modMrt_free (m : Mrt) (f : MrtSt → MrtSt) (s : State) : (modMrt m f s).free = s.free := by cases m <;> rfl
@[simp] theorem modMrt_out (m : Mrt) (f : MrtSt → MrtSt) (s : State) : (modMrt m f s).out = s.out := by cases m <;> rfl
@[simp] theorem modMrt_pending (m : Mrt) (f : MrtSt → MrtSt) (s : State) : (modMrt m f s).pending = s.pending := by cases m <;> rfl

/-! ### Reads of what was changed -/

@[simp] theorem part_modPart_same (p : Nat) (f : PartSt → PartSt) (s : State) : part (modPart p f s) p = f (part s p) := look_put_same _ _ _ _
theorem part_modPart_ne {p j : Nat} (f : PartSt → PartSt) (s : State) (h : j ≠ p) : part (modPart p f s) j = part s j := look_put_ne _ _ _ h
@[simp] theorem zoe_modZoe_same (z : Nat) (f : Zoe → Zoe) (s : State) : zoe (modZoe z f s) z = f (zoe s z) := look_put_same _ _ _ _
theorem zoe_modZoe_ne {z j : Nat} (f : Zoe → Zoe) (s : State) (h : j ≠ z) : zoe (modZoe z f s) j = zoe s j := look_put_ne _ _ _ h
@[simp] theorem queue_modQueue_same (q : Nat) (f : Queue → Queue) (s : State) : queue (modQueue q f s) q = f (queue s q) := look_put_same _ _ _ _
theorem queue_modQueue_ne {q j : Nat} (f : Queue → Queue) (s : State) (h : j ≠ q) : queue (modQueue q f s) j = queue s j := look_put_ne _ _ _ h
@[simp] theorem peer_modPeer_same (m : Nat) (f : Peer → Peer) (s : State) : peer (modPeer m f s) m = f (peer s m) := look_put_same _ _ _ _
theorem peer_modPeer_ne {m j : Nat} (f : Peer → Peer) (s : State) (h : j ≠ m) : peer (modPeer m f s) j = peer s j := look_put_ne _ _ _ h
@[simp] theorem lane_modLane_same (l : Nat) (f : Lane → Lane) (s : State) : lane (modLane l f s) l = f (lane s l) := look_put_same _ _ _ _
theorem lane_modLane_ne {l j : Nat} (f : Lane → Lane) (s : State) (h : j ≠ l) : lane (modLane l f s) j = lane s j := look_put_ne _ _ _ h
@[simp] theorem pch_modPch_same (c : Nat) (f : Pch → Pch) (s : State) : pch (modPch c f s) c = f (pch s c) := look_put_same _ _ _ _
theorem pch_modPch_ne {c j : Nat} (f : Pch → Pch) (s : State) (h : j ≠ c) : pch (modPch c f s) j = pch s j := look_put_ne _ _ _ h
@[simp] theorem hstack_modStack_same (k : Nat) (f : Stack → Stack) (s : State) : hstack (modStack k f s) k = f (hstack s k) := look_put_same _ _ _ _
theorem hstack_modStack_ne {k j : Nat} (f : Stack → Stack) (s : State) (h : j ≠ k) : hstack (modStack k f s) j = hstack s j := look_put_ne _ _ _ h
@[simp] theorem source_modSource_same (n : Nat) (f : Source → Source) (s : State) : source (modSource n f s) n = f (source s n) := look_put_same _ _ _ _
theorem source_modSource_ne {n j : Nat} (f : Source → Source) (s : State) (h : j ≠ n) : source (modSource n f s) j = source s j := look_put_ne _ _ _ h
@[simp] theorem quadPwr_modQuadPwr_same (z : Nat) (f : QuadPwr → QuadPwr) (s : State) : quadPwr (modQuadPwr z f s) z = f (quadPwr s z) := look_put_same _ _ _ _
theorem quadPwr_modQuadPwr_ne {z j : Nat} (f : QuadPwr → QuadPwr) (s : State) (h : j ≠ z) : quadPwr (modQuadPwr z f s) j = quadPwr s j := look_put_ne _ _ _ h
@[simp] theorem sensor_modSensor_same (k : Nat) (f : Sensor → Sensor) (s : State) : sensor (modSensor k f s) k = f (sensor s k) := look_put_same _ _ _ _
theorem sensor_modSensor_ne {k j : Nat} (f : Sensor → Sensor) (s : State) (h : j ≠ k) : sensor (modSensor k f s) j = sensor s j := look_put_ne _ _ _ h
@[simp] theorem marble_modMarble_same (n : Nat) (f : Marble → Marble) (s : State) : marble (modMarble n f s) n = f (marble s n) := look_put_same _ _ _ _
theorem marble_modMarble_ne {n j : Nat} (f : Marble → Marble) (s : State) (h : j ≠ n) : marble (modMarble n f s) j = marble s j := look_put_ne _ _ _ h
@[simp] theorem mailbox_modMailbox_same (n : Nat) (f : Mailbox → Mailbox) (s : State) : mailbox (modMailbox n f s) n = f (mailbox s n) := look_put_same _ _ _ _
theorem mailbox_modMailbox_ne {n j : Nat} (f : Mailbox → Mailbox) (s : State) (h : j ≠ n) : mailbox (modMailbox n f s) j = mailbox s j := look_put_ne _ _ _ h

@[simp] theorem bank_setBank_same (n : Nat) (b : BankState) (s : State) : bank (setBank n b s) n = b := look_put_same _ _ _ _
theorem bank_setBank_ne {n j : Nat} (b : BankState) (s : State) (h : j ≠ n) : bank (setBank n b s) j = bank s j := look_put_ne _ _ _ h
@[simp] theorem window_modWindow_same (w : Fn) (f : Window → Window) (s : State) : window (modWindow w f s) w = f (window s w) :=
  look_put_same _ _ _ _
@[simp] theorem emit_out (o : Output) (s : State) : (emit o s).out = s.out ++ [o] := rfl
@[simp] theorem useFree_free (s : State) : (useFree s).free = s.free + 1 := rfl
@[simp] theorem useFrees_free (n : Nat) (s : State) : (useFrees n s).free = s.free + n := rfl
theorem advanceTo_time (due : Nat) (s : State) : due ≤ timeNs (advanceTo due s) := by
  simp only [timeNs, advanceTo]
  omega
theorem advanceTo_mono (due : Nat) (s : State) : timeNs s ≤ timeNs (advanceTo due s) := by
  simp only [timeNs, advanceTo]
  omega

end Sys2Proof.Machine
end

