-- ==== Sys2Proof/Laws/Ops.lean ====
section
/-! SUPPORT. What the shared operations can do: vectors, the alert line, faults, and operations over lists of units. -/

namespace Sys2Proof.Machine

open Sys2Proof

/-! ### Units in turn -/

/-- What each of a list of changes keeps, all of them keep. -/
theorem forAll_keeps {α β : Type} (g : State → β) (ks : List α) (f : α → State → State) (h : ∀ k s, g (f k s) = g s) (s : State) :
    g (forAll ks f s) = g s := by
  unfold forAll
  induction ks generalizing s with
  | nil => rfl
  | cons k ks ih => rw [List.foldl_cons, ih, h]

/-- What each of a list of changes establishes and keeps holds after all of them. -/
theorem forAll_inv {α : Type} (P : State → Prop) (ks : List α) (f : α → State → State) (h : ∀ k s, P s → P (f k s)) (s : State)
    (hs : P s) : P (forAll ks f s) := by
  unfold forAll
  induction ks generalizing s with
  | nil => exact hs
  | cons k ks ih => exact ih (f k s) (h k s hs)

/-! ### Vectors (R195) -/

/-- A vector changes nothing but the pending bits of its function and the messages sent. -/
theorem signalVec_frame (f : Fn) (vec : Nat) (s : State) :
    signalVec f vec s = { s with host.pf := (signalVec f vec s).host.pf, host.vfs := (signalVec f vec s).host.vfs,
                                 out := (signalVec f vec s).out } := by
  unfold signalVec
  simp only
  split
  · rfl
  · split
    · split
      · rfl
      · cases f <;> rfl
    · split <;> rfl

@[simp] theorem signalVec_ident (f : Fn) (vec : Nat) (s : State) : (signalVec f vec s).ident = s.ident := by rw [signalVec_frame]
@[simp] theorem signalVec_mrb (f : Fn) (vec : Nat) (s : State) : (signalVec f vec s).mrb = s.mrb := by rw [signalVec_frame]
@[simp] theorem signalVec_zoes (f : Fn) (vec : Nat) (s : State) : (signalVec f vec s).zoes = s.zoes := by rw [signalVec_frame]
@[simp] theorem signalVec_hbm (f : Fn) (vec : Nat) (s : State) : (signalVec f vec s).hbm = s.hbm := by rw [signalVec_frame]
@[simp] theorem signalVec_sessions (f : Fn) (vec : Nat) (s : State) : (signalVec f vec s).sessions = s.sessions := by rw [signalVec_frame]
@[simp] theorem signalVec_staged (f : Fn) (vec : Nat) (s : State) : (signalVec f vec s).staged = s.staged := by rw [signalVec_frame]
@[simp] theorem signalVec_shows (f : Fn) (vec : Nat) (s : State) : (signalVec f vec s).shows = s.shows := by rw [signalVec_frame]
@[simp] theorem signalVec_windows (f : Fn) (vec : Nat) (s : State) : (signalVec f vec s).windows = s.windows := by rw [signalVec_frame]
@[simp] theorem signalVec_parts (f : Fn) (vec : Nat) (s : State) : (signalVec f vec s).parts = s.parts := by rw [signalVec_frame]
@[simp] theorem signalVec_sec (f : Fn) (vec : Nat) (s : State) : (signalVec f vec s).sec = s.sec := by rw [signalVec_frame]
@[simp] theorem signalVec_fab (f : Fn) (vec : Nat) (s : State) : (signalVec f vec s).fab = s.fab := by rw [signalVec_frame]
@[simp] theorem signalVec_las (f : Fn) (vec : Nat) (s : State) : (signalVec f vec s).las = s.las := by rw [signalVec_frame]
@[simp] theorem signalVec_d2d (f : Fn) (vec : Nat) (s : State) : (signalVec f vec s).d2d = s.d2d := by rw [signalVec_frame]
@[simp] theorem signalVec_mrt (f : Fn) (vec : Nat) (s : State) : (signalVec f vec s).mrt = s.mrt := by rw [signalVec_frame]
@[simp] theorem signalVec_pwr (f : Fn) (vec : Nat) (s : State) : (signalVec f vec s).pwr = s.pwr := by rw [signalVec_frame]
@[simp] theorem signalVec_flt (f : Fn) (vec : Nat) (s : State) : (signalVec f vec s).flt = s.flt := by rw [signalVec_frame]
@[simp] theorem signalVec_rst (f : Fn) (vec : Nat) (s : State) : (signalVec f vec s).rst = s.rst := by rw [signalVec_frame]
@[simp] theorem signalVec_side (f : Fn) (vec : Nat) (s : State) : (signalVec f vec s).side = s.side := by rw [signalVec_frame]
@[simp] theorem signalVec_free (f : Fn) (vec : Nat) (s : State) : (signalVec f vec s).free = s.free := by rw [signalVec_frame]
@[simp] theorem signalVec_pending (f : Fn) (vec : Nat) (s : State) : (signalVec f vec s).pending = s.pending := by rw [signalVec_frame]
@[simp] theorem signalVec_queues (f : Fn) (vec : Nat) (s : State) : (signalVec f vec s).host.queues = s.host.queues := by rw [signalVec_frame]

/-! ### ALERT_N (R364) -/

/-- The alert line takes the conditions that hold; its change touches nothing else but PF vector 2. -/
theorem settleAlert_frame (s : State) :
    settleAlert s = { s with side.alerts := alertBits s, host.pf := (settleAlert s).host.pf, host.vfs := (settleAlert s).host.vfs,
                             out := (settleAlert s).out } := by
  unfold settleAlert
  simp only
  split
  · rfl
  · exact signalVec_frame .pf 2 { s with side.alerts := alertBits s }

@[simp] theorem settleAlert_ident (s : State) : (settleAlert s).ident = s.ident := by rw [settleAlert_frame]
@[simp] theorem settleAlert_mrb (s : State) : (settleAlert s).mrb = s.mrb := by rw [settleAlert_frame]
@[simp] theorem settleAlert_zoes (s : State) : (settleAlert s).zoes = s.zoes := by rw [settleAlert_frame]
@[simp] theorem settleAlert_hbm (s : State) : (settleAlert s).hbm = s.hbm := by rw [settleAlert_frame]
@[simp] theorem settleAlert_sessions (s : State) : (settleAlert s).sessions = s.sessions := by rw [settleAlert_frame]
@[simp] theorem settleAlert_staged (s : State) : (settleAlert s).staged = s.staged := by rw [settleAlert_frame]
@[simp] theorem settleAlert_shows (s : State) : (settleAlert s).shows = s.shows := by rw [settleAlert_frame]
@[simp] theorem settleAlert_windows (s : State) : (settleAlert s).windows = s.windows := by rw [settleAlert_frame]
@[simp] theorem settleAlert_parts (s : State) : (settleAlert s).parts = s.parts := by rw [settleAlert_frame]
@[simp] theorem settleAlert_sec (s : State) : (settleAlert s).sec = s.sec := by rw [settleAlert_frame]
@[simp] theorem settleAlert_fab (s : State) : (settleAlert s).fab = s.fab := by rw [settleAlert_frame]
@[simp] theorem settleAlert_las (s : State) : (settleAlert s).las = s.las := by rw [settleAlert_frame]
@[simp] theorem settleAlert_d2d (s : State) : (settleAlert s).d2d = s.d2d := by rw [settleAlert_frame]
@[simp] theorem settleAlert_mrt (s : State) : (settleAlert s).mrt = s.mrt := by rw [settleAlert_frame]
@[simp] theorem settleAlert_pwr (s : State) : (settleAlert s).pwr = s.pwr := by rw [settleAlert_frame]
@[simp] theorem settleAlert_flt (s : State) : (settleAlert s).flt = s.flt := by rw [settleAlert_frame]
@[simp] theorem settleAlert_rst (s : State) : (settleAlert s).rst = s.rst := by rw [settleAlert_frame]
@[simp] theorem settleAlert_free (s : State) : (settleAlert s).free = s.free := by rw [settleAlert_frame]
@[simp] theorem settleAlert_pending (s : State) : (settleAlert s).pending = s.pending := by rw [settleAlert_frame]
@[simp] theorem settleAlert_alerts (s : State) : (settleAlert s).side.alerts = alertBits s := by rw [settleAlert_frame]
@[simp] theorem alertBits_settleAlert (s : State) : alertBits (settleAlert s) = alertBits s := by rw [settleAlert_frame]; rfl

/-! ### Faults (R374 to R381) -/

/-- The counts after a fault of each class. -/
theorem countFault_counts (cls : BitVec 2) (f : FltSys) :
    (countFault cls f).nCorr = (if cls = 0 then f.nCorr + 1 else f.nCorr)
      ∧ (countFault cls f).nCont = (if cls = 1 then f.nCont + 1 else f.nCont)
      ∧ (countFault cls f).nFatal = (if cls = 0 ∨ cls = 1 then f.nFatal else f.nFatal + 1) := by
  unfold countFault
  split
  · simp_all
  · split <;> simp_all

/-- A new record leaves the counts of the classes. -/
theorem logNew_counts (r : FaultRec) (f : FltSys) :
    (logNew r f).nCorr = f.nCorr ∧ (logNew r f).nCont = f.nCont ∧ (logNew r f).nFatal = f.nFatal := ⟨rfl, rfl, rfl⟩

/-- The counts after a fault arrived. -/
theorem raiseFault_counts (code : BitVec 16) (kind index part detail : Nat) (s : State) :
    (raiseFault code kind index part detail s).flt.nCorr = (if faultClass code = 0 then s.flt.nCorr + 1 else s.flt.nCorr)
      ∧ (raiseFault code kind index part detail s).flt.nCont = (if faultClass code = 1 then s.flt.nCont + 1 else s.flt.nCont)
      ∧ (raiseFault code kind index part detail s).flt.nFatal
        = (if faultClass code = 0 ∨ faultClass code = 1 then s.flt.nFatal else s.flt.nFatal + 1) := by
  rw [← (countFault_counts (faultClass code) s.flt).1, ← (countFault_counts (faultClass code) s.flt).2.1,
    ← (countFault_counts (faultClass code) s.flt).2.2]
  unfold raiseFault
  simp only
  split <;> split <;> (try split) <;> simp only [settleAlert_flt, setService_flt, signalVec_flt] <;> exact ⟨rfl, rfl, rfl⟩

/-- A fault that is not Fatal changes nothing but the fault collector and what it signals. -/
theorem raiseFault_frame (code : BitVec 16) (kind index part detail : Nat) (s : State) (h : faultClass code ≠ 2) :
    raiseFault code kind index part detail s = { s with
      flt := (raiseFault code kind index part detail s).flt, host.pf := (raiseFault code kind index part detail s).host.pf,
      host.vfs := (raiseFault code kind index part detail s).host.vfs, out := (raiseFault code kind index part detail s).out } := by
  unfold raiseFault
  simp only [if_neg h]
  split
  · rw [signalVec_frame, signalVec_frame .pf]
  · rw [signalVec_frame .pf]

@[simp] theorem raiseFault_ident (code : BitVec 16) (a b c d : Nat) (s : State) : (raiseFault code a b c d s).ident = s.ident := by
  unfold raiseFault; simp only; split <;> split <;> simp
@[simp] theorem raiseFault_mrb (code : BitVec 16) (a b c d : Nat) (s : State) : (raiseFault code a b c d s).mrb = s.mrb := by
  unfold raiseFault; simp only; split <;> split <;> simp
@[simp] theorem raiseFault_zoes (code : BitVec 16) (a b c d : Nat) (s : State) : (raiseFault code a b c d s).zoes = s.zoes := by
  unfold raiseFault; simp only; split <;> split <;> simp
@[simp] theorem raiseFault_hbm (code : BitVec 16) (a b c d : Nat) (s : State) : (raiseFault code a b c d s).hbm = s.hbm := by
  unfold raiseFault; simp only; split <;> split <;> simp
@[simp] theorem raiseFault_sessions (code : BitVec 16) (a b c d : Nat) (s : State) : (raiseFault code a b c d s).sessions = s.sessions := by
  unfold raiseFault; simp only; split <;> split <;> simp
@[simp] theorem raiseFault_staged (code : BitVec 16) (a b c d : Nat) (s : State) : (raiseFault code a b c d s).staged = s.staged := by
  unfold raiseFault; simp only; split <;> split <;> simp
@[simp] theorem raiseFault_shows (code : BitVec 16) (a b c d : Nat) (s : State) : (raiseFault code a b c d s).shows = s.shows := by
  unfold raiseFault; simp only; split <;> split <;> simp
@[simp] theorem raiseFault_windows (code : BitVec 16) (a b c d : Nat) (s : State) : (raiseFault code a b c d s).windows = s.windows := by
  unfold raiseFault; simp only; split <;> split <;> simp
@[simp] theorem raiseFault_parts (code : BitVec 16) (a b c d : Nat) (s : State) : (raiseFault code a b c d s).parts = s.parts := by
  unfold raiseFault; simp only; split <;> split <;> simp
@[simp] theorem raiseFault_sec (code : BitVec 16) (a b c d : Nat) (s : State) : (raiseFault code a b c d s).sec = s.sec := by
  unfold raiseFault; simp only; split <;> split <;> simp
@[simp] theorem raiseFault_fab (code : BitVec 16) (a b c d : Nat) (s : State) : (raiseFault code a b c d s).fab = s.fab := by
  unfold raiseFault; simp only; split <;> split <;> simp
@[simp] theorem raiseFault_las (code : BitVec 16) (a b c d : Nat) (s : State) : (raiseFault code a b c d s).las = s.las := by
  unfold raiseFault; simp only; split <;> split <;> simp
@[simp] theorem raiseFault_d2d (code : BitVec 16) (a b c d : Nat) (s : State) : (raiseFault code a b c d s).d2d = s.d2d := by
  unfold raiseFault; simp only; split <;> split <;> simp
@[simp] theorem raiseFault_mrt (code : BitVec 16) (a b c d : Nat) (s : State) : (raiseFault code a b c d s).mrt = s.mrt := by
  unfold raiseFault; simp only; split <;> split <;> simp
@[simp] theorem raiseFault_pwr (code : BitVec 16) (a b c d : Nat) (s : State) : (raiseFault code a b c d s).pwr = s.pwr := by
  unfold raiseFault; simp only; split <;> split <;> simp
@[simp] theorem raiseFault_free (code : BitVec 16) (a b c d : Nat) (s : State) : (raiseFault code a b c d s).free = s.free := by
  unfold raiseFault; simp only; split <;> split <;> simp
@[simp] theorem raiseFault_pending (code : BitVec 16) (a b c d : Nat) (s : State) : (raiseFault code a b c d s).pending = s.pending := by
  unfold raiseFault; simp only; split <;> split <;> simp

@[simp] theorem raiseFirst_ident (x n : Nat) (code : BitVec 16) (a b c d : Nat) (s : State) : (raiseFirst x n code a b c d s).ident = s.ident := by
  unfold raiseFirst; simp only; split <;> simp
@[simp] theorem raiseFirst_mrb (x n : Nat) (code : BitVec 16) (a b c d : Nat) (s : State) : (raiseFirst x n code a b c d s).mrb = s.mrb := by
  unfold raiseFirst; simp only; split <;> simp
@[simp] theorem raiseFirst_zoes (x n : Nat) (code : BitVec 16) (a b c d : Nat) (s : State) : (raiseFirst x n code a b c d s).zoes = s.zoes := by
  unfold raiseFirst; simp only; split <;> simp
@[simp] theorem raiseFirst_hbm (x n : Nat) (code : BitVec 16) (a b c d : Nat) (s : State) : (raiseFirst x n code a b c d s).hbm = s.hbm := by
  unfold raiseFirst; simp only; split <;> simp
@[simp] theorem raiseFirst_sessions (x n : Nat) (code : BitVec 16) (a b c d : Nat) (s : State) : (raiseFirst x n code a b c d s).sessions = s.sessions := by
  unfold raiseFirst; simp only; split <;> simp
@[simp] theorem raiseFirst_staged (x n : Nat) (code : BitVec 16) (a b c d : Nat) (s : State) : (raiseFirst x n code a b c d s).staged = s.staged := by
  unfold raiseFirst; simp only; split <;> simp
@[simp] theorem raiseFirst_shows (x n : Nat) (code : BitVec 16) (a b c d : Nat) (s : State) : (raiseFirst x n code a b c d s).shows = s.shows := by
  unfold raiseFirst; simp only; split <;> simp
@[simp] theorem raiseFirst_windows (x n : Nat) (code : BitVec 16) (a b c d : Nat) (s : State) : (raiseFirst x n code a b c d s).windows = s.windows := by
  unfold raiseFirst; simp only; split <;> simp
@[simp] theorem raiseFirst_parts (x n : Nat) (code : BitVec 16) (a b c d : Nat) (s : State) : (raiseFirst x n code a b c d s).parts = s.parts := by
  unfold raiseFirst; simp only; split <;> simp
@[simp] theorem raiseFirst_sec (x n : Nat) (code : BitVec 16) (a b c d : Nat) (s : State) : (raiseFirst x n code a b c d s).sec = s.sec := by
  unfold raiseFirst; simp only; split <;> simp
@[simp] theorem raiseFirst_fab (x n : Nat) (code : BitVec 16) (a b c d : Nat) (s : State) : (raiseFirst x n code a b c d s).fab = s.fab := by
  unfold raiseFirst; simp only; split <;> simp
@[simp] theorem raiseFirst_las (x n : Nat) (code : BitVec 16) (a b c d : Nat) (s : State) : (raiseFirst x n code a b c d s).las = s.las := by
  unfold raiseFirst; simp only; split <;> simp
@[simp] theorem raiseFirst_d2d (x n : Nat) (code : BitVec 16) (a b c d : Nat) (s : State) : (raiseFirst x n code a b c d s).d2d = s.d2d := by
  unfold raiseFirst; simp only; split <;> simp
@[simp] theorem raiseFirst_mrt (x n : Nat) (code : BitVec 16) (a b c d : Nat) (s : State) : (raiseFirst x n code a b c d s).mrt = s.mrt := by
  unfold raiseFirst; simp only; split <;> simp
@[simp] theorem raiseFirst_pwr (x n : Nat) (code : BitVec 16) (a b c d : Nat) (s : State) : (raiseFirst x n code a b c d s).pwr = s.pwr := by
  unfold raiseFirst; simp only; split <;> simp
@[simp] theorem raiseFirst_free (x n : Nat) (code : BitVec 16) (a b c d : Nat) (s : State) : (raiseFirst x n code a b c d s).free = s.free := by
  unfold raiseFirst; simp only; split <;> simp
@[simp] theorem raiseFirst_pending (x n : Nat) (code : BitVec 16) (a b c d : Nat) (s : State) : (raiseFirst x n code a b c d s).pending = s.pending := by
  unfold raiseFirst; simp only; split <;> simp

end Sys2Proof.Machine
end

