-- ==== Sys2Proof/Laws/Hbm.lean ====
section
/-! SUPPORT. What a read of a line of memory can change: the stacks' counts, what they know of their lines, the remote-line caches, the
fault log with its interrupts, and free values; never a byte of memory, a pseudo-channel, or anything outside (R169, R175, R177, R187). -/

namespace Sys2Proof.Machine

open Sys2Proof

/-- Nothing differs but what a read of lines may change. -/
def OnlyScanned (s t : State) : Prop :=
  t = { s with
    hbm.acts := t.hbm.acts, hbm.badLines := t.hbm.badLines, hbm.hstacks := t.hbm.hstacks, hbm.rlcEast := t.hbm.rlcEast
    hbm.rlcWest := t.hbm.rlcWest, flt := t.flt, host.pf := t.host.pf, host.vfs := t.host.vfs, out := t.out, free := t.free }

theorem OnlyScanned.refl (s : State) : OnlyScanned s s := rfl

theorem OnlyScanned.trans {s t u : State} (h : OnlyScanned s t) (k : OnlyScanned t u) : OnlyScanned s u :=
  Eq.trans k (by unfold OnlyScanned at h; rw [h])

theorem raiseFault_onlyScanned (code : BitVec 16) (a b c d : Nat) (s : State) (h : faultClass code ≠ 2) :
    OnlyScanned s (raiseFault code a b c d s) := by
  have f := raiseFault_frame code a b c d s h
  unfold OnlyScanned
  rw [f]

theorem countAct_onlyScanned (c line : Nat) (s : State) : OnlyScanned s (countAct c line s) := by
  unfold countAct
  dsimp only
  split <;> rfl

theorem lineErrors_onlyScanned (h p c line : Nat) (ce ue : Bool) (s : State) : OnlyScanned s (lineErrors h p c line ce ue s) := by
  unfold lineErrors
  split
  · rfl
  · refine .trans (countAct_onlyScanned c line s) ?_
    generalize countAct c line s = t
    dsimp only
    split <;> split <;> first | rfl | exact .trans (by rfl) (raiseFault_onlyScanned 0x0401 _ _ _ _ _ (by decide))

theorem modRlc_onlyScanned (h : Nat) (f : Rlc → Rlc) (s : State) : OnlyScanned s (modRlc h f s) := by
  unfold modRlc
  split <;> rfl

/-- A READ that fills no cache. -/
theorem readLine_onlyScanned (h p c line : Nat) (s : State) : OnlyScanned s (readLine h p c line true s).2 := by
  have home (s : State) : OnlyScanned s (if s.hbm.badLines.any (fun e => decide (e = (c, line))) then
      (((List.replicate 128 0, true) : List Byte × Bool),
        raiseFault 0x0402 3 (c / 32) p c (modStack (c / 32) (fun k => { k with ue := k.ue + 1 }) s))
      else ((hbmBytes s c (128 * line) 128, false), s)).2 := by
    split
    · exact .trans (by rfl) (raiseFault_onlyScanned 0x0402 _ _ _ _ _ (by decide))
    · rfl
  unfold readLine
  dsimp only
  split
  · exact home s
  · split
    · exact modRlc_onlyScanned h (fun r => { r with hit := r.hit + 1 }) s
    · simp only [Bool.true_or, if_true]
      exact .trans (modRlc_onlyScanned _ _ _) (home _)

theorem meetErrors_onlyScanned (p c line : Nat) (s : State) : OnlyScanned s (meetErrors p c line s) :=
  .trans (t := useFree s) (by rfl) (lineErrors_onlyScanned ..)

/-- Reading lines of memory leaves every byte of it, and everything outside the stacks, the caches and the fault log, as it was. -/
theorem memReadLines_onlyScanned (p c off n : Nat) (s : State) : OnlyScanned s (memReadLines p c off n s).2 := by
  unfold memReadLines
  suffices ∀ (ks : List Nat) (acc : (List Byte × Option Nat) × State), OnlyScanned s acc.2 →
      OnlyScanned s (ks.foldl (fun acc i =>
        let line := off / 128 + i
        let x := readLine (pchHalf s c) p c line true (meetErrors p c line acc.2)
        ((acc.1.1 ++ x.1.1, if x.1.2 then some (acc.1.2.getD (128 * i)) else acc.1.2), x.2)) acc).2 from this _ _ rfl
  intro ks
  induction ks with
  | nil => exact fun _ h => h
  | cons k ks ih => exact fun acc h => ih _ (.trans h (.trans (meetErrors_onlyScanned ..) (readLine_onlyScanned ..)))

/-- What the Marionette's read of an image can change. -/
theorem pmaScan_onlyScanned (p pma len : Nat) (s : State) : OnlyScanned s (pmaScan p pma len s) := by
  unfold pmaScan
  split
  · rfl
  · exact memReadLines_onlyScanned ..

/-- A range of partition memory that can be read can still be read after a scan. -/
theorem pmaRead_pmaScan (p pma len k n q : Nat) (s : State) :
    (pmaRead (pmaScan p pma len s) q k n).isSome = (pmaRead s q k n).isSome := by
  have e : ∀ t, OnlyScanned s t → (pmaRead t q k n).isSome = (pmaRead s q k n).isSome := by
    intro t h
    have m : pmaMap t q k n = pmaMap s q k n := by rw [h]; rfl
    unfold pmaRead
    rw [m]
    cases pmaMap s q k n with
    | none => rfl
    | some c =>
      have : (t.d2d.ihlReset && decide (pchHalf t c.1 ≠ mrtHalf t)) = (s.d2d.ihlReset && decide (pchHalf s c.1 ≠ mrtHalf s)) := by
        rw [h]; rfl
      simp only [Option.bind_some, this]
      split <;> rfl
  exact e _ (pmaScan_onlyScanned ..)

end Sys2Proof.Machine
end

