-- ==== Sys2Proof/Laws/Marble.lean ====
section
/-! SUPPORT. What the operations over Marbles, their registers and their issue do. -/

namespace Sys2Proof.Machine

open Sys2Proof

/-! ### Registers (R112) -/

@[simp] theorem getM_zero (m : Marble) : getM m 0 = 0 := rfl
@[simp] theorem getP_zero (m : Marble) : getP m 0 = 0xFF := rfl

/-- A slot of a vector after one slot is set. -/
theorem get_set {α : Type} {w k : Nat} (v : Vector α k) (d r : BitVec w) (x : α) (hd : d.toNat < k) (hr : r.toNat < k) :
    (v.set d.toNat x hd)[r.toNat] = if r = d then x else v[r.toNat] := by
  rw [Vector.getElem_set]
  by_cases h : r = d
  · subst h; simp
  · have hn : d.toNat ≠ r.toNat := fun c => h (BitVec.eq_of_toNat_eq c.symm)
    simp [h, hn]

/-- A write of a scalar register, seen by a read of any. -/
theorem getM_setM (m : Marble) (d r : BitVec 5) (x : Word) : getM (setM d x m) r = if r = d ∧ d ≠ 0 then x else getM m r := by
  have hd' : d.toNat < 32 := d.isLt
  have hr' : r.toNat < 32 := r.isLt
  unfold getM setM
  by_cases hd : d = 0
  · simp [hd]
  · rw [if_neg hd]
    by_cases hr : r = 0
    · subst hr
      rw [if_pos rfl, if_pos rfl, if_neg (fun h => hd h.1.symm)]
    · rw [if_neg hr, if_neg hr]
      have := get_set m.m (w := 5) d r x hd' hr'
      refine this.trans ?_
      by_cases h : r = d
      · rw [if_pos h, if_pos ⟨h, hd⟩]
      · rw [if_neg h, if_neg (fun c => h c.1)]; rfl

/-- A write of a vector register, seen by a read of any. -/
theorem getV_setV (m : Marble) (d r : BitVec 3) (x : DWord) : getV (setV d x m) r = if r = d then x else getV m r :=
  get_set m.v (w := 3) d r x d.isLt r.isLt

/-- A write of a predicate, seen by a read of any. -/
theorem getP_setP (m : Marble) (d r : BitVec 2) (x : Byte) : getP (setP d x m) r = if r = d ∧ d ≠ 0 then x else getP m r := by
  have hd' : d.toNat < 4 := d.isLt
  have hr' : r.toNat < 4 := r.isLt
  unfold getP setP
  by_cases hd : d = 0
  · simp [hd]
  · rw [if_neg hd]
    by_cases hr : r = 0
    · subst hr
      rw [if_pos rfl, if_pos rfl, if_neg (fun h => hd h.1.symm)]
    · rw [if_neg hr, if_neg hr]
      have := get_set m.p (w := 2) d r x hd' hr'
      refine this.trans ?_
      by_cases h : r = d
      · rw [if_pos h, if_pos ⟨h, hd⟩]
      · rw [if_neg h, if_neg (fun c => h c.1)]; rfl

/-- What a write of a scalar register leaves. -/
theorem setM_rest (d : BitVec 5) (x : Word) (m : Marble) : setM d x m = { m with m := (setM d x m).m } := by
  unfold setM; split <;> rfl

/-- What a write of a predicate leaves. -/
theorem setP_rest (d : BitVec 2) (x : Byte) (m : Marble) : setP d x m = { m with p := (setP d x m).p } := by
  unfold setP; split <;> rfl

/-! ### Going on (R121) -/

/-- Going on changes the PC and the loops alone. -/
theorem advance_rest (m : Marble) :
    advance m = { m with pc := (advance m).pc, loop0 := (advance m).loop0, loop1 := (advance m).loop1 } := by
  obtain ⟨⟩ := m
  unfold advance
  simp only
  repeat' split
  all_goals rfl

/-- Where going on leads depends on the PC and the loops alone. -/
theorem advance_congr {m m' : Marble} (hp : m'.pc = m.pc) (h0 : m'.loop0 = m.loop0) (h1 : m'.loop1 = m.loop1) :
    WentOn m (advance m') := by
  obtain ⟨⟩ := m
  obtain ⟨⟩ := m'
  simp only at hp h0 h1
  subst hp h0 h1
  unfold WentOn advance
  simp only
  repeat' split
  all_goals simp_all

/-! ### Marbles of a state -/

@[simp] theorem marble_setMarble_same (n : Nat) (m : Marble) (s : State) : marble (setMarble n m s) n = m := look_put_same _ _ _ _

theorem marble_setMarble_ne (n k : Nat) (m : Marble) (s : State) (h : k ≠ n) : marble (setMarble n m s) k = marble s k :=
  look_put_ne _ _ _ h

/-- Setting a Marble changes that Marble alone. -/
theorem onlyMarble_setMarble (n : MarbleId) (m : Marble) (s : State) : OnlyMarble n s (setMarble n.toNat m s) :=
  ⟨rfl, fun k h => marble_setMarble_ne n.toNat k m s h⟩

/-! ### Issue (R113, R116, R120) -/

/-- A legal instruction that issues is its body. -/
theorem issue_legal {n : MarbleId} {s : State} (h : Issues n s) (body : Marble → State) :
    issue n true s body = body (marble s n.toNat) := by
  obtain ⟨h1, h2, h3⟩ := h
  have : ¬ loadedCount s n.toNat ≤ (marble s n.toNat).pc.toNat := by omega
  simp [issue, h1, h3, this]

/-- An ill-formed instruction that issues stops its Marble with cause 2. -/
theorem issue_illegal {n : MarbleId} {s : State} (h : Issues n s) (body : Marble → State) :
    issue n false s body = stopMarble n.toNat 2 0 s := by
  obtain ⟨h1, h2, h3⟩ := h
  have : ¬ loadedCount s n.toNat ≤ (marble s n.toNat).pc.toNat := by omega
  simp [issue, h1, h3, this]

/-- A word of a reserved operation at the PC stops its Marble with cause 2, whatever the command says (R116, R120). -/
theorem issue_reserved {n : MarbleId} {s : State} (h1 : canIssue s n.toNat = true)
    (h2 : (marble s n.toNat).pc.toNat < loadedCount s n.toNat) (h3 : wordReserved s n = true) (legal : Bool) (body : Marble → State) :
    issue n legal s body = stopMarble n.toNat 2 0 s := by
  have : ¬ loadedCount s n.toNat ≤ (marble s n.toNat).pc.toNat := by omega
  simp [issue, h1, h3, this]

/-- An instruction of a Marble that cannot issue changes nothing. -/
theorem issue_blocked {n : MarbleId} {s : State} (h : canIssue s n.toNat = false) (legal : Bool) (body : Marble → State) :
    issue n legal s body = s := by
  simp [issue, h]

/-- A whole instruction that executes. -/
theorem issueWhole_executes {n : MarbleId} {p : BitVec 2} {s : State} (h : Issues n s)
    (hp : (getP (marble s n.toNat) p).getLsbD 0 = true) (f : Marble → Marble) :
    issueWhole n p true f s = setMarble n.toNat (advance (f (marble s n.toNat))) s := by
  simp [issueWhole, issue_legal h, executes, hp]

end Sys2Proof.Machine
end

