-- ==== Sys2Proof/Laws/Memory.lean ====
section
/-! SUPPORT. Every operation over the memories keeps their canonical form, and the state after reset has it. -/

namespace Sys2Proof.Machine

open Sys2Proof

/-- A byte put into a memory keeps its canonical form. -/
theorem wf_put (m : List Host.Cell) (k : Nat) (b : Byte) (h : Memory.wf m = true) : Memory.wf (put m k b 0) = true :=
  (memory_wf_iff _).mpr (canon_put k b 0 ((memory_wf_iff m).mp h))

/-- Bytes written keep the canonical form. -/
theorem wf_writeBytes (m : List Host.Cell) (a : Nat) (bs : List Byte) (h : Memory.wf m = true) : Memory.wf (writeBytes m a bs) = true :=
  (memory_wf_iff _).mpr (canon_writeBytes a bs ((memory_wf_iff m).mp h))

/-- A range dropped keeps the canonical form. -/
theorem wf_dropRange (m : List Host.Cell) (lo hi : Nat) (h : Memory.wf m = true) : Memory.wf (dropRange m lo hi) = true :=
  (memory_wf_iff _).mpr (canon_dropRange lo hi ((memory_wf_iff m).mp h))

/-- A write to scratch keeps the canonical form. -/
theorem wf_scratchWrite (n a : Nat) (bs : List Byte) (s : State) (h : Memory.wf s.mrb.scratch = true) :
    Memory.wf (scratchWrite n a bs s).mrb.scratch = true := wf_writeBytes _ _ bs h

/-- A bank cleared keeps the canonical form. -/
theorem wf_scratchClear (n : Nat) (s : State) (h : Memory.wf s.mrb.scratch = true) : Memory.wf (scratchClear n s).mrb.scratch = true :=
  wf_dropRange _ _ _ h

/-- A byte put into the HBM keeps its keys rising. -/
theorem rising_hbmSet (c o : Nat) (b : Byte) (s : State) (h : Rising s.hbm.mem) : Rising (hbmSet c o b s).hbm.mem := by
  unfold hbmSet
  split
  · exact rising_put _ _ _ h
  · exact rising_ins _ _ h

/-- The scratch memory after reset has the canonical form. -/
theorem reset_memory_wf : Memory.wf State.reset.mrb.scratch = true := rfl

end Sys2Proof.Machine
end

