-- ==== Sys2Proof/Tests/Slice0.lean ====
section
/-! SUPPORT. Tests: ill-formed commands that the checks refuse, Marble words written out from R120 to R123, and, for every statement
with hypotheses, a concrete state and operands that meet them together. -/

namespace Sys2Proof.Tests

open Sys2Proof Sys2Proof.Machine Sys2Proof.Machine.Tables

set_option Elab.async false

/-! ### Well-formedness: an ill-formed term for each check -/

/-- A field that a Marble instruction does not use must be 0 (R120, R122). -/
theorem test_wf_unused_fields :
    (Instr.clz 0 ⟨0, 1, 2, 1⟩).wf = false ∧ (Instr.vadd 0 ⟨0, 1, 2, 3, 1⟩).wf = false ∧ (Instr.vabs 0 ⟨0, 1, 2, 1, 0⟩).wf = false
      ∧ (Instr.vbc 0 ⟨0, 1, 1, 0, 4⟩).wf = false ∧ (Instr.vtol 0 ⟨0, 1, 2, 0, 4⟩).wf = false ∧ (Instr.vdot8 0 ⟨0, 1, 2, 3, 4⟩).wf = false
      ∧ (Instr.nop 0 ⟨0, 0, 0, 1⟩).wf = false ∧ (Instr.rdcsr 0 ⟨0, 1, 1, 0⟩).wf = false ∧ (Instr.wrcsr 0 ⟨0, 1, 1, 4⟩).wf = false
      ∧ (Instr.trap 0 ⟨0, 1, 0, 4⟩).wf = false ∧ (Instr.rldw 0 false ⟨0, 1, 2, 1⟩).wf = false := by decide

/-- Reserved values of a field: SHI's kind 3 and imm[11:5], a condition above 5, LOOP's d[4:1], BP's a[3:2], m[4:2] (R121, R122). -/
theorem test_wf_reserved_values :
    (Instr.shi 0 ⟨0, 1, 2, 0x3000⟩).wf = false ∧ (Instr.shi 0 ⟨0, 1, 2, 0x0020⟩).wf = false ∧ (Instr.cmp 0 ⟨0, 1, 6, 2, 0⟩).wf = false
      ∧ (Instr.cmp 0 ⟨0, 1, 0, 2, 1⟩).wf = false ∧ (Instr.cmpi 0 ⟨0, 1, 7, 2, 0⟩).wf = false ∧ (Instr.loop 0 ⟨0, 2, 1, 1⟩).wf = false
      ∧ (Instr.bp 0 ⟨0, 4, 0, 1⟩).wf = false ∧ (Instr.vsel 0 ⟨0, 1, 2, 3, 4⟩).wf = false ∧ (Instr.vcmp 0 6 ⟨0, 0, 2, 3, 1⟩).wf = false
      ∧ (Instr.vf8bf 0 ⟨0, 1, 2, 0, 2⟩).wf = false ∧ (Instr.fcmp 0 0 ⟨0, 4, 1, 2⟩).wf = false := by decide

/-- A 5-bit field names v0 to v7, an even one where two are moved (R116, R121, R123). -/
theorem test_wf_vector_names :
    (Instr.vld 0 ⟨0, 8, 0, 0⟩).wf = false ∧ (Instr.vst2 0 ⟨0, 3, 0, 0⟩).wf = false ∧ (Instr.rldv 0 false ⟨0, 8, 0, 0⟩).wf = false
      ∧ (Instr.rstv2 0 true ⟨0, 1, 0, 0⟩).wf = false := by decide

/-- A verification pass with every element at zero, and `n` taps of one power. -/
def passOf (n : Nat) : PilotResult := ⟨0, 0, 0, 0, 0, 0, List.replicate n 100⟩

/-- A full calibration that finds these dead cells and failed channels and otherwise passes. -/
def calOf (dead : List (Nat × Nat)) (failed : List Nat) : CalResult := ⟨passOf 388, true, dead, failed, false, 15, 1600, 1600, false⟩

/-- What senders supply in a form the spec does not admit. -/
theorem test_wf_supplied :
    (Instr.integrationEnd 0 .s0 [(260, 0)]).wf = false ∧ (Instr.expectationSumWrite 0 0 4 [0, 0, 0]).wf = false
      ∧ (Instr.fullCalibrationDone 0 (calOf [] [388])).wf = false
      ∧ (Instr.zoeReconfigDone 0 (calOf [(260, 0)] [])).wf = false ∧ (Instr.pilotWindowEnd 0 (passOf 387)).wf = false ∧ (Instr.space01BadAccess 0 0 0 .read 33).wf = false
      ∧ (Instr.desc .g0 [0]).wf = false ∧ (Instr.mrd .g0 ⟨0, 0, 17, 0, 0⟩).wf = false ∧ (Instr.mwr .g0 ⟨0, 0, 1, 0, 0⟩ []).wf = false
      ∧ (Instr.targetWindowAccess 0 0 (some [])).wf = false ∧ (Instr.probe 1 ⟨0, 64, 0, 0, 0⟩).wf = false
      ∧ (Instr.data 0 ⟨[]⟩).wf = false ∧ (Instr.sensorSample 0 40000).wf = false := by decide +kernel

/-! ### Marble words, written out from R120 to R123 -/

/-- ADD m3, m1, m2 under p0: OP 0, P 0, d 3, a 1, b 2, FN 0. -/
theorem test_word_add : decodeMarble 7 0b000000_00_00011_00001_00010_000000000 = some (.add 7 ⟨0, 3, 1, 2⟩) := by decide
/-- CMPI p2, LT, m5, −1 under p1: OP 8, P 1, pd 2, condition 2, a 5, imm all ones. -/
theorem test_word_cmpi : decodeMarble 0 0b001000_01_10_010_00101_11111111111111 = some (.cmpi 0 ⟨1, 2, 2, 5, 0x3FFF⟩) := by decide
/-- LUI m1, 3: OP 6, P 0, d 1, imm 3. -/
theorem test_word_lui : decodeMarble 0 0b000110_00_00001_0000000000000000011 = some (.lui 0 ⟨0, 1, 3⟩) := by decide
/-- STW m4 at m2 + 8 under p3: OP 1A, P 3, d 4, a 2, imm 8. -/
theorem test_word_stw : decodeMarble 0 0b011010_11_00100_00010_00000000001000 = some (.stw 0 ⟨3, 4, 2, 8⟩) := by decide
/-- BNE m1, m2, −1: OP A, P 0, a 1, b 2, off all ones. -/
theorem test_word_bne : decodeMarble 0 0b001010_00_00001_00010_11111111111111 = some (.bne 0 ⟨0, 1, 2, 0x3FFF⟩) := by decide
/-- JAL +5: OP 10, P 0, off 5. -/
theorem test_word_jal : decodeMarble 0 0b010000_00_000000000000000000000101 = some (.jal 0 ⟨0, 5⟩) := by decide
/-- VCMP p1, GE, v2, v3: OP 28, P 0, vd 0, va 2, vb 3, m 1, FN 20 + 3. -/
theorem test_word_vcmp : decodeMarble 0 0b101000_00_000_010_011_00001_0000100011 = some (.vcmp 0 3 ⟨0, 0, 2, 3, 1⟩) := by decide
/-- VDOT8 m9, v1, v2: OP 29, vd 0, va 1, vb 2, m 9, FN 0. -/
theorem test_word_vdot8 : decodeMarble 0 0b101001_00_000_001_010_01001_0000000000 = some (.vdot8 0 ⟨0, 0, 1, 2, 9⟩) := by decide
/-- VPK4 v1, v2, v3: OP 2A, vd 1, va 2, vb 3, m 0, FN 4. -/
theorem test_word_vpk4 : decodeMarble 0 0b101010_00_001_010_011_00000_0000000100 = some (.vpk4 0 ⟨0, 1, 2, 3, 0⟩) := by decide
/-- FMUL m1, m2, m3: OP 2B, d 1, a 2, b 3, FN 2. -/
theorem test_word_fmul : decodeMarble 0 0b101011_00_00001_00010_00011_000000010 = some (.fmul 0 ⟨0, 1, 2, 3⟩) := by decide
/-- RLDW m1, m2 in the urgent class: OP 1F, d 1, a 2, FN[8] 1. -/
theorem test_word_rldw : decodeMarble 0 0b011111_00_00001_00010_00000_100000000 = some (.rldw 0 true ⟨0, 1, 2, 0⟩) := by decide
/-- TRAP 9: OP 3F, b 9, FN 5. -/
theorem test_word_trap : decodeMarble 0 0b111111_00_00000_00000_01001_000000101 = some (.trap 0 ⟨0, 0, 0, 9⟩) := by decide
/-- A reserved OP and a reserved FN decode to nothing. -/
theorem test_word_reserved : decodeMarble 0 0xC0000000 = none ∧ decodeMarble 0 0x00000010 = none := by decide

/-! ### Small states -/

/-- Marble 5, in a bank of context 9 of partition 1, with two instructions loaded. -/
def marbleAt (m : Marble) : State :=
  { State.reset with mrb.marbles := [(5, m)], mrb.iram := [(0, [0, 0])], mrb.banks := [(5, .owned (tagOf 1 9))] }

/-- A Marble with a few registers set. -/
def m1 : Marble := { m := (Vector.replicate 32 0).set 1 0x7FFFFFFF |>.set 2 1, p := (Vector.replicate 4 0).set 1 0x0F }

/-! ### Marbles: the hypotheses of each statement met -/

theorem witness_MarbleScalarArithmetic : Issues 5 (marbleAt m1) ∧ (getP (marble (marbleAt m1) 5) 0).getLsbD 0 = true
    ∧ (Instr.add 5 ⟨0, 3, 1, 2⟩).wf = true ∧ (Instr.shi 5 ⟨0, 3, 1, 0x2005⟩).wf = true := by
  refine ⟨⟨?_, ?_⟩, ?_, ?_, ?_⟩ <;> decide

/-- ADD of 0x7FFFFFFF and 1 wraps and sets OVF (R118). -/
theorem test_add_wraps : (match exec (.add 5 ⟨0, 3, 1, 2⟩) (marbleAt m1) with
    | .next t => some (getM (marble t 5) 3, (marble t 5).mflags)
    | _ => none) = some (0x80000000, 1) := by decide

theorem witness_MarbleCompares : Issues 5 (marbleAt m1) ∧ (Instr.cmp 5 ⟨0, 3, 5, 1, 0x0400⟩).wf = true
    ∧ (Instr.cmpi 5 ⟨0, 1, 0, 2, 0x3FFF⟩).wf = true ∧ (Instr.fcmp 5 3 ⟨0, 3, 1, 2⟩).wf = true :=
  ⟨⟨by decide, by decide⟩, by decide⟩

theorem witness_MarbleBranchesAndJumps : Issues 5 (marbleAt m1) ∧ (Instr.bp 5 ⟨0, 0x13, 0, 0x3FFF⟩).wf = true
    ∧ (Instr.jr 5 ⟨0, 31, 1, 0⟩).wf = true ∧ holds 0 (getM m1 1) (getM m1 1) = true ∧ holds 0 (getM m1 1) (getM m1 2) = false :=
  ⟨⟨by decide, by decide⟩, by decide⟩

/-- A live level-0 loop at its last instruction with `k` passes left. -/
def loopAt (k : Word) : Marble := { m1 with loop0 := some ⟨0, 1, k⟩, pc := 1 }

theorem witness_MarbleHardwareLoops : Issues 5 (marbleAt m1) ∧ Issues 5 (marbleAt (loopAt 2))
    ∧ (Instr.loop 5 ⟨0, 0, 1, 1⟩).wf = true ∧ (Instr.loop 5 ⟨0, 1, 1, 1⟩).wf = true ∧ getM m1 1 ≠ 0
    ∧ m1.loop0 = none ∧ (loopAt 2).loop0.isSome = true ∧ (loopAt 2).loop1 = none
    ∧ (loopAt 2).pc = 1 ∧ (loopAt 1).loop1 = none :=
  ⟨⟨by decide, by decide⟩, ⟨by decide, by decide⟩, by decide⟩

/-- A Marble whose register 1 is an address. -/
def mAddr (a : Word) : Marble := { p := m1.p, m := (Vector.replicate 32 0).set 1 a }

theorem witness_MarbleLocalLoads : Issues 5 (marbleAt (mAddr 0x7FD))
    ∧ (getM (mAddr 0x7FD) 1 + BitVec.ofInt 32 (0x3FFF : BitVec 14).toInt).toNat + 4 ≤ 0x800
    ∧ (getM (mAddr 0x7FD) 1 + BitVec.ofInt 32 (2 : BitVec 14).toInt).toNat + 1 ≤ 0x800 :=
  ⟨⟨by decide, by decide⟩, by decide⟩

theorem witness_MarbleLocalStores : Issues 5 (marbleAt (mAddr 0x7FD))
    ∧ (getM (mAddr 0x7FD) 1 + BitVec.ofInt 32 (1 : BitVec 14).toInt).toNat + 2 ≤ 0x800 :=
  ⟨⟨by decide, by decide⟩, by decide⟩

theorem witness_MarbleVectorAccesses : Issues 5 (marbleAt (mAddr 0x7F0)) ∧ getP (mAddr 0x7F0) 1 ≠ 0
    ∧ (Instr.vld 5 ⟨1, 7, 1, 8⟩).wf = true ∧ (Instr.vst2 5 ⟨1, 6, 1, 0⟩).wf = true
    ∧ (getM (mAddr 0x7F0) 1 + BitVec.ofInt 32 (8 : BitVec 14).toInt).toNat + 8 ≤ 0x800
    ∧ (getM (mAddr 0x7F0) 1 + BitVec.ofInt 32 (0 : BitVec 14).toInt).toNat + 16 ≤ 0x800 :=
  ⟨⟨by decide, by decide⟩, by decide⟩

theorem witness_MarbleLaneResults : Issues 5 (marbleAt m1) ∧ (∀ e ∈ lanes, (e.1 5 ⟨1, 3, 0, 0, 0⟩).wf = true)
    ∧ (Instr.vsel 5 ⟨1, 7, 1, 2, 3⟩).wf = true ∧ (Instr.vmvl 5 ⟨1, 7, 0, 0, 31⟩).wf = true
    ∧ (Instr.vmvh 5 ⟨1, 7, 0, 0, 31⟩).wf = true :=
  ⟨⟨by decide, by decide⟩, by decide⟩

theorem witness_MarbleSumsAndLaneMoves : Issues 5 (marbleAt m1) ∧ (∀ e ∈ sums, (e.1 5 ⟨1, 0, 7, 0, 31⟩).wf = true)
    ∧ (Instr.vtol 5 ⟨1, 0, 7, 0, 31⟩).wf = true ∧ (Instr.vtoh 5 ⟨1, 0, 7, 0, 31⟩).wf = true
    ∧ (Instr.vcmp 5 5 ⟨1, 0, 7, 6, 3⟩).wf = true :=
  ⟨⟨by decide, by decide⟩, by decide⟩

theorem witness_MarblePackingAndConversions : Issues 5 (marbleAt m1) ∧ getP m1 0 = 0xFF
    ∧ (Instr.vpk4 5 ⟨0, 1, 2, 3, 0⟩).wf = true ∧ (Instr.vpk5 5 ⟨0, 1, 2, 0, 0⟩).wf = true ∧ (Instr.vpk6 5 ⟨1, 1, 2, 0, 0⟩).wf = true
    ∧ (Instr.vunpf6a 5 ⟨1, 1, 2, 0, 0⟩).wf = true ∧ (Instr.vunpf6b 5 ⟨1, 1, 2, 0, 0⟩).wf = true
    ∧ (Instr.vf8bf 5 ⟨0, 1, 2, 0, 1⟩).wf = true ∧ (Instr.vf8bfh 5 ⟨0, 1, 2, 0, 0⟩).wf = true ∧ (Instr.vbff8 5 ⟨1, 1, 2, 3, 1⟩).wf = true :=
  ⟨⟨by decide, by decide⟩, by decide⟩

theorem witness_MarbleBlockAccumulator : Issues 5 (marbleAt m1) ∧ (getP m1 0).getLsbD 0 = true
    ∧ (Instr.f8dot 5 ⟨1, 0, 1, 2, 3⟩).wf = true ∧ (Instr.bdot 5 ⟨1, 0, 1, 2, 0⟩).wf = true ∧ (Instr.mxdot 5 ⟨1, 0, 1, 2, 31⟩).wf = true
    ∧ (Instr.bclr 5 ⟨0, 0, 0, 0, 0⟩).wf = true ∧ (Instr.bld 5 ⟨0, 0, 0, 0, 31⟩).wf = true ∧ (Instr.brd 5 ⟨0, 0, 0, 0, 31⟩).wf = true
    ∧ (Instr.brdq 5 ⟨0, 0, 0, 0, 31⟩).wf = true :=
  ⟨⟨by decide, by decide⟩, by decide⟩

theorem witness_MarbleScalarFloats : Issues 5 (marbleAt m1) ∧ (getP m1 0).getLsbD 0 = true
    ∧ (∀ e ∈ floats, (e.1 5 ⟨0, 31, 1, 0⟩).wf = true) ∧ (Instr.fcvti 5 ⟨0, 31, 1, 0⟩).wf = true
    ∧ ltVal (bf16Val 0x3F80) (bf16Val 0x4000) = true ∧ isNan (bf16Val 0x7FC0) = true :=
  ⟨⟨by decide, by decide⟩, by decide⟩

theorem witness_MarblePredicateOff : Issues 5 (marbleAt m1) ∧ whole? (.halt 5 ⟨2, 0, 0, 0⟩) = some (5, 2)
    ∧ (Instr.halt 5 ⟨2, 0, 0, 0⟩).wf = true ∧ (getP m1 2).getLsbD 0 = false ∧ (Instr.vst2 5 ⟨2, 2, 1, 0⟩).wf = true ∧ getP m1 2 = 0 :=
  ⟨⟨by decide, by decide⟩, by decide⟩

theorem witness_MarbleStops : Issues 5 (marbleAt m1) ∧ Issues 5 (marbleAt (loopAt 2)) ∧ Issues 5 (marbleAt (mAddr 0x7FD))
    ∧ (Instr.add 5 ⟨0, 1, 2, 3⟩).marble? = some 5 ∧ canIssue State.reset 5 = false
    ∧ canIssue (marbleAt { m1 with pc := 2 }) 5 = true ∧ loadedCount (marbleAt { m1 with pc := 2 }) 5 ≤ 2
    ∧ (Instr.clz 5 ⟨0, 1, 2, 1⟩).wf = false ∧ (Instr.loop 5 ⟨0, 0, 1, 1⟩).wf = true ∧ (loopAt 2).loop0.isSome = true ∧ m1.loop0 = none
    ∧ 0x800 < (getM (mAddr 0x7FD) 1 + BitVec.ofInt 32 (0 : BitVec 14).toInt).toNat + 4
    ∧ 0x800 < (getM (mAddr 0x7FD) 1 + BitVec.ofInt 32 (3 : BitVec 14).toInt).toNat + 1
    ∧ getP (mAddr 0x7FD) 1 ≠ 0 ∧ (Instr.vst2 5 ⟨1, 6, 1, 0⟩).wf = true ∧ (getM (mAddr 0x7FD) 1).toNat % 4 ≠ 0
    ∧ (Instr.trap 5 ⟨0, 0, 0, 31⟩).wf = true ∧ (Instr.halt 5 ⟨0, 0, 0, 0⟩).wf = true :=
  ⟨⟨by decide, by decide⟩, ⟨by decide, by decide⟩, ⟨by decide, by decide⟩, by decide⟩

/-- A reserved OP at the PC. -/
theorem witness_MarbleStops_reserved : (let s : State := { marbleAt m1 with mrb.iram := [(0, [0xC0000000])] }
    (canIssue s 5 = true ∧ (marble s 5).pc.toNat < loadedCount s 5) ∧ wordReserved s 5 = true) ∧ wordReserved (marbleAt m1) 5 = false := by
  decide

/-- A Marble with `k` remote stores outstanding. -/
def mOut (k : Nat) : Marble := { mAddr 0xA0 with outst := List.replicate k ⟨.store 0xA0 [1, 2, 3, 4], false⟩ }

theorem witness_MarbleRemoteIssue : Issues 5 (marbleAt (mOut 3)) ∧ Issues 5 (marbleAt (mOut 4)) ∧ (mOut 3).outst.length < 4
    ∧ 4 ≤ (mOut 4).outst.length ∧ (Instr.rldv2 5 true ⟨0, 6, 1, 0⟩).wf = true ∧ (Instr.rstw 5 false ⟨0, 31, 1, 0⟩).wf = true
    ∧ (Instr.mpost 5 1 ⟨0, 0, 0, 0⟩).wf = true :=
  ⟨⟨by decide, by decide⟩, ⟨by decide, by decide⟩, by decide⟩

/-- A Marble that waits for a remote load. -/
def mLoad : Marble := { outst := [⟨.load 16 2 0xA0, false⟩], waiting := .remote }
/-- A Marble with a copy of 32 bytes outstanding. -/
def mCopy : Marble := { outst := [⟨.copy 0xA0 0x8A0 32, false⟩] }

theorem witness_RemoteCompletions :
    (mLoad.outst[0]? = some ⟨.load 16 2 0xA0, false⟩ ∧ mLoad.waiting = .remote ∧ Reaches 5 (marbleAt mLoad) 0xA0 16)
    ∧ ((mOut 4).outst[3]? = some ⟨.store 0xA0 [1, 2, 3, 4], false⟩ ∧ Reaches 5 (marbleAt (mOut 4)) 0xA0 4)
    ∧ mCopy.outst[0]? = some ⟨.copy 0xA0 0x8A0 32, false⟩ ∧ Reaches 5 (marbleAt mCopy) 0xA0 32
      ∧ Reaches 5 (marbleAt mCopy) 0x8A0 32 := by
  refine ⟨⟨rfl, rfl, ?_⟩, ⟨rfl, ?_⟩, rfl, ?_, ?_⟩ <;> (unfold Reaches; decide)

/-- A Marble with a store to the first dual-port word of its own bank outstanding. -/
def mDual : Marble := { outst := [⟨.store 0x1E0A0 [1, 2, 3, 4], false⟩] }

theorem witness_RemoteCompletions_lost : mDual.outst[0]? = some ⟨.store 0x1E0A0 [1, 2, 3, 4], false⟩
    ∧ Reaches 5 (marbleAt mDual) 0x1E0A0 4 ∧ remoteByte 5 0x1E0A0 = (5, 0x780) := by
  refine ⟨rfl, ?_, by decide⟩
  unfold Reaches
  decide

/-- A Marble that waits at BAR, at FENCE with nothing outstanding, and at MWAIT for word 0x7FC to differ from 1. -/
def mWaits (w : Waiting) : Marble := { waiting := w }

theorem witness_MarbleWaits : Issues 5 (marbleAt (mAddr 0x7FC)) ∧ bankNum (marbleAt (mAddr 0x7FC)) 5 0x7FC 4 = 0
    ∧ getM (mAddr 0x7FC) 1 ≠ 0 ∧ getM (mAddr 0x7FC) 2 = 0 ∧ (Instr.fence 5 ⟨0, 0, 0, 0⟩).wf = true ∧ (Instr.bar 5 ⟨0, 0, 0, 0⟩).wf = true
    ∧ Issues 5 (marbleAt (mOut 1)) ∧ (mOut 1).outst.any holdsFence = true ∧ (mOut 0).outst.any holdsFence = false
    ∧ running (marbleAt (mWaits (.mwait 3 0x7FC 1))) 5 = true
    ∧ BitVec.ofNat 32 (bankNum (marbleAt (mWaits (.mwait 3 0x7FC 1))) 5 0x7FC 4) ≠ 1
    ∧ running (marbleAt (mWaits .fence)) 5 = true ∧ running (marbleAt (mWaits .bar)) 5 = true :=
  ⟨⟨by decide, by decide⟩, by decide, by decide, by decide, by decide, by decide, ⟨by decide, by decide⟩, by decide⟩

theorem witness_MarbleSystemInstructions : Issues 5 (marbleAt m1) ∧ (getP m1 0).getLsbD 0 = true
    ∧ (Instr.nop 5 ⟨0, 0, 0, 0⟩).wf = true ∧ (Instr.rdcsr 5 ⟨0, 31, 0, 4⟩).wf = true ∧ (Instr.wrcsr 5 ⟨0, 0, 1, 4⟩).wf = true :=
  ⟨⟨by decide, by decide⟩, by decide⟩

theorem witness_ClusterRestart : blockHeld (marbleAt { m1 with cause := 1 }) .bag 0 = false
    ∧ (marble (marbleAt { m1 with cause := 1 }) 5).cause ≠ 0 ∧ (marble (marbleAt { m1 with cause := 1 }) 5).outst = [] := by decide

theorem witness_MarbleWordsRoundTrip : (Instr.trap 5 ⟨0, 0, 0, 9⟩).marble? = some 5 ∧ (Instr.trap 5 ⟨0, 0, 0, 9⟩).wf = true
    ∧ encodeMarble (.trap 5 ⟨0, 0, 0, 9⟩) = some 0xFC001205 := by decide

/-! ### Zoetropes -/

/-- Zoetrope 0 of a Quad that partition 1 owns, with a run grant and bank 0 owned by the partition. -/
def zoeAt (x : Zoe) : State :=
  { State.reset with
    zoes := [(0, x)], mrb.banks := [(0, .owned (tagOf 1 9))], parts := [(1, { exist := true, quads := 1 })]
    pwr.quads := [(0, { run := 4 })] }

/-- A Zoetrope whose queue 0 runs and stands at descriptor d. -/
def zRun (d : BitVec 128) : Zoe := { state := .running, st0 := { qstate := .running }, trim := { light := true }, ram := [(0, d)] }

/-- WINDOW with K = 64 and every other field 0. -/
def dWindow : BitVec 128 := 1 <<< 60
/-- IDLE with a count. -/
def dIdle (k : BitVec 128) : BitVec 128 := 2 <<< 60 ||| k

theorem witness_WindowBoundaries_begins :
    Quiet (zoeAt (zRun dWindow)) 0 0 ∧ dscError false 0 dWindow = 0 ∧ wdType dWindow = 1 ∧ runGrant (zoeAt (zRun dWindow)) 0 ≠ 0
      ∧ 256 * 2 ^ wdKlog dWindow ≤ (zRun dWindow).credits4 := by
  refine ⟨?_, by decide⟩
  have noShow : ∀ p w, find (zoeAt (zRun dWindow)).shows p ≠ some w := fun _ _ h => nomatch h
  unfold Tables.Quiet
  and_intros
  all_goals first | decide | exact fun p w _ h => absurd h (noShow p w)

theorem witness_WindowBoundaries_reads : (feedWindow (zoeAt (zRun dWindow)) 0 0 dWindow 0).2 = [] := by decide +kernel

theorem witness_WindowBoundaries_waits :
    dscError false 0 dWindow = 0 ∧ wdType dWindow = 1 ∧ runGrant (zoeAt { zRun dWindow with credits4 := 0 }) 0 ≠ 0
      ∧ ({ zRun dWindow with credits4 := 0 } : Zoe).credits4 < 256 * 2 ^ wdKlog dWindow
      ∧ runGrant { zoeAt (zRun dWindow) with pwr := {} } 0 = 0 ∧ dscError false 0 (dIdle 16) = 0 ∧ wdType (dIdle 16) = 2
      ∧ dscError false 0 (dIdle 15) ≠ 0 ∧ (({ idle := some 7 } : StreamSt).idle = some 7) := by decide

/-- An IDLE without a grant waits where the Zoetrope is Ready, and holds the stream where it runs. -/
theorem witness_WindowBoundaries_idles : wdType (dIdle 16) = 2 ∧ runGrant { zoeAt { zRun (dIdle 16) with state := .ready } with pwr := {} } 0 = 0
    ∧ (zoe { zoeAt { zRun (dIdle 16) with state := .ready } with pwr := {} } 0).state = .ready
    ∧ (zoe { zoeAt (zRun (dIdle 16)) with pwr := {} } 0).state = .running := by decide

theorem witness_CellsAndCodes : (1 ≤ (4 : Nat)) ∧ (0 ≤ (3 : Nat)) ∧ (9 : Nat) ≤ fsShift {} 0 ∧ ([3] : List Nat) ≠ [] := by decide

/-- A window that ends at symbol 64. -/
def wRun : WinRun := { desc := dWindow, t0 := 0 }

theorem witness_WindowMoments :
    (stream ({ zRun dWindow with st0 := { integ := some wRun } } : Zoe) 0).integ = some wRun
      ∧ (stream ({ zRun dWindow with st0 := { post := [wRun] } } : Zoe) 0).post = [] ++ wRun :: [] ∧ wRun.checked = false
      ∧ (stream ({ zRun dWindow with st0 := { post := [{ wRun with checked := true }] } } : Zoe) 0).post
        = { wRun with checked := true } :: [] := by decide

/-- A Zoetrope with a committed slot 31 and a pending audit of window 7. -/
def zPorts : Zoe := { slots := [(31, { valid := true })], st0 := { pend := [{ wtag := 7 }] } }

theorem witness_ZoetropePorts :
    portReach 0 0 = true ∧ portOwner (zoeAt zPorts) 0 0 = true ∧ blockHeld (zoeAt zPorts) .zoetrope 0 = false
      ∧ (Instr.expectationSumWrite 0 0 0x1F800 [1, 2, 3, 4]).wf = true ∧ 0x1F800 % 0x1000 + 4 ≤ 0x804
      ∧ (expSlot zPorts 31).valid = true ∧ (expSlot zPorts 0).valid = false
      ∧ (stream zPorts 0).pend = [] ++ { wtag := 7 } :: [] ∧ (∀ e ∈ (stream zPorts 1).pend, e.wtag ≠ 7)
      ∧ portAt 0x20004 4 = .none ∧ portAt 0x804 4 = .none := by decide

theorem witness_AuditTimeout : (stream ({ st0 := { pend := [{ wtag := 7, done := some 5 }] } } : Zoe) (streamNo .s0)).pend
    = [] ++ { wtag := 7, done := some 5 } :: [] := by decide

theorem witness_Fencing : (zoe (zoeAt (zRun 0)) 0).state ≠ .off ∧ (zoe (zoeAt (zRun 0)) 0).state ≠ .fenced
    ∧ (zoe State.reset 0).state = .off := by decide

theorem witness_GapAndFenceTriggers : (stream ({ st0 := { gapHold := some 5 } } : Zoe) (streamNo .s0)).gapHold = some 5 := by decide

/-- A Ready Zoetrope with a gap owed, or in a gap at pass position k. -/
def zGap (st : ZState) (k : BitVec 10) : Zoe := { state := st, trim := { light := true, pilots := true, owed200 := 200, passPos := k } }

theorem witness_GapsAndPilots :
    ((zGap .ready 0).state = .ready ∧ (zGap .ready 0).trim.light = true ∧ 200 ≤ (zGap .ready 0).trim.owed200
      ∧ ∀ q ∈ streamsOf (zGap .ready 0), (stream (zGap .ready 0) q).qstate ≠ .running)
    ∧ ((zGap .gap 5).state = .gap ∧ (zGap .gap 5).trim.pilots = true ∧ (zGap .gap 5).fenceReq = 0 ∧ (zGap .gap 5).trim.passPos ≠ 1023)
    ∧ ((zGap .trimming 1023).state = .trimming ∧ (zGap .trimming 1023).trim.light = true ∧ (zGap .trimming 1023).trim.passPos = 1023) := by
  decide

theorem witness_TrimRounds : loopsRun (zGap .ready 0) = true ∧ loopsRun {} = false ∧ 0 ∈ engineElems 0 ∧ cellLit false 0 0 = true
    ∧ 67332 ∈ engineElems 0 ∧ accCount (zGap .ready 0).trim 0 (elem (zGap .ready 0) 0 0) = 0
    ∧ accCount { (zGap .ready 0).trim with phN := 3 } 0 (elem (zGap .ready 0) 0 0) = 3 := by decide +kernel

/-- Light lost in a window, and between windows; a boundary after the first. -/
theorem witness_LightAndWarming_moments : (zRun 0).state = .running ∧ (zRun 0).st0.integ = none ∧ (zRun 0).st1.integ = none ∧ (zRun 0).fenceReq = 0
    ∧ (stream { zRun 0 with st0 := { qstate := .running, integ := some wRun } } 0).integ ≠ none
    ∧ ({ zRun 0 with trim := { light := false, lightDue := true } } : Zoe).trim.lightDue = true
    ∧ ({ state := .trimming, trim := { cause := 4, light := true, conv := true } } : Zoe).calDue = false
    ∧ passSince { state := .trimming, prec := { lastPass := some 9 }, trim := { cause := 4, light := true, since := 5 } } 5 = true := by decide

theorem witness_LightAndWarming : (zGap .gap 0).state = .gap ∧ (zoe (zoeAt (zGap .trimming 0)) 0).state ≠ .off
    ∧ (({ state := .trimming, trim := { cause := 4, light := true } } : Zoe).trim.cause = 4) ∧ (zGap .warming 0).trim.light = true := by decide

/-- A full calibration that finds `n` dead cells and otherwise passes. -/
def calFinds (n : Nat) : CalResult := calOf ((List.range n).map (fun i => (i, 0))) []

theorem witness_CalibrationEnds :
    flashOk (zoeAt { state := .trimming, trim := { cause := 1, light := true } }) = true ∧ (zGap .trimming 0).state = .trimming
      ∧ (zGap .trimming 0).trim.light = true ∧ ({ zGap .trimming 0 with trim := { cause := 1 } } : Zoe).trim.light = false
      ∧ (calFinds 64).dead.length ≤ 64 ∧ (calFinds 64).spareFailed = false ∧ (calFinds 64).errorOk = true
      ∧ (mapSpares [] {}).1 = [] ∧ noRefRow false (~~~(calFinds 64).refRows) = false ∧ 64 < (calFinds 65).dead.length
      ∧ passSince {} 0 = false ∧ tapBad ({} : ZoeTrim).taps = [] ∧ passConverged (calFinds 0).pass = true
      ∧ passConverged { (calFinds 0).pass with phRms := 41 } = false
      ∧ (({ state := .trimming, trim := { cause := 2, light := true } } : Zoe).trim.cause = 2) := by decide

/-- A verification pass that was complete before the calibration's last step. -/
theorem witness_CalibrationEnds_before : passSince { prec := { lastPass := some 9 } } 5 = true
    ∧ passSince { prec := { lastPass := some 9 } } 10 = false := by decide

theorem witness_CalibrationCalls : (zoe (zoeAt { zRun 0 with calDue := true }) 0).calDue = true
    ∧ fenceRuleMet { zRun 0 with calDue := true } (zRun 0).st0 = false ∧ (zRun 0).st0.integ = none ∧ (zRun 0).st0.idle = none
    ∧ (zRun 0).trim.lightDue = false ∧ blockHeld (zoeAt { zRun 0 with calDue := true }) .zoetrope 0 = false := by decide

theorem witness_QueueHalts : reachesZoe State.reset .pf 0 = true ∧ reachesZoe State.reset (.vf 0) 0 = false
    ∧ cutOff State.reset 1 = false ∧ cutOff { State.reset with d2d := { ihlReset := true } } 1 = true := by decide

/-! ### Ownership, HBM and DMA -/

theorem witness_OwnershipCheck : bankTag (bank (zoeAt {}) 0) ≠ 0 ∧ bankTag (bank (zoeAt {}) 0) ≠ 0xFFFFF ∧ bankTag (bank (zoeAt {}) 1) = 0
    ∧ ({ entries := List.replicate 256 ⟨0, 0, 0, 0, 0, 0, 0⟩ } : OwnLog).entries.length = 256 := by decide +kernel

/-- A DMA descriptor of 32 bytes: operation, scratch address 0, the first byte of partition memory. -/
def dDma (op : BitVec 4) : BitVec 128 := (0 : BitVec 32) ++ (0 : BitVec 32) ++ (32 : BitVec 32) ++ op ++ (0 : BitVec 28)

theorem witness_DmaDescriptors : portReach 0 0 = true ∧ portOwner (zoeAt {}) 0 0 = true ∧ portOwner (zoeAt {}) 1 0 = false
    ∧ blockHeld (zoeAt {}) .zoetrope 0 = false ∧ blockHeld { zoeAt {} with rst.blocks := [(.zoetrope, 0)] } .zoetrope 0 = true
    ∧ 64 ≤ (dmaOpen { dma := List.replicate 64 { desc := dDma 1, n := 0, tag := 0 } }).length := by decide +kernel

/-- Zoetrope 0 with a descriptor open, and pseudo-channel 0 in the partition. -/
def dmaAt (op : BitVec 4) : State :=
  { zoeAt { dma := [{ desc := dDma op, n := 0, tag := tagOf 1 9 }] } with hbm.pchs := [(0, { valid := true, part := 1 })] }

theorem witness_DmaCompletions :
    dmaOp (dDma 1) = 1 ∧ dmaWellFormed 0 (dDma 1) = true ∧ dmaLen (dDma 1) ≤ 128 ∧ pmaMap (dmaAt 1) 1 0 32 = some (0, 0) ∧ pchHalf (dmaAt 1) 0 = 0
      ∧ (∀ i, i < dmaLen (dDma 1) / 32 → tagPass (tagOf 1 9) (bank (dmaAt 1) (dmaGranule 0 (dDma 1) i).1) = true)
      ∧ blockHeld (dmaAt 1) .hbm 0 = false ∧ blockHeld (dmaAt 1) .bag 0 = false ∧ (dmaAt 1).hbm.badLines = [] ∧ dmaOp (dDma 2) = 2 ∧ pmaProtected (dmaAt 2) 1 0 32 = false ∧ (rlc (dmaAt 2) 1).lines = []
      ∧ dmaWellFormed 0 (3 <<< 28) = true ∧ dmaWellFormed 0 (dDma 4) = false ∧ pmaMap (zoeAt {}) 1 0 32 = none := by decide

/-- A line of West held by the East cache. -/
def cLine : CacheLine := ⟨100, 3, 1, 2, []⟩

theorem witness_CachesAndStacks : pchHalf State.reset 100 ≠ 0 ∧ cLine.pch = 100 ∧ cLine.line = 3 ∧ cLine.part.toNat = 1
    ∧ (rlc { State.reset with hbm.rlcEast.pend := [(1, 2)] } 0).pend = (1, 2) :: []
    ∧ (pch { State.reset with hbm.pchs := [(191, { zeroing := true })] } 191).zeroing = true
    ∧ pchFitted State.reset 191 = true ∧ pchFitted { State.reset with ident.ml := true } 191 = false := by decide

/-- Bank 0 delegated to the Marbles of partition 1. -/
def handAt (c : BitVec 3) : State :=
  { zoeAt {} with parts := [(1, { exist := true, quads := 1, delegate := true })], mrb.marbles := [(0, { cause := c })] }

theorem witness_BankHandOvers :
    bank State.reset 0 = .free ∧ bank (handAt 1) 0 = .owned (tagOf 1 9) ∧ (tagOf 1 10).toNat / 65536 = (tagOf 1 9).toNat / 65536
      ∧ (marble (handAt 1) 0).cause ≠ 0 ∧ (marble (handAt 0) 0).cause = 0 ∧ portOwner (handAt 0) 0 0 = true
      ∧ (part (handAt 0) 1).delegate = true ∧ (tagOf 1 10).toNat / 65536 = 1 ∧ (tagOf 1 10).toNat % 65536 ≠ 0
      ∧ (part (zoeAt {}) 1).delegate = false
      ∧ bank { State.reset with mrb.banks := [(7, .scrubbing 0 2)] } 7 = .scrubbing 0 2
      ∧ bank { State.reset with mrb.banks := [(7, .retired 5)] } 7 = .retired 5 := by decide

/-! ### Queues and PCIe -/

/-- The descriptor that the queue of `qAt` holds: opcode, CAP 0x1234, CID 7, session 5, and the rest. -/
def descOf (op : Byte) (rest : List Byte) : List Byte := [op, 0, 0x34, 0x12, 7, 0, 0, 0, 5, 0, 0, 0, 0, 0, 0, 0] ++ rest ++ List.replicate (48 - rest.length) 0

/-- A module in service, in a group of two whose front module it is, with partition 1 of one Quad, one pseudo-channel and the queues 16
to 19. -/
def served : State :=
  { State.reset with
    host := { pf := { enabled := true, bme := true } }
    mrt := { holder := some .m0, m0 := { role := .active, booted := true, isHeld := false } }
    rst := { service := .serving, step := 11 }
    fab := { declared := true, gn := 2, front := true, peers := [(1, { slot := .member, trained := true, ctrlUp := true })] }
    parts := [(1, { exist := true, quads := 1, qbase := 16, qcount := 4, vecCount := 4, ceil := 100, litBudget := 8 })]
    hbm := { pchs := [(0, { valid := true, part := 1 })] }
    las := { off := false }
    pwr := { auxOn := true, railsOn := true, mainOk := true }
    mrb := { banks := [(0, .owned (tagOf 1 9))] } }

/-- Queue 16 with rings of 16 entries and the descriptors fetched; `k` completions are unread. -/
def queueOf (fs : List (List Byte)) (k : BitVec 16) : Queue :=
  { state := .enabled, sqLog := 4, cqLog := 4, capTag := 0x1234, cqTail := k, fetched := fs.map (fun b => ⟨b, 1⟩) }

/-- The served module with queue 16. -/
def withQueue (x : Queue) : State := { served with host := { served.host with queues := [(16, x)] } }

/-- Queue 16 with one fetched descriptor. -/
def qAt (op : Byte) (rest : List Byte) : State := withQueue (queueOf [descOf op rest] 0)

/-- The oldest descriptor of a queue that may start is taken. -/
theorem takes_of {q op : Nat} {f : Fetched} {s : State} (h : (queue s q).fetched = [f]) (ho : fieldAt f.bytes 0 1 = op)
    (hc : canStart s q f = true) : Takes q op f (startOf s f) s (takeDesc q (startOf s f) s) :=
  ⟨⟨[], h⟩, ho, hc, rfl, rfl⟩

theorem witness_Doorbells : pageQueue served .pf 16 = some 16 ∧ (queue (withQueue (queueOf [] 0)) 16).state = .enabled
    ∧ (15 : Word).toNat < 2 ^ (queueOf [] 0).sqLog.toNat ∧ 2 ^ (queueOf [] 0).cqLog.toNat ≤ (16 : Word).toNat
    ∧ (queue served 17).state ≠ .enabled := by decide

theorem witness_QueueResets : pageQueue (withQueue (queueOf [] 0)) .pf 16 = some 16
    ∧ (queue (withQueue (queueOf [] 0)) 16).state = .enabled ∧ (queue served 17).state = .disabled
    ∧ (queue (withQueue { queueOf [] 0 with state := .resetting }) 16).state = .resetting
    ∧ homedOn (withQueue { queueOf [] 0 with state := .resetting }) 16 = []
    ∧ (queue (withQueue { queueOf [] 0 with state := .resetting }) 16).bmOff = false
    ∧ queuePart (withQueue { queueOf [] 0 with state := .resetting }) 16 = some 1 ∧ (part served 1).resetting = false
    ∧ (part { served with parts := [(1, { exist := true, resetting := true, qbase := 16, qcount := 4 })] } 1).resetting = true
    ∧ queuePart { served with parts := [(1, { exist := true, resetting := true, qbase := 16, qcount := 4 })] } 16 = some 1 := by decide

theorem witness_Completions :
    (queueOf [] 15).cqTail.toNat + 1 = cqSize (queueOf [] 15) ∧ ringFull { queueOf [] 14 with cqHead := 3 } = false
      ∧ ringFull (queueOf [] 15) = true ∧ queueDma (withQueue (queueOf [] 0)) 16 = true
      ∧ (queue (withQueue { queueOf [] 3 with held := [{}] }) 16).held = {} :: []
      ∧ ({ queueOf [] 0 with oldestUnsig := some 5, itime := 1 } : Queue).itime ≠ 0 := by decide

/-- A tag whose read fetches one descriptor of queue 16. -/
def tagUse : TagUse := { q := 16, kind := .fetch 0 1, addr := 0, len := 64, issued := 0 }

theorem witness_HostReads :
    (queue (withQueue { queueOf [] 0 with sqTail := 3 }) 16).state = .enabled
      ∧ (refill 0 { queueOf [] 0 with sqTail := 3 }).sqTail ≠ (refill 0 { queueOf [] 0 with sqTail := 3 }).sqHead
      ∧ (fnCfg served .pf).mrrs / 64 ≠ 0 ∧ served.host.tags = [] ∧ waitingReads (withQueue { queueOf [] 0 with sqTail := 3 }) = []
      ∧ find ({ served.host with tags := [(9, tagUse)] }).tags 9 = some tagUse
      ∧ find ({ served.host with tags := [(9, { tagUse with quarantined := true })] }).tags 9 = some { tagUse with quarantined := true }
      ∧ (window served .pf).run = none ∧ (∀ d ∈ (queueOf [] 15).flight, d.defer = false) := by decide

theorem witness_PcieEvents_vfs : served.host.vfEnable = false ∧ fnOn { served with host := { served.host with vfEnable := true, numVfs := 2 } } (.vf 1) = true
    ∧ fnOn served (.vf 1) = false ∧ (part served 2).exist = false
    ∧ fnOn { served with host := { served.host with vfEnable := true, numVfs := 3 } } (.vf 2) = true := by decide

theorem witness_PcieEvents : (fnCfg served .pf).bme = true ∧ fnOn served .pf = true ∧ served.host.vfEnable = false
    ∧ queueFn (withQueue (queueOf [] 0)) 16 = .pf := by decide

theorem witness_FunctionResets : fnOn { served with host := { served.host with vfEnable := true, numVfs := 2 } } (.vf 1) = true
    ∧ (part served 1).exist = true ∧ ownsQuad served 1 0 = true
    ∧ (part { served with parts := [(1, { exist := true, resetting := true })] } 1).resetting = true := by decide

/-! ### Descriptors, sessions, Scenes -/

theorem witness_DescriptorChecks : (queue served 16).fetched = []
    ∧ (∃ f d u, Takes 16 0 f d (qAt 0 []) u ∧ fieldAt f.bytes 2 2 = (queue (qAt 0 []) 16).capTag.toNat ∧ headerOk f.bytes = true)
    ∧ (∃ f d u, Takes 16 0 f d (qAt 0 [1]) u ∧ zeroBytes f.bytes 16 64 = false)
    ∧ ∃ f d u, Takes 16 0 f d (withQueue { queueOf [descOf 0 []] 0 with capTag := 1 }) u
      ∧ fieldAt f.bytes 2 2 ≠ (queue (withQueue { queueOf [descOf 0 []] 0 with capTag := 1 }) 16).capTag.toNat :=
  ⟨by decide, ⟨⟨descOf 0 [], 1⟩, _, _, takes_of (by decide) (by decide) (by decide), by decide, by decide⟩,
    ⟨⟨descOf 0 [1], 1⟩, _, _, takes_of (by decide) (by decide) (by decide), by decide⟩,
    ⟨⟨descOf 0 [], 1⟩, _, _, takes_of (by decide) (by decide) (by decide), by decide⟩⟩

/-- A NOP at the head of queue 16, with room for its completion (O59 too). -/
theorem witness_QueueNopCompletes : (queue (qAt 0 []) 16).fetched = ⟨descOf 0 [], 1⟩ :: [] ∧ fieldAt (descOf 0 []) 0 1 = 0
    ∧ canStart (qAt 0 []) 16 ⟨descOf 0 [], 1⟩ = true ∧ fieldAt (descOf 0 []) 2 2 = (queue (qAt 0 []) 16).capTag.toNat
    ∧ headerOk (descOf 0 []) = true ∧ zeroBytes (descOf 0 []) 16 64 = true ∧ (queue (qAt 0 []) 16).held = []
    ∧ (queue (qAt 0 []) 16).stalled = [] ∧ ringFull (queue (qAt 0 []) 16) = false ∧ (queue (qAt 0 []) 16).flight = []
    ∧ (qAt 0 []).rst.service ≠ .restricted ∧ queueDma (qAt 0 []) 16 = true := by decide

/-- A descriptor in flight. -/
def dFlight (op : Nat) : InFlight := { uid := 1, cid := 7, op := op, session := 5, sqHead := 1, irq := false, bytes := [] }

theorem witness_DescriptorCompletions :
    (queue (withQueue { queueOf [] 0 with flight := [dFlight 1] }) 16).flight.find? (fun e => decide (e.uid = 1)) = some (dFlight 1)
      ∧ ringFull (queueOf [] 0) = false
      ∧ ∃ f d u, Takes 16 7 f d (qAt 7 []) u ∧ Passes 16 f (fun bs => (bs.getD 16 0).toNat < 2 ∧ zeroBytes bs 17 64 = true) (qAt 7 [])
        ∧ (f.bytes.getD 16 0) = 0 ∧ (queue (qAt 7 []) 16).fetched = [f] :=
  ⟨by decide, by decide, ⟨descOf 7 [], 1⟩, _, _, takes_of (by decide) (by decide) (by decide),
    ⟨by decide, by decide, by decide, by decide⟩, by decide, by decide⟩

/-- A Show header with one Scene. -/
def hdr1 : ShowHdr :=
  { flags := 0, showId := 0, imageLen := 576, groupN := 2, quads := 1, pch := 1, threads := 1, ifMrt := 0, ifTrim := 0, ifKal := 0
    batchCols := 1, stateBytes := 4096, stateFmt := 0, lit := 0, scenes := 1, sections := 0 }

/-- Partition 1 with a Show, session 5 in a state, and a descriptor of session 5 fetched. -/
def sessAt (op : Byte) (rest : List Byte) (x : Session) : State :=
  { qAt op rest with sessions := [(sessKey 1 5, x)], shows := [(1, { slot := 0, hdr := hdr1 })] }

/-- A descriptor of session 5 behind a TOKEN_SUBMIT of that session whose tokens are still read. -/
def behind (op : Byte) : State :=
  let s := withQueue { queueOf [descOf op []] 0 with flight := [{ dFlight 5 with uid := 0 }] }
  { s with host.uid := 2, host.tags := [(9, { q := 16, kind := .tokens 0, issued := 0 })], sessions := [(sessKey 1 5, {})] }

theorem witness_SessionDescriptors :
    mrtServes served = true ∧ partOf (qAt 1 []) 16 = 1
      ∧ (∃ f d u, Takes 16 2 f d (behind 2) u ∧ mustWait u 16 d = true)
      ∧ (∃ f d u, Takes 16 2 f d (sessAt 2 [] {}) u ∧ mustWait u 16 d = false)
      ∧ (∃ f d u, Takes 16 1 f d (qAt 1 []) u ∧ Passes 16 f (fun bs => fieldAt bs 18 2 < 4 ∧ zeroBytes bs 28 64 = true) (qAt 1 [])
        ∧ d.session ≠ 0 ∧ session u 1 d.session = none)
      ∧ (∃ f d u, Takes 16 2 f d (sessAt 2 [] {}) u ∧ Passes 16 f (fun bs => zeroBytes bs 16 64 = true) (sessAt 2 [] {})
        ∧ session u 1 d.session = some {} ∧ freeSlot u 1 hdr1 {} = some 0)
      ∧ (∃ f d u, Takes 16 3 f d (sessAt 3 [] { state := .resident, slot := some 0 }) u
        ∧ session u 1 d.session = some { state := .resident, slot := some 0 } ∧ freePark u 1 (stateBytesOf u 1) = none)
      ∧ ∃ f d u, Takes 16 4 f d (sessAt 4 [] { pslot := some 0, state := .parked }) u
        ∧ session u 1 d.session = some { pslot := some 0, state := .parked } :=
  ⟨by decide, by decide,
    ⟨⟨descOf 2 [], 1⟩, _, _, takes_of (by decide) (by decide) (by decide), by decide⟩,
    ⟨⟨descOf 2 [], 1⟩, _, _, takes_of (by decide) (by decide) (by decide), by decide⟩,
    ⟨⟨descOf 1 [], 1⟩, _, _, takes_of (by decide) (by decide) (by decide), ⟨by decide, by decide, by decide, by decide⟩, by decide, by decide⟩,
    ⟨⟨descOf 2 [], 1⟩, _, _, takes_of (by decide) (by decide) (by decide), ⟨by decide, by decide, by decide, by decide⟩, by decide, by decide⟩,
    ⟨⟨descOf 3 [], 1⟩, _, _, takes_of (by decide) (by decide) (by decide), by decide, by decide⟩,
    ⟨⟨descOf 4 [], 1⟩, _, _, takes_of (by decide) (by decide) (by decide), by decide⟩⟩

/-- A session under each operation, and a Show that loads. -/
theorem witness_SessionDescriptors_busy :
    (∃ f d u, Takes 16 4 f d (sessAt 4 [] { state := .resident, slot := some 0, op := .park 16 0 }) u
      ∧ session u 1 d.session = some { state := .resident, slot := some 0, op := .park 16 0 })
    ∧ (∃ f d u, Takes 16 3 f d (sessAt 3 [] { state := .resident, slot := some 0, op := .forced 0x15 }) u
      ∧ (session u 1 d.session).map (·.op) = some (.forced 0x15))
    ∧ ∃ f d u, Takes 16 2 f d { sessAt 2 [] {} with shows := [(1, { slot := 0, hdr := hdr1, loading := true })] } u
      ∧ session u 1 d.session = some {} ∧ (find u.shows 1).map (·.loading) = some true :=
  ⟨⟨⟨descOf 4 [], 1⟩, _, _, takes_of (by decide) (by decide) (by decide), by decide⟩,
    ⟨⟨descOf 3 [], 1⟩, _, _, takes_of (by decide) (by decide) (by decide), by decide⟩,
    ⟨⟨descOf 2 [], 1⟩, _, _, takes_of (by decide) (by decide) (by decide), by decide, by decide⟩⟩

theorem witness_SessionSlots : freeSlot (sessAt 0 [] {}) 1 hdr1 {} = some 0
    ∧ freePark { sessAt 0 [] {} with parts := [(1, { exist := true, parking := 4096 })] } 1 4096 = some 0 := by decide

theorem witness_SessionCopies :
    session (sessAt 0 [] { state := .resident, slot := some 0, op := .park 16 1 }) 1 5 = some { state := .resident, slot := some 0, op := .park 16 1 }
      ∧ session (sessAt 0 [] { state := .parked, slot := some 0, op := .resume 16 1 }) 1 5
        = some { state := .parked, slot := some 0, op := .resume 16 1 }
      ∧ mrtServes (sessAt 0 [] {}) = true ∧ ({} : Session).inStep = false := by decide

/-- A Show whose image names no region of a slot: its slots are whole. -/
theorem witness_SessionCopies_slots : slotKeys (sessAt 0 [] {}) 1 0 false = [] ∧ stateBytesOf (sessAt 0 [] {}) 1 % 128 = 0
    ∧ (find (sessAt 0 [] {}).shows 1).isSome = true := by decide

/-- The fields of a TOKEN_SUBMIT of two inline tokens. -/
def twoTokens : List Byte := [2, 0, 1, 0, 0, 0, 0, 0, 0, 0, 0, 0, 0, 0, 0, 0, 9, 0, 0, 0, 8, 0, 0, 0]

theorem witness_TokensAndOutputs :
    (∃ f d u, Takes 16 5 f d (sessAt 5 twoTokens { state := .resident, slot := some 0 }) u
      ∧ Passes 16 f (fun bs => (bs.getD 18 0).toNat < 4 ∧ zeroBytes bs 19 24 = true ∧ 1 ≤ fieldAt bs 16 2
        ∧ ((bs.getD 18 0).getLsbD 0 = true → fieldAt bs 16 2 ≤ 8) ∧ ((bs.getD 18 0).getLsbD 0 = true ∨ fieldAt bs 24 8 % 4 = 0))
        (sessAt 5 twoTokens { state := .resident, slot := some 0 })
      ∧ session u 1 d.session = some { state := .resident, slot := some 0 } ∧ (f.bytes.getD 18 0).getLsbD 0 = true)
    ∧ ∃ f d u, Takes 16 6 f d (sessAt 6 [4, 0, 0, 0] { exts := [9] }) u
      ∧ Passes 16 f (fun bs => fieldAt bs 16 4 % 4 = 0 ∧ 4 ≤ fieldAt bs 16 4 ∧ fieldAt bs 16 4 ≤ 2 ^ 20
        ∧ fieldAt bs 24 8 % 4 = 0 ∧ zeroBytes bs 20 24 = true ∧ zeroBytes bs 32 64 = true) (sessAt 6 [4, 0, 0, 0] { exts := [9] })
      ∧ session u 1 d.session = some { exts := [9] } ∧ fieldAt f.bytes 16 4 < 9 :=
  ⟨⟨⟨descOf 5 twoTokens, 1⟩, _, _, takes_of (by decide) (by decide) (by decide), ⟨by decide, by decide, by decide, by decide⟩, by decide, by decide⟩,
    ⟨⟨descOf 6 [4, 0, 0, 0], 1⟩, _, _, takes_of (by decide) (by decide) (by decide), ⟨by decide, by decide, by decide, by decide⟩, by decide,
      by decide⟩⟩

/-- The fields of a MEM_READ or MEM_WRITE of 128 bytes at the first byte of partition memory of this module. -/
def mem128 : List Byte := [128]

theorem witness_MemoryTransfers :
    (∃ f d u, Takes 16 8 f d (qAt 8 mem128) u ∧ Passes 16 f (fun bs => memFields false bs = true) (qAt 8 mem128) ∧ memLocal u 0 = true
      ∧ (memMap u 1 false 0 128).isSome = true ∧ memMap u 2 false 0 128 = none)
    ∧ ∃ f d u, Takes 16 9 f d (qAt 9 mem128) u ∧ Passes 16 f (fun bs => memFields true bs = true) (qAt 9 mem128) ∧ isSelf u 0 = true
      ∧ memMap u 1 true 0 128 = some (0, 0) :=
  ⟨⟨⟨descOf 8 mem128, 1⟩, _, _, takes_of (by decide) (by decide) (by decide), ⟨by decide, by decide, by decide, by decide⟩, by decide, by decide,
      by decide⟩,
    ⟨⟨descOf 9 mem128, 1⟩, _, _, takes_of (by decide) (by decide) (by decide), ⟨by decide, by decide, by decide, by decide⟩, by decide, by decide⟩⟩

/-- The same at the partner module 1, and at module 5, which is no member. -/
theorem witness_MemoryTransfers_partners :
    (∃ f d u, Takes 16 8 f d (qAt 8 (mem128 ++ [0, 0, 0, 1])) u
      ∧ Passes 16 f (fun bs => memFields false bs = true) (qAt 8 (mem128 ++ [0, 0, 0, 1])) ∧ memLocal u 1 = false ∧ isMember u 1 = true
      ∧ memPartners u 1 = [1] ∧ memPartners u 0 = [])
    ∧ ∃ f d u, Takes 16 9 f d (qAt 9 (mem128 ++ [0, 0, 0, 5])) u
      ∧ Passes 16 f (fun bs => memFields true bs = true) (qAt 9 (mem128 ++ [0, 0, 0, 5])) ∧ isSelf u 5 = false ∧ isMember u 5 = false
      ∧ isMember u 1 = true :=
  ⟨⟨⟨descOf 8 (mem128 ++ [0, 0, 0, 1]), 1⟩, _, _, takes_of (by decide) (by decide) (by decide), ⟨by decide, by decide, by decide, by decide⟩,
      by decide⟩,
    ⟨⟨descOf 9 (mem128 ++ [0, 0, 0, 5]), 1⟩, _, _, takes_of (by decide) (by decide) (by decide), ⟨by decide, by decide, by decide, by decide⟩,
      by decide⟩⟩

/-- A state whose tags are all in use. -/
def noTags (s : State) : State :=
  { s with host.tags := (List.range 256).map (fun t => (t, { q := 17, kind := .fetch 0 1, issued := 0 })) }

theorem noTags_used : ∀ t < 256, has (noTags served).host.tags t = true := by decide +kernel

/-- A read without a free tag waits. -/
theorem witness_MemoryTransfers_waits : hostReadReq 16 (.memSrc 1) 0 128 (noTags served) = none := by
  have h : freshHostTag (noTags served) (queueFn (noTags served) 16) = none := by
    unfold freshHostTag
    refine List.find?_eq_none.mpr fun t ht => ?_
    obtain ⟨i, -, rfl⟩ := List.mem_map.mp ht
    have e : (if (fnCfg (noTags served) (queueFn (noTags served) 16)).tag10 = true then 1024 else 256) = 256 := by decide
    simp only [e] at *
    simp [noTags_used _ (Nat.mod_lt _ (by decide))]
  unfold hostReadReq
  simp only [h]

/-- Quad 0 with thread 0 of a loaded Show in its Scene table. -/
def sceneAt (th : ThreadSt) (e : BitVec 128) (x : Zoe) : State :=
  { sessAt 0 [] {} with zoes := [(0, { x with scn := { table := [(0, e)], threads := [(0, th)] } })] }

theorem witness_Scenes :
    quadPart (sceneAt { used := true } 1 { state := .ready }) 0 = some 1 ∧ showRuns (sceneAt { used := true } 1 { state := .ready }) 1 = true
      ∧ queueTakes (zoe (sceneAt { used := true } 1 { state := .ready }) 0) 0 = true
      ∧ sceneMet (sceneAt { used := true } 1 { state := .ready }) 0 1 0 = true
      ∧ comesFirst (sceneAt { used := true } 1 { state := .ready }) 0 1 0 0 0 = false
      ∧ find (sceneAt { used := true, mid := true } 1 {}).shows 1 = some { slot := 0, hdr := hdr1 }
      ∧ threadQuads (sceneAt { used := true, mid := true } 1 {}) 1 0 = [0]
      ∧ dscError false 0 (3 <<< 60) = 0 ∧ wdType (3 <<< 60) = 3 := by decide

/-- A Scene of a batch that runs, and that has not started its next: ready in time, and never ready. -/
theorem witness_Scenes_lost :
    (∀ e ∈ [sceneAt { used := true, mid := true } 0 { state := .ready }, sceneAt { used := true, mid := true } (1 <<< 62 ||| 1 <<< 112) {}],
      quadPart e 0 = some 1 ∧ (threadOf (zoe e 0) 0).used = true ∧ (threadOf (zoe e 0) 0).running = false
        ∧ (threadOf (zoe e 0) 0).halted = false ∧ (threadOf (zoe e 0) 0).mid = true)
    ∧ sceneMet (sceneAt { used := true, mid := true } 0 { state := .ready }) 0 1 0 = true
    ∧ sceneMet (sceneAt { used := true, mid := true } (1 <<< 62 ||| 1 <<< 112) {}) 0 1 0 = false
    ∧ timeNs (sceneAt { used := true, mid := true } 0 { state := .ready }) ≤ 0 + 1000 * (part served 1).swait := by decide

/-! ### Command windows -/

/-- A packet with these parameters. -/
def pkOf (ps : List Byte) : Packet := { flags := 0, plen := BitVec.ofNat 12 ps.length, tag := 0, params := ps }

/-- Whether a command passes every check of R222 in a state. -/
def passes (c : Instr) (s : State) : Bool :=
  match rowOf c with
  | none => false
  | some (w, pk, r) =>
    let u := startCmd w (BitVec.ofNat 16 r.op) pk s
    let ps := slice (window u w).params 0 (window u w).plen.toNat
    fnOn s w && !winBusy s w && mrtServes s && r.plen (window u w).plen.toNat && decide ((window u w).plen.toNat ≤ 2048)
      && decide ((window u w).flags.toNat < 2) && (decide (w = .pf) || (!r.pfOnly && (!r.hasPart || decide (ps.getD 0 0 = 0xFF))))
      && serviceAllows u w r.op && !decide (s.rst.service = .restricted ∧ (r.op = 0x0300 ∨ r.op = 0x0302)) && r.params s w ps

theorem passed_of {c : Instr} {s : State} (h : passes c s = true) : ∃ w u ps, Passed c w s u ps := by
  unfold passes at h
  split at h
  · cases h
  · rename_i w pk r hr
    simp only [Bool.and_eq_true, Bool.not_eq_true', decide_eq_true_eq, Bool.or_eq_true, decide_eq_false_iff_not] at h
    obtain ⟨⟨⟨⟨⟨⟨⟨⟨⟨h1, h2⟩, h3⟩, h4⟩, h5⟩, h6⟩, h7⟩, h8⟩, h9⟩, h10⟩ := h
    exact ⟨w, _, _, r, ⟨pk, hr, h1, h2, h3, rfl⟩, h4, h5, h6, h7, h8, h9, h10, rfl⟩

/-- Parameters that name partition 2: one Quad, one pseudo-channel, queues 20 to 23, 2 vectors. -/
def resources : List Byte := [2, 0, 0, 0, 2, 0, 0, 0, 2] ++ List.replicate 23 0 ++ [20, 0, 4, 0, 2, 0, 8, 0, 100, 0, 0, 0, 0, 0, 0, 0]

/-- The same for a partition p, asking for nothing. -/
def nothing (p : Byte) : List Byte := p :: List.replicate 37 0 ++ [0xFF, 0xFF] ++ List.replicate 8 0

/-- A command whose window a reset of the function cleared while its operation runs on. -/
def cutShort : State := { served with windows := [(0, { run := some { opcode := 0x0302, started := 0, noirq := false } })] }

theorem witness_WindowChecks : rowOf (.getIdentity .pf (pkOf [0, 0, 0, 0])) = some (.pf, pkOf [0, 0, 0, 0], ⟨0x0100, plenIs 4, false, false, memberOnly⟩)
    ∧ fnOn served (.vf 0) = false ∧ fnOn served .pf = true ∧ winBusy served .pf = false ∧ mrtServes served = true
    ∧ winBusy (startCmd .pf 0x0100 (pkOf []) served) .pf = true ∧ mrtServes State.reset = false
    ∧ winLocked (startCmd .pf 0x0100 (pkOf []) served) .pf = true ∧ winLocked cutShort .pf = false ∧ winBusy cutShort .pf = true
    ∧ plenIs 4 3 = false ∧ serviceAllows State.reset .pf 0x0200 = false :=
  ⟨rfl, by decide⟩

theorem witness_WindowEnds : ((window (startCmd .pf 0x0100 (pkOf []) served) .pf).run).isSome = true
    ∧ (window (startCmd .pf 0x0100 (pkOf []) served) .pf).status = 1 ∧ winBusy served .pf = false
    ∧ winLocked (startCmd .pf 0x0100 (pkOf []) served) .pf = true ∧ winLocked served .pf = false ∧ winBusy cutShort .pf = true := by decide

theorem witness_ModuleCommands : (∀ c ∈ ([.getIdentity .pf (pkOf [0, 0, 0, 0]), .getService .pf (pkOf [0, 0, 0, 0]),
      .moduleReset .pf (pkOf [0x01, 0xDE, 0xC0, 0x5E]), .fenceHalf .pf (pkOf [0, 0, 0, 0]), .unfenceHalf .pf (pkOf [1, 0, 0, 0])] : List Instr),
      passes c served = true)
    ∧ (∀ c ∈ ([.blockResetZoetrope, .blockResetBag, .blockResetKaleidoscope, .blockResetHbm, .blockResetGuest, .blockResetInterhub,
      .blockResetMarionette] : List (Fn → Packet → Instr)), passes (c .pf (pkOf [0, 0, 0, 0, 0, 0, 0, 0])) served = true)
    ∧ passes (.blockResetMarionette .pf (pkOf [0, 0, 0, 0, 1, 0, 0, 0])) served = true ∧ served.rst.resetDue = none
    ∧ touched served (halfZoes 0) = false ∧ served.shows = [] ∧ halfFenced served 0 = false ∧ isSelf served 0 = true
    ∧ halfSessions served 0 = [] ∧ blockHeld { served with rst := { served.rst with blocks := [(.bag, 3)] } } .bag 3 = true := by decide

theorem witness_BlockResets : (zoe (zoeAt (zRun 0)) 0).state = .running ∧ (0 : Nat) / 8192 = 0 ∧ (1 : Nat) < 2 := by decide

theorem witness_PartitionCommands : (∀ c ∈ ([.partCreate .pf (pkOf resources), .partGrant .pf (pkOf (nothing 1)), .partRelease .pf (pkOf (nothing 1)),
      .partDestroy .pf (pkOf [1, 0, 0, 0]), .partDestroy .pf (pkOf [1, 1, 0, 0]), .partQuery .pf (pkOf [1, 0, 0, 0]),
      .partSettings .pf (pkOf ([1, 1, 1, 0, 10, 0, 0, 0] ++ List.replicate 8 0))] : List Instr), passes c served = true)
    ∧ (part served 2).exist = false ∧ ownedElsewhere served 2 resources = false ∧ lowBlock served (psVecs resources) = some 4
    ∧ rangeBad served 2 (psQbase resources) (psQcount resources) = false ∧ vecSum served 2 (psVecs resources) ≤ 8192
    ∧ budgetSum served 2 (psLit resources) ≤ 896
    ∧ (part served 1).exist = true ∧ ownedElsewhere served 1 (nothing 1) = false ∧ grantRange served 1 (nothing 1) = some (16, 4)
    ∧ grantVecs served 1 (psVecs (nothing 1)) = some (0, 4) ∧ releaseRange served 1 (nothing 1) = some (16, 4, [])
    ∧ showMaps served 1 (nothing 1) = false ∧ lanesHeld served 1 ≤ 8 ∧ vecUsed served 1 4 = false ∧ partWindowBusy served 1 = false
    ∧ find served.shows 1 = none ∧ sessionsOf served 1 = [] := by decide +kernel

/-- Without other members the members agree; a partner answers what it answers. -/
theorem witness_PartitionCommands_members : otherMembers { served with fab := {} } = []
    ∧ (askMembers 0x0200 resources { served with fab := {} }).1 = true ∧ otherMembers served = [1]
    ∧ passes (.partCreate .pf (pkOf resources)) { served with fab := {} } = true := by decide +kernel

/-- The parameters of a QUEUE_CREATE of queue 17 with rings of 16 entries. -/
def create17 : List Byte := [17, 0, 4, 4, 0, 0, 1, 0] ++ List.replicate 32 0

theorem witness_QueueCommands : (∀ c ∈ ([.queueCreate .pf (pkOf create17), .queueDestroy .pf (pkOf [17, 0, 0, 0]),
      .queueRate .pf (pkOf [17, 0, 5, 0, 1, 0, 0, 0])] : List Instr), passes c served = true)
    ∧ cmdQueue served .pf create17 = some 17 ∧ (queue served 17).state = .disabled ∧ homedOn served 17 = [] := by decide

/-- A Show image of 576 bytes, its header and its signature block. -/
def img : List Byte := [0x31, 0x53, 0x48, 0x5A, 1, 0, 0, 0, 0, 0, 0, 0, 0, 0, 0, 0, 64, 2, 0, 0, 0, 0, 0, 0, 2, 0, 1, 0, 1, 0, 1, 0,
  0, 0, 0, 0, 0, 0, 1, 0, 0, 0x10, 0, 0, 0, 0, 0, 0, 0, 0, 1, 0] ++ List.replicate 12 0 ++ [0x47, 0x53, 0x48, 0x5A] ++ List.replicate 508 0

/-- The served module with the image in memory and staged in slot 0, and its partition's key. -/
def staged : State :=
  { served with
    hbm := { served.hbm with mem := ofList img 0 }
    staged := [(stageKey 1 0, { pma := 0, len := 576, hdr := hdr1 })]
    parts := [(1, { exist := true, quads := 1, qbase := 16, qcount := 4, vecCount := 4, ceil := 100, litBudget := 8, hasKey := true, signer := sha384 (List.replicate 97 0) })]
    mrt := { served.mrt with allowed := true } }

theorem witness_ShowCommands : (∀ c ∈ ([.showStage .pf (pkOf ([1, 0, 0, 0, 0, 0, 0, 0, 0, 0, 0, 0, 0, 0, 0, 0, 64, 2, 0, 0, 0, 0, 0, 0])),
      .showUnstage .pf (pkOf [1, 0, 0, 0]), .showLoad .pf (pkOf [1, 0, 0, 0, 0, 0, 0, 0]), .showStop .pf (pkOf [1, 0, 0, 0]),
      .showQuery .pf (pkOf [1, 0, 0, 0])] : List Instr), passes c staged = true)
    ∧ slotLoaded staged 1 0 = false ∧ pmaRead staged 1 0 576 = some img ∧ hdrOf img = some hdr1 ∧ sectsOk img hdr1 = true
    ∧ find staged.staged (stageKey 1 0) = some { pma := 0, len := 576, hdr := hdr1 } ∧ otherMembers { staged with fab := {} } = []
    ∧ loadCheck served 1 0 false = 0 ∧ residentOf (sessAt 0 [] {}) 1 = [] ∧ find (sessAt 0 [] {}).shows 1 = some { slot := 0, hdr := hdr1 }
    ∧ find staged.shows 1 = none ∧ staged.las.off = false := by decide +kernel

/-- The image carries its signer's key; its signature verifies where the curve's test, which the model leaves free, says so. -/
theorem img_signed (h : Config.ecdsaVerifies (List.replicate 97 0) (sha384 (img.take 64)) (List.replicate 96 0) = true) :
    signatureOk (sha384 (List.replicate 97 0)) img = true := by
  have e : img.drop (img.length - 512) = [0x47, 0x53, 0x48, 0x5A] ++ List.replicate 508 0 ∧ img.take (img.length - 512) = img.take 64
      ∧ 512 ≤ img.length := by decide +kernel
  have k : slice ([0x47, 0x53, 0x48, 0x5A] ++ List.replicate 508 0 : List Byte) 4 97 = List.replicate 97 0
      ∧ slice ([0x47, 0x53, 0x48, 0x5A] ++ List.replicate 508 0 : List Byte) 104 96 = List.replicate 96 0
      ∧ fieldAt ([0x47, 0x53, 0x48, 0x5A] ++ List.replicate 508 0 : List Byte) 0 4 = 0x5A485347
      ∧ zeroBytes ([0x47, 0x53, 0x48, 0x5A] ++ List.replicate 508 0 : List Byte) 101 104 = true
      ∧ zeroBytes ([0x47, 0x53, 0x48, 0x5A] ++ List.replicate 508 0 : List Byte) 200 512 = true := by decide +kernel
  unfold signatureOk
  simp only [e, k, h, decide_true, Bool.and_self, and_self]

/-- Every check of a load passes where the signature verifies. -/
theorem witness_ShowCommands_loads (h : Config.ecdsaVerifies (List.replicate 97 0) (sha384 (img.take 64)) (List.replicate 96 0) = true) :
    loadCheck { staged with zoes := [(0, { state := .ready })] } 1 0 false = 8 := by
  have r : find staged.staged (stageKey 1 0) = some { pma := 0, len := 576, hdr := hdr1 }
      ∧ pmaRead { staged with zoes := [(0, { state := .ready })] } 1 0 576 = some img := by decide +kernel
  have i : imageOk { staged with zoes := [(0, { state := .ready })] } 1 { pma := 0, len := 576, hdr := hdr1 } img = true := by
    unfold imageOk
    rw [show (part { staged with zoes := [(0, { state := .ready })] } 1).signer = sha384 (List.replicate 97 0) from rfl, img_signed h, Bool.and_true]
    decide +kernel
  unfold loadCheck
  simp only [r, i]
  decide +kernel

/-- The served module with the load of the image in progress on Quad 0, and the command that waits for it. -/
def loading : State :=
  { staged with
    zoes := [(0, { state := .ready })]
    shows := [(1, { slot := 0, hdr := hdr1, loading := true })]
    windows := [(0, { status := 1, plen := 8, params := [1, 0, 0, 0, 0, 0, 0, 0], run := some { opcode := 0x0302, started := 0, noirq := false, arg := 1, params := [1, 0, 0, 0, 0, 0, 0, 0] } })] }

theorem witness_ShowLoads : loadWindow loading 1 = some .pf ∧ find loading.shows 1 = some { slot := 0, hdr := hdr1, loading := true }
    ∧ loading.las.off = false ∧ loadWaits loading 1 { slot := 0, hdr := hdr1, loading := true } = false
    ∧ mappedQuads loading 1 hdr1 = [0] ∧ (zoe loading 0).state ≠ .fenced
    ∧ (zoe { loading with zoes := [(0, { state := .fenced })] } 0).state = .fenced
    ∧ loadWaits { loading with zoes := [(0, { state := .trimming })] } 1 { slot := 0, hdr := hdr1, loading := true } = true
    ∧ find loading.staged (stageKey 1 0) = some { pma := 0, len := 576, hdr := hdr1 } ∧ pmaRead loading 1 0 576 = some img
    := by decide +kernel

/-- Whatever the stack meets as the image is read, the image can be read, its lane plan is met and its sections are written. -/
theorem witness_ShowLoads_written : ∃ b u, pmaRead (pmaScan 1 0 576 loading) 1 0 576 = some b
    ∧ planUnmet (pmaScan 1 0 576 loading) 1 hdr1 b = false ∧ writeQuads 1 hdr1 b [(0, 0)] (pmaScan 1 0 576 loading) = some u := by
  have r : (pmaRead (pmaScan 1 0 576 loading) 1 0 576).isSome = true := (pmaRead_pmaScan ..).trans (by decide +kernel)
  obtain ⟨b, hb⟩ := Option.isSome_iff_exists.mp r
  have p (s : State) : planUnmet s 1 hdr1 b = false := List.any_eq_false.mpr fun m _ => by
    simp [show laneWanted s 1 hdr1 b m = 0 from rfl]
  exact ⟨b, _, hb, p _, rfl⟩

/-! ### Parcels and lanes -/

/-- Where no Parcel is in flight, no Parcel's source fails. -/
theorem sourcesHeld_of {s : State} (h : s.fab.tx = []) : SourcesHeld s := by
  intro p hp
  rw [h] at hp
  cases hp

/-- Marble 5 at MPOST with send slot 0 naming 32 bytes at source 0 for module 1; its cluster's banks are the partition's. -/
def posting (op : Byte) (busy : Bool) : State :=
  { served with
    mrb := {
      marbles := [(5, m1)], iram := [(0, [0])], banks := (List.range 64).map (fun k => (k, .owned (tagOf 1 9)))
      scratch := [(0x2F80, 7), (0x2F83, op), (0x2F84, 32), (0x2F8C, 1)]
      mailboxes := if busy then [(5, { busy0 := true })] else [] } }

theorem witness_MarblePosts : Issues 5 (posting 1 false) ∧ Issues 5 (posting 2 false) ∧ Issues 5 (posting 1 true)
    ∧ (getP m1 0).getLsbD 0 = true ∧ (Instr.mpost 5 0 ⟨0, 0, 0, 0⟩).wf = true ∧ slotBusy (posting 1 true) 5 0 = true
    ∧ slotBusy (posting 1 false) 5 0 = false ∧ bankNum (posting 2 false) 5 0x780 4 / 2 ^ 24 ≠ 1
    ∧ ¬(bankNum (posting 1 false) 5 0x780 4 / 2 ^ 24 ≠ 1 ∨ 65536 < 32 ∨ bankNum (posting 1 false) 5 0x788 4 % 131072 % 32 ≠ 0
      ∨ 0x1E000 < bankNum (posting 1 false) 5 0x788 4 % 131072 + 32 ∨ bankNum (posting 1 false) 5 0x790 4 % 32 ≠ 0
      ∨ 2 ^ 30 ≤ bankNum (posting 1 false) 5 0x790 4)
    ∧ bankNum (posting 1 false) 5 0x784 4 % 131072 = 32 ∧ isMember (posting 1 false) (bankNum (posting 1 false) 5 0x78C 4 % 128 % 64) = true
    ∧ ∀ b ∈ clusterBanks 0 0 32, tagPass (marbleTag (posting 1 false) 5) (bank (posting 1 false) b) = true :=
  ⟨⟨by decide +kernel, by decide +kernel⟩, ⟨by decide +kernel, by decide +kernel⟩, ⟨by decide +kernel, by decide +kernel⟩, by decide +kernel⟩

/-- The header of a Parcel of 32 bytes from module 1 to address 0 of the East half, XID 3, STEP 5. -/
def ph : ParcelHdr := { xid := 3, step := 5, len := 32, daddr := 0, dest := 0, src := 1, payloads := 1, origin := 0 }

/-- The Parcel as the hub holds it when every byte is in. -/
def rxFull : RxParcel := { partner := 1, tag := 9, part := 1, hdr := some ph, got := [(0, List.replicate 32 7)] }

/-- The served module with a Show loaded and that Parcel in the hub; bank 0 is owned by tag `t`; notices held. -/
def arriving (t : BitVec 20) (ns : List Notice) : State :=
  { sessAt 0 [] {} with
    fab := { served.fab with rx := [rxFull] }
    mrb := { served.mrb with banks := [(0, .owned t)], mailboxes := [(0, { held := ns })] } }

theorem witness_ParcelArrivals :
    (tagDead { served with fab := { served.fab with dead := [(1, 9, 0)] } } 1 9 = true ∧ tagDead served 1 9 = false
      ∧ parcelRefused served 1 ph = true ∧ parcelRefused (arriving (tagOf 1 9) []) 1 ph = false
      ∧ filterCheck none 5 = 0 ∧ filterCheck (some ⟨5, 1⟩) 5 = 1 ∧ filterCheck (some ⟨21, 0⟩) 5 = 2)
    ∧ (rxFind (arriving (tagOf 1 9) []) 1 9 = some rxFull ∧ rxFull.hdr = some ph ∧ rxData rxFull ph = some (List.replicate 32 7)
      ∧ (List.replicate 32 (7 : Byte)).length = ph.len ∧ ph.len % 32 = 0 ∧ ph.daddr.toNat + ph.len ≤ 2 ^ 30
      ∧ bagInReset (arriving (tagOf 1 9) []) 0 = false
      ∧ bagInReset { arriving (tagOf 1 9) [] with rst := { served.rst with blocks := [(.bag, 0)] } } 0 = true
      ∧ granulesPass (arriving (tagOf 1 9) []) 0 0 32 (tagOf 1 0xFFFF) = true
      ∧ granulesPass (arriving (tagOf 2 9) []) 0 0 32 (tagOf 1 0xFFFF) = false)
    ∧ (mailbox (arriving (tagOf 1 9) [{ partner := 1, tag := 9 }]) 0).held = { partner := 1, tag := 9 } :: []
      ∧ tagPass (tagOf 1 0xFFFF) (bank (arriving (tagOf 1 9) []) 0) = true
      ∧ 4 < ((5 : BitVec 16) - BitVec.ofNat 16 (bankNum (arriving (tagOf 1 9) []) 0 0x7C8 4)).toNat
      ∧ ((4 : BitVec 16) - BitVec.ofNat 16 (bankNum (arriving (tagOf 1 9) []) 0 0x7C8 4)).toNat ≤ 4 := by decide +kernel

/-- A Parcel sent by Marble 0, slot 0. -/
def txOne : TxParcel := { n := 0, slot := 0, seq := 7, partner := 1, tag := 9, part := 1, due := 2000, hdr := ph, data := List.replicate 32 7 }

/-- The served module with that Parcel on its way. -/
def sending : State := { served with fab := { served.fab with tx := [txOne] } }

theorem witness_ParcelCompletions : txFind sending 1 9 = some txOne ∧ txOne.blocked = false
    ∧ tagPass (marbleTag sending 0) (bank sending 0) = true ∧ txFind served 1 9 = none
    ∧ (1, 9) ∈ ({ served.fab with lateTags := [(1, 9)] } : FabSys).lateTags
    ∧ sending.fab.tx.find? (fun p => decide (p.n = 0 ∧ p.slot = 0 ∧ p.blocked = false)) = some txOne
    ∧ (∀ r, rxFind { served with fab := { served.fab with rx := [{ rxFull with delivered := true }] } } 1 9 = some r → r.delivered = true)
    ∧ (∀ r, rxFind served 1 9 = some r → r.delivered = false)
    ∧ ({ served.fab with dead := [(1, 9, 5)] } : FabSys).dead.find? (fun e => decide (e.1 = 1 ∧ e.2.1 = 9)) = some (1, 9, 5) := by
  refine ⟨by decide, by decide, by decide, by decide, by decide, by decide, ?_, by decide, by decide⟩
  intro r h
  have e : rxFind { served with fab := { served.fab with rx := [{ rxFull with delivered := true }] } } 1 9
    = some { rxFull with delivered := true } := by decide
  rw [e] at h
  injection h with h
  rw [← h]

/-- The served module with lane 0, of the pair with module 1, in a state. -/
def laneAt (x : Lane) : State := { served with fab := { served.fab with lanes := [(0, x)], dormMs := 5 } }

/-- The same with credits enough that a lane's share returns. -/
def creditsBack (x : Lane) : State :=
  { laneAt x with
    fab := { (laneAt x).fab with
      peers := [(1, { slot := .member, trained := true, credit := [(0, { credits := 4 }), (1, { credits := 32 }), (2, { credits := 32 })] })] } }

theorem witness_LaneStates : served.ident.ml = false ∧ lanePartner served 0 = some 1 ∧ (lane (laneAt { state := .locking, tested := true }) 0).tested = true
    ∧ (lane served 0).state ≠ .locking ∧ hasSlice ({ state := .locking, slice := 5 } : Lane) = true ∧ hasSlice ({ state := .locking } : Lane) = false
    ∧ isTraining served 0 = false ∧ (lane (laneAt { state := .tuning }) 0).fresh = true
    ∧ served.fab.dormMs = 0 ∧ (laneAt {}).fab.dormMs ≠ 0
    ∧ (heldLit { laneAt { state := .lit, holder := 1 } with fab := { (laneAt {}).fab with lanes := [(0, { state := .lit, holder := 1 }), (1, { state := .lit, holder := 1 })] } }
        1 1).head? = some 0
    ∧ shareBack (laneAt { state := .draining }) 1 = false ∧ shareBack (creditsBack { state := .draining }) 1 = true := by decide +kernel

theorem witness_LaneStates_dormant : (heldLit { served with fab := { served.fab with dormMs := 5, lanes := [(0, { state := .lit, holder := 1 }), (1, { state := .lit, holder := 1 })] } }
    1 1).head? ≠ some 1 := by decide +kernel

/-- The payload of LSEQ 1 that carries the first bytes of Parcel 9 of partition 1, with its CRC. -/
def plData : List Byte := [0, 0, 0x40, 0, 0, 0x90, 0, 0x41] ++ List.replicate 116 0 ++ [0x25, 0xfc, 0x4e, 0x6a]

/-- That payload's codeword as it was sent, and one of zeros, whose payload lacks its CRC. -/
def cwData : Codeword := ⟨plData ++ [192, 75, 137, 154, 184, 11, 28, 91]⟩
def cwZero : Codeword := ⟨List.replicate 136 0⟩

/-- The codeword carries the eight parity bytes of its payload (R273). -/
theorem test_codeword_parity : rsEncode plData = cwData.raw := by
  unfold rsEncode
  rw [show rsParity plData = [192, 75, 137, 154, 184, 11, 28, 91] by decide +kernel]
  rfl

/-- A received codeword's value at α^i. -/
def syndromeOf (cw : Codeword) (i : Nat) : Nat := cw.raw.foldl (fun t b => gfShift i t ^^^ b.toNat) 0

theorem cwData_syndromes : syndromes cwData.raw = List.replicate 8 0 := by
  show (List.range 8).map (syndromeOf cwData) = _
  have h0 : syndromeOf cwData 0 = 0 := by decide +kernel
  have h1 : syndromeOf cwData 1 = 0 := by decide +kernel
  have h2 : syndromeOf cwData 2 = 0 := by decide +kernel
  have h3 : syndromeOf cwData 3 = 0 := by decide +kernel
  have h4 : syndromeOf cwData 4 = 0 := by decide +kernel
  have h5 : syndromeOf cwData 5 = 0 := by decide +kernel
  have h6 : syndromeOf cwData 6 = 0 := by decide +kernel
  have h7 : syndromeOf cwData 7 = 0 := by decide +kernel
  rw [show List.range 8 = [0, 1, 2, 3, 4, 5, 6, 7] by decide]
  simp only [List.map, h0, h1, h2, h3, h4, h5, h6, h7]
  rfl

/-- The decoder returns the payload of a codeword without an error (R273). -/
theorem test_codeword_decodes : rsDecode cwData.raw = some (plData, 0) := by
  have e : cwData.raw.length = 136 ∧ cwData.raw.take 128 = plData := by decide +kernel
  unfold rsDecode
  simp only [cwData_syndromes, e]
  rfl

theorem cwData_payload : payloadOf cwData = plData := by
  unfold payloadOf
  rw [test_codeword_decodes]
  rfl

/-- What lane 0 holds when the link word of that codeword has acted. -/
def linked (x : Lane) : State :=
  linkWord 0 1 (fieldAt plData 0 4) (modPeer 1 (fun p => { p with ctrlUp := true }) (creditsBack x))

/-- The CRC over zeros, in parts that the kernel evaluates one by one. -/
theorem crc_zeros {c d : Word} (n : Nat) (h : (List.replicate 29 (0 : Byte)).foldl crcByte c = d) :
    (List.replicate (29 + n) (0 : Byte)).foldl crcByte c = (List.replicate n 0).foldl crcByte d := by
  rw [List.replicate_add, List.foldl_append, h]

/-- The CRC of that codeword. -/
theorem cwData_crc : (slice plData 0 124).foldl crcByte 0xFFFFFFFF = 0x95b103da := by
  have e : slice plData 0 124 = [0, 0, 0x40, 0, 0, 0x90, 0, 0x41] ++ List.replicate (29 + (29 + (29 + (29 + 0)))) 0 := by
    decide +kernel
  rw [e, List.foldl_append, show ([0, 0, 0x40, 0, 0, 0x90, 0, 0x41] : List Byte).foldl crcByte 0xFFFFFFFF = 0x694de30c by decide +kernel,
    crc_zeros (d := 0xec859b16) _ (by decide +kernel), crc_zeros (d := 0x2ef5699b) _ (by decide +kernel),
    crc_zeros (d := 0x3439949) _ (by decide +kernel), crc_zeros (d := 0x95b103da) _ (by decide +kernel)]
  rfl

/-- The CRC that 124 zeros ask for is not 0 (R274). -/
theorem cwZero_crc : (crc32 (List.replicate (29 + (29 + (29 + (29 + 8)))) 0)).toNat ≠ 0 := by
  unfold crc32
  rw [crc_zeros (d := 4104862425) _ (by decide +kernel), crc_zeros (d := 958504419) _ (by decide +kernel),
    crc_zeros (d := 1719773062) _ (by decide +kernel), crc_zeros (d := 270545485) _ (by decide +kernel)]
  decide +kernel

theorem cwData_ok : Machine.codewordOk cwData = true := by
  unfold Machine.codewordOk crc32
  rw [cwData_payload, test_codeword_decodes, cwData_crc]
  decide +kernel

/-- The codeword passes decode without an error, and counts nothing. -/
theorem linked_eq (x : Lane) : linked x
    = linkWord 0 1 (fieldAt (payloadOf cwData) 0 4) (modPeer 1 (fun p => { p with ctrlUp := true }) (countCodeword 0 cwData (creditsBack x))) := by
  have h : countCodeword 0 cwData (creditsBack x) = creditsBack x := by
    unfold countCodeword
    rw [cwData_ok, test_codeword_decodes]
    rfl
  rw [h, cwData_payload]
  rfl

/-- A run of zeros leaves the decoder's sum at 0. -/
theorem syndrome_zeros (n i : Nat) : (List.replicate n (0 : Byte)).foldl (fun t b => gfShift i t ^^^ b.toNat) 0 = 0 := by
  have g : gfShift i 0 = 0 := by
    induction i with
    | zero => rfl
    | succ i ih => exact ih
  induction n with
  | zero => rfl
  | succ n ih => rw [List.replicate_succ, List.foldl_cons, g]; exact ih

theorem cwZero_decodes : rsDecode cwZero.raw = some (List.replicate 128 0, 0) := by
  have z (i : Nat) : syndromeOf cwZero i = 0 := syndrome_zeros 136 i
  have s : syndromes cwZero.raw = List.replicate 8 0 := by
    show (List.range 8).map (syndromeOf cwZero) = _
    rw [show List.range 8 = [0, 1, 2, 3, 4, 5, 6, 7] by decide]
    simp only [List.map, z]
    rfl
  have e : cwZero.raw.length = 136 ∧ cwZero.raw.take 128 = List.replicate 128 0 := by decide +kernel
  unfold rsDecode
  simp only [s, e]
  rfl

theorem witness_Codewords_lost : Machine.codewordOk cwZero = false ∧ (Instr.data 0 cwZero).wf = true := by
  have p : payloadOf cwZero = List.replicate 128 0 := by
    unfold payloadOf
    rw [cwZero_decodes]
    rfl
  refine ⟨?_, by decide +kernel⟩
  unfold Machine.codewordOk
  rw [p, show slice (List.replicate 128 (0 : Byte)) 0 124 = List.replicate (29 + (29 + (29 + (29 + 8)))) 0 by decide +kernel,
    show fieldAt (List.replicate 128 (0 : Byte)) 124 4 = 0 by decide +kernel, decide_eq_false (Ne.symm cwZero_crc), Bool.and_false]

theorem witness_Codewords : lanePartner (creditsBack { state := .lit }) 0 = some 1
    ∧ (lane served 0).state ≠ .lit ∧ (lane served 0).state ≠ .draining
    ∧ lseqSeen (lane (linked { state := .lit }) 0) 1 = false ∧ lseqSeen (lane (linked { state := .lit, seen := [1] }) 0) 1 = true
    ∧ (BitVec.ofNat 10 (fieldAt plData 0 4 / 2 ^ 22) : BitVec 10) = 1
    ∧ fieldAt plData 4 4 / 2 ^ 28 % 16 = 4 ∧ tagDead (linked { state := .lit }) 1 9 = false
    ∧ (lane (linked { state := .lit }) 0).skips = 0 ∧ (lane (linked { state := .lit, skips := 1 }) 0).skips = 1
    ∧ inPool (lane (linked { state := .lit, skips := 1 }) 0) = true
    ∧ (∀ c < 3, ledgerOk (vc (linked { state := .lit }) 1 c) ⟨0, 0⟩ = true)
    ∧ ({ buf := [⟨3, 1, 1, 9, 0⟩] } : Lane).buf.find? (fun u => decide (u.lseq = 3)) = some ⟨3, 1, 1, 9, 0⟩ := by decide +kernel

theorem witness_Codewords_acks : NothingToSend 1 served := ⟨by decide, by decide⟩

/-- The served module with the UCIe modules of Kaleidoscope chiplet 0 up, so that its positions have slices. -/
def slices : State := { served with d2d := { served.d2d with mods := [(48, { state := 2 })] } }

/-- Lane 0 under test, Locking, and the command that waits for it. -/
def testing : State :=
  { laneAt { state := .locking, underTest := true } with
    windows := [(0, { status := 1, run := some { opcode := 0x0505, started := 0, noirq := false, xs := [0] } })] }

theorem witness_LaneAllocation : (∀ c ∈ ([.lanesLight .pf (pkOf [1, 0, 2, 0, 0, 0, 0, 0]), .lanesDark .pf (pkOf [1, 0, 2, 0, 0, 0, 0, 0]),
      .laneTest .pf (pkOf [0, 0, 0, 0, 1, 0, 0, 0])] : List Instr), passes c slices = true)
    ∧ slices.las.off = false ∧ isMember slices 1 = true ∧ slices.fab.gid.toNat < 1 ∧ lanePartner slices 0 = some 1 ∧ isSelf slices 1 = false
    ∧ isMember { slices with fab := { slices.fab with peers := [] } } 1 = false
    ∧ passes (.lanesLight .pf (pkOf [1, 0, 2, 0, 0, 0, 0, 0])) { slices with fab := { slices.fab with peers := [] } } = true
    ∧ (lane slices 0).state = .dark ∧ (lane (laneAt { state := .lit }) 0).state ≠ .dark ∧ freeSlice served 0 = none
    ∧ (freeSlice slices 0).isSome = true ∧ testWindow testing 0 = some .pf ∧ (lane testing 0).underTest = true
    ∧ (lane testing 0).state = .locking := by decide +kernel

/-- LANE_TEST and the allocator find a slice at both ends where the far end, which knows its own, has one. -/
theorem witness_LaneCommandsComplete (h : farSlice slices 0 = true) :
    (pairLanes slices 1).any (fun l => positionOpen slices l && (freeSlice slices (l / 128)).isSome && farSlice slices l) = true
    ∧ mrtServes slices = true ∧ (1 : Nat) ≤ fieldAt [1, 0, 2, 0, 0, 0, 0, 0] 2 2
    ∧ (lane (laneAt { state := .locking, tested := true }) 0).underTest = false ∧ (laneAt {}).rst.stepNine = false
    ∧ (lane (laneAt { state := .locking, relock := true }) 0).relock = true
    ∧ (lane (creditsBack { state := .draining, toDormant := true }) 0).toDormant = true
    ∧ (releaseNames { laneAt {} with fab.lanes := [(0, { state := .lit, holder := 1 }), (1, { state := .lit, holder := 1 })] } 1 1 2).1 ≠ [] := by
  refine ⟨List.any_eq_true.mpr ⟨0, by decide +kernel, ?_⟩, by decide +kernel⟩
  rw [h, Bool.and_true]
  decide +kernel

theorem witness_LaneAllocation_sources : SourcesHeld testing ∧ SourcesHeld (laneAt { state := .tuning }) ∧ SourcesHeld (posting 1 false) :=
  ⟨sourcesHeld_of rfl, sourcesHeld_of rfl, sourcesHeld_of rfl⟩

/-! ### Calibration and groups -/

theorem witness_CalibrationCommands : (∀ c ∈ ([.calFull .pf (pkOf [0, 0, 0, 0, 1, 0, 0, 0]), .precSet .pf (pkOf [1, 50, 6, 0, 1, 2, 3, 4, 5, 0, 0, 0]),
      .precRead .pf (pkOf [0, 0, 0, 0]), .precReadClear .pf (pkOf [0, 0, 0, 0]), .trimRead .pf (pkOf [0, 0, 0, 0, 0, 0, 0, 1]),
      .zoeFence .pf (pkOf [0, 3, 0, 0]), .zoeQuery .pf (pkOf [0, 0, 0, 0])] : List Instr), passes c served = true)
    ∧ isSelf served 0 = true ∧ otherMembers { served with fab := {} } = [] ∧ served.las.off = false ∧ touched served (maskZoes 1) = false
    ∧ (part served (cmdPart .pf [1])).exist = true ∧ winReaches served .pf 0 = true ∧ winReaches served (.vf 2) 0 = false
    ∧ quadPart { served with zoes := [(3, { state := .ready })] } 3 = none
    ∧ (zoe { served with zoes := [(3, { state := .ready })] } 3).state = .ready := by decide +kernel

/-- A VF's window: partition 2 of no Quad. -/
def served2 : State :=
  { served with
    parts := served.parts ++ [(2, { exist := true })]
    host := { served.host with vfEnable := true, numVfs := 12 } }

theorem witness_CalibrationCommands_vf : passes (.precRead (.vf 2) (pkOf [0, 0, 0, 0])) served2 = true
    ∧ passes (.trimRead (.vf 2) (pkOf [0, 0, 0, 0, 0, 0, 0, 1])) served2 = true ∧ winReaches served2 (.vf 2) 0 = false
    ∧ touched { served2 with windows := [(2, { run := some { opcode := 0x0402, started := 0, noirq := false } })] } [0] = true := by decide +kernel

/-- The served module with the safety latch set and both channels closed. -/
def latched : State := { served with las := { off := true, latch := true, aClosed := true, bClosed := true } }

theorem witness_GroupCommands : (∀ c ∈ ([.groupDeclare .pf (pkOf [2, 0, 0, 0]), .groupDeclare .pf (pkOf [4, 3, 0, 0]),
      .partnerTrain .pf (pkOf [2, 0, 0, 0, 0, 0, 0, 0]), .partnerTrain .pf (pkOf [0, 0, 0, 0, 0, 0, 0, 0]), .groupQuery .pf (pkOf []),
      .laserRearm .pf (pkOf [0x02, 0xDE, 0xC0, 0x5E])] : List Instr), passes c served = true)
    ∧ passes (.laserRearm .pf (pkOf [0x02, 0xDE, 0xC0, 0x5E])) latched = true
    ∧ served.shows = [] ∧ served.fab.declared = true ∧ (sessAt 0 [] {}).shows ≠ [] ∧ served.las.latch = false
    ∧ passes (.groupDeclare .pf (pkOf [2, 0, 0, 0])) (sessAt 0 [] {}) = true
    ∧ ({ served.fab with train := some ⟨2, [1], 0, 0⟩ } : FabSys).train = some ⟨2, [1], 0, 0⟩ := by decide +kernel

/-- The served module with its pair with module 1 in a phase of training. -/
def trainAt (p : Peer) : State := { served with fab := { served.fab with peers := [(1, p)] } }

/-- Module 1 of the group of two. -/
def second (p : Peer) : State := { served with fab := { served.fab with gid := 1, front := false, peers := [(0, p)] } }

theorem witness_GroupMembership : planPartner (groupN served) served.fab.gid.toNat 5 = some 1
    ∧ (peer (trainAt { slot := .training, phase := 1 }) 1).slot = .training ∧ 5 ∉ served.fab.refusedFibres
    ∧ (peer (trainAt { slot := .training, phase := 1, okFibre := true }) 1).okFibre = true
    ∧ isFront served = true ∧ ({ served.fab with dirChanged := true } : FabSys).dirChanged = true ∧ served.mrt.holder.isSome = true
    ∧ isFront (second {}) = false ∧ (peer served 1).trained = true ∧ (peer served 1).slot = .member
    ∧ (second {}).fab.declared = true ∧ 1 < groupN (second {}) ∧ (peer (second { slot := .member }) 0).trained = false
    ∧ (peer (second { slot := .member }) 0).slot = .member
    ∧ (peer served (max 0 1)).slot = .member ∧ ([4, 5] : List (BitVec 3))[1]? = some 5 ∧ isSelf (second {}) 0 = false := by decide +kernel

theorem witness_GroupMembership_sources : SourcesHeld (trainAt { slot := .training, phase := 1 }) ∧ mrtServes served = true
    ∧ (groupN served) = 2 := ⟨sourcesHeld_of rfl, by decide, by decide⟩

theorem witness_GroupTime : isFront served = true ∧ isFront (second { slot := .member, trained := true }) = false
    ∧ (peer (second { slot := .member, trained := true }) 0).trained = true
    ∧ (let off (tick : Int) : Int := tick - timeNs (second { slot := .member, trained := true }) - gtOffsetNow (second { slot := .member, trained := true })
      (-10000 ≤ off 10000 ∧ off 10000 ≤ 10000) ∧ 10000 < off 10001)
    ∧ (20000 : Int) - timeNs { second { slot := .member, trained := true } with ident := { aux := 100000 } }
      - gtOffsetNow { second { slot := .member, trained := true } with ident := { aux := 100000 } } < -10000
    ∧ (peer (second { slot := .member }) 0).slot = .member := by decide +kernel

/-! ### Power, faults, keys, firmware -/

/-- The served module without a partition, and the orderly stop in progress on it. -/
def bare : State := { served with parts := [], hbm := {}, mrb := {} }
def stopping (c : StopCause) : State := { bare with rst := { bare.rst with service := .stopping }, pwr := { bare.pwr with stop := some c, stopRun := true } }

theorem witness_PowerCommands : (∀ c ∈ ([.powerQuery .pf (pkOf [0xFE, 0, 0, 0]), .powerQuery .pf (pkOf [1, 0, 0, 0]), .powerQuery .pf (pkOf [2, 0, 0, 0]),
      .powerCeiling .pf (pkOf [0xFE, 0, 0x20, 3]), .powerCeiling .pf (pkOf [1, 0, 100, 0]), .thermalMode .pf (pkOf [1, 0, 0, 0]),
      .orderlyStop .pf (pkOf [0x03, 0xDE, 0xC0, 0x5E])] : List Instr), passes c served = true)
    ∧ passes (.orderlyStop .pf (pkOf [0x03, 0xDE, 0xC0, 0x5E])) bare = true
    ∧ (part served 1).exist = true ∧ (part served 2).exist = false ∧ touched served (List.range 32) = false
    ∧ throttledLately served (List.range 32) = false ∧ (stopping (.sensor 3)).fab.tx = []
    ∧ bare.pwr.stopRun = false ∧ bare.pwr.stop = none ∧ bare.rst.fatalHeld = false ∧ (stopping (.command .pf)).pwr.stopRun = true
    ∧ 7 ≤ { stopping (.command .pf) with rst.calDone := true }.rst.step.toNat ∧ (stopping (.command .pf)).mrt.restricted = false
    ∧ (stopping (.command .pf)).rst.fencedEast = false ∧ (stopping (.command .pf)).rst.fencedWest = false
    ∧ bare.shows = [] ∧ bare.sessions = [] ∧ (stopping (.command .pf)).pwr.stop = some (.command .pf)
    ∧ (stopping (.sensor 3)).rst.service = .stopping ∧ (stopping (.sensor 3)).sessions = [] ∧ (stopping (.command .pf)).rst.fatalHeld = false := by
  decide +kernel

/-- A stop called while one is in progress. -/
theorem witness_PowerCommands_again : passes (.orderlyStop .pf (pkOf [0x03, 0xDE, 0xC0, 0x5E])) (stopping (.sensor 3)) = true := by decide +kernel

/-- The served module with a record of each class. -/
def logged : State :=
  { served with
    flt := { served.flt with
      log := [(0, { high := 0 }), (1, { high := 1, src := ⟨3, 7⟩ }), (2, { high := 2 }), (3, { high := 1, code := 0x0605, cls := 1 })]
      quiets := [⟨⟨3, 7⟩, 0⟩] }
    las := { served.las with latch := true } }

theorem witness_FaultCommands : (∀ c ∈ ([.faultRead .pf (pkOf [0, 0, 0, 0, 4, 0, 0, 0]), .faultClear .pf (pkOf [0, 0, 1, 0, 0, 0, 0, 0]),
      .faultClear .pf (pkOf [0, 0, 9, 0, 0, 0, 0, 0]), .ownlogRead .pf (pkOf [0, 0, 0, 0, 2, 0, 0, 0]),
      .quietSet .pf (pkOf [100, 0, 0, 0])] : List Instr), passes c logged = true)
    ∧ isSelf logged 0 = true ∧ find logged.flt.log 9 = none ∧ (∀ i < 4, (find logged.flt.log i).isSome = true)
    ∧ recHeld logged { high := 1, code := 0x0605, cls := 1 } = true ∧ recHeld logged { high := 1, src := ⟨3, 7⟩ } = false ∧ logged.pwr.stop = none
    ∧ logged.flt.quiets.find? (fun q => decide (q.src = ⟨3, 7⟩)) = some ⟨⟨3, 7⟩, 0⟩ ∧ mrtServes logged = true ∧ mrtServes State.reset = false
    ∧ (entryAt { next := 1, entries := [⟨0, 0, 0, 0, 0, 0, 0⟩] } 0).isSome = true := by decide +kernel

/-- The parameters of a KEY_INSTALL of partition 1 with generation 1 on the module with serial number 0. -/
def keyPs : List Byte := [1, 0, 0, 0, 0, 0, 0, 0] ++ [0x31, 0x4B, 0x48, 0x5A, 1, 0, 0, 0, 0, 0, 0, 0, 0, 0, 0, 0, 1] ++ List.replicate 211 0

/-- The parameters of an ALLOWANCE that lists the digests of the served module. -/
def allowPs : List Byte := List.replicate 8 0 ++ ([0x31, 0x41, 0x48, 0x5A] ++ List.replicate 252 0)

theorem witness_KeyCommands : passes (.keyInstall .pf (pkOf keyPs)) served = true ∧ passes (.keyInstall .pf (pkOf keyPs)) staged = true
    ∧ (∀ c ∈ ([.allowance .pf (pkOf allowPs), .measurements .pf (pkOf [0, 0, 0, 0])] : List Instr), passes c served = true)
    ∧ (part served 1).exist = true ∧ blobForm (keyPs.drop 8) = true ∧ blobForm [] = false ∧ keyInUse served 1 = false ∧ keyInUse staged 1 = true
    ∧ fieldAt (keyPs.drop 8) 8 8 = served.ident.serial.toNat ∧ fieldAt (keyPs.drop 8) 16 1 = 1
    ∧ (part served 1).keygen.toNat < fieldAt (keyPs.drop 8) 4 4
    ∧ allowanceForm (allowPs.drop 8) = true ∧ allowanceForm [] = false ∧ fieldAt (allowPs.drop 8) 8 8 = served.ident.serial.toNat
    ∧ slice (allowPs.drop 8) 16 144 = imageDigests served ∧ slice (List.replicate 256 1) 16 144 ≠ imageDigests served := by decide +kernel

/-- The blob opens and the allowance is signed where the keys that the model leaves free say so. -/
theorem witness_KeyCommands_keys (d : Config.blobDraw (keyPs.drop 8) = served.sec.importKey) (t : Config.blobTag (keyPs.drop 8) = true)
    (k : ∀ h g : List Byte, Config.ecdsaVerifies Config.zaornKey h g = true) :
    (Machine.blobOpens served (keyPs.drop 8) = true ∧ fieldAt (keyPs.drop 8) 8 8 = served.ident.serial.toNat
      ∧ fieldAt (keyPs.drop 8) 16 1 = 1)
    ∧ allowanceForm (allowPs.drop 8) = true ∧ allowanceSigned (allowPs.drop 8) = true
      ∧ fieldAt (allowPs.drop 8) 8 8 = served.ident.serial.toNat :=
  ⟨⟨by simp [Machine.blobOpens, d, t], by decide +kernel, by decide +kernel⟩, by decide +kernel, k _ _, by decide +kernel⟩

theorem witness_KeyCommands_factory : ({ served.sec with factory := true } : SecSys).factory = true ∧ served.sec.factory = false
    ∧ fnOn served .pf = true ∧ winBusy served .pf = false ∧ mrtServes served = true ∧ (pkOf []).plen.toNat ≤ 2048
    ∧ (0x0F07 : BitVec 16).toNat / 256 = 15 ∧ (0x0105 : BitVec 16).toNat / 256 ≠ 15 ∧ (0x0105 : BitVec 16).toNat ∉ listedOpcodes
    ∧ (0x0100 : BitVec 16).toNat ∈ listedOpcodes := by decide

/-- The parameters of an FW_STAGE of `n` bytes of a TRIM image at host address 0. -/
def stagePs (n : Byte) : List Byte := [1, 0, 0, 0, 0, 0, 0, 0, 0, 0, 0, 0, 0, 0, 0, 0, n, 0, 0, 0, 0, 0, 0, 0]

/-- The served module with staged images, its Standby in service, flash writes deferred. -/
def images (ds : List Nat) : State :=
  { served with
    mrt := { served.mrt with staged := [(0, 7), (1, 9)], stagedId := [(0, 4), (1, 5)], commit := some 1, deferred := ds, m1 := { role := .standby, booted := true, isHeld := false } } }

theorem witness_FirmwareCommands : (∀ c ∈ ([.fwStage .pf (pkOf (stagePs 64)), .fwStage .pf (pkOf (stagePs 0)), .fwCommit .pf (pkOf [1, 0, 0, 0]),
      .fwCommit .pf (pkOf [2, 0, 0, 0]), .fwCommit .pf (pkOf [0, 0, 0, 0])] : List Instr), passes c (images []) = true)
    ∧ imageReading (images []) = false ∧ fnDma (images []) .pf = true ∧ fnDma { images [] with host := {} } .pf = false
    ∧ passes (.fwStage .pf (pkOf (stagePs 64))) { images [] with host := {} } = true
    ∧ (hostReadReq 4096 .image 0 (readLen (images []) 4096 0 64) (images [])).isSome = true
    ∧ has (images []).mrt.staged 2 = false ∧ has (images []).mrt.staged 1 = true ∧ flashOk (images []) = true
    ∧ flashOk { images [] with pwr := { served.pwr with sensors := [(154, { value := -16 }), (155, { value := -16 })] } } = false
    ∧ standbyMrt (images []) = some .m1 ∧ standbyMrt served = none
    ∧ ({ served.mrt with auth := some .m1, handAt := some 5 } : MrtSys).handAt = some 5
    ∧ (images [0, 1]).mrt.deferred ≠ []
    ∧ (32 ≤ max (sensor { images [0, 1] with pwr := { served.pwr with sensors := [(154, { value := 400 })] } } 154).value
      (sensor (images [0, 1]) 155).value)
    ∧ max (sensor (images [0, 1]) 154).value (sensor (images [0, 1]) 155).value < 32 := by decide +kernel

/-- A Zoetrope whose calibration record waits for the flash. -/
theorem witness_FirmwareCommands_deferred : (let s : State := { images [0, 1] with zoes := [(3, { trim := { flashPend := some {} } })] }
    0 ∈ s.mrt.deferred ∧ ((zoe s 3).trim.flashPend = some {} ∧ (zoe s 4).trim.flashPend = none))
    ∧ 0 ∉ (images [1]).mrt.deferred := by decide

/-- The Marionette image is tested with the others where the manifest that the model leaves free says so. -/
theorem witness_FirmwareCommands_tested (h : (testedWith 4 7 (runVer (images []) 1) (runVer (images []) 2)).isSome = true) :
    commitTested (images []) = true := by
  have e : look (images []).mrt.stagedId 0 0 = 4 ∧ ((look (images []).mrt.staged 0 0).setWidth 48 : BitVec 48) = 7 := by decide
  have k : (testedWith (look (images []).mrt.stagedId 0 0) ((look (images []).mrt.staged 0 0).setWidth 48)
      (runVer (images []) 1) (runVer (images []) 2)).isSome = true := by
    rw [e.1, e.2, h]
  exact List.any_eq_true.mpr ⟨_, List.mem_cons_self, k⟩

/-! ### Light and links -/

/-- A module with compute source 0, comb 0 (source 10) and the spares 4 and 26 in states. -/
def lasersAt (a b : SrcState) : State :=
  { served with
    las := { off := false, allowed := true, aClosed := true, bClosed := true
             sources := [(0, { state := a, slot := 0 }), (4, { state := b, slot := 31 }), (10, { state := a, slot := 0 }), (26, { state := b, slot := 31 })] } }

theorem witness_LaserBanks : (source (lasersAt .starting .standby) 0).state = .starting ∧ (source (lasersAt .starting .standby) 0).switching = false
    ∧ (source (lasersAt .inService .standby) 0).state = .inService ∧ (source (lasersAt .inService .standby) 10).slot.toNat < 16
    ∧ (source (lasersAt .inService .standby) (5 * 0 + 4)).state = .standby
    ∧ (source (lasersAt .inService .failed) (5 * 0 + 4)).state ≠ .standby
    ∧ (source { lasersAt .inService .off with las := { off := false, sources := [(1, { switching := true })] } } 1).switching = true
    ∧ chClosed (lasersAt .inService .standby) .a = true ∧ chClosed latched .b = true ∧ chClosed served .a = false
    ∧ ({ off := true, differSince := some 5 } : LasSys).differSince = some 5
    ∧ ({ rearm := true, aClosed := true, bClosed := true } : LasSys).latch = false := by decide

/-- Source 10 is of the I/O bank, which ZHJ1-L has not. -/
theorem witness_LaserBanks_fitted : served.ident.ml = false ∧ (10 : Fin 30).val ≥ 10 ∧ (9 : Fin 30).val < 10
    ∧ ({ served with ident := { ml := true } } : State).ident.ml = true := by decide

theorem witness_LaserBanks_sources : SourcesHeld (lasersAt .inService .standby) := sourcesHeld_of rfl

/-- A half that keeps a source in service when source 0 fails without a spare, and one that does not. -/
theorem witness_LaserBanks_counts :
    (match exec (.computeSourceFailure 0) { lasersAt .inService .failed with las := { sources := [(0, { state := .inService, slot := 0 }), (1, { state := .inService, slot := 1 })] } } with
      | .next t => laserCount t 0
      | _ => 0) = 1
    ∧ (match exec (.computeSourceFailure 0) (lasersAt .inService .failed) with
      | .next t => laserCount t 0
      | _ => 1) = 0 := by decide +kernel

/-- Module 5 of the East logic-die port in a state. -/
def ucieAt (x : Ucie) : State := { served with d2d := { mods := [(5, x)] } }

/-- Inter-hub group 0 of East in a state. -/
def ihlAt (x : IhlGroup) : State := { served with d2d := { groups := [(0, x)] } }

theorem witness_DieLinkEvents : (ucie (ucieAt { state := 1 }) 0 5).state = 1 ∧ (ucie (ucieAt { state := 2 }) 0 5).state = 2 ∧ (ucie served 0 5).state ≠ 1
    ∧ (ihl (ihlAt { trained := true }) 0 0).trained = true ∧ (ihl (ihlAt { retrainDue := true }) 0 0).retrainDue = true
    ∧ (ihl (ihlAt { trained := true, spareFor := some 3 }) 0 0).spareFor.isSome = true
    ∧ ({ ihlTraining := true } : D2dSys).ihlTraining = true ∧ ({ lbRunning := true } : D2dSys).lbRunning = true ∧ served.d2d.lbRunning = false
    ∧ ((0x80000001 : Word).getLsbD 31 = true ∧ lbIdle served 0 0 0 = true)
    ∧ (∀ i < 48, (ucie { served with d2d := { mods := (List.range 48).map (fun k => (k, { state := if k < 24 then 2 else 4 })) } } 0 i).state ≠ 1)
    ∧ portUp { served with d2d := { mods := (List.range 48).map (fun k => (k, { state := if k < 24 then 2 else 4 })) } } 0 5 = 24
    ∧ portUp served 0 5 < 24 := by decide +kernel

/-! ### Marionettes -/

/-- The served module with the pair of Marionettes in states. -/
def pair (a b : MrtSt) (h : Option Mrt) : State := { served with mrt := { served.mrt with m0 := a, m1 := b, holder := h } }

/-- An Active, a Standby, and one that boots. -/
def act : MrtSt := { role := .active, booted := true, isHeld := false }
def sby : MrtSt := { role := .standby, booted := true, isHeld := false, armed := true }
def boots : MrtSt := { booting := true, isHeld := false }

theorem witness_MarionetteLease : (pair act sby (some .m0)).mrt.holder = some .m0
    ∧ ({ (pair act sby (some .m0)).mrt with pendRenewal := some 4, unconfRun := 3 } : MrtSys).pendRenewal = some 4
    ∧ (3 ≤ ({ (pair act sby (some .m0)).mrt with unconfRun := 3 } : MrtSys).unconfRun) ∧ (pair act sby (some .m0)).mrt.peerHeld = false
    ∧ (pair act sby (some .m0)).mrt.stopped = false ∧ (mrtOf (pair act sby (some .m0)) .m1).role ≠ .out
    ∧ (mrtOf (pair act sby (some .m0)) .m0).role = .active
    ∧ (mrtOf (pair act sby (some .m0)) (otherMrt .m0)).role = .standby
    ∧ (mrtOf (pair act { sby with role := .resyncing } (some .m0)) (otherMrt .m0)).role = .resyncing
    ∧ ({ (pair {} sby none).mrt with expiredAt := some 5 } : MrtSys).expiredAt = some 5 ∧ (pair {} sby none).mrt.holder = none
    ∧ (mrtOf (pair {} sby none) .m1).armed = true
    ∧ (mrtOf (pair boots {} none) .m0).booting = true ∧ 4 ≤ ({ served.sec with stage := 4 } : SecSys).stage.toNat
    ∧ (pair boots {} none).mrt.commit ≠ some 0 ∧ (pair boots {} none).rst.begun ≠ 1 ∧ (pair boots {} none).rst.fatalHeld = false
    ∧ (pair act boots (some .m0)).mrt.holder = some (otherMrt .m1) ∧ (mrtOf (pair act boots (some .m0)) .m1).booting = true
    ∧ (pair {} sby none).mrt.m1.booted = true ∧ (pair {} sby none).mrt.m1.isHeld = false ∧ (pair {} sby none).mrt.claimed = false
    ∧ ({ served.mrt with rebuild := true } : MrtSys).rebuild = true ∧ served.mrt.holder.isSome = true := by decide

theorem witness_MarionetteMirror : (mrtOf (pair act sby (some .m0)) (otherMrt .m0)).role = .standby
    ∧ (mrtOf (pair act sby (some .m0)) (otherMrt .m0)).booted = true ∧ (mrtOf (pair act sby (some .m0)) (otherMrt .m0)).version = 0
    ∧ (1 : Nat) = (pair act sby (some .m0)).mrt.lastFrame + 1
    ∧ (mrtOf (pair act { sby with role := .resyncing, copied := 1927 } (some .m0)) (otherMrt .m0)).copied + 1 = 1928
    ∧ (mrtOf (pair act { sby with role := .resyncing, copied := 1927 } (some .m0)) (otherMrt .m0)).role = .resyncing
    ∧ (mrtOf (pair act sby (some .m0)) .m0).role = .active ∧ ({ served.mrt with exercised := true } : MrtSys).exercised = true := by decide

/-- The served module with a command that waits in the PF window. -/
def waiting (op : BitVec 16) (arg : Nat) (xs : List Nat) (ps : List Byte) (s : State) : State :=
  { s with windows := [(0, { status := 1, plen := BitVec.ofNat 12 ps.length, params := ps, run := some { opcode := op, started := 0, noirq := false, arg := arg, xs := xs } })] }

theorem witness_ControlTicks : served.mrt.holder = some .m0 ∧ (mrtOf served .m0).role = .active ∧ (pair {} {} none).mrt.holder = none
    ∧ (pair {} {} (some .m0)).mrt.holder = some .m0 ∧ (mrtOf (pair {} {} (some .m0)) .m0).role ≠ .active
    ∧ (mrtOf served .m0).lastKick ≠ mtime (advanceTo (tickTime { served with mrt := { served.mrt with nextTick := 20000 } }) served)
    ∧ served.mrt.peerHeld = false ∧ ({ served.mrt with peerHeld := true } : MrtSys).peerHeld = true ∧ served.mrt.stopped = false
    ∧ served.mrt.rebuild = false ∧ ({ served.mrt with rebuild := true } : MrtSys).rebuild = true ∧ served.rst.resetDue = none
    ∧ unitsDone (waiting 0x0200 1 [0] [] { served with hbm := { pchs := [(0, { zeroing := true })] } }) [0] = false
    ∧ unitsDone (waiting 0x0200 1 [0] [] served) [0] = true
    ∧ find (waiting 0x0303 0 [] [1, 0, 0, 0] served).shows 1 = none
    ∧ (waiting 0x0400 1 [0] [] latched).las.off = true ∧ (waiting 0x0400 1 [0] [] served).las.off = false
    ∧ calWaits (waiting 0x0400 1 [0] [] { served with zoes := [(0, { calDue := true })] }) [0] = true
    ∧ touched (waiting 0x0404 0 [] [0, 3, 0, 0] served) [3] = false ∧ (waiting 0x0501 0 [] [] served).fab.trainRes = none
    ∧ (lane (waiting 0x0502 1 [0] [] (laneAt { state := .tuning })) 0).state = .tuning
    ∧ (lane (waiting 0x0502 1 [0] [] (laneAt { state := .lit })) 0).state = .lit := by decide +kernel

/-! ### Sensors, supplies, resets -/

/-- The served module with a sensor's reading as its value. -/
def sensorAt (k : Nat) (v : Int) : State := { served with pwr := { served.pwr with sensors := [(k, { sampled := true, temp := v, value := v })] } }

/-- A power meter state with times over and under the envelope, and a stop in progress or not. -/
def inputAt (o u : Nat) : State := { served with pwr := { served.pwr with overMs := o, underMs := u } }

theorem witness_MetersAndSensors :
    (∃ k ∈ logicDiodes 0, 16 * 95 < (sensor (sensorAt ((logicDiodes 0).headD 0) 1600) k).value)
    ∧ (∃ k ∈ lightDiodes 0, 16 * 62 < (sensor (sensorAt ((lightDiodes 0).headD 0) 1000) k).value)
    ∧ (¬∃ k ∈ logicDiodes 0, 16 * 93 < (sensor served k).value) ∧ (¬∃ k ∈ lightDiodes 0, 16 * 60 < (sensor served k).value)
    ∧ 900 ≤ served.pwr.env.toNat ∧ served.pwr.env.toNat < 1023 ∧ (inputAt 9 0).pwr.overMs = 9 ∧ (inputAt 8 0).pwr.overMs < 9
    ∧ 999 ≤ (inputAt 0 999).pwr.underMs ∧ (inputAt 0 998).pwr.underMs < 999
    ∧ served.pwr.railsOn = true ∧ domainNo (.quad 0) ∉ served.pwr.domainsOff ∧ State.reset.pwr.railsOn = false
    ∧ (zoe { served with zoes := [(0, { state := .ready })] } 0).state ≠ .off
    ∧ served.pwr.auxOn = true ∧ State.reset.pwr.auxOn = false ∧ served.rst.resetDue = none
    ∧ mrtServes served = true ∧ served.pwr.stopped = false ∧ served.pwr.stopHeld = [] ∧ served.shows = []
    ∧ served.pwr.stopRun = false ∧ served.pwr.stop = none ∧ served.rst.fatalHeld = false := by decide +kernel

/-- Stack 5 up, and its reports at 95 °C and a step above. -/
def stackUp : State := { served with hbm := { served.hbm with hstacks := [(5, { up := true })] } }

theorem witness_MetersAndSensors_stacks : (hstack stackUp 5).up = true ∧ (hstack served 5).up = false ∧ (161 : Fin 162).val = 156 + (5 : Fin 6).val
    ∧ ({ stackUp with ident := { ml := true } } : State).ident.ml = true ∧ 4 ≤ (5 : Fin 6).val ∧ (1520 : Int) < 1521
    ∧ stackUp.pwr.stopHeld = [] ∧ stackUp.pwr.auxOn = true ∧ mrtServes stackUp = true ∧ stackUp.ident.ml = false
    ∧ (match exec (.sensorSample 161 1521) stackUp with
      | .next t => decide ((hstack t 5).temp = 95) && (hstack t 5).refx2 && decide (t.rst.service = .stopping)
      | _ => false) = true
    ∧ (match exec (.sensorSample 161 1360) stackUp with
      | .next t => decide ((hstack t 5).temp = 85) && !(hstack t 5).refx2 && decide (t.rst.service = .serving)
      | _ => false) = true := by decide +kernel

theorem witness_MetersAndSensors_samples :
    aboveDeg (takeSample 0 1400 served) 0 (tripThreshold 0) = true
    ∧ aboveDeg (takeSample 0 320 served) 0 (tripThreshold 0) = false ∧ aboveDeg (takeSample 0 320 served) 0 (stopThreshold 0) = false
    ∧ aboveDeg (takeSample 0 (16 * 75 + 1) served) 0 (stopThreshold 0) = true
    ∧ aboveDeg (takeSample 0 (16 * 75 + 1) served) 0 (tripThreshold 0) = false := by decide +kernel

/-- A Kaleidoscope's domain, fitted on one build and not on the other. -/
theorem witness_Supplies_fitted : domainFitted served (.kaleidoscope 0) = true
    ∧ domainFitted { served with ident := { ml := true } } (.kaleidoscope 0) = false ∧ domainNo (.kaleidoscope 0) ∉ served.pwr.domainsOff := by decide

theorem witness_Supplies : served.pwr.mainOk = true ∧ ({ served.pwr with holdup := true } : PwrSys).holdup = true ∧ served.pwr.railsOn = true
    ∧ served.pwr.stopRun = false ∧ served.pwr.stop = none ∧ served.pwr.stopped = false ∧ served.rst.fatalHeld = false
    ∧ ({ served.pwr with overAt := some 5 } : PwrSys).overAt = some 5 ∧ served.pwr.holdup = false
    ∧ mrtServes served = true ∧ State.reset.pwr.auxOn = false ∧ served.pwr.auxOn = true ∧ mrtServes State.reset = false := by decide

/-- A module in its release order: a step complete, the pin low or not. -/
def releasing (k : BitVec 4) (pin : Bool) : State := { served with rst := { service := .booting, step := k, last := 1, perst := pin } }

theorem witness_ResetsAndRelease : served.pwr.auxOn = true ∧ served.rst.perst = false ∧ served.pwr.tripped = false ∧ diesHot served = false
    ∧ diesHot (sensorAt 0 1400) = true ∧ State.reset.pwr.auxOn = false
    ∧ (releasing 0 true).rst.perst = true ∧ (releasing 0 true).rst.resetDue = none ∧ (releasing 0 true).rst.begun = 0
    ∧ (releasing 0 true).rst.last ≠ 0 ∧ ({ State.reset with rst.perst := true } : State).rst.last = 0
    ∧ (0, 4) ∈ ({ ran := [(0, 4)] } : MrtSt).ran
    ∧ (∀ k ∈ [2, 3, 4, 5, 6, 7, 8], stepWait (releasing (BitVec.ofNat 4 (k - 1)) false) k = 0
      ∧ (releasing (BitVec.ofNat 4 (k - 1)) false).rst.step.toNat + 1 = k)
    ∧ stepWait (releasing 1 true) 2 = 2 ∧ stepWait { releasing 7 false with las := {} } 8 = 3
    ∧ (zoe (releasing 6 false) 0).state = .off
    ∧ ({ service := .calibrating, step := 10 } : RstSys).stepNine = false := by decide +kernel

theorem witness_Sideband : (2 ≤ served.rst.step.toNat ∧ served.pwr.auxOn = true) ∧ State.reset.pwr.auxOn = false
    ∧ served.side.smbStatus ≠ 1 ∧ ({ smbStatus := 1 } : SideSys).smbStatus = 1 ∧ mrtServes served = true
    ∧ mrtServes { served with mrt := {} } = false
    ∧ serviceAllows served .pf 0x0500 = true ∧ serviceAllows served .pf 0x0102 = true
    ∧ serviceAllows { served with rst := { served.rst with service := .stopping } } .pf 0x0500 = false
    ∧ serviceAllows { served with rst := { served.rst with service := .stopping } } .pf 0x0102 = false
    ∧ declOk served 2 0 = true ∧ declOk served 3 0 = false ∧ served.shows = [] ∧ (sessAt 0 [] {}).shows ≠ []
    ∧ served.rst.resetDue = none ∧ faultAssert served.flt = false ∧ served.side.alerts = 0 ∧ served.side.laserOn = false
    ∧ look ({ mismatch := [(2, 1)] } : SideSys).mismatch 2 0 = 1 := by decide

/-! ### SPDM and guests -/

/-- A responder that has agreed, with session 0 through its handshake and session 1 in it. -/
def spdmOk : Spdm := { version := true, caps := true, algs := true, sessions := [(0, { finished := true }), (1, {})] }

theorem witness_SpdmResponder : spdmOk.version = true ∧ spdmOk.caps = true ∧ spdmOk.algs = true ∧ find spdmOk.sessions 2 = none
    ∧ (∀ j < 2, find spdmOk.sessions j ≠ none) ∧ find spdmOk.sessions 0 = some { finished := true } ∧ find spdmOk.sessions 1 = some {}
    ∧ (∀ i < 4, find ({ spdmOk with sessions := [(0, {}), (1, {}), (2, {}), (3, {})] } : Spdm).sessions i ≠ none) := by decide

/-- The served module with guest site 0 in a state. -/
def guestAt (x : Guest) : State := { served with sec := { served.sec with guest0 := x } }

/-- A port of partition 1 that is up, with window 0 of one 4 KiB page open to reads. -/
def port : Guest :=
  { en := true, part := 1, link := 3, nvec := 2, rdRate := 1, wrRate := 1, wins := [(0, { base := 0, size := 1, rights := 3 })]
    desc := List.replicate 17 0 ++ [12] ++ List.replicate 46 0, descOk := true, trds := [(9, 5)] }

theorem witness_GuestSites : served.ident.ml = false ∧ (guest (guestAt port) 0).link = 3 ∧ (guest (guestAt port) 0).isHeld = false
    ∧ blockHeld (guestAt port) .guest 0 = false ∧ (guest (guestAt { link := 1 }) 0).link = 1 ∧ (guest served 0).link ≠ 1
    ∧ (look (guest (guestAt port) 0).wins 0 {}).rights.getLsbD 0 = true ∧ (look (guest (guestAt port) 0).wins 0 {}).size ≠ 0
    ∧ (part (guestAt port) 1).resetting = false ∧ (look (guest (guestAt port) 0).wins 1 {}).size = 0
    ∧ onDenyList (guestAt port) 1 0 32 = false ∧ 0 + 32 * 1 ≤ 4096 * (look (guest (guestAt port) 0).wins 0 {}).size.toNat
    ∧ pmaMap (guestAt port) 1 0 32 = some (0, 0) ∧ pmaMap { guestAt port with hbm := {} } 1 0 32 = none
    ∧ has port.trds 9 = true ∧ has port.trds 8 = false ∧ 2 ≤ port.nvec.toNat ∧ (0x81000000 : Word).getLsbD 31 = true
    ∧ ((0x81000000 : Word).extractLsb' 24 4).toNat = 1 ∧ (part served 1).exist = true
    ∧ cutOff served 0 = false ∧ cutOff { served with d2d := { ihlReset := true } } 1 = true
    ∧ ({ ihlReset := true } : D2dSys).ihlReset = true ∧ pchHalf served 100 ≠ 0
    ∧ pmaMap { guestAt port with hbm := { pchs := [(100, { valid := true, part := 1 })] } } 1 0 32 = some (100, 0) := by decide +kernel

theorem witness_TargetWindow : siteOf served 1 = none ∧ siteOf (guestAt port) 1 = some .g0 ∧ (guest (guestAt port) (siteNo .g0)).descOk = true
    ∧ fieldAt port.desc 17 1 = 12 ∧ has port.trds 0 = false
    ∧ (∀ tag < 4, has ({ port with trds := (List.range 4).map (fun k => (k, 0)) } : Guest).trds tag = true)
    ∧ ({ ml := true } : IdSys).ml = true := by decide +kernel

/-! ### Registers, the Toybox, invariants -/

theorem witness_RegisterEffects : (wideAt served .pf false 0x2001020).isSome = true ∧ wideAt served .pf false 0 = none ∧ fnOn served .pf = true
    ∧ wideAt served .pf false 0x2001024 = none ∧ fnOn served (.vf 0) = false
    ∧ served.fab.declared = true ∧ served.fab.gid = 0 ∧ (second {}).fab.gid ≠ 0
    ∧ (lane { testing with fab := { testing.fab with prbsSel := 0 } } testing.fab.prbsSel.toNat).underTest = true
    ∧ (lane served served.fab.prbsSel.toNat).underTest = false ∧ decoded 0 = true ∧ decoded 4 = false ∧ accessCut served .pf false 0x2001020 = false
    ∧ cutOff served 1 = false ∧ cutOff { served with d2d := { ihlReset := true } } 1 = true := by decide +kernel

/-- A wide counter of a West block behind the link in reset. -/
theorem witness_RegisterEffects_cut : (let s : State := { served with d2d := { ihlReset := true } }
    (wideAt s .pf false 0x1800020).isSome = true ∧ accessCut s .pf false 0x1800020 = true) := by decide +kernel

theorem witness_RegisterWritesAndToybox : fnOn served (.vf 0) = false ∧ fnOn served .pf = true
    ∧ (window (startCmd .pf 0x0100 (pkOf []) served) .pf).status = 1 ∧ (window served .pf).status ≠ 1 ∧ (fnCfg served .pf).inReset = false ∧ (guest (guestAt port) 0).en = true
    ∧ (guest served 0).en = false ∧ served.ident.ml = false := by decide

theorem witness_KeepsakeRegisters : served.pwr.auxOn = true ∧ State.reset.pwr.auxOn = false ∧ served.pending = []
    ∧ exec .perstAssert State.reset = .next { State.reset with rst := { State.reset.rst with perst := true } }
    ∧ step State.reset = .next { State.reset with ident.aux := 1 } :=
  ⟨by decide, by decide, by decide, rfl, rfl⟩

theorem witness_PartitionsAndResets : State.reset.pwr.auxOn = false ∧ served.pwr.auxOn = true ∧ served.rst.perst = false
    ∧ served.pwr.tripped = false ∧ served.pending = [] ∧ ({ resetDue := some 0 } : RstSys).resetDue = some 0 ∧ (0 : DWord).toNat ≤ timeNs served
    ∧ served.pwr.railsOn = true ∧ aboveDeg (takeSample 0 1400 served) 0 (tripThreshold 0) = true ∧ (part served 1).exist = true := by decide +kernel

theorem witness_ResetHistory : State.reset.pwr.auxOn = false ∧ find served.rst.history 0 = none
    ∧ find ({ history := [(3, ⟨5, 1, 3⟩)] } : RstSys).history 3 = some ⟨5, 1, 3⟩ ∧ served.pwr.auxOn = true := by decide

/-- The state after reset meets what every step keeps. -/
theorem reset_inv : Inv State.reset ∧ AlertInv State.reset :=
  ⟨⟨by decide, by decide⟩, ⟨by decide, by decide, by decide⟩⟩

theorem witness_AlertFollowsConditions : AlertInv State.reset ∧ (step State.reset = .next { State.reset with ident.aux := 1 }) :=
  ⟨reset_inv.2, rfl⟩

theorem witness_EmptyQueueIdles : State.reset.pending = [] ∧ State.reset.rst.resetDue = none := by decide

theorem witness_StepKeepsMemoriesCanonical : Inv State.reset ∧ (step State.reset = .next { State.reset with ident.aux := 1 }) :=
  ⟨reset_inv.1, rfl⟩

theorem witness_StepRunsFrontCommand : ({ State.reset with pending := [.auxPowerOn 0, .perstDeassert] } : State).pending
    = .auxPowerOn 0 :: [.perstDeassert] := rfl

end Sys2Proof.Tests
end

section
/-! PROOFS. The remote-line caches, the refresh management and the zeroing of the HBM. -/

namespace Sys2Proof.Machine

open Sys2Proof

/-! ### Maps without a key -/

theorem look_drop {α : Type} (m : SMap α) (k j : Nat) (d : α) : look (drop m k) j d = if j = k then d else look m j d := by
  rw [look_eq_find, find_drop, look_eq_find]
  split <;> rfl

/-! ### The caches of the two halves (R177, R180) -/

@[simp] theorem rlc_modRlc_same (h : Nat) (f : Rlc → Rlc) (s : State) : rlc (modRlc h f s) h = f (rlc s h) := by
  unfold rlc modRlc; split <;> rfl

/-- A change of one half's cache leaves the other's. -/
theorem rlc_modRlc_other {h k : Nat} (f : Rlc → Rlc) (s : State) (hk : h = 0 ↔ k ≠ 0) : rlc (modRlc h f s) k = rlc s k := by
  unfold rlc modRlc
  by_cases h0 : h = 0
  · rw [if_pos h0, if_neg (hk.mp h0), if_neg (hk.mp h0)]
  · have k0 : k = 0 := by_contra fun c => h0 (hk.mpr c)
    rw [if_neg h0, if_pos k0, if_pos k0]

/-- A change of a cache leaves memory, and what the stacks know of it. -/
theorem modRlc_hbm (h : Nat) (f : Rlc → Rlc) (s : State) :
    (modRlc h f s).hbm = { s.hbm with rlcEast := (modRlc h f s).hbm.rlcEast, rlcWest := (modRlc h f s).hbm.rlcWest } := by
  unfold modRlc; split <;> rfl

@[simp] theorem modRlc_badLines (h : Nat) (f : Rlc → Rlc) (s : State) : (modRlc h f s).hbm.badLines = s.hbm.badLines := by
  rw [modRlc_hbm]

@[simp] theorem modRlc_mem (h : Nat) (f : Rlc → Rlc) (s : State) : (modRlc h f s).hbm.mem = s.hbm.mem := by rw [modRlc_hbm]

@[simp] theorem modRlc_ways (h : Nat) (f : Rlc → Rlc) (s : State) : (modRlc h f s).hbm.ways = s.hbm.ways := by rw [modRlc_hbm]

@[simp] theorem hbmBytes_modRlc (h : Nat) (f : Rlc → Rlc) (s : State) (c o len : Nat) :
    hbmBytes (modRlc h f s) c o len = hbmBytes s c o len := by
  unfold modRlc; split <;> rfl

@[simp] theorem rlc_useFree (s : State) (h : Nat) : rlc (useFree s) h = rlc s h := rfl

/-- What a READ of a remote line finds in its half's cache. -/
theorem cacheHit_remote {s : State} {h p c line : Nat} (hc : pchHalf s c ≠ h) :
    cacheHit s h p c line = (rlc s h).lines.find? (fun l => isLine c line l && decide (l.part.toNat = p)) := if_neg hc

theorem cacheHit_some {s : State} {h p c line : Nat} {l : CacheLine} (hc : pchHalf s c ≠ h) (hl : cacheHit s h p c line = some l) :
    l ∈ (rlc s h).lines ∧ l.pch = c ∧ l.line = line ∧ l.part.toNat = p := by
  rw [cacheHit_remote hc] at hl
  exact ⟨List.mem_of_find?_eq_some hl, by simpa [isLine, and_assoc] using List.find?_some hl⟩

/-- A READ misses exactly where no line of the cache is its line and of its partition. -/
theorem cacheHit_none_iff {s : State} {h p c line : Nat} (hc : pchHalf s c ≠ h) :
    cacheHit s h p c line = none ↔ ∀ l ∈ (rlc s h).lines, ¬(l.pch = c ∧ l.line = line ∧ l.part.toNat = p) := by
  rw [cacheHit_remote hc, List.find?_eq_none]
  simp only [isLine, Bool.and_eq_true, decide_eq_true_eq, and_assoc]

/-- A hit gives the cached bytes and is counted. -/
theorem readLine_hit {s : State} {h p c line : Nat} {l : CacheLine} (nc : Bool) (hc : pchHalf s c ≠ h)
    (hl : cacheHit s h p c line = some l) :
    readLine h p c line nc s = ((l.bytes, false), modRlc h (fun r => { r with hit := r.hit + 1 }) s) := by
  rw [cacheHit_remote hc] at hl
  unfold readLine
  simp only [if_neg hc, hl]

/-- A miss of a line without an error gives its bytes, is counted and, unless NOCACHE, fills. -/
theorem readLine_miss {s : State} {h p c line : Nat} (nc : Bool) (hc : pchHalf s c ≠ h) (hl : cacheHit s h p c line = none)
    (good : ∀ e ∈ s.hbm.badLines, e ≠ (c, line)) :
    readLine h p c line nc s =
      let u := modRlc h (fun r => { r with miss := r.miss + 1 }) s
      ((hbmBytes s c (128 * line) 128, false), if nc then u else cacheFill h p c line (hbmBytes s c (128 * line) 128) u) := by
  have clean : s.hbm.badLines.any (fun e => decide (e = (c, line))) = false := by
    simpa using good
  rw [cacheHit_remote hc] at hl
  unfold readLine
  simp only [if_neg hc, hl, modRlc_badLines, clean, hbmBytes_modRlc]
  cases nc <;> rfl

/-! ### Filling (R177) -/

/-- The ways that a partition's mask opens. -/
theorem mem_ways (mask : BitVec 16) (w : Nat) : w ∈ (List.range 16).filter (fun i => mask.getLsbD i) ↔ mask.getLsbD w = true := by
  simp only [List.mem_filter, List.mem_range, and_iff_right_iff_imp]
  exact BitVec.lt_of_getLsbD

/-- With no way open nothing is filled. -/
theorem cacheFill_noWays {s : State} {h p c line : Nat} (bytes : List Byte) (hw : look s.hbm.ways p 0 = 0) :
    cacheFill h p c line bytes s = s := by
  have none : (List.range 16).filter (fun i => (look s.hbm.ways p 0).getLsbD i) = [] :=
    List.filter_eq_nil_iff.mpr fun i _ => by rw [hw]; exact Bool.eq_false_iff.mp (BitVec.getLsbD_zero)
  unfold cacheFill
  exact if_pos none

/-- A fill leaves the counts of hits and misses. -/
theorem cacheFill_counts (h p c line : Nat) (bytes : List Byte) (s : State) :
    (rlc (cacheFill h p c line bytes s) h).hit = (rlc s h).hit ∧ (rlc (cacheFill h p c line bytes s) h).miss = (rlc s h).miss := by
  unfold cacheFill
  dsimp only
  split
  · exact ⟨rfl, rfl⟩
  · simp

/-- What stays of a list from which some elements may have gone was there. -/
theorem mem_of_mem_ite_filter {α : Type} {x : α} {xs : List α} {b : Bool} {q : α → Bool}
    (h : x ∈ if b then xs.filter q else xs) : x ∈ xs := by
  cases b with
  | false => exact h
  | true => exact List.mem_of_mem_filter h

/-- After a fill the cache holds lines that it held and the line filled, in a way that the mask opens. -/
theorem mem_cacheFill {s : State} {h p c line : Nat} {bytes : List Byte} {l : CacheLine}
    (hl : l ∈ (rlc (cacheFill h p c line bytes s) h).lines) :
    l ∈ (rlc s h).lines ∨ l.pch = c ∧ l.line = line ∧ l.part = BitVec.ofNat 4 p ∧ l.bytes = bytes
      ∧ (look s.hbm.ways p 0).getLsbD l.way = true := by
  unfold cacheFill at hl
  dsimp only at hl
  split at hl
  · exact .inl hl
  · next hne =>
    simp only [rlc_modRlc_same, rlc_useFree, List.mem_append, List.mem_singleton] at hl
    rcases hl with hold | hnew
    · refine .inl ?_
      split at hold
      · exact mem_of_mem_ite_filter hold
      · exact hold
    · subst hnew
      refine .inr ⟨rfl, rfl, rfl, rfl, (mem_ways _ _).mp ?_⟩
      rw [List.getD_eq_getElem _ _ (Nat.mod_lt _ (List.length_pos_iff.mpr hne))]
      exact List.getElem_mem _

/-! ### Invalidations (R178, R180) -/

/-- The lines that a drop leaves in its cache. -/
theorem mem_cacheDrop (h : Nat) (p : CacheLine → Bool) (s : State) (l : CacheLine) :
    l ∈ (rlc (cacheDrop h p s) h).lines ↔ l ∈ (rlc s h).lines ∧ p l = false := by
  simp [cacheDrop]

/-- INV advances by the number of lines that a drop takes. -/
theorem cacheDrop_inv (h : Nat) (p : CacheLine → Bool) (s : State) :
    (rlc (cacheDrop h p s) h).inv
      = (rlc s h).inv + BitVec.ofNat 48 ((rlc s h).lines.length - (rlc (cacheDrop h p s) h).lines.length) := by
  have count : (rlc s h).lines.countP p = (rlc s h).lines.length - ((rlc s h).lines.filter (fun l => !p l)).length := by
    have := List.length_eq_countP_add_countP p (l := (rlc s h).lines)
    rw [← List.countP_eq_length_filter]
    simp only [Bool.not_eq_true, Bool.decide_eq_false] at this
    omega
  simp only [cacheDrop, rlc_modRlc_same, count]

@[simp] theorem cacheDrop_pend (h : Nat) (p : CacheLine → Bool) (s : State) :
    (rlc (cacheDrop h p s) h).pend = (rlc s h).pend := by
  simp [cacheDrop]

@[simp] theorem rlc_modZoe (z : Nat) (f : Zoe → Zoe) (s : State) (h : Nat) : rlc (modZoe z f s) h = rlc s h := rfl

theorem isLine_eq_false_iff (c line : Nat) (l : CacheLine) : isLine c line l = false ↔ ¬(l.pch = c ∧ l.line = line) :=
  decide_eq_false_iff_not

/-- The number of a half. -/
def halfIndex : Half → Nat
  | .east => 0
  | .west => 1

theorem halfIndex_eq_zero_iff (h : Half) : halfIndex h = 0 ↔ 1 - halfIndex h ≠ 0 := by cases h <;> decide

/-- The state after half k's cache acknowledged the invalidation of a line for port z. -/
def acked (k key z : Nat) (rest : List (Nat × Nat)) (s : State) : State :=
  modZoe z (fun x => { x with dma := ackDma key x.dma })
    (cacheDrop k (isLine (key / 16777216) (key % 16777216)) (modRlc k (fun r => { r with pend := rest }) s))

theorem exec_invalidationAck {h : Half} {key z : Nat} {rest : List (Nat × Nat)} {s : State}
    (hp : (rlc s (halfIndex h)).pend = (key, z) :: rest) :
    exec (.invalidationAck h) s = .next (acked (halfIndex h) key z rest s) := by
  have e : exec (.invalidationAck h) s = execInvalidationAck h s := rfl
  rw [e]
  unfold execInvalidationAck
  cases h <;> simp only [halfIndex] at hp ⊢ <;> simp only [hp] <;> rfl

@[simp] theorem acked_mem (k key z : Nat) (rest : List (Nat × Nat)) (s : State) : (acked k key z rest s).hbm.mem = s.hbm.mem := by
  simp [acked, cacheDrop]

/-- An acknowledgement leaves the other half's cache. -/
theorem rlc_acked_other {k j : Nat} (key z : Nat) (rest : List (Nat × Nat)) (s : State) (hk : k = 0 ↔ j ≠ 0) :
    rlc (acked k key z rest s) j = rlc s j := by
  simp only [acked, cacheDrop, rlc_modZoe, rlc_modRlc_other _ _ hk]

/-! ### Refresh management (R169, R188) -/

theorem exec_rfm (c : PchId) (b : Nat) (s : State) : exec (.rfm c b) s = execRfm c b s := rfl

/-- The state after a refresh-management command to bank b of pseudo-channel c. -/
def refreshed (c b : Nat) (s : State) : State :=
  modStack (c / 32) (fun k => { k with rfm := k.rfm + 1 }) { s with hbm.acts := drop s.hbm.acts (actKey c b) }

theorem hstack_refreshed (c b k : Nat) (s : State) :
    hstack (refreshed c b s) k = if k = c / 32 then { hstack s k with rfm := (hstack s k).rfm + 1 } else hstack s k := by
  by_cases hk : k = c / 32
  · rw [if_pos hk, hk]
    exact hstack_modStack_same _ _ _
  · rw [if_neg hk]
    exact hstack_modStack_ne _ _ hk

/-! ### Zeroing (R172) -/

theorem exec_pchZeroingDone (c : PchId) (s : State) : exec (.pchZeroingDone c) s = execPchZeroingDone c s := rfl

/-- The state after pseudo-channel c, whose lines have no error, is zeroed. -/
def zeroed (c : Nat) (s : State) : State :=
  modPch c (fun x => { x with zeroing := false, fill := .zero })
    { s with hbm.mem := dropRange s.hbm.mem (hbmKey c 0) (hbmKey (c + 1) 0) }

theorem exec_pchZeroingDone_clean {c : PchId} {s : State} (hz : (pch s c.val).zeroing = true) (hb : s.hbm.badLines = []) :
    exec (.pchZeroingDone c) s = .next (zeroed c.val s) := by
  rw [exec_pchZeroingDone, execPchZeroingDone, if_pos hz]
  change Host.Outcome.next (forAll (s.hbm.badLines.filter _) _ (zeroed c.val s)) = _
  rw [hb]
  rfl

@[simp] theorem pch_zeroed_same (c : Nat) (s : State) : pch (zeroed c s) c = { pch s c with zeroing := false, fill := .zero } :=
  pch_modPch_same _ _ _

theorem pch_zeroed_ne {c j : Nat} (s : State) (h : j ≠ c) : pch (zeroed c s) j = pch s j := pch_modPch_ne _ _ h

theorem find_dropRange {α : Type} (m : SMap α) (lo hi k : Nat) :
    find (dropRange m lo hi) k = if lo ≤ k ∧ k < hi then none else find m k := by
  unfold dropRange
  by_cases h : lo ≤ k ∧ k < hi
  · rw [if_pos h, find_filter_neg m (fun i => decide (i < lo) || decide (hi ≤ i)) k (by simp; omega)]
  · rw [if_neg h, find_filter_pos m (fun i => decide (i < lo) || decide (hi ≤ i)) k (by simp; omega)]

/-- Every byte of a pseudo-channel that was zeroed reads as 0. -/
theorem hbmByte_zeroed_same {c o : Nat} (s : State) (ho : o < 2 ^ 31) : hbmByte (zeroed c s) c o = 0 := by
  have gone : find (zeroed c s).hbm.mem (hbmKey c o) = none :=
    (find_dropRange ..).trans (if_pos (by unfold hbmKey; omega))
  unfold hbmByte
  rw [gone, pch_zeroed_same]

/-- Zeroing leaves the bytes of every other pseudo-channel. -/
theorem hbmByte_zeroed_ne {c j o : Nat} (s : State) (hj : j ≠ c) (ho : o < 2 ^ 31) : hbmByte (zeroed c s) j o = hbmByte s j o := by
  have kept : find (zeroed c s).hbm.mem (hbmKey j o) = find s.hbm.mem (hbmKey j o) :=
    (find_dropRange ..).trans (if_neg (by unfold hbmKey; omega))
  unfold hbmByte
  rw [kept, pch_zeroed_ne s hj]

/-! ### The obligation -/

/-- A READ of a remote line: hits, misses and fills (R177, R178). -/
theorem readLine_remote {h p c line : Nat} (nc : Bool) {s : State} (hc : pchHalf s c ≠ h)
    (good : ∀ e ∈ s.hbm.badLines, e ≠ (c, line)) :
    let r := readLine h p c line nc s
    let held (l : CacheLine) : Prop := l.pch = c ∧ l.line = line ∧ l.part.toNat = p
    ((∃ l ∈ (rlc s h).lines, held l) → (∃ l ∈ (rlc s h).lines, held l ∧ r.1 = (l.bytes, false))
      ∧ (rlc r.2 h).hit = (rlc s h).hit + 1 ∧ (rlc r.2 h).miss = (rlc s h).miss ∧ (rlc r.2 h).lines = (rlc s h).lines)
    ∧ ((∀ l ∈ (rlc s h).lines, ¬ held l) → r.1 = (hbmBytes s c (128 * line) 128, false)
      ∧ (rlc r.2 h).miss = (rlc s h).miss + 1 ∧ (rlc r.2 h).hit = (rlc s h).hit
      ∧ ((nc = true ∨ look s.hbm.ways p 0 = 0) → (rlc r.2 h).lines = (rlc s h).lines)
      ∧ (∀ l ∈ (rlc r.2 h).lines, l ∈ (rlc s h).lines ∨ nc = false ∧ l.pch = c ∧ l.line = line ∧ l.part = BitVec.ofNat 4 p
        ∧ l.bytes = hbmBytes s c (128 * line) 128 ∧ (look s.hbm.ways p 0).getLsbD l.way = true)) := by
  intro r held
  constructor
  · rintro ⟨l, hl, hheld⟩
    cases hit : cacheHit s h p c line with
    | none => exact absurd hheld ((cacheHit_none_iff hc).mp hit l hl)
    | some l' =>
      have er : r = _ := readLine_hit nc hc hit
      obtain ⟨hmem, hheld'⟩ := cacheHit_some hc hit
      rw [er]
      exact ⟨⟨l', hmem, hheld', rfl⟩, by simp, by simp, by simp⟩
  · intro hmiss
    have er : r = _ := readLine_miss nc hc ((cacheHit_none_iff hc).mpr hmiss) good
    rw [er]
    cases nc with
    | true =>
      exact ⟨rfl, by simp, by simp, fun _ => by simp, fun l hl => .inl (by simpa using hl)⟩
    | false =>
      obtain ⟨hhit, hmissed⟩ := cacheFill_counts h p c line (hbmBytes s c (128 * line) 128)
        (modRlc h (fun r => { r with miss := r.miss + 1 }) s)
      refine ⟨rfl, hmissed.trans (by simp), hhit.trans (by simp), fun hw => ?_, fun l hl => ?_⟩
      · have closed : look (modRlc h (fun r => { r with miss := r.miss + 1 }) s).hbm.ways p 0 = 0 := by simpa using hw
        exact (congrArg (fun u => (rlc u h).lines) (cacheFill_noWays _ closed)).trans (by simp)
      · rcases mem_cacheFill hl with hold | hnew
        · exact .inl (by simpa using hold)
        · exact .inr ⟨rfl, by simpa using hnew⟩

/-- Settles O19: a READ by `readLine_remote`, the other rows by the state that each leaves. -/
theorem cachesAndStacks : Obligations.CachesAndStacks := by
  unfold Obligations.CachesAndStacks
  refine ⟨fun h p c line nc s _ hc good => readLine_remote nc hc good, ?_, ?_, ?_⟩
  · intro h key z rest s k hp
    have hk : k = halfIndex h := by cases h <;> rfl
    rw [hk] at hp ⊢
    have hpend : (rlc (modRlc (halfIndex h) (fun r => { r with pend := rest }) s) (halfIndex h)).pend = rest := by simp
    refine ⟨_, exec_invalidationAck hp, by simp [acked], acked_mem .., rlc_acked_other _ _ _ _ (halfIndex_eq_zero_iff h), ?_, ?_⟩
    · intro l
      simp [acked, mem_cacheDrop, isLine_eq_false_iff]
    · simp [acked, cacheDrop_inv]
  · intro c b s
    rw [exec_rfm, execRfm]
    refine ⟨fun hf => ?_, fun hf => by simp [hf]⟩
    exact ⟨refreshed c.val b s, by simp [hf, refreshed], rfl, fun k => look_drop .., fun k => hstack_refreshed c.val b k s⟩
  · intro c s hz hb
    refine ⟨_, exec_pchZeroingDone_clean hz hb, rfl, by simp, by simp, by simp, fun o => hbmByte_zeroed_same s, ?_⟩
    exact fun j o _ hj ho => ⟨pch_zeroed_ne s hj, hbmByte_zeroed_ne s hj ho⟩

end Sys2Proof.Machine
end

section
/-! PROOFS. The guest sites and the target window. -/

namespace Sys2Proof.Machine

open Sys2Proof Sys2Proof.Machine.Tables

/-! ### Guest sites of a state (R255) -/

@[simp] theorem guest_modGuest_same (i : Nat) (f : Guest → Guest) (s : State) : guest (modGuest i f s) i = f (guest s i) := by
  unfold guest modGuest; split <;> rfl

/-- The guest sites are part of the security island's state. -/
theorem guest_congr {s t : State} (h : t.sec = s.sec) (i : Nat) : guest t i = guest s i := by
  unfold guest; rw [h]

/-- A change of a site changes that site alone. -/
theorem onlyGuest_modGuest (i : Nat) (f : Guest → Guest) (s : State) : OnlyGuest i s (modGuest i f s) := by
  unfold OnlyGuest modGuest; split <;> rfl

/-- What a command about a fitted unit does. -/
theorem ifFitted_fitted {s : State} (h : s.ident.ml = false) (t : State) : ifFitted s t = .next t := by simp [ifFitted, h]

/-- A command about a unit that is not fitted changes nothing (log entry 99). -/
theorem ifFitted_absent {s : State} (h : s.ident.ml = true) (t : State) : ifFitted s t = .next s := by simp [ifFitted, h]

/-- When the hub takes packets of a guest (R255, R259, R369). -/
theorem guestTalks_iff (s : State) (i : Nat) :
    guestTalks s i = true ↔ (guest s i).link = 3 ∧ (guest s i).isHeld = false ∧ blockHeld s .guest i = false := by
  simp [guestTalks, and_assoc]

theorem toPart_val (q : Part) : toPart q.val = some q := dif_pos q.isLt

/-- A read that ends without data, for the partition that the site serves (R256). -/
theorem onesToHost_eq {s : State} {i : Nat} {q : Part} (h : q.val = (guest s i).part.toNat) :
    onesToHost i s = emit (.targetRead q (List.replicate 32 0xFF)) s := by
  unfold onesToHost
  rw [← h, toPart_val]

/-! ### Faults that are not Fatal (R375, R403) -/

theorem OnlyFaults.refl (s : State) : OnlyFaults s s := rfl

theorem OnlyFaults.trans {s t u : State} (h : OnlyFaults s t) (k : OnlyFaults t u) : OnlyFaults s u :=
  Eq.trans k (by unfold OnlyFaults at h; rw [h])

theorem OnlyFaults.sec_eq {s t : State} (h : OnlyFaults s t) : t.sec = s.sec := by rw [h]

theorem raiseFault_onlyFaults {code : BitVec 16} (h : faultClass code ≠ 2) (kind index part detail : Nat) (s : State) :
    OnlyFaults s (raiseFault code kind index part detail s) := raiseFault_frame code kind index part detail s h

theorem raiseFirst_onlyFaults {code : BitVec 16} (h : faultClass code ≠ 2) (key len kind index part detail : Nat) (s : State) :
    OnlyFaults s (raiseFirst key len code kind index part detail s) := by
  unfold raiseFirst
  dsimp only
  split
  · exact .refl s
  · exact .trans (t := { s with flt.firsts := put s.flt.firsts key (timeNs s / len + 1) 0 }) rfl (raiseFault_onlyFaults h ..)

/-- A Corrected fault, raised at most once in an interval, leaves the count of Contained faults. -/
theorem raiseFirst_nCont {code : BitVec 16} (h : faultClass code = 0) (key len kind index part detail : Nat) (s : State) :
    (raiseFirst key len code kind index part detail s).flt.nCont = s.flt.nCont := by
  unfold raiseFirst
  dsimp only
  split
  · rfl
  · rw [(raiseFault_counts ..).2.1, if_neg (by rw [h]; decide)]

/-- A vector takes back no message that was sent. -/
theorem mem_signalVec_out {o : Output} {s : State} (h : o ∈ s.out) (f : Fn) (vec : Nat) : o ∈ (signalVec f vec s).out := by
  unfold signalVec
  dsimp only
  split
  · exact h
  · split
    · split
      · exact h
      · rwa [modFnCfg_out]
    · split
      · exact List.mem_append_left _ h
      · exact h

/-- A fault that is not Fatal takes back no message that was sent. -/
theorem mem_raiseFault_out {o : Output} {s : State} (h : o ∈ s.out) {code : BitVec 16} (hc : faultClass code ≠ 2)
    (kind index part detail : Nat) : o ∈ (raiseFault code kind index part detail s).out := by
  unfold raiseFault
  simp only [if_neg hc]
  split
  · exact mem_signalVec_out (mem_signalVec_out (by exact h) _ _) _ _
  · exact mem_signalVec_out (by exact h) _ _

/-! ### The firewall's checks (R257, R259) -/

/-- Access h of site i, whose length is as its header says where `lenOk`, is denied with reason r: 5 a malformed access, 1 a firewall
that is off or a partition in reset, 2 a window without the right, 3 a range beyond the window, 4 the deny list. -/
def Denied (s : State) (i : Nat) (h : GuestHdr) (right : Nat) (lenOk : Prop) (r : Nat) : Prop :=
  let x := guest s i
  let p := x.part.toNat
  let w := look x.wins h.win.toNat {}
  let addr := w.base.toNat + h.off.toNat
  (r = 5 ∧ (¬lenOk ∨ h.off.toNat % 32 ≠ 0 ∨ 16 < h.len))
    ∨ (lenOk ∧ h.off.toNat % 32 = 0 ∧ h.len ≤ 16
      ∧ ((r = 1 ∧ (x.en = false ∨ (part s p).resetting = true))
        ∨ (x.en = true ∧ (part s p).resetting = false
          ∧ ((r = 2 ∧ (w.size = 0 ∨ w.rights.getLsbD right = false))
            ∨ (w.size ≠ 0 ∧ w.rights.getLsbD right = true
              ∧ ((r = 3 ∧ 4096 * w.size.toNat < h.off.toNat + 32 * h.len)
                ∨ (h.off.toNat + 32 * h.len ≤ 4096 * w.size.toNat ∧ r = 4 ∧ onDenyList s p addr (32 * h.len) = true)))))))

/-- An access is denied with the reason that the firewall's checks give, in their order, and only where they give one: both sides make
the same tests one after the other, on a window and a deny list that may be anything. -/
theorem denied_iff {s : State} {i : Nat} {h : GuestHdr} {right : Nat} {lenOk : Prop} [Decidable lenOk] {r : Nat} :
    Denied s i h right lenOk r ↔ (if ¬lenOk then 5 else denyReason s i h right) = r ∧ r ≠ 0 := by
  unfold Denied denyReason guestWin guestPma guestPart guestWin
  dsimp only
  generalize look (guest s i).wins h.win.toNat {} = w
  generalize onDenyList s (guest s i).part.toNat (w.base.toNat + h.off.toNat) (32 * h.len) = listed
  grind

/-- The firewall's record of a denial with reason r at site i (R257). -/
def deniedGuest (s : State) (i r : Nat) : Guest :=
  let x := guest s i
  let n := if x.denyMs = some (timeNs s / 1000000) then x.denials + 1 else 1
  { x with deny := x.deny + 1, reason := BitVec.ofNat 8 r, denials := n, denyMs := some (timeNs s / 1000000)
           isHeld := x.isHeld || decide (n = 16) }

/-- A denial changes its site and the fault collector alone; the sixteenth of a millisecond raises a Contained fault (R257, R403). -/
theorem denyGuest_spec (i r : Nat) (s : State) :
    (∃ v, OnlyGuest i s v ∧ OnlyFaults v (denyGuest i r s)) ∧ guest (denyGuest i r s) i = deniedGuest s i r
      ∧ ((deniedGuest s i r).denials = 16 → (denyGuest i r s).flt.nCont = s.flt.nCont + 1) := by
  unfold denyGuest
  dsimp only
  generalize hv : modGuest i _ s = v
  have only : OnlyGuest i s v := hv ▸ onlyGuest_modGuest ..
  have site : guest v i = deniedGuest s i r := by rw [← hv, guest_modGuest_same]; rfl
  have count : v.flt = s.flt := by rw [← hv, modGuest_flt]
  generalize hu : raiseFirst _ _ 0x0A01 _ _ _ _ v = u
  have faults : OnlyFaults v u := hu ▸ raiseFirst_onlyFaults (by decide) ..
  have corrected : u.flt.nCont = s.flt.nCont := by rw [← hu, raiseFirst_nCont (by decide), count]
  have number : (deniedGuest s i r).denials = if (guest s i).denyMs = some (timeNs s / 1000000) then (guest s i).denials + 1 else 1 := rfl
  rw [← number]
  split
  · refine ⟨⟨v, only, faults.trans (raiseFault_onlyFaults (by decide) ..)⟩, ?_, fun _ => ?_⟩
    · rw [guest_congr (raiseFault_sec ..), guest_congr faults.sec_eq, site]
    · rw [(raiseFault_counts ..).2.1, if_pos (by decide), corrected]
  · next few => exact ⟨⟨v, only, faults⟩, (guest_congr faults.sec_eq i).trans site, fun full => absurd full few⟩

/-! ### Each row at a guest site -/

section Rows

variable {g : Site} {s : State} (fit : s.ident.ml = false)
include fit

/-- A descriptor is taken only by a link that trains, at a port that is not held (R255, R259). -/
theorem exec_desc_ignored (d : List Byte)
    (hp : (guest s (siteNo g)).link ≠ 1 ∨ (guest s (siteNo g)).isHeld = true ∨ blockHeld s .guest (siteNo g) = true) :
    exec (.desc g d) s = .next s :=
  (ifFitted_fitted fit _).trans (congrArg _ (if_pos hp))

theorem exec_desc_taken (d : List Byte) (hlink : (guest s (siteNo g)).link = 1) (hheld : (guest s (siteNo g)).isHeld = false)
    (hblock : blockHeld s .guest (siteNo g) = false) :
    exec (.desc g d) s = .next (modGuest (siteNo g) (fun x => { x with
      desc := d.take 64, descOk := descPasses d, link := if descPasses d then 3 else 2, isHeld := !descPasses d }) s) :=
  (ifFitted_fitted fit _).trans (congrArg _ (if_neg (by simp [hlink, hheld, hblock])))

theorem exec_mrd_silent (h : GuestHdr) (talks : guestTalks s (siteNo g) = false) : exec (.mrd g h) s = .next s := by
  refine (ifFitted_fitted fit _).trans ?_
  simp [talks]

theorem exec_mrd_denied (h : GuestHdr) (talks : guestTalks s (siteNo g) = true) (deny : denyReason s (siteNo g) h 0 ≠ 0) :
    exec (.mrd g h) s = .next (emit
      (.guestCpl g h.tag (if (guest s (siteNo g)).en = true ∧ (part s (guestPart s (siteNo g))).resetting = true then 4 else 1) [])
      (denyGuest (siteNo g) (denyReason s (siteNo g) h 0) s)) := by
  refine (ifFitted_fitted fit _).trans ?_
  simp [talks, deny]

/-- A rate of 0 lets an access wait (log entry 70). -/
theorem exec_mrd_waits (h : GuestHdr) (talks : guestTalks s (siteNo g) = true) (passes : denyReason s (siteNo g) h 0 = 0)
    (rate : (guest s (siteNo g)).rdRate = 0) : exec (.mrd g h) s = .next s := by
  refine (ifFitted_fitted fit _).trans ?_
  simp [talks, passes, rate]

theorem exec_mrd_read (h : GuestHdr) (talks : guestTalks s (siteNo g) = true) (passes : denyReason s (siteNo g) h 0 = 0)
    (rate : (guest s (siteNo g)).rdRate ≠ 0) :
    exec (.mrd g h) s = .next (
      let x := guestRead (siteNo g) (guestPart s (siteNo g)) (guestPma (guest s (siteNo g)) h) (32 * h.len) s
      emit (.guestCpl g h.tag x.1.1 x.1.2) x.2) := by
  refine (ifFitted_fitted fit _).trans ?_
  simp only [talks, passes, rate]
  rfl

/-- The reason a write is denied, 0 where it is admitted: one whose length is not its header's is malformed (R256, R257). -/
theorem exec_mwr (h : GuestHdr) (bs : List Byte) :
    exec (.mwr g h bs) s = .next (
      if guestTalks s (siteNo g) = false then s
      else if (if ¬bs.length = 32 * h.len then 5 else denyReason s (siteNo g) h 1) ≠ 0 then
        denyGuest (siteNo g) (if ¬bs.length = 32 * h.len then 5 else denyReason s (siteNo g) h 1) s
      else if (guest s (siteNo g)).wrRate = 0 then s
      else guestWrite (siteNo g) (guestPart s (siteNo g)) (guestPma (guest s (siteNo g)) h) bs s) := by
  refine (ifFitted_fitted fit _).trans ?_
  cases guestTalks s (siteNo g) <;> rfl

theorem exec_notify {q : Part} (hq : q.val = guestPart s (siteNo g)) :
    exec (.notify g) s = .next (
      if guestTalks s (siteNo g) = true ∧ (guest s (siteNo g)).en = true ∧ (part s q.val).resetting = false
          ∧ 2 ≤ (guest s (siteNo g)).nvec.toNat then
        signalVec (.vf q) (guest s (siteNo g)).nvec.toNat s
      else s) := by
  refine (ifFitted_fitted fit _).trans ?_
  rw [← hq, toPart_val]
  simp only [Bool.and_eq_true, Bool.not_eq_true', decide_eq_true_eq, and_assoc]

theorem exec_guestCompletion_ignored (h : GuestHdr) (bs : List Byte)
    (hn : guestTalks s (siteNo g) = false ∨ has (guest s (siteNo g)).trds h.tag.toNat = false) :
    exec (.guestCompletion g h bs) s = .next s :=
  (ifFitted_fitted fit _).trans (congrArg _ (if_pos (by simpa using hn)))

/-- An answer to a TRD ends it; the host gets its data, or all ones where it failed (R256; log entry 57). -/
theorem exec_guestCompletion_taken {h : GuestHdr} {bs : List Byte} {q : Part} (talks : guestTalks s (siteNo g) = true)
    (unlocked : has (guest s (siteNo g)).trds h.tag.toNat = true) (hq : q.val = (guest s (siteNo g)).part.toNat) :
    exec (.guestCompletion g h bs) s = .next (emit
      (.targetRead q (if h.status = 0 then bs else List.replicate 32 0xFF))
      (modGuest (siteNo g) (fun x => { x with trds := drop x.trds h.tag.toNat }) s)) := by
  have hq' : q.val = (guest (modGuest (siteNo g) (fun x => { x with trds := drop x.trds h.tag.toNat }) s) (siteNo g)).part.toNat := by
    rw [guest_modGuest_same]; exact hq
  refine (ifFitted_fitted fit _).trans (congrArg _ ((if_neg (by simp [talks, unlocked])).trans ?_))
  by_cases ok : h.status = 0
  · rw [if_neg (not_not.mpr ok), if_pos ok, guestPart, ← hq', toPart_val]
  · rw [if_pos ok, if_neg ok, onesToHost_eq hq']

theorem exec_trdTimeout_none {tag : BitVec 10} (hn : find (guest s (siteNo g)).trds tag.toNat = none) :
    exec (.trdTimeout g tag) s = .next s := by
  refine (ifFitted_fitted fit _).trans ?_
  rw [hn]

/-- The state in which a TRD of site i, sent at a, has ended without an answer. -/
def trdEnded (i : Nat) (tag : BitVec 10) (a : Nat) (s : State) : State :=
  let u := onesToHost i (advanceTo (a + 100000) s)
  raiseFault 0x0A02 4 i (guestPart u i) i (modGuest i (fun x => { x with trds := drop x.trds tag.toNat }) u)

theorem exec_trdTimeout_some {tag : BitVec 10} {a : Nat} (hs : find (guest s (siteNo g)).trds tag.toNat = some a) :
    exec (.trdTimeout g tag) s = .next (trdEnded (siteNo g) tag a s) := by
  refine (ifFitted_fitted fit _).trans ?_
  rw [hs]
  rfl

end Rows

/-- Module time brought up to a moment has reached it. -/
theorem timeNs_advanceTo (due : Nat) (s : State) : due ≤ timeNs (advanceTo due s) := by
  unfold timeNs advanceTo
  dsimp only
  omega

@[simp] theorem onesToHost_sec (i : Nat) (s : State) : (onesToHost i s).sec = s.sec := by
  unfold onesToHost; split <;> rfl

@[simp] theorem onesToHost_flt (i : Nat) (s : State) : (onesToHost i s).flt = s.flt := by
  unfold onesToHost; split <;> rfl

@[simp] theorem onesToHost_ident (i : Nat) (s : State) : (onesToHost i s).ident = s.ident := by
  unfold onesToHost; split <;> rfl

theorem timeNs_congr {s t : State} (h : t.ident = s.ident) : timeNs t = timeNs s := by unfold timeNs; rw [h]

theorem trdEnded_guest (i : Nat) (tag : BitVec 10) (a : Nat) (s : State) :
    guest (trdEnded i tag a s) i = { guest s i with trds := drop (guest s i).trds tag.toNat } := by
  unfold trdEnded
  rw [guest_congr (raiseFault_sec ..), guest_modGuest_same, guest_congr ((onesToHost_sec ..).trans (advanceTo_sec ..))]

theorem trdEnded_time (i : Nat) (tag : BitVec 10) (a : Nat) (s : State) : a + 100000 ≤ timeNs (trdEnded i tag a s) := by
  have e : (trdEnded i tag a s).ident = (advanceTo (a + 100000) s).ident := by simp [trdEnded]
  rw [timeNs_congr e]
  exact timeNs_advanceTo ..

theorem trdEnded_nCont (i : Nat) (tag : BitVec 10) (a : Nat) (s : State) : (trdEnded i tag a s).flt.nCont = s.flt.nCont + 1 := by
  rw [trdEnded, (raiseFault_counts ..).2.1, if_pos (by decide)]
  simp

theorem trdEnded_out {i : Nat} {q : Part} (tag : BitVec 10) (a : Nat) {s : State} (hq : q.val = (guest s i).part.toNat) :
    .targetRead q (List.replicate 32 0xFF) ∈ (trdEnded i tag a s).out := by
  refine mem_raiseFault_out ?_ (by decide) ..
  have hq' : q.val = (guest (advanceTo (a + 100000) s) i).part.toNat := by
    rw [guest_congr (advanceTo_sec ..)]; exact hq
  rw [modGuest_out, onesToHost_eq hq']
  exact List.mem_append_right _ (List.mem_singleton_self _)

/-! ### SEC_GST_CTL (R257, R259) -/

/-- Whether a write of SEC_GST_CTL sets EN: it asks for it, and the partition it names exists. -/
def gstOn (s : State) (v : Word) : Bool :=
  v.getLsbD 31 && (part s (v.extractLsb' 24 4).toNat).exist && decide ((v.extractLsb' 24 4).toNat < 12)

theorem gstOn_iff (s : State) (v : Word) :
    gstOn s v = true ↔ v.getLsbD 31 = true ∧ (part s (v.extractLsb' 24 4).toNat).exist = true ∧ (v.extractLsb' 24 4).toNat < 12 := by
  simp [gstOn, and_assoc]

/-- The state with the fields of SEC_GST_CTL of site i written. -/
def gstSet (i : Nat) (v : Word) (s : State) : State :=
  modGuest i (fun x => { x with en := gstOn s v, part := v.extractLsb' 24 4, nvec := v.extractLsb' 13 11 }) s

/-- The state with the held port of site i released, its link in training. -/
def gstReleased (i : Nat) (s : State) : State :=
  trainMods i [64] (modGuest i (fun x => { x with isHeld := false, link := 0, descOk := false, denials := 0, denyMs := none }) s)

@[simp] theorem guest_gstSet (i : Nat) (v : Word) (s : State) :
    guest (gstSet i v s) i = { guest s i with en := gstOn s v, part := v.extractLsb' 24 4, nvec := v.extractLsb' 13 11 } :=
  guest_modGuest_same ..

@[simp] theorem guest_gstReleased (i : Nat) (s : State) :
    guest (gstReleased i s) i = { guest s i with isHeld := false, link := 0, descOk := false, denials := 0, denyMs := none } :=
  (guest_congr (forAll_keeps State.sec [64] _ (fun _ _ => rfl) _) i).trans (guest_modGuest_same ..)

theorem exec_secGstCtl_ignored {g : Site} {s : State} (fit : s.ident.ml = false) {v : Word}
    (hn : (guest s (siteNo g)).en = true ∧ v.getLsbD 31 = true ∨ cutOff s (siteNo g) = true) : exec (.secGstCtl g v) s = .next s :=
  (ifFitted_fitted fit _).trans (congrArg _ (if_pos (by simpa using hn)))

/-- The state after SEC_GST_CTL of site i took a write. -/
def gstWritten (i : Nat) (v : Word) (s : State) : State :=
  if gstOn s v = true ∧ (guest s i).isHeld = true then gstReleased i (gstSet i v s) else gstSet i v s

theorem guest_gstWritten_released {i : Nat} {v : Word} {s : State} (h : gstOn s v = true ∧ (guest s i).isHeld = true) :
    guest (gstWritten i v s) i = { guest s i with
      en := gstOn s v, part := v.extractLsb' 24 4, nvec := v.extractLsb' 13 11
      isHeld := false, link := 0, descOk := false, denials := 0, denyMs := none } := by
  rw [gstWritten, if_pos h, guest_gstReleased, guest_gstSet]

theorem gstWritten_kept {i : Nat} {v : Word} {s : State} (h : ¬(gstOn s v = true ∧ (guest s i).isHeld = true)) :
    gstWritten i v s = gstSet i v s := if_neg h

theorem exec_secGstCtl_taken {g : Site} {s : State} (fit : s.ident.ml = false) {v : Word}
    (unlocked : ¬((guest s (siteNo g)).en = true ∧ v.getLsbD 31 = true)) (reach : cutOff s (siteNo g) = false) :
    exec (.secGstCtl g v) s = .next (gstWritten (siteNo g) v s) :=
  (ifFitted_fitted fit _).trans (congrArg _ (if_neg (by simpa [reach] using unlocked)))

/-! ### The target window (R242, R255, R256) -/

theorem siteOf_some {s : State} {p : Nat} {g : Site} (h : siteOf s p = some g) :
    (guest s (siteNo g)).en = true ∧ (guest s (siteNo g)).part.toNat = p := by
  have serves := List.find?_some h
  rwa [Bool.and_eq_true, decide_eq_true_eq] at serves

/-- The tags of a site's TRDs, from a free starting point on. -/
def trdTags (s : State) : List Nat := (List.range 1024).map (fun k => ((freeVal s).toNat + k) % 1024)

theorem freshTrd_eq (s : State) (i : Nat) :
    freshTrd s i = ((trdTags s).find? (fun t => !has (guest s i).trds t)).map (BitVec.ofNat 10) := rfl

theorem mem_trdTags (s : State) (t : Nat) : t ∈ trdTags s ↔ t < 1024 := by
  constructor
  · intro h
    obtain ⟨k, _, rfl⟩ := List.mem_map.mp h
    exact Nat.mod_lt _ (by decide)
  · intro h
    exact List.mem_map.mpr ⟨(t + 1024 - (freeVal s).toNat % 1024) % 1024, List.mem_range.mpr (Nat.mod_lt _ (by decide)), by omega⟩

/-- With every tag in use there is none for another TRD. -/
theorem freshTrd_none {s : State} {i : Nat} (full : ∀ tag < 1024, has (guest s i).trds tag = true) : freshTrd s i = none := by
  rw [freshTrd_eq, List.find?_eq_none.mpr, Option.map_none]
  intro t ht
  simp [full t ((mem_trdTags s t).mp ht)]

/-- With a tag in no use there is one for another TRD, and none uses it. -/
theorem freshTrd_some {s : State} {i k : Nat} (hk : k < 1024) (hfree : has (guest s i).trds k = false) :
    ∃ tag, freshTrd s i = some tag ∧ has (guest s i).trds tag.toNat = false := by
  obtain ⟨t, ht⟩ : ∃ t, (trdTags s).find? (fun t => !has (guest s i).trds t) = some t :=
    Option.isSome_iff_exists.mp (List.find?_isSome.mpr ⟨k, (mem_trdTags s k).mpr hk, by simp [hfree]⟩)
  have small : t < 1024 := (mem_trdTags s t).mp (List.mem_of_find?_eq_some ht)
  have unused : has (guest s i).trds t = false := by simpa using List.find?_some ht
  exact ⟨BitVec.ofNat 10 t, by rw [freshTrd_eq, ht, Option.map_some], by rwa [BitVec.toNat_ofNat, Nat.mod_eq_of_lt small]⟩

/-- What an access that reaches no guest does: a read gets bytes b, a write is ignored (R242, R256). -/
def unanswered (p : Part) (wr : Option (List Byte)) (b : Byte) (s : State) : State :=
  if wr.isSome then s else emit (.targetRead p (List.replicate 32 b)) s

/-- A message sent, with a free value, as a site changes. -/
theorem emit_modGuest_useFree (o : Output) (i : Nat) (f : Guest → Guest) (s : State) :
    emit o (modGuest i f (useFree s)) = { modGuest i f s with free := s.free + 1, out := s.out ++ [o] } := by
  unfold modGuest; split <;> rfl

section Window

variable {s : State} {p : Part} {off : BitVec 16} {wr : Option (List Byte)} (fit : s.ident.ml = false)
include fit

theorem exec_targetWindowAccess_noSite (hs : siteOf s p.val = none) :
    exec (.targetWindowAccess p off wr) s = .next (unanswered p wr 0 s) := by
  refine (ifFitted_fitted fit _).trans ?_
  rw [hs]
  rfl

variable {g : Site} (hs : siteOf s p.val = some g)
include hs

theorem exec_targetWindowAccess_beyond (far : targetSize (guest s (siteNo g)) ≤ off.toNat) :
    exec (.targetWindowAccess p off wr) s = .next (unanswered p wr 0 s) := by
  refine (ifFitted_fitted fit _).trans ?_
  rw [hs]
  exact congrArg _ (if_pos far)

theorem exec_targetWindowAccess_silent (near : off.toNat < targetSize (guest s (siteNo g)))
    (silent : guestTalks s (siteNo g) = false ∨ (part s p.val).resetting = true) :
    exec (.targetWindowAccess p off wr) s = .next (unanswered p wr 0xFF s) := by
  refine (ifFitted_fitted fit _).trans ?_
  rw [hs]
  dsimp only
  rw [if_neg (Nat.not_le.mpr near), if_pos (by simpa using silent), onesToHost_eq (siteOf_some hs).2.symm]
  rfl

variable (near : off.toNat < targetSize (guest s (siteNo g))) (talks : guestTalks s (siteNo g) = true)
  (up : (part s p.val).resetting = false)
include near talks up

theorem exec_targetWindowAccess_write (bs : List Byte) :
    exec (.targetWindowAccess p off (some bs)) s
      = .next (emit (.guestReq g ((freeVal s).setWidth 10) (off.setWidth 40) (some bs)) (useFree s)) := by
  refine (ifFitted_fitted fit _).trans ?_
  rw [hs]
  dsimp only
  rw [if_neg (Nat.not_le.mpr near), if_neg (by simp [talks, up])]

theorem exec_targetWindowAccess_noTag (full : freshTrd s (siteNo g) = none) :
    exec (.targetWindowAccess p off none) s = .next s := by
  refine (ifFitted_fitted fit _).trans ?_
  rw [hs]
  dsimp only
  rw [if_neg (Nat.not_le.mpr near), if_neg (by simp [talks, up]), full]

theorem exec_targetWindowAccess_read {tag : BitVec 10} (fresh : freshTrd s (siteNo g) = some tag) :
    exec (.targetWindowAccess p off none) s = .next (emit (.guestReq g tag (off.setWidth 40) none)
      (modGuest (siteNo g) (fun x => { x with trds := ins x.trds tag.toNat (timeNs s) }) (useFree s))) := by
  refine (ifFitted_fitted fit _).trans ?_
  rw [hs]
  dsimp only
  rw [if_neg (Nat.not_le.mpr near), if_neg (by simp [talks, up]), fresh]

end Window

/-! ### The obligation -/

/-- A read is denied with reason r exactly where the checks give it. -/
theorem denied_read_iff {s : State} {i : Nat} {h : GuestHdr} {r : Nat} :
    Denied s i h 0 True r ↔ denyReason s i h 0 = r ∧ r ≠ 0 := by
  rw [denied_iff, if_neg (not_not.mpr trivial)]

/-- Where no reason denies a read, the checks give none. -/
theorem denyReason_of_not_denied {s : State} {i : Nat} {h : GuestHdr} (passes : ∀ r, ¬Denied s i h 0 True r) :
    denyReason s i h 0 = 0 :=
  by_contra fun deny => passes _ (denied_read_iff.mpr ⟨rfl, deny⟩)

/-- A guest's read of partition memory that is not mapped (R173, R256). -/
theorem guestRead_unmapped {s : State} {i p addr len : Nat} (h : pmaMap s p addr len = none) :
    guestRead i p addr len s = ((2, []), s) := by
  unfold guestRead
  rw [h]

/-- A guest's read of a pseudo-channel that it does not reach (R180, R369). -/
theorem guestRead_unreached {s : State} {i p addr len c a : Nat} (h : pmaMap s p addr len = some (c, a))
    (cut : blockHeld s .hbm (c / 32) = true ∨ s.d2d.ihlReset = true ∧ pchHalf s c ≠ i) :
    guestRead i p addr len s = ((4, []), s) := by
  unfold guestRead
  rw [h]
  refine if_pos ?_
  rcases cut with held | ⟨reset, far⟩
  · simp [guestReaches, held]
  · simp [guestReaches, reset, far]

theorem guestSites : Claims.GuestSites := by
  intro g s fit i x p talks
  have hgt : talks ↔ guestTalks s i = true := (guestTalks_iff s i).symm
  have hng : ¬talks ↔ guestTalks s i = false := by rw [hgt, Bool.not_eq_true]
  refine ⟨fun d => ⟨exec_desc_ignored fit d, fun hlink hheld hblock => ?_⟩, ?_, ?_, ?_, ?_, ?_⟩
  · exact ⟨_, exec_desc_taken fit d hlink hheld hblock, onlyGuest_modGuest .., guest_modGuest_same ..⟩
  · intro h bs w addr denied refuses
    have refused : ∀ r, refuses r (denyGuest i r s) := fun r => denyGuest_spec i r s
    refine ⟨fun quiet => ⟨exec_mrd_silent fit h (hng.mp quiet), ?_⟩, fun ht r deny => ?_, fun ht r deny => ?_, fun ht passes => ?_,
      fun ht passes => ?_⟩
    · rw [exec_mwr fit, if_pos (hng.mp quiet)]
    · obtain ⟨rfl, nonzero⟩ := denied_read_iff.mp deny
      exact ⟨_, refused _, exec_mrd_denied fit h (hgt.mp ht) nonzero⟩
    · obtain ⟨reason, nonzero⟩ := denied_iff.mp deny
      refine ⟨_, refused r, ?_⟩
      rw [exec_mwr fit, if_neg (ne_false_of_eq_true (hgt.mp ht)), reason, if_pos nonzero]
    · have zero := denyReason_of_not_denied passes
      exact ⟨exec_mrd_waits fit h (hgt.mp ht) zero, fun rate =>
        ⟨_, rfl, exec_mrd_read fit h (hgt.mp ht) zero rate, guestRead_unmapped, fun c a => guestRead_unreached⟩⟩
    · have zero : (if ¬bs.length = 32 * h.len then 5 else denyReason s i h 1) = 0 :=
        by_contra fun deny => passes _ (denied_iff.mpr ⟨rfl, deny⟩)
      rw [exec_mwr fit, if_neg (ne_false_of_eq_true (hgt.mp ht)), zero, if_neg (by decide)]
      exact ⟨fun rate => congrArg _ (if_pos rate), fun rate => congrArg _ (if_neg rate)⟩
  · intro q hq
    rw [exec_notify fit hq, hq]
    exact ⟨fun yes => congrArg _ (if_pos ((and_congr_left' hgt).mp yes)),
      fun no => congrArg _ (if_neg (mt (and_congr_left' hgt).mpr no))⟩
  · intro h bs
    refine ⟨fun no => exec_guestCompletion_ignored fit h bs (no.imp_left hng.mp), fun ht unlocked q hq => ?_⟩
    exact ⟨_, onlyGuest_modGuest .., guest_modGuest_same .., exec_guestCompletion_taken fit (hgt.mp ht) unlocked hq⟩
  · intro tag
    exact ⟨exec_trdTimeout_none fit, fun a ha =>
      ⟨_, exec_trdTimeout_some fit ha, trdEnded_guest .., trdEnded_time .., trdEnded_nCont .., fun q => trdEnded_out tag a⟩⟩
  · intro v takes
    have hon : gstOn s v = true ↔ takes := gstOn_iff s v
    refine ⟨exec_secGstCtl_ignored fit, fun unlocked reach => ⟨gstWritten i v s, exec_secGstCtl_taken fit unlocked reach, ?_⟩⟩
    by_cases release : gstOn s v = true ∧ (guest s i).isHeld = true
    · rw [guest_gstWritten_released release]
      exact ⟨hon, rfl, rfl, rfl, fun _ _ => ⟨rfl, rfl, rfl⟩, fun no => absurd ⟨hon.mp release.1, release.2⟩ no⟩
    · rw [gstWritten_kept release, guest_gstSet]
      exact ⟨hon, rfl, rfl, rfl, fun on held => absurd ⟨hon.mpr on, held⟩ release, fun _ => ⟨onlyGuest_modGuest .., rfl, rfl⟩⟩

theorem targetWindow : Claims.TargetWindow := by
  intro s
  refine ⟨fun fit p off bs => ?_, fun ml => ?_⟩
  · intro reads
    refine ⟨fun hs => ⟨exec_targetWindowAccess_noSite fit hs, exec_targetWindowAccess_noSite fit hs⟩, fun g hs => ?_⟩
    intro x
    refine ⟨siteOf_some hs, ?_⟩
    intro size talks
    have htalks : talks ↔ guestTalks s (siteNo g) = true ∧ (part s p.val).resetting = false := by
      rw [guestTalks_iff, and_assoc, and_assoc]
    refine ⟨fun far => ⟨exec_targetWindowAccess_beyond fit hs far, exec_targetWindowAccess_beyond fit hs far⟩, fun near quiet => ?_,
      fun near ht => ?_⟩
    · have silent : guestTalks s (siteNo g) = false ∨ (part s p.val).resetting = true := by
        rw [htalks, not_and_or, Bool.not_eq_true, Bool.not_eq_false] at quiet
        exact quiet
      exact ⟨exec_targetWindowAccess_silent fit hs near silent, exec_targetWindowAccess_silent fit hs near silent⟩
    · obtain ⟨on, up⟩ := htalks.mp ht
      refine ⟨⟨_, exec_targetWindowAccess_write fit hs near on up bs⟩,
        fun full => exec_targetWindowAccess_noTag fit hs near on up (freshTrd_none full), fun k hk hfree => ?_⟩
      obtain ⟨tag, fresh, unused⟩ := freshTrd_some hk hfree
      refine ⟨_, tag, unused, exec_targetWindowAccess_read fit hs near on up fresh, ?_, _, onlyGuest_modGuest ..,
        emit_modGuest_useFree ..⟩
      rw [guest_congr (emit_sec ..), guest_modGuest_same, find_ins, if_pos rfl]
  · intro g p h bs tag v off wr c hc
    simp only [List.mem_cons, List.not_mem_nil, or_false] at hc
    rcases hc with rfl | rfl | rfl | rfl | rfl | rfl | rfl | rfl <;> exact ifFitted_absent ml _

/-- Settles O50: the guest sites by the equations of their rows, the target window likewise. -/
theorem guestPorts : Obligations.GuestPorts := ⟨guestSites, targetWindow⟩

end Sys2Proof.Machine
end

section
/-! PROOFS. Register accesses and the Toybox. -/

namespace Sys2Proof.Machine

open Sys2Proof Sys2Proof.Machine.Tables

/-! ### Port waits (R127; log entry 100) -/

/-- Nothing differs but what time adds to a wide counter before it is read: Marble state, the queues, free values. -/
def OnlyCounted (s t : State) : Prop := t = { s with mrb := t.mrb, host.queues := t.host.queues, free := t.free }

theorem OnlyCounted.refl (s : State) : OnlyCounted s s := rfl

theorem OnlyCounted.trans {s t u : State} (h : OnlyCounted s t) (k : OnlyCounted t u) : OnlyCounted s u :=
  Eq.trans k (by unfold OnlyCounted at h; rw [h])

theorem OnlyCounted.fnOn_eq {s t : State} (h : OnlyCounted s t) (f : Fn) : fnOn t f = fnOn s f := by
  rw [h]; cases f <;> rfl

theorem OnlyCounted.ident_eq {s t : State} (h : OnlyCounted s t) : t.ident = s.ident := by rw [h]

theorem OnlyCounted.accessCut_eq {s t : State} (h : OnlyCounted s t) (f : Fn) (bar2 : Bool) (o : Nat) :
    accessCut t f bar2 o = accessCut s f bar2 o := by
  rw [h]; cases f <;> rfl

/-- Waits change the conflict counters and their sums alone. -/
theorem countWaits_frame (n master k : Nat) (s : State) :
    countWaits n master k s = { s with
      mrb.conflicts := (countWaits n master k s).mrb.conflicts, mrb.clSum := (countWaits n master k s).mrb.clSum
      mrb.bagSum := (countWaits n master k s).mrb.bagSum } := by
  unfold countWaits; split <;> rfl

/-- Waits of one master at one bank leave the counters of the others. -/
theorem countWaits_conflicts_ne {n master j : Nat} (k : Nat) (s : State) (h : j ≠ 4 * n + master) :
    look (countWaits n master k s).mrb.conflicts j 0 = look s.mrb.conflicts j 0 := by
  unfold countWaits
  split
  · rfl
  · dsimp only
    exact look_modAt_ne s.mrb.conflicts 0 _ h

theorem portWaits_frame (master n : Nat) (s : State) :
    portWaits master n s = { s with
      free := s.free + 1, mrb.conflicts := (portWaits master n s).mrb.conflicts, mrb.clSum := (portWaits master n s).mrb.clSum
      mrb.bagSum := (portWaits master n s).mrb.bagSum } :=
  countWaits_frame n master _ (useFree s)

theorem portWaits_onlyCounted (master n : Nat) (s : State) : OnlyCounted s (portWaits master n s) := by
  unfold OnlyCounted; rw [portWaits_frame]

theorem forAll_portWaits_onlyCounted (master : Nat) (ks : List Nat) (s : State) :
    OnlyCounted s (forAll ks (portWaits master) s) :=
  forAll_inv (OnlyCounted s) ks _ (fun k t h => h.trans (portWaits_onlyCounted master k t)) s (.refl s)

/-! ### Counters as they are read (R65; log entry 100) -/

theorem counterNow_onlyCounted (f : Fn) (bar2 : Bool) (o : Nat) (s : State) : OnlyCounted s (counterNow f bar2 o s) := by
  unfold counterNow
  split
  · split <;> rfl
  · split
    · exact forAll_portWaits_onlyCounted ..
    · dsimp only
      split
      · exact forAll_portWaits_onlyCounted ..
      · rfl

/-- Below the conflict summaries time adds nothing to a counter of PF BAR0. -/
theorem counterNow_pf_low {o : Nat} (h : o < 0x3001000) (s : State) : counterNow .pf false o s = s := by
  have plain : bagSumAt s .pf o = none := if_neg (by omega)
  unfold counterNow
  rw [if_neg Bool.false_ne_true, plain]
  exact if_neg (by omega)

theorem exec_counterLowRead_ignored {f : Fn} {bar2 : Bool} {off : BitVec 26} {s : State}
    (h : wideAt s f bar2 off.toNat = none ∨ fnOn s f = false) : exec (.counterLowRead f bar2 off) s = .next s := by
  have e : exec (.counterLowRead f bar2 off) s = execCounterLowRead f bar2 off s := rfl
  rw [e]
  unfold execCounterLowRead
  rcases h with none | off
  · simp [none]
  · simp only [off, Bool.and_false, Bool.false_and, Bool.false_eq_true, if_false]
    cases wideAt s f bar2 _ <;> rfl

theorem exec_counterLowRead_cut {f : Fn} {bar2 : Bool} {off : BitVec 26} {s : State}
    (wide : wideAt s f bar2 off.toNat ≠ none) (on : fnOn s f = true) (cut : accessCut s f bar2 off.toNat = true) :
    exec (.counterLowRead f bar2 off) s = .next (emit (.readData f ((freeVal s).setWidth 32)) (useFree s)) := by
  obtain ⟨v, hv⟩ := Option.ne_none_iff_exists'.mp wide
  have e : exec (.counterLowRead f bar2 off) s = execCounterLowRead f bar2 off s := rfl
  rw [e]
  unfold execCounterLowRead
  simp [hv, on, cut]

/-- The state after the low word of a wide counter of value v was read: the word goes out, the high word is latched (R65). -/
def lowRead (f : Fn) (bar2 : Bool) (o v : Nat) (s : State) : State :=
  emit (.readData f (BitVec.ofNat 32 v))
    { s with ident.latches := put s.ident.latches (latchKey f bar2 (o + 4)) (BitVec.ofNat 32 (v / 2 ^ 32)) 0 }

theorem exec_counterLowRead_taken {f : Fn} {bar2 : Bool} {off : BitVec 26} {s : State} {v : Nat}
    (wide : wideAt s f bar2 off.toNat ≠ none) (on : fnOn s f = true) (reach : accessCut s f bar2 off.toNat = false)
    (hv : wideAt (counterNow f bar2 off.toNat s) f bar2 off.toNat = some v) :
    exec (.counterLowRead f bar2 off) s = .next (lowRead f bar2 off.toNat v (counterNow f bar2 off.toNat s)) := by
  have counted := counterNow_onlyCounted f bar2 off.toNat s
  have taken : ((wideAt s f bar2 off.toNat).isSome && fnOn s f && !accessCut s f bar2 off.toNat) = true := by
    simp [Option.isSome_iff_ne_none.mpr wide, on, reach]
  have e : exec (.counterLowRead f bar2 off) s = execCounterLowRead f bar2 off s := rfl
  rw [e]
  unfold execCounterLowRead
  dsimp only
  rw [if_pos taken, hv]
  dsimp only
  rw [counted.fnOn_eq, on, counted.accessCut_eq, reach]
  rfl

/-- The high word after the read of a low word is the one latched (R65). -/
theorem regRead_lowRead {f : Fn} {bar2 : Bool} {o v : Nat} {s : State}
    (narrow : wideAt (lowRead f bar2 o v s) f bar2 (o + 4) = none) (reach : accessCut s f bar2 (o + 4) = false)
    (wide : wideAt (lowRead f bar2 o v s) f bar2 o ≠ none) :
    regRead (lowRead f bar2 o v s) f bar2 (o + 4) = BitVec.ofNat 32 (v / 2 ^ 32) := by
  have reach' : accessCut (lowRead f bar2 o v s) f bar2 (o + 4) = false := by
    rw [← reach]; cases f <;> rfl
  have high : 4 ≤ o + 4 ∧ (wideAt (lowRead f bar2 o v s) f bar2 (o + 4 - 4)).isSome = true :=
    ⟨by omega, by rw [Nat.add_sub_cancel]; exact Option.isSome_iff_ne_none.mpr wide⟩
  unfold regRead
  rw [reach', narrow, if_neg Bool.false_ne_true]
  dsimp only
  rw [if_pos high]
  exact look_put_same ..

/-! ### Selections (R146, R188) -/

theorem bitsOf_19_0 (x : Nat) : bitsOf x 19 0 = x % 1048576 := by simp [bitsOf]

theorem bitsOf_23_22 (x : Nat) : bitsOf x 23 22 = x / 4194304 % 4 := rfl

theorem bitsOf_23_20 (x : Nat) : bitsOf x 23 20 = x / 1048576 % 16 := rfl

/-- A copy whose VALID bit was taken away does not show it. -/
theorem getLsbD_31_cleared (x : Word) : ((x.setWidth 31).setWidth 32 : Word).getLsbD 31 = false := by
  simp

section Selections

variable {v : Word} {s : State}

theorem exec_mrbCntSel_cut (cut : cutOff s (v.toNat % 1048576 / 524288) = true) :
    exec (.mrbCntSel v) s = .next { s with mrb.cntSel := v &&& 0x00CFFFFF, mrb.cntValid := false } := by
  rw [← bitsOf_19_0] at cut
  exact congrArg _ (if_pos cut)

theorem exec_mrbMsel_cut (cut : cutOff s (v.toNat % 1048576 / 524288) = true) :
    exec (.mrbMsel v) s = .next { s with mrb.msel := v &&& 0x000FFFFF, mrb.mstat := (s.mrb.mstat.setWidth 31).setWidth 32 } := by
  rw [← bitsOf_19_0] at cut
  exact congrArg (fun x : Word => Host.Outcome.next { s with mrb.msel := v &&& 0x000FFFFF, mrb.mstat := x }) (if_pos cut)

theorem exec_mrbOwnSel_cut (cut : cutOff s (v.toNat % 1048576 / 524288) = true) :
    exec (.mrbOwnSel v) s = .next { s with mrb.ownSel := v &&& 0x000FFFFF, mrb.own := (s.mrb.own.setWidth 31).setWidth 32 } := by
  rw [← bitsOf_19_0] at cut
  exact congrArg (fun x : Word => Host.Outcome.next { s with mrb.ownSel := v &&& 0x000FFFFF, mrb.own := x }) (if_pos cut)

variable (reach : cutOff s (v.toNat % 1048576 / 524288) = false)
include reach

/-- The copy of a conflict counter has what time added to it before the write (log entry 100). -/
theorem exec_mrbCntSel_reach :
    let n := v.toNat % 1048576
    let master := v.toNat / 4194304 % 4
    let u := portWaits master n s
    exec (.mrbCntSel v) s = .next { u with
      mrb.cntSel := v &&& 0x00CFFFFF, mrb.cntVal := look u.mrb.conflicts (4 * n + master) 0, mrb.cntValid := true } := by
  rw [← bitsOf_19_0] at reach ⊢
  exact congrArg _ (if_neg (ne_true_of_eq_false reach))

theorem exec_mrbMsel_reach :
    exec (.mrbMsel v) s = .next { s with mrb.msel := v &&& 0x000FFFFF, mrb.mstat := regMstat s (v.toNat % 1048576) } := by
  rw [← bitsOf_19_0] at reach ⊢
  exact congrArg (fun x : Word => Host.Outcome.next { s with mrb.msel := v &&& 0x000FFFFF, mrb.mstat := x })
    (if_neg (ne_true_of_eq_false reach))

theorem exec_mrbOwnSel_reach :
    exec (.mrbOwnSel v) s = .next { s with mrb.ownSel := v &&& 0x000FFFFF, mrb.own := regOwn s (v.toNat % 1048576) } := by
  rw [← bitsOf_19_0] at reach ⊢
  exact congrArg (fun x : Word => Host.Outcome.next { s with mrb.ownSel := v &&& 0x000FFFFF, mrb.own := x })
    (if_neg (ne_true_of_eq_false reach))

end Selections

/-! ### The fabric and the lanes (R282, R300, R306) -/

/-- A message to each of a list, in its order. -/
theorem forAll_emit {α : Type} (ks : List α) (o : α → Output) (s : State) :
    forAll ks (fun k => emit (o k)) s = { s with out := s.out ++ ks.map o } := by
  unfold forAll
  induction ks generalizing s with
  | nil => simp
  | cons k ks ih => rw [List.foldl_cons, ih]; simp [emit]

/-- Whether a module takes its deadline from the front module. -/
def followsFront (s : State) : Bool := s.fab.declared && !isFront s

theorem followsFront_iff (s : State) :
    followsFront s = true ↔ s.fab.declared = true ∧ ¬(s.fab.declared = true ∧ s.fab.gid = 0) := by
  unfold followsFront isFront
  cases s.fab.declared <;> simp

/-- A deadline out of range that another member sent is ignored (R282). -/
theorem exec_fabDl_range_sent {v : Word} (h : v.toNat % 8192 < 1000 ∨ 8000 < v.toNat % 8192) (s : State) :
    exec (.fabDl v true) s = .next s := congrArg _ (if_pos h)

/-- A deadline out of range that the host wrote is recorded (R282, R288). -/
theorem exec_fabDl_range {v : Word} (h : v.toNat % 8192 < 1000 ∨ 8000 < v.toNat % 8192) (s : State) :
    exec (.fabDl v false) s = .next (raiseFault 0x0504 13 0 0xFF v.toNat s) := congrArg _ (if_pos h)

section Deadline

variable {v : Word} (low : 1000 ≤ v.toNat % 8192) (high : v.toNat % 8192 ≤ 8000) {s : State}
include low high

/-- A deadline in range is ignored from the host by a member that follows another, and from a member by one that follows none. -/
theorem exec_fabDl_ignored {sent : Bool} (h : sent ≠ followsFront s) : exec (.fabDl v sent) s = .next s :=
  congrArg _ ((if_neg (by omega)).trans (if_pos h))

theorem exec_fabDl_sent (h : followsFront s = true) :
    exec (.fabDl v true) s = .next { s with fab.dl := BitVec.ofNat 13 (v.toNat % 8192) } :=
  congrArg _ ((if_neg (by omega)).trans (if_neg (not_not.mpr h.symm)))

theorem exec_fabDl_set (h : followsFront s = false) :
    exec (.fabDl v false) s = .next { s with
      fab.dl := BitVec.ofNat 13 (v.toNat % 8192)
      out := s.out ++ (otherMembers s).map (fun m => .fabDl m (BitVec.ofNat 13 (v.toNat % 8192))) } :=
  congrArg _ ((if_neg (by omega)).trans ((if_neg (not_not.mpr h.symm)).trans (forAll_emit (otherMembers s) _ _)))

end Deadline

/-- Lanes after KAL_CTL took IDLE_EN (R300). -/
theorem look_lanes_idle (m : SMap Lane) (en : Bool) (l : Nat) :
    look (if en then m else mapVals m {} (fun x => { x with idle := false })) l {}
      = if en then look m l {} else { look m l {} with idle := false } := by
  cases en
  · exact look_mapVals m ({} : Lane) ({} : Lane) (fun x => { x with idle := false }) l rfl
  · rfl

/-- INJ of a lane that is not under test, a reserved mode and a period of 0 are ignored (R306, R313). -/
theorem exec_kalPrbsInj_ignored {v : Word} {s : State}
    (h : (lane s s.fab.prbsSel.toNat).underTest = false ∨ 2 < v.toNat / 1048576 % 16
      ∨ v.toNat / 1048576 % 16 = 2 ∧ v.toNat % 1048576 = 0) : exec (.kalPrbsInj v) s = .next s := by
  rw [← bitsOf_23_20, ← bitsOf_19_0] at h
  exact congrArg _ (if_pos (h.imp_left fun idle => by rw [idle]; rfl))

/-- A PRBS engine with its INJ fields written. -/
def injFields (v : Word) (e : PrbsEng) : PrbsEng :=
  { e with injMode := BitVec.ofNat 4 (v.toNat / 1048576 % 16), injPeriod := BitVec.ofNat 20 (v.toNat % 1048576) }

/-- The state with the INJ fields of the selected lane written. -/
def injSet (v : Word) (s : State) : State :=
  { s with fab.prbs := modAt s.fab.prbs s.fab.prbsSel.toNat {} (injFields v) }

theorem look_injSet_same (v : Word) (s : State) :
    look (injSet v s).fab.prbs s.fab.prbsSel.toNat {} = injFields v (look s.fab.prbs s.fab.prbsSel.toNat {}) :=
  look_modAt_same s.fab.prbs _ _ _

theorem look_injSet_ne {k : Nat} (v : Word) (s : State) (h : k ≠ s.fab.prbsSel.toNat) :
    look (injSet v s).fab.prbs k {} = look s.fab.prbs k {} :=
  look_modAt_ne s.fab.prbs _ _ h

theorem exec_kalPrbsInj_taken {v : Word} {s : State} (tested : (lane s s.fab.prbsSel.toNat).underTest = true)
    (known : v.toNat / 1048576 % 16 ≤ 2) (period : ¬(v.toNat / 1048576 % 16 = 2 ∧ v.toNat % 1048576 = 0)) :
    exec (.kalPrbsInj v) s = .next (injSet v s) := by
  unfold injSet injFields
  rw [← bitsOf_23_20, ← bitsOf_19_0] at *
  refine congrArg _ (if_neg ?_)
  rintro (idle | reserved | zero)
  · rw [tested] at idle
    exact Bool.false_ne_true idle
  · omega
  · exact period zero

/-! ### Accesses that no block decodes (R9) -/

theorem exec_undecodedAccess_decoded {off : BitVec 26} (h : decoded off.toNat = true) (a : Access) (s : State) :
    exec (.undecodedAccess off a) s = .next s := congrArg _ (if_pos h)

theorem exec_undecodedAccess_write {off : BitVec 26} (h : decoded off.toNat = false) (s : State) :
    exec (.undecodedAccess off .write) s = .next (raiseFault 0x0101 13 0 0xFF off.toNat s) :=
  congrArg _ (if_neg (ne_true_of_eq_false h))

theorem exec_undecodedAccess_read {off : BitVec 26} (h : decoded off.toNat = false) (s : State) :
    exec (.undecodedAccess off .read) s = .next (emit (.readData .pf 0xFFFFFFFF) (raiseFault 0x0101 13 0 0xFF off.toNat s)) :=
  congrArg _ (if_neg (ne_true_of_eq_false h))

/-- A Corrected fault is counted. -/
theorem raiseFault_nCorr {code : BitVec 16} (h : faultClass code = 0) (kind index part detail : Nat) (s : State) :
    (raiseFault code kind index part detail s).flt.nCorr = s.flt.nCorr + 1 := by
  rw [(raiseFault_counts ..).1, if_pos h]

theorem registerEffects : Claims.RegisterEffects := by
  intro s gives
  refine ⟨⟨rfl, rfl, fun p => ⟨rfl, rfl⟩⟩, ?_, ?_, ?_, ?_, ?_, ?_, ?_⟩
  · intro f bar2 off
    refine ⟨exec_counterLowRead_ignored, fun wide on cut => ⟨_, exec_counterLowRead_cut wide on cut⟩, fun wide on reach => ?_⟩
    intro u
    have counted : OnlyCounted s u := counterNow_onlyCounted f bar2 off.toNat s
    refine ⟨?_, ?_, fun v hv => ⟨_, exec_counterLowRead_taken wide on reach hv, rfl, fun narrow reach' wide' => ?_, fun k hk => ?_⟩⟩
    · rw [counted]
    · rintro rfl rfl low
      exact counterNow_pf_low low s
    · exact regRead_lowRead narrow ((counted.accessCut_eq ..).trans reach') wide'
    · exact (look_put_ne _ _ _ hk).trans (by rw [counted.ident_eq])
  · intro v n cut
    refine ⟨fun lost => ⟨exec_mrbCntSel_cut lost, ?_, ?_⟩, fun reach => ⟨?_, ?_, ?_⟩⟩
    · exact ⟨_, exec_mrbMsel_cut lost, rfl, getLsbD_31_cleared _⟩
    · exact ⟨_, exec_mrbOwnSel_cut lost, rfl, getLsbD_31_cleared _⟩
    · exact ⟨exec_mrbCntSel_reach reach, portWaits_frame .., fun k hk => countWaits_conflicts_ne _ _ hk⟩
    · exact exec_mrbMsel_reach reach
    · exact ⟨_, exec_mrbOwnSel_reach reach, rfl, rfl⟩
  · intro v n follows
    have hf : followsFront s = true ↔ follows := followsFront_iff s
    refine ⟨fun range => ⟨exec_fabDl_range_sent range s, _, exec_fabDl_range range s, ?_, ?_⟩,
      fun low high => ⟨fun yes => ?_, fun no => ?_⟩⟩
    · exact raiseFault_onlyFaults (by decide) ..
    · exact raiseFault_nCorr (by decide) ..
    · have on := hf.mpr yes
      exact ⟨exec_fabDl_sent low high on, exec_fabDl_ignored low high (by rw [on]; decide)⟩
    · have off : followsFront s = false := Bool.eq_false_iff.mpr (mt hf.mp no)
      exact ⟨exec_fabDl_ignored low high (by rw [off]; decide), _, exec_fabDl_set low high off, rfl, rfl⟩
  · exact fun ml v => ifFitted_absent ml _
  · intro fit v
    exact ⟨_, ifFitted_fitted fit _, rfl, rfl, fun l => look_lanes_idle s.fab.lanes _ l⟩
  · intro v l mode period
    exact ⟨exec_kalPrbsInj_ignored, fun tested known period' =>
      ⟨_, exec_kalPrbsInj_taken tested known period', rfl, look_injSet_same v s, fun k => look_injSet_ne v s⟩⟩
  · intro off
    refine ⟨fun yes a => exec_undecodedAccess_decoded yes a s,
      fun no => ⟨_, ?_, ?_, exec_undecodedAccess_write no s, exec_undecodedAccess_read no s⟩⟩
    · exact raiseFault_onlyFaults (by decide) ..
    · exact raiseFault_nCorr (by decide) ..

/-! ### Register writes (R7, R13; log entry 105) -/

/-- A function that is off writes nothing. -/
theorem exec_registerWrite_off {f : Fn} {s : State} (off : fnOn s f = false) (o : BitVec 26) (v : Word) :
    exec (.registerWrite f o v) s = .next s :=
  congrArg _ (if_pos (by rw [off]; rfl))

theorem exec_registerWrite_cut {f : Fn} {s : State} {o : BitVec 26} (cut : cutOff s (accessHalf s f o.toNat) = true) (v : Word) :
    exec (.registerWrite f o v) s = .next s :=
  congrArg _ (if_pos (by simp [accessCut, cut]))

theorem exec_registerWrite_pf {s : State} {o : BitVec 26} (reach : cutOff s (pfHalf o.toNat) = false) (v : Word) :
    exec (.registerWrite .pf o v) s = .next (pfWrite o.toNat v s) :=
  congrArg _ (if_neg (by simp [accessCut, accessHalf, reach, fnOn]))

theorem exec_registerWrite_vf {s : State} {p : Part} {o : BitVec 26} (on : fnOn s (.vf p) = true)
    (reach : cutOff s (accessHalf s (.vf p) o.toNat) = false) (v : Word) :
    exec (.registerWrite (.vf p) o v) s = .next (vfWrite p o.toNat v s) :=
  congrArg _ (if_neg (by simp [accessCut, reach, on]))

/-- The East half is never cut off (R13). -/
@[simp] theorem cutOff_east (s : State) : cutOff s 0 = false := by simp [cutOff]

/-! ### Command windows (R219, R221) -/

/-- The offset of a function's command window in its BAR0 (R219). -/
def winBase : Fn → Nat
  | .pf => 0x100000
  | .vf _ => 0x4000

theorem pfWrite_window {o : Nat} (ho : o < 0x1000) (go : o ≠ 0x0C) (v : Word) (s : State) :
    pfWrite (0x100000 + o) v s = windowWrite .pf o v s := by
  have listed : decoded (0x100000 + o) = true := by
    unfold decoded
    rw [Bool.or_eq_true]
    exact .inr (decide_eq_true (by omega))
  unfold pfWrite
  rw [if_neg (by rw [listed]; decide), if_neg (by omega), if_pos (by omega), Nat.add_sub_cancel_left]

theorem vfWrite_window {o : Nat} (ho : o < 0x1000) (go : o ≠ 0x0C) (p : Part) (v : Word) (s : State) :
    vfWrite p (0x4000 + o) v s = windowWrite (.vf p) o v s := by
  unfold vfWrite
  rw [if_pos (by omega), Nat.add_sub_cancel_left]

/-- A write to a register of a command window beside CMD_GO. -/
theorem exec_registerWrite_window {w : Fn} {s : State} (on : fnOn s w = true) {o : Nat} (ho : o < 0x1000) (go : o ≠ 0x0C) (v : Word) :
    exec (.registerWrite w (BitVec.ofNat 26 (winBase w + o)) v) s = .next (windowWrite w o v s) := by
  cases w with
  | pf =>
    have at' : (BitVec.ofNat 26 (winBase .pf + o)).toNat = 0x100000 + o := by
      simp only [winBase, BitVec.toNat_ofNat]; omega
    have east : pfHalf (0x100000 + o) = 0 := if_neg (by omega)
    rw [exec_registerWrite_pf (by rw [at', east]; exact cutOff_east s), at', pfWrite_window ho go]
  | vf p =>
    have at' : (BitVec.ofNat 26 (winBase (.vf p) + o)).toNat = 0x4000 + o := by
      simp only [winBase, BitVec.toNat_ofNat]; omega
    have east : accessHalf s (.vf p) (0x4000 + o) = 0 := if_neg (by omega)
    rw [exec_registerWrite_vf on (by rw [at', east]; exact cutOff_east s), at', vfWrite_window ho go]

theorem winLocked_iff (s : State) (w : Fn) : winLocked s w = true ↔ (window s w).status = 1 ∨ (fnCfg s w).inReset = true := by
  simp [winLocked]

/-- A write to a locked window is counted and changes nothing else of it (R221). -/
theorem window_windowWrite_locked {s : State} {w : Fn} (locked : winLocked s w = true) (o : Nat) (v : Word) :
    window (windowWrite w o v s) w = { window s w with ignored := (window s w).ignored + 1 } := by
  unfold windowWrite
  rw [if_pos locked]
  exact window_modWindow_same ..

/-- What a write leaves in a window that takes it (R219). -/
def winStored (o : Nat) (v : Word) (x : Window) : Window :=
  if o = 0x00 then { x with opcode := v.setWidth 16, flags := v.extractLsb' 16 8 }
  else if o = 0x04 then { x with plen := v.setWidth 12 }
  else if o = 0x08 then { x with tag := v }
  else if 0x40 ≤ o ∧ o < 0x840 ∧ o % 4 = 0 then { x with params := paramsSet x.params (o - 0x40) v }
  else x

theorem window_windowWrite_stored {s : State} {w : Fn} (unlocked : winLocked s w = false) (o : Nat) (v : Word) :
    window (windowWrite w o v s) w = winStored o v (window s w) := by
  unfold windowWrite
  rw [if_neg (ne_true_of_eq_false unlocked)]
  exact window_modWindow_same ..

theorem winStored_params {o : Nat} (low : 0x40 ≤ o) (high : o < 0x840) (aligned : o % 4 = 0) (v : Word) (x : Window) :
    winStored o v x = { x with params := paramsSet x.params (o - 0x40) v } := by
  unfold winStored
  rw [if_neg (by omega), if_neg (by omega), if_neg (by omega), if_pos ⟨low, high, aligned⟩]

@[simp] theorem length_leBytes (n x : Nat) : (leBytes n x).length = n := by
  induction n generalizing x with
  | zero => rfl
  | succ n ih => rw [leBytes, List.length_cons, ih]

/-- The bytes of the little-endian form of a number (R8). -/
theorem getD_leBytes (n x j : Nat) : (leBytes n x).getD j 0 = if j < n then numByte x j else 0 := by
  induction n generalizing x j with
  | zero => rfl
  | succ n ih =>
    cases j with
    | zero => simp [leBytes, numByte]
    | succ j =>
      have shift : numByte (x / 256) j = numByte x (j + 1) := by
        unfold numByte
        rw [Nat.div_div_eq_div_mul, pow_succ']
      rw [leBytes, List.getD_cons_succ, ih, shift]
      simp

/-- Bytes beyond the end of a list read as 0. -/
theorem getD_append_zeros (ps : List Byte) (n k : Nat) : (ps ++ List.replicate n 0).getD k 0 = ps.getD k 0 := by
  by_cases h : k < ps.length
  · exact List.getD_append _ _ _ _ h
  · rw [List.getD_append_right _ _ _ _ (by omega), List.getD_eq_default ps _ (by omega)]
    rw [List.getD_eq_getElem?_getD, List.getElem?_replicate]
    split <;> rfl

/-- The parameter bytes of a window after a dword was written at byte i: its four bytes, and the others as they were (R219). -/
theorem getD_paramsSet (ps : List Byte) (i k : Nat) (v : Word) :
    (paramsSet ps i v).getD k 0 = if i ≤ k ∧ k < i + 4 then numByte v.toNat (k - i) else ps.getD k 0 := by
  unfold paramsSet
  rw [← getD_append_zeros ps (i + 4 - ps.length)]
  have long : i + 4 ≤ (ps ++ List.replicate (i + 4 - ps.length) 0).length := by simp; omega
  generalize ps ++ List.replicate (i + 4 - ps.length) 0 = qs at long
  have head : (qs.take i).length = i := by simp; omega
  dsimp only
  rcases Nat.lt_or_ge k i with before | after
  · rw [if_neg (by omega), List.append_assoc, List.getD_append _ _ _ _ (by omega)]
    simp [before]
  · by_cases mid : k < i + 4
    · rw [if_pos ⟨after, mid⟩, List.getD_append _ _ _ _ (by simp; omega), List.getD_append_right _ _ _ _ (by omega), head,
        getD_leBytes, if_pos (by omega)]
    · rw [if_neg (by omega), List.getD_append_right _ _ _ _ (by simp; omega)]
      have rest : i + 4 + (k - (i + 4)) = k := by omega
      simp [head, rest]

/-! ### Firewall windows (R259) -/

theorem firewallWrite_locked {i : Nat} {s : State} (on : (guest s i).en = true) (o : Nat) (v : Word) : firewallWrite i o v s = s :=
  if_pos (.inl on)

theorem firewallWrite_window {i k j : Nat} {s : State} (off : (guest s i).en = false) (fit : s.ident.ml = false) (hk : k < 8)
    (hj : j < 4) (v : Word) :
    firewallWrite i (0x40 + 16 * k + 4 * j) v s
      = modGuest i (fun x => { x with wins := modAt x.wins k {} (fun w => guestWinSet w j v) }) s := by
  have window : (0x40 + 16 * k + 4 * j - 0x40) / 16 = k := by omega
  have word : (0x40 + 16 * k + 4 * j) / 4 % 4 = j := by omega
  unfold firewallWrite
  dsimp only
  rw [if_neg (by simp [off, fit]; omega), if_neg (by omega), if_pos (by omega), window, word]

/-- A write to word j of window k of site i's firewall. -/
theorem pfWrite_firewall {i k j : Nat} (hi : i < 2) (hk : k < 8) (hj : j < 4) (v : Word) (s : State) :
    pfWrite (0x501040 + 1024 * i + 16 * k + 4 * j) v s = firewallWrite i (0x40 + 16 * k + 4 * j) v s := by
  have listed : decoded (0x501040 + 1024 * i + 16 * k + 4 * j) = true := by
    unfold decoded
    rw [Bool.or_eq_true]
    exact .inr (decide_eq_true (by omega))
  have site : (0x501040 + 1024 * i + 16 * k + 4 * j - 0x501000) / 0x400 = i := by omega
  have word : (0x501040 + 1024 * i + 16 * k + 4 * j) % 0x400 = 0x40 + 16 * k + 4 * j := by omega
  unfold pfWrite
  rw [if_neg (by rw [listed]; decide), if_neg (by omega), if_neg (by omega), if_pos (by omega), site, word]

/-- The half that a site's firewall lies in. -/
theorem pfHalf_firewall {i k j : Nat} (hi : i < 2) (hk : k < 8) (hj : j < 4) :
    pfHalf (0x501040 + 1024 * i + 16 * k + 4 * j) = i := by
  unfold pfHalf
  split <;> omega

/-- The state with word j of window k of site i's firewall written. -/
def firewallSet (i k j : Nat) (v : Word) (s : State) : State :=
  modGuest i (fun x => { x with wins := modAt x.wins k {} (fun w => guestWinSet w j v) }) s

theorem guest_firewallSet (i k j : Nat) (v : Word) (s : State) :
    guest (firewallSet i k j v s) i
      = { guest s i with wins := modAt (guest s i).wins k {} (fun w => guestWinSet w j v) } :=
  guest_modGuest_same ..

/-- The offset in PF BAR0 of word j of window k of site i's firewall (R259). -/
def firewallOffset (i k j : Nat) : BitVec 26 := BitVec.ofNat 26 (0x501040 + 1024 * i + 16 * k + 4 * j)

theorem toNat_firewallOffset {i k j : Nat} (hi : i < 2) (hk : k < 8) (hj : j < 4) :
    (firewallOffset i k j).toNat = 0x501040 + 1024 * i + 16 * k + 4 * j := by
  simp only [firewallOffset, BitVec.toNat_ofNat]
  omega

section Firewall

variable {i k j : Nat} (hi : i < 2) (hk : k < 8) (hj : j < 4) {s : State}
include hi hk hj

/-- A firewall's window takes no write while EN is 1, nor where it cannot be reached (R13, R259). -/
theorem exec_registerWrite_firewall_ignored (h : (guest s i).en = true ∨ cutOff s i = true) (v : Word) :
    exec (.registerWrite .pf (firewallOffset i k j) v) s = .next s := by
  have at' := toNat_firewallOffset hi hk hj
  have half := pfHalf_firewall hi hk hj
  cases cut : cutOff s i with
  | true => exact exec_registerWrite_cut (by rw [accessHalf, at', half]; exact cut) v
  | false =>
    have on := h.resolve_right (ne_true_of_eq_false cut)
    rw [exec_registerWrite_pf (by rw [at', half]; exact cut), at', pfWrite_firewall hi hk hj, firewallWrite_locked on]

theorem exec_registerWrite_firewall_taken (fit : s.ident.ml = false) (off : (guest s i).en = false) (reach : cutOff s i = false)
    (v : Word) : exec (.registerWrite .pf (firewallOffset i k j) v) s = .next (firewallSet i k j v s) := by
  have at' := toNat_firewallOffset hi hk hj
  have half := pfHalf_firewall hi hk hj
  rw [exec_registerWrite_pf (by rw [at', half]; exact reach), at', pfWrite_firewall hi hk hj, firewallWrite_window off fit hk hj]
  rfl

end Firewall

/-! ### The tested lane's number (R313) -/

theorem exec_registerWrite_prbsSel (v : Word) (s : State) :
    exec (.registerWrite .pf 0x2012010 v) s = .next { s with fab.prbsSel := v.setWidth 10 } :=
  exec_registerWrite_pf (o := 0x2012010) (cutOff_east s) v

/-! ### The Toybox (R373) -/

/-- The state after the two dwords at offset o of the Toybox went out. -/
def toyboxGiven (o : Nat) (s : State) : State :=
  useFrees 65536 (emit (.readData .pf (toyboxWord s (o + 4))) (emit (.readData .pf (toyboxWord s o)) s))

theorem exec_toyboxWordRead_clean (i : Fin 8192) (s : State) :
    exec (.toyboxWordRead i .clean) s = .next (toyboxGiven (8 * i.val) s) := rfl

theorem exec_toyboxWordRead_corrected (i : Fin 8192) (s : State) :
    exec (.toyboxWordRead i .corrected) s = .next (toyboxGiven (8 * i.val)
      { s with rst.ecc := s.rst.ecc.extractLsb' 16 16 ++ satInc (s.rst.ecc.setWidth 16) }) := rfl

/-- A Toybox word with an uncorrectable error: two free dwords go out, the count advances, a fault record that the word lies in loses
its code, and a Corrected fault is raised (R373, R382; log entry 72). -/
theorem exec_toyboxWordRead_uncorrectable (i : Fin 8192) (s : State) :
    ∃ u, exec (.toyboxWordRead i .uncorrectable) s = .next (raiseFault 0x0106 13 0 0xFF (8 * i.val) u)
      ∧ u.rst = { s.rst with ecc := satInc (s.rst.ecc.extractLsb' 16 16) ++ s.rst.ecc.setWidth 16 }
      ∧ u.flt.nCorr = s.flt.nCorr := by
  refine ⟨_, rfl, ?_⟩
  split <;> exact ⟨rfl, rfl⟩

theorem registerWritesAndToybox : Claims.RegisterWritesAndToybox := by
  intro s
  refine ⟨fun f off v no => exec_registerWrite_off no off v, ?_, ?_, ?_, ?_⟩
  · intro w o v on base wr x busy
    have hb : base = winBase w := by cases w <;> rfl
    have hw : ∀ o < 0x1000, o ≠ 0x0C → exec (.registerWrite w (BitVec.ofNat 26 (base + o)) v) s = .next (windowWrite w o v s) :=
      fun o ho go => hb ▸ exec_registerWrite_window on ho go v
    have hbusy : winLocked s w = true ↔ busy := winLocked_iff s w
    refine ⟨fun ho go yes => ⟨_, hw o ho go, window_windowWrite_locked (hbusy.mpr yes) o v⟩, fun no => ?_⟩
    have stored := window_windowWrite_stored (Bool.eq_false_iff.mpr (mt hbusy.mp no))
    refine ⟨?_, ?_, ?_, fun low high aligned => ⟨_, hw o (by omega) (by omega), ?_⟩⟩
    · rintro rfl
      exact ⟨_, hw 0 (by omega) (by omega), stored 0 v⟩
    · rintro rfl
      exact ⟨_, hw 4 (by omega) (by omega), stored 4 v⟩
    · rintro rfl
      exact ⟨_, hw 8 (by omega) (by omega), stored 8 v⟩
    · rw [stored, winStored_params low high aligned]
      refine ⟨fun k => (getD_paramsSet ..).trans (if_congr ?_ rfl rfl), rfl⟩
      omega
  · intro fit g v k j x wr y
    refine ⟨fun no => exec_registerWrite_firewall_ignored g.isLt k.isLt j.isLt no v, fun off reach =>
      ⟨_, exec_registerWrite_firewall_taken g.isLt k.isLt j.isLt fit off reach v, onlyGuest_modGuest .., ?_⟩⟩
    rw [guest_firewallSet]
    refine ⟨rfl, fun i hi => look_modAt_ne x.wins {} (fun w => guestWinSet w j.val v) hi, ?_⟩
    have word : look (modAt x.wins k.val {} (fun w => guestWinSet w j.val v)) k.val {} = guestWinSet y j.val v :=
      look_modAt_same x.wins k.val {} _
    intro y'
    rw [show y' = _ from word]
    exact ⟨fun h => by rw [h]; rfl, fun h => by rw [h]; rfl, fun h => by rw [h]; rfl, fun h => by rw [h]; rfl⟩
  · exact fun v => exec_registerWrite_prbsSel v s
  · intro i o
    refine ⟨⟨_, exec_toyboxWordRead_clean i s, rfl, ?_⟩, ⟨_, exec_toyboxWordRead_corrected i s, ?_, ?_, rfl, rfl⟩, ?_⟩
    · simp [toyboxGiven, useFrees, emit, o]
    · exact BitVec.setWidth_append_eq_right
    · exact BitVec.extractLsb'_append_eq_left
    · obtain ⟨u, he, hrst, hcount⟩ := exec_toyboxWordRead_uncorrectable i s
      have kept : (raiseFault 0x0106 13 0 0xFF (8 * i.val) u).rst = u.rst := by
        rw [raiseFault_onlyFaults (by decide) ..]
      refine ⟨_, he, ?_, ?_, ?_, ?_⟩
      · rw [kept, hrst]
        exact BitVec.extractLsb'_append_eq_left
      · rw [kept, hrst]
        exact BitVec.setWidth_append_eq_right
      · rw [raiseFault_nCorr (by decide), hcount]
      · rw [kept, hrst]

/-- Settles O51: the registers with an effect, and the plain writes with the Toybox, by the equations of their rows. -/
theorem registerAccesses : Obligations.RegisterAccesses := ⟨registerEffects, registerWritesAndToybox⟩

end Sys2Proof.Machine
end

section
/-! PROOFS. The step on an empty queue: one auxiliary clock cycle. -/

namespace Sys2Proof.Machine

open Sys2Proof

/-! ### The due reset and the idle cycle (R20, R228) -/

/-- Where no reset is due, none acts (R228). -/
@[simp] theorem dueReset_of_none {s : State} (none_due : s.rst.resetDue = none) : dueReset s = s := by
  rw [dueReset, none_due]

/-- With no reset due, an auxiliary clock cycle advances module time and changes nothing else (R20). -/
theorem idleTick_of_none {s : State} (none_due : s.rst.resetDue = none) :
    idleTick s = { s with ident.aux := s.ident.aux + 1 } :=
  dueReset_of_none (s := { s with ident.aux := s.ident.aux + 1 }) none_due

/-- With no command waiting, the step is the idle cycle (log entry 5). -/
theorem step_of_pending_nil {s : State} (empty : s.pending = []) : step s = .next (idleTick s) := by
  rw [step, empty]

/-- Settles O56: the step is the idle cycle, in which no reset acts. -/
theorem emptyQueueIdles : Obligations.EmptyQueueIdles := by
  intro s empty none_due
  rw [step_of_pending_nil empty, idleTick_of_none none_due]

end Sys2Proof.Machine
end

section
/-! PROOFS. What the updates of a Zoetrope and of its streams do, in the terms of the statements. -/

namespace Sys2Proof.Machine

open Sys2Proof Sys2Proof.Machine.Tables

/-! ### Maps whose keys have defaults of their own -/

/-- An entry put in is found where it is not the default; no other key changes. -/
theorem find_put {α : Type} [DecidableEq α] (m : SMap α) (k j : Nat) (v d : α) :
    find (put m k v d) j = if j = k then (if v = d then none else some v) else find m j := by
  unfold put
  rw [find_append, find_append]
  rcases Nat.lt_trichotomy j k with lt | rfl | gt
  · rw [find_filter_pos m (fun i => decide (i < k)) j (by simpa using lt),
      find_filter_neg m (fun i => decide (k < i)) j (by simp; omega), if_neg lt.ne]
    split <;> simp [find, lt.ne']
  · rw [find_filter_neg m (fun i => decide (i < j)) j (by simp), find_filter_neg m (fun i => decide (j < i)) j (by simp), if_pos rfl]
    split <;> simp [find]
  · rw [find_filter_neg m (fun i => decide (i < k)) j (by simp; omega),
      find_filter_pos m (fun i => decide (k < i)) j (by simpa using gt), if_neg gt.ne']
    split <;> simp [find, gt.ne]

/-- The element that was set. -/
@[simp] theorem look_setElem_same (z e : Nat) (v : TrimElem) (t : ZoeTrim) :
    look (setElem z e v t).elems e (presetElem z e) = v := look_put_same _ _ _ _

/-- Every other element reads as before. -/
theorem look_setElem_ne {z e k : Nat} (v : TrimElem) (t : ZoeTrim) (h : k ≠ e) :
    look (setElem z e v t).elems k (presetElem z k) = look t.elems k (presetElem z k) := by
  rw [look_eq_find, look_eq_find, setElem, find_put, if_neg h]

/-! ### Zoetropes of a state -/

/-- A change of Zoetrope z changes it alone. -/
theorem onlyZoe_modZoe (z : Nat) (f : Zoe → Zoe) (s : State) : OnlyZoe z s (modZoe z f s) :=
  ⟨rfl, fun _ h => zoe_modZoe_ne f s h⟩

theorem Tables.OnlyZoe.refl (z : Nat) (s : State) : OnlyZoe z s s := ⟨rfl, fun _ _ => rfl⟩

theorem Tables.OnlyZoe.trans {z : Nat} {s t u : State} (h : OnlyZoe z s t) (k : OnlyZoe z t u) : OnlyZoe z s u := by
  obtain ⟨ht, hz⟩ := h
  obtain ⟨hu, kz⟩ := k
  exact ⟨hu.trans (by rw [ht]), fun i hi => (kz i hi).trans (hz i hi)⟩

theorem Tables.OnlyZoe.time_eq {z : Nat} {s t : State} (h : OnlyZoe z s t) : timeNs t = timeNs s := by
  obtain ⟨ht, _⟩ := h
  rw [ht]; rfl

theorem Tables.OnlyZoe.at {z : Nat} {s t : State} (h : OnlyZoe z s t) : OnlyZoeAt z s t := by
  obtain ⟨ht, hz⟩ := h
  exact ⟨by rw [ht], by rw [ht], hz⟩

theorem Tables.OnlyZoeAt.trans {z : Nat} {s t u : State} (h : OnlyZoeAt z s t) (k : OnlyZoeAt z t u) : OnlyZoeAt z s u := by
  obtain ⟨ht, mono, hz⟩ := h
  obtain ⟨hu, mono', kz⟩ := k
  exact ⟨hu.trans (by rw [ht]), mono.trans mono', fun i hi => (kz i hi).trans (hz i hi)⟩

@[simp] theorem zoe_advanceTo (due : Nat) (s : State) (z : Nat) : zoe (advanceTo due s) z = zoe s z := rfl
@[simp] theorem zoe_advanceSym (k : Nat) (s : State) (z : Nat) : zoe (advanceSym k s) z = zoe s z := rfl
@[simp] theorem zoe_useFrees (n : Nat) (s : State) (z : Nat) : zoe (useFrees n s) z = zoe s z := rfl
@[simp] theorem zoe_useFree (s : State) (z : Nat) : zoe (useFree s) z = zoe s z := rfl
@[simp] theorem timeNs_modZoe (z : Nat) (f : Zoe → Zoe) (s : State) : timeNs (modZoe z f s) = timeNs s := rfl

/-- A wait lets time pass and does nothing else. -/
theorem onlyZoeAt_advanceTo (z due : Nat) (s : State) : OnlyZoeAt z s (advanceTo due s) :=
  ⟨rfl, Nat.le_max_left .., fun _ _ => rfl⟩

theorem onlyZoeAt_advanceSym (z k : Nat) (s : State) : OnlyZoeAt z s (advanceSym k s) := onlyZoeAt_advanceTo ..

/-- Time brought up to a symbol has reached it (R37). -/
theorem advanceSym_time (k : Nat) (s : State) : k ≤ 16 * timeNs (advanceSym k s) := by
  have := advanceTo_time ((k + 15) / 16) s
  unfold advanceSym
  omega

/-- A fault leaves the Zoetropes. -/
@[simp] theorem zoe_raiseFault (code : BitVec 16) (a b c d : Nat) (s : State) (z : Nat) : zoe (raiseFault code a b c d s) z = zoe s z := by
  unfold zoe; rw [raiseFault_zoes]

/-- A Contained fault counts as one. -/
theorem raiseFault_nCont {code : BitVec 16} (h : faultClass code = 1) (a b c d : Nat) (s : State) :
    (raiseFault code a b c d s).flt.nCont = s.flt.nCont + 1 := by
  rw [(raiseFault_counts code a b c d s).2.1, if_pos h]

/-! ### Streams of a Zoetrope -/

theorem streamNo_eq (q : Stream) : streamNo q = 0 ∨ streamNo q = 1 := by cases q <;> simp [streamNo]

@[simp] theorem stream_onStream_same (q : Nat) (f : StreamSt → StreamSt) (x : Zoe) : stream (onStream q f x) q = f (stream x q) := by
  unfold stream onStream; split <;> rfl

/-- A change of one stream leaves the other. -/
theorem otherStream_onStream (q : Nat) (f : StreamSt → StreamSt) (x : Zoe) : OtherStream q x (onStream q f x) := by
  unfold OtherStream onStream; split <;> rfl

theorem Tables.OtherStream.refl (q : Nat) (x : Zoe) : OtherStream q x x := by unfold OtherStream; split <;> rfl

theorem Tables.OtherStream.trans {q : Nat} {x y w : Zoe} (h : OtherStream q x y) (k : OtherStream q y w) : OtherStream q x w := by
  unfold OtherStream at *
  split <;> simp_all

/-- A Zoetrope with a stream changed is otherwise as it was. -/
theorem onStream_rest (q : Nat) (f : StreamSt → StreamSt) (x : Zoe) :
    onStream q f x = { x with st0 := (onStream q f x).st0, st1 := (onStream q f x).st1 } := by
  unfold onStream; split <;> rfl

end Sys2Proof.Machine
end

section
/-! PROOFS. Modulator codes, the cells' values, and the error estimate. -/

namespace Sys2Proof.Machine

open Sys2Proof Sys2Proof.Machine.Tables

/-! ### Rounding (R45, R55) -/

/-- A value shifted right is a nearest integer to its quotient, the even one of two (R55). -/
theorem rneShift_spec (d : Int) (k : Nat) :
    (2 * (rneShift d k * 2 ^ k - d)).natAbs ≤ 2 ^ k
      ∧ ((2 * (rneShift d k * 2 ^ k - d)).natAbs = 2 ^ k → rneShift d k % 2 = 0) := by
  have pos : (0 : Int) < 2 ^ k := by positivity
  have split := Int.mul_ediv_add_emod d (2 ^ k)
  have low := Int.emod_nonneg d pos.ne'
  have high := Int.emod_lt_of_pos d pos
  have cast : ((2 ^ k : Nat) : Int) = 2 ^ k := by simp
  unfold rneShift
  dsimp only
  generalize d / 2 ^ k = q at *
  generalize d % 2 ^ k = r at *
  have here : q * 2 ^ k - d = -r := by linarith
  have next : (q + 1) * 2 ^ k - d = 2 ^ k - r := by linarith
  split
  · rw [here]; omega
  · split
    · rw [next]; omega
    · split
      · rw [here]; omega
      · rw [next]; omega

/-- A clamp to a symmetric range lies within it. -/
theorem clampInt_mem {m : Int} (hm : 0 ≤ m) (x : Int) : -m ≤ clampInt (-m) m x ∧ clampInt (-m) m x ≤ m := by
  unfold clampInt; omega

/-- A clamp leaves what the range holds. -/
theorem clampInt_of_natAbs_le {m x : Int} (h : (x.natAbs : Int) ≤ m) : clampInt (-m) m x = x := by
  unfold clampInt; omega

/-- The greatest code of a width is not negative. -/
theorem maxCode_nonneg (b : Nat) : (0 : Int) ≤ 2 ^ (b - 1) - 1 := by
  have : (0 : Int) < 2 ^ (b - 1) := by positivity
  omega

/-! ### Feeders (R42, R43, R45) -/

/-- Every conversion clamps K values, whatever the format, to the symmetric range of the width, and marks those that lie outside. -/
theorem convertRun_clamps (f b K : Nat) (bs : List Byte) :
    ∃ xs : List Int, xs.length = K ∧ (convertRun f b K bs).codes = xs.map (clampInt (-(2 ^ (b - 1) - 1)) (2 ^ (b - 1) - 1))
      ∧ (convertRun f b K bs).clamped = xs.map (fun x => decide (x < -(2 ^ (b - 1) - 1 : Int) ∨ (2 ^ (b - 1) - 1 : Int) < x)) := by
  unfold convertRun
  dsimp only
  split
  · exact ⟨_, by simp, rfl, rfl⟩
  · exact ⟨_, by simp, rfl, rfl⟩

/-- A Q format's element is its bits as a two's-complement number, scaled (R43). -/
theorem runElem_q {f : Nat} (hf : f ≤ 3) (bs : List Byte) (i : Nat) :
    runElem f bs i / 1024
      = (BitVec.ofNat (fmtBits f) (fieldAt bs (fmtBits f * i / 8) 2 / 2 ^ (fmtBits f * i % 8))).toInt := by
  have raw (w x : Nat) : sext w (x % 2 ^ w) * 1024 / 1024 = (BitVec.ofNat w x).toInt := by
    rw [Int.mul_ediv_cancel _ (by decide), sext, show BitVec.ofNat w (x % 2 ^ w) = BitVec.ofNat w x from BitVec.eq_of_toNat_eq (by simp)]
  unfold runElem
  interval_cases f <;> exact raw _ _

/-- Code and clamp mark of each element of a Q format (R45). -/
theorem convertRun_q {f b K i : Nat} {bs : List Byte} (hf : f ≤ 3) (hi : i < K) :
    (convertRun f b K bs).codes[i]? = some (clampInt (-(2 ^ (b - 1) - 1)) (2 ^ (b - 1) - 1) (runElem f bs i / 1024))
      ∧ (convertRun f b K bs).clamped[i]?
        = some (decide (runElem f bs i / 1024 < -(2 ^ (b - 1) - 1 : Int) ∨ (2 ^ (b - 1) - 1 : Int) < runElem f bs i / 1024)) := by
  have q : fmtMx f = false := by simp [fmtMx]; omega
  simp [convertRun, q, hi]

theorem feederCodes : Claims.FeederCodes := by
  intro f b K bs _
  obtain ⟨xs, len, codes, clamped⟩ := convertRun_clamps f b K bs
  refine ⟨by rw [codes, List.length_map, len], by rw [clamped, List.length_map, len], ?_, ?_⟩
  · intro c hc
    rw [codes] at hc
    obtain ⟨x, _, rfl⟩ := List.mem_map.mp hc
    exact clampInt_mem (maxCode_nonneg b) x
  · intro hf i hi e
    obtain ⟨code, mark⟩ := convertRun_q (b := b) (bs := bs) hf hi
    rw [runElem_q hf] at code mark
    change _ = some (clampInt _ _ e) at code
    change _ = some (decide (e < _ ∨ _ < e)) at mark
    constructor
    · intro small
      have small' : (e.natAbs : Int) ≤ 2 ^ (b - 1) - 1 := by
        have : ((2 ^ (b - 1) : Nat) : Int) = 2 ^ (b - 1) := by simp
        have : 0 < 2 ^ (b - 1) := by positivity
        omega
      exact ⟨code.trans (by rw [clampInt_of_natAbs_le small']), mark.trans (by congr 1; rw [decide_eq_false_iff_not]; omega)⟩
    · intro large
      exact mark.trans (by congr 1; rw [decide_eq_true_eq]; omega)

/-! ### Cells (R53, R55) -/

theorem cellValues : Claims.CellValues := fun fs _ d _ =>
  ⟨rneShift d (fs - 9), (rneShift_spec d (fs - 9)).1, (rneShift_spec d (fs - 9)).2, rfl⟩

/-! ### The error estimate (R56) -/

/-- Of a test that holds up to some number and no further, the count below N gives that number. -/
theorem countP_range_downward {p : Nat → Bool} (down : ∀ k, p (k + 1) = true → p k = true) (N : Nat) :
    (∀ k < (List.range N).countP p, p k = true) ∧ ((List.range N).countP p < N → p ((List.range N).countP p) = false) := by
  induction N with
  | zero => simp
  | succ N ih =>
    obtain ⟨below, stop⟩ := ih
    have le : (List.range N).countP p ≤ N := by simpa using List.countP_le_length (p := p) (l := List.range N)
    have reach : ∀ n k, p (k + n) = true → p k = true := by
      intro n
      induction n with
      | zero => exact fun _ h => h
      | succ n ih => exact fun k h => ih k (down (k + n) h)
    rw [List.range_succ, List.countP_append, List.countP_singleton]
    cases hN : p N with
    | true =>
      have full : (List.range N).countP p = N := by
        by_contra short
        have lt := Nat.lt_of_le_of_ne le short
        have := reach (N - (List.range N).countP p) _ (by rwa [Nat.add_sub_cancel' le])
        rw [stop lt] at this
        cases this
      simp only [full, if_true]
      exact ⟨fun k hk => reach (N - k) k (by rwa [Nat.add_sub_cancel' (by omega)]), by omega⟩
    | false =>
      refine ⟨below, fun _ => ?_⟩
      rcases Nat.lt_or_eq_of_le le with lt | eq
      · exact stop lt
      · exact (congrArg p eq).trans hN

/-- Whether the estimate of n squared differences with sum t lies above k + 1/2, or at it where k is odd (R56). -/
def weeAbove (n t k : Nat) : Bool :=
  decide ((2 * k + 1) ^ 2 * n < 256 * t) || (decide ((2 * k + 1) ^ 2 * n = 256 * t) && decide (k % 2 = 1))

theorem weeOf_eq {es : List Nat} (h : es ≠ []) :
    weeOf es = BitVec.ofNat 8 ((List.range 254).countP (weeAbove es.length es.sum)) := by
  unfold weeOf
  dsimp only
  rw [if_neg (by simpa using h), List.sum_eq_foldl]
  rfl

/-- An estimate above a higher bound lies above every lower one. -/
theorem weeAbove_down {n : Nat} (hn : 0 < n) (t k : Nat) (h : weeAbove n t (k + 1) = true) : weeAbove n t k = true := by
  have lt : (2 * k + 1) ^ 2 * n < (2 * (k + 1) + 1) ^ 2 * n := by gcongr; omega
  simp only [weeAbove, Bool.or_eq_true, Bool.and_eq_true, decide_eq_true_eq] at h ⊢
  omega

theorem errorEstimate : Claims.ErrorEstimate := by
  intro es
  refine ⟨fun h => by subst h; rfl, fun h => ?_⟩
  have pos : 0 < es.length := List.length_pos_iff.mpr h
  obtain ⟨below, stop⟩ := countP_range_downward (weeAbove_down pos es.sum) 254
  have le : (List.range 254).countP (weeAbove es.length es.sum) ≤ 254 := by
    simpa using List.countP_le_length (p := weeAbove es.length es.sum) (l := List.range 254)
  rw [weeOf_eq h]
  generalize (List.range 254).countP (weeAbove es.length es.sum) = c at *
  rw [BitVec.toNat_ofNat, Nat.mod_eq_of_lt (by omega)]
  have reached : 0 < c → weeAbove es.length es.sum (c - 1) = true := fun hc => below (c - 1) (by omega)
  have odd : 0 < c → 2 * (c - 1) + 1 = 2 * c - 1 := by omega
  simp only [weeAbove, Bool.or_eq_true, Bool.and_eq_true, decide_eq_true_eq, Bool.or_eq_false_iff, Bool.and_eq_false_iff,
    decide_eq_false_iff_not] at reached stop
  refine ⟨le, fun hc => ?_, fun hc hodd => ?_, fun hc => ?_, fun hc hodd => ?_⟩
  · have := reached hc
    rw [odd hc] at this
    omega
  · have := reached hc
    rw [odd hc] at this
    omega
  · have := stop hc
    omega
  · have := stop hc
    omega

/-- Settles O12: the codes by what every conversion clamps, the cells' values by `rneShift_spec`, the estimate by the bound up to which
`weeAbove` holds. -/
theorem cellsAndCodes : Obligations.CellsAndCodes := ⟨feederCodes, cellValues, errorEstimate⟩

end Sys2Proof.Machine
end

section
/-! PROOFS. A Zoetrope is fenced, and what asks for gaps and fences. -/

namespace Sys2Proof.Machine

open Sys2Proof Sys2Proof.Machine.Tables

/-! ### Fencing (R58, R61, R157) -/

/-- A Zoetrope as it is fenced, before its threads are dropped (R58, R61, R106). -/
def fencedZoe (z : Nat) (cause : Byte) (now : Nat) (x : Zoe) : Zoe :=
  let x := cutGap now x
  { x with
    state := .fenced, fenceCause := cause, fenceReq := 0, calDue := false
    st0 := fenceStream x.st0, st1 := fenceStream x.st1
    trim := setElem z 67332 { elem x z 67332 with drive := 0 } { x.trim with cause := 0, lightDue := false } }

/-- The state after Zoetrope z was fenced, before the Show of its partition stops. -/
def fenceOnly (z : Nat) (cause : Byte) (s : State) : State :=
  raiseFault 0x0203 0 z ((quadPart s z).getD 0xFF) cause.toNat (dropThreads z (modZoe z (fencedZoe z cause (timeNs s)) s))

theorem fenceZoe_eq {z : Nat} {s : State} (cause : Byte) (noff : (zoe s z).state ≠ .off) (nfenced : (zoe s z).state ≠ .fenced) :
    fenceZoe z cause s = (match quadPart s z with
      | some p => settleStop p (faultStop p s.fab.gid.toNat 0x15 false (fenceOnly z cause s))
      | none => fenceOnly z cause s) := by
  have fab : (fenceOnly z cause s).fab = s.fab := raiseFault_fab ..
  unfold fenceZoe
  rw [if_neg (by simp [noff, nfenced])]
  cases hp : quadPart s z with
  | none => simp only [fenceOnly, hp]; rfl
  | some p =>
    rw [← fab]
    simp only [fenceOnly, hp]
    rfl

theorem fenceZoe_still {z : Nat} {s : State} (cause : Byte) (h : (zoe s z).state = .off ∨ (zoe s z).state = .fenced) :
    fenceZoe z cause s = modZoe z (fun x => { x with fenceReq := 0 }) s := if_pos h

/-- The threads that run on a Zoetrope, and nothing else, are dropped. -/
@[simp] theorem zoe_dropThreads_same (z : Nat) (s : State) :
    zoe (dropThreads z s) z = { zoe s z with
      st0.thread := none, st1.thread := none
      scn.threads := (zoe s z).scn.threads.map (fun e => (e.1, { e.2 with running := false })) } := zoe_modZoe_same ..

theorem zoe_dropThreads_ne {z j : Nat} (s : State) (h : j ≠ z) : zoe (dropThreads z s) j = zoe s j := zoe_modZoe_ne _ _ h

theorem zoe_fenceOnly_same (z : Nat) (cause : Byte) (s : State) :
    zoe (fenceOnly z cause s) z = { fencedZoe z cause (timeNs s) (zoe s z) with
      st0.thread := none, st1.thread := none
      scn.threads := (zoe s z).scn.threads.map (fun e => (e.1, { e.2 with running := false })) } := by
  unfold fenceOnly
  rw [zoe_raiseFault, zoe_dropThreads_same, zoe_modZoe_same]
  rfl

theorem zoe_fenceOnly_ne {z j : Nat} (cause : Byte) (s : State) (h : j ≠ z) : zoe (fenceOnly z cause s) j = zoe s j := by
  unfold fenceOnly
  rw [zoe_raiseFault, zoe_dropThreads_ne _ h, zoe_modZoe_ne _ _ h]

/-- Fencing changes the Zoetropes, the fault collector and what it signals. -/
theorem fenceOnly_frame (z : Nat) (cause : Byte) (s : State) :
    fenceOnly z cause s = { s with
      zoes := (fenceOnly z cause s).zoes, flt := (fenceOnly z cause s).flt, host.pf := (fenceOnly z cause s).host.pf
      host.vfs := (fenceOnly z cause s).host.vfs, out := (fenceOnly z cause s).out } := by
  have frame := raiseFault_frame 0x0203 0 z ((quadPart s z).getD 0xFF) cause.toNat
    (dropThreads z (modZoe z (fencedZoe z cause (timeNs s)) s)) (by decide)
  unfold fenceOnly
  rw [frame]
  rfl

theorem elem_fencedZoe (z : Nat) (cause : Byte) (now : Nat) (x : Zoe) (e : Nat) :
    elem (fencedZoe z cause now x) z e = if e = 67332 then { elem x z 67332 with drive := 0 } else elem x z e := by
  by_cases he : e = 67332
  · rw [if_pos he, he]
    exact look_setElem_same ..
  · rw [if_neg he]
    exact look_setElem_ne _ _ he

/-- A held gap keeps the windows of a stream. -/
theorem holdGap_windows (now : Nat) (r : StreamSt) : (holdGap now r).integ = r.integ ∧ (holdGap now r).post = r.post := by
  unfold holdGap; split <;> exact ⟨rfl, rfl⟩

/-- Nothing is due on a stream of a Zoetrope that was fenced, and its windows go on. -/
theorem stream_fenceOnly (z : Nat) (cause : Byte) (s : State) (q : Nat) :
    let r := stream (zoe (fenceOnly z cause s) z) q
    r.fenceDue = false ∧ r.gapDue = false ∧ r.integ = (stream (zoe s z) q).integ ∧ r.post = (stream (zoe s z) q).post := by
  rw [zoe_fenceOnly_same]
  by_cases h : q = 0
  · simp only [stream, if_pos h]
    exact ⟨rfl, rfl, (holdGap_windows ..).1, (holdGap_windows ..).2⟩
  · simp only [stream, if_neg h]
    exact ⟨rfl, rfl, (holdGap_windows ..).1, (holdGap_windows ..).2⟩

theorem fencing : Claims.Fencing := by
  intro z c s
  refine ⟨fun noff nfenced => ⟨fenceOnly z c s, fenceZoe_eq c noff nfenced, fenceOnly_frame z c s,
    fun i hi => zoe_fenceOnly_ne c s hi, raiseFault_nCont (by decide) .., ?_⟩, fun still => ?_⟩
  · have elems : ∀ e, elem (zoe (fenceOnly z c s) z) z e = elem (fencedZoe z c (timeNs s) (zoe s z)) z e := by
      rw [zoe_fenceOnly_same]; exact fun _ => rfl
    have streams := stream_fenceOnly z c s
    refine ⟨by rw [zoe_fenceOnly_same]; rfl, by rw [zoe_fenceOnly_same]; rfl, by rw [zoe_fenceOnly_same]; rfl,
      by rw [zoe_fenceOnly_same]; rfl, by rw [zoe_fenceOnly_same]; rfl, ?_, ?_, by rw [zoe_fenceOnly_same]; rfl, ?_, streams⟩
    · rw [elems, elem_fencedZoe, if_pos rfl]
    · intro e he
      rw [elems, elem_fencedZoe, if_neg he]
    · intro e he
      rw [zoe_fenceOnly_same] at he
      obtain ⟨_, _, rfl⟩ := List.mem_map.mp he
      rfl
  · rw [fenceZoe_still c still]
    exact ⟨onlyZoe_modZoe .., zoe_modZoe_same ..⟩

/-! ### Triggers (R79, R85, R97) -/

theorem exec_estimateGapTrigger (z : ZoeId) (q : Stream) (s : State) :
    exec (.estimateGapTrigger z q) s = .next (modZoe z.val (triggerGap (streamNo q)) s) := rfl

theorem exec_estimateFenceTrigger (z : ZoeId) (q : Stream) (s : State) :
    exec (.estimateFenceTrigger z q) s = .next (modZoe z.val (triggerFence (streamNo q)) s) := rfl

theorem exec_runRuleGapTrigger (z : ZoeId) (s : State) : exec (.runRuleGapTrigger z) s = .next (modZoe z.val triggerRun s) := rfl

theorem gapRuleMet_iff (x : Zoe) (r : StreamSt) :
    gapRuleMet x r = true ↔ x.prec.thrGap ≠ 0 ∧ Max.max 1 x.prec.cntGap.toNat ≤ r.gapRuns ∧ r.gapHold = none := by
  simp [gapRuleMet, and_assoc]

theorem fenceRuleMet_iff (x : Zoe) (r : StreamSt) :
    fenceRuleMet x r = true ↔ x.prec.thrFence ≠ 0 ∧ Max.max 1 x.prec.cntFence.toNat ≤ r.fenceRuns := by
  simp [fenceRuleMet]

/-- The gap rule acts on its stream alone. -/
theorem triggerGap_spec (q : Nat) (x : Zoe) :
    OtherStream q x (triggerGap q x)
      ∧ stream (triggerGap q x) q = if gapRuleMet x (stream x q) = true then
          (if x.prec.mix then { stream x q with gapDeferred := true, gapRuns := 0 } else { stream x q with gapDue := true, gapRuns := 0 })
        else stream x q := by
  unfold triggerGap
  split
  · exact ⟨otherStream_onStream .., stream_onStream_same ..⟩
  · exact ⟨.refl .., rfl⟩

/-- The fence rule acts on its stream alone. -/
theorem triggerFence_spec (q : Nat) (x : Zoe) :
    OtherStream q x (triggerFence q x)
      ∧ stream (triggerFence q x) q = if fenceRuleMet x (stream x q) = true then { stream x q with fenceDue := true } else stream x q := by
  unfold triggerFence
  split
  · exact ⟨otherStream_onStream .., stream_onStream_same ..⟩
  · exact ⟨.refl .., rfl⟩

theorem triggerRun_eq (x : Zoe) : triggerRun x = { x with trim.runDue := x.trim.runDue || decide (16000000 ≤ x.trim.gapRun.toNat) } := by
  unfold triggerRun
  split <;> simp [*]

/-- The hold of a gap that is over ends (R79). -/
theorem exec_gapRuleHoldEnd {z : ZoeId} {q : Stream} {s : State} {at' : Nat}
    (hold : (stream (zoe s z.val) (streamNo q)).gapHold = some at') (hat : at' ≠ 0) :
    exec (.gapRuleHoldEnd z q) s
      = .next (modStream z.val (streamNo q) (fun r => { r with gapHold := none, gapRuns := 0 }) (advanceTo at' s)) := by
  have e : exec (.gapRuleHoldEnd z q) s = execGapRuleHoldEnd z q s := rfl
  rw [e, execGapRuleHoldEnd, hold]
  cases at' with
  | zero => exact absurd rfl hat
  | succ n => rfl

theorem gapAndFenceTriggers : Claims.GapAndFenceTriggers := by
  intro z q s k x r
  refine ⟨⟨_, exec_estimateGapTrigger z q s, onlyZoe_modZoe .., ?_⟩, ⟨_, exec_estimateFenceTrigger z q s, onlyZoe_modZoe .., ?_⟩,
    ⟨_, exec_runRuleGapTrigger z s, onlyZoe_modZoe .., ?_⟩, fun at' hold hat => ⟨_, exec_gapRuleHoldEnd hold hat, ?_⟩⟩
  · rw [zoe_modZoe_same]
    simpa only [gapRuleMet_iff] using triggerGap_spec k x
  · rw [zoe_modZoe_same]
    simpa only [fenceRuleMet_iff] using triggerFence_spec k x
  · rw [zoe_modZoe_same, triggerRun_eq]
  · refine ⟨(onlyZoeAt_advanceTo z.val at' s).trans (onlyZoe_modZoe ..).at, advanceTo_time at' s, ?_, ?_⟩
    · rw [modStream, zoe_modZoe_same]
      exact otherStream_onStream ..
    · rw [modStream, zoe_modZoe_same]
      exact stream_onStream_same ..

/-- Settles O15: fencing by the state `fenceOnly` that comes before the stop of the Show, the triggers by what each rule does to its
stream. -/
theorem fencesAndTriggers : Obligations.FencesAndTriggers := ⟨fencing, gapAndFenceTriggers⟩

end Sys2Proof.Machine
end

section
/-! PROOFS. The accesses of a Zoetrope's ports, and its audits. -/

namespace Sys2Proof.Machine

open Sys2Proof Sys2Proof.Machine.Tables

/-! ### Little-endian numbers (R8) -/

theorem slice_length_self (bs : List Byte) : slice bs 0 bs.length = bs := by
  refine List.ext_getElem (by simp [slice]) fun i h _ => ?_
  have : i < bs.length := by simpa [slice] using h
  simp [slice, this]

/-- A number is its little-endian form, as far as its bytes go. -/
theorem leNat_leBytes (n x : Nat) : leNat (leBytes n x) = x % 256 ^ n := by
  induction n generalizing x with
  | zero => simp [leBytes, leNat, Nat.mod_one]
  | succ n ih =>
    rw [leBytes, leNat, ih, pow_succ', Nat.mod_mul]
    simp

theorem fieldAt_leBytes (n x : Nat) : fieldAt (leBytes n x) 0 n = x % 256 ^ n := by
  have whole := slice_length_self (leBytes n x)
  rw [length_leBytes] at whole
  rw [fieldAt, whole, leNat_leBytes]

/-! ### Expectation slots (R56, R141) -/

/-- What a read of a map finds after a list was written from some key on. -/
theorem look_foldl_put {α : Type} [DecidableEq α] (d : α) (ws : List α) (first j : Nat) (m : SMap α) :
    look ((ws.mapIdx (fun i w => (first + i, w))).foldl (fun m p => put m p.1 p.2 d) m) j d
      = if first ≤ j ∧ j < first + ws.length then ws.getD (j - first) d else look m j d := by
  induction ws generalizing first m with
  | nil => simp only [List.mapIdx_nil, List.foldl_nil, List.length_nil]; rw [if_neg (by omega)]
  | cons w ws ih =>
    have shift : (fun i w => (first + (i + 1), w) : Nat → α → Nat × α) = fun i w => (first + 1 + i, w) := by
      funext i w; rw [Nat.add_assoc, Nat.add_comm 1]
    rw [List.mapIdx_cons, List.foldl_cons, shift, ih, look_put, List.length_cons]
    simp only [Nat.add_zero]
    by_cases here : j = first
    · subst here
      simp
    · rw [if_neg here]
      by_cases tail : first + 1 ≤ j ∧ j < first + 1 + ws.length
      · rw [if_pos tail, if_pos (by omega), show j - first = j - (first + 1) + 1 by omega, List.getD_cons_succ]
      · rw [if_neg tail, if_neg (by omega)]

theorem expSlot_modAt (x : Zoe) (k : Nat) (f : ExpSlot → ExpSlot) (i : Nat) :
    expSlot { x with slots := modAt x.slots k {} f } i = if i = k then f (expSlot x k) else expSlot x i := by
  by_cases h : i = k
  · subst h
    rw [if_pos rfl]
    exact look_modAt_same ..
  · rw [if_neg h]
    exact look_modAt_ne _ _ _ h

/-! ### Writes of a port (R138, R141) -/

/-- The store of `bs` to port offset a of Zoetrope z has ended for Marble n with a status, and beside it the Zoetrope alone has
changed. -/
def PortEnded (n : MarbleId) (z : ZoeId) (a : Nat) (bs : List Byte) (st : Byte) (s t : State) : Prop :=
  t = { s with zoes := t.zoes, mrb.marbles := t.mrb.marbles } ∧ (∀ i, i ≠ z.val → zoe t i = zoe s i)
    ∧ ∀ k, marble t k = if k = n.toNat then
        recordStatus st { marble s n.toNat with outst := removeFirst (isStore (portAddr z.val a) bs) (marble s n.toNat).outst }
      else marble s k

theorem portEnded_endStore {n : MarbleId} {z : ZoeId} {s u : State} (only : OnlyZoe z.val s u) (a : Nat) (bs : List Byte) (st : Byte) :
    PortEnded n z a bs st s (endStore n.toNat (portAddr z.val a) bs st u) := by
  obtain ⟨frame, others⟩ := only
  have marbles (k : Nat) : marble u k = marble s k := by rw [frame]; rfl
  refine ⟨by rw [frame]; rfl, others, fun k => ?_⟩
  by_cases h : k = n.toNat
  · rw [if_pos h, h, endStore, marble_modMarble_same, marbles]
  · rw [if_neg h, endStore, marble_modMarble_ne _ _ h, marbles]

@[simp] theorem zoe_endStore (n a : Nat) (bs : List Byte) (st : Byte) (s : State) (z : Nat) : zoe (endStore n a bs st s) z = zoe s z := rfl

/-- What a port that is reached, of a Quad of the Marble's partition and not in reset, does with a write (R138, R141). -/
theorem portCommand_eq {n : MarbleId} {z : ZoeId} {s : State} (reach : portReach n.toNat z.val = true)
    (owner : portOwner s n.toNat z.val = true) (up : blockHeld s .zoetrope z.val = false) (off : Nat) (bs : List Byte) (r : Byte × State)
    (h : match portAt off bs.length with
      | .header i => r = writeHeader z.val i (BitVec.ofNat 32 (fieldAt bs 0 4)) s
      | .sums i first => r = writeSums z.val i first bs s
      | .audit => r = auditPort z.val (BitVec.ofNat 128 (leNat bs)) s
      | _ => False) :
    portCommand n z.val off bs s = endStore n.toNat (portAddr z.val off) bs r.1 r.2 := by
  unfold portCommand portWrite
  cases hp : portAt off bs.length <;> rw [hp] at h <;> simp only at h <;> simp [reach, owner, up, h]

section Slots

variable {n : MarbleId} {z : ZoeId} {s : State} (reach : portReach n.toNat z.val = true)
  (owner : portOwner s n.toNat z.val = true) (up : blockHeld s .zoetrope z.val = false)
include reach owner up

theorem exec_expectationSumWrite (off : BitVec 26) (bs : List Byte) {k first : Nat} (hp : portAt off.toNat bs.length = .sums k first) :
    exec (.expectationSumWrite n z off bs) s = .next (endStore n.toNat (portAddr z.val off.toNat) bs
      (writeSums z.val k first bs s).1 (writeSums z.val k first bs s).2) :=
  congrArg Host.Outcome.next (portCommand_eq reach owner up off.toNat bs _ (by rw [hp]))

theorem exec_expectationHeaderWrite (slot : Fin 32) (hdr : Word) :
    exec (.expectationHeaderWrite n z slot hdr) s = .next (endStore n.toNat (portAddr z.val (0x1000 * slot.val)) (leBytes 4 hdr.toNat)
      0 (writeHeader z.val slot.val hdr s).2) := by
  have port : portAt (0x1000 * slot.val) (leBytes 4 hdr.toNat).length = .header slot.val := by
    have := slot.isLt
    rw [length_leBytes, portAt, if_pos (by omega)]
    simp
  have word : BitVec.ofNat 32 (fieldAt (leBytes 4 hdr.toNat) 0 4) = hdr := by
    rw [fieldAt_leBytes]
    exact BitVec.eq_of_toNat_eq (by simp; omega)
  refine congrArg Host.Outcome.next (portCommand_eq reach owner up _ _ (writeHeader z.val slot.val hdr s) ?_)
  rw [port]
  simp only [word]

theorem exec_auditRecord (rec : BitVec 128) :
    exec (.auditRecord n z rec) s = .next (endStore n.toNat (portAddr z.val 0x20000) (leBytes 16 rec.toNat)
      0 (auditPort z.val rec s).2) := by
  have port : portAt 0x20000 (leBytes 16 rec.toNat).length = .audit := by rw [length_leBytes]; rfl
  have whole : BitVec.ofNat 128 (leNat (leBytes 16 rec.toNat)) = rec := by
    rw [leNat_leBytes]
    exact BitVec.eq_of_toNat_eq (by simp; omega)
  refine congrArg Host.Outcome.next (portCommand_eq reach owner up _ _ (auditPort z.val rec s) ?_)
  rw [port]
  simp only [whole]

end Slots

/-- Offsets of the sums of a slot, as R141 lays them out. -/
theorem portAt_sums {off len : Nat} (ho : off < 0x20000) (lo : 4 ≤ off % 0x1000) (hi : off % 0x1000 + len ≤ 0x804)
    (aligned : off % 0x1000 % 4 = 0) (width : off % 0x1000 % (if len = 32 then 4 else len) = 0)
    (hl : len = 4 ∨ len = 8 ∨ len = 16 ∨ len = 32) : portAt off len = .sums (off / 0x1000) ((off % 0x1000 - 4) / 4) := by
  unfold portAt
  dsimp only
  rw [if_pos ho, if_neg (by omega), if_pos ⟨lo, hi, by omega, width, hl⟩]

theorem length_of_expectationSumWrite_wf {n : MarbleId} {z : ZoeId} {off : BitVec 26} {bs : List Byte}
    (h : (Instr.expectationSumWrite n z off bs).wf = true) :
    bs.length = 4 ∨ bs.length = 8 ∨ bs.length = 16 ∨ bs.length = 32 := by
  simpa [Instr.wf] using h

theorem writeSums_busy {z k first : Nat} {s : State} (bs : List Byte) (h : (expSlot (zoe s z) k).valid = true) :
    writeSums z k first bs s = (4, s) := if_pos h

/-- The sums of a slot after words were written to it. -/
theorem look_sums_written (bs : List Byte) (first i : Nat) (m : SMap Word) :
    look (((wordsAt bs 0 (bs.length / 4)).mapIdx (fun i w => (first + i, w))).foldl (fun m p => put m p.1 p.2 0) m) i 0
      = if first ≤ i ∧ i < first + bs.length / 4 then BitVec.ofNat 32 (fieldAt bs (4 * (i - first)) 4) else look m i 0 := by
  have len : (wordsAt bs 0 (bs.length / 4)).length = bs.length / 4 := by simp [wordsAt]
  rw [look_foldl_put, len]
  split
  · next h =>
    have : i - first < bs.length / 4 := by omega
    simp [wordsAt, List.getD, this]
  · rfl

/-- A write to a slot that is not committed changes its sums alone. -/
theorem writeSums_open {z k first : Nat} {s : State} (bs : List Byte) (h : (expSlot (zoe s z) k).valid = false) :
    (writeSums z k first bs s).1 = 0 ∧ OnlyZoe z s (writeSums z k first bs s).2
      ∧ (∀ i, i ≠ k → expSlot (zoe (writeSums z k first bs s).2 z) i = expSlot (zoe s z) i)
      ∧ (expSlot (zoe (writeSums z k first bs s).2 z) k).valid = false
      ∧ (expSlot (zoe (writeSums z k first bs s).2 z) k).wtag = (expSlot (zoe s z) k).wtag
      ∧ ∀ i, look (expSlot (zoe (writeSums z k first bs s).2 z) k).sums i 0
        = if first ≤ i ∧ i < first + bs.length / 4 then BitVec.ofNat 32 (fieldAt bs (4 * (i - first)) 4)
          else look (expSlot (zoe s z) k).sums i 0 := by
  have e : writeSums z k first bs s = _ := if_neg (by rw [h]; decide)
  rw [e]
  refine ⟨rfl, onlyZoe_modZoe .., fun i hi => ?_, ?_, ?_, fun i => ?_⟩
  · rw [zoe_modZoe_same, expSlot_modAt, if_neg hi]
  · rw [zoe_modZoe_same, expSlot_modAt, if_pos rfl, h]
  · rw [zoe_modZoe_same, expSlot_modAt, if_pos rfl]
  · rw [zoe_modZoe_same, expSlot_modAt, if_pos rfl]
    exact look_sums_written ..

/-! ### Audits (R81, R82) -/

/-- The first pending window with a tag, where none before it has the tag. -/
theorem dropPend_append {pre post : List PendAudit} {e : PendAudit} {tag : BitVec 16} (first : ∀ p ∈ pre, p.wtag ≠ tag) (he : e.wtag = tag) :
    dropPend tag (pre ++ e :: post) = pre ++ post := by
  induction pre with
  | nil => simp [dropPend, he]
  | cons p pre ih =>
    rw [List.cons_append, dropPend, if_neg (first p List.mem_cons_self), ih fun q hq => first q (List.mem_cons_of_mem _ hq)]
    rfl

theorem find?_append_cons {α : Type} {pre post : List α} {e : α} {p : α → Bool} (first : ∀ a ∈ pre, p a = false) (he : p e = true) :
    (pre ++ e :: post).find? p = some e := by
  rw [List.find?_append, List.find?_eq_none.mpr (by simpa using first), List.find?_cons_of_pos he]
  rfl

/-- The stream and the tag that an audit record names (R82). -/
def recStream (rec : BitVec 128) : Nat := if rec.getLsbD 16 then 1 else 0
def recTag (rec : BitVec 128) : BitVec 16 := rec.extractLsb' 0 16

theorem auditPort_match {z : Nat} {rec : BitVec 128} {s : State} {pre post : List PendAudit} {e : PendAudit}
    (hpend : (stream (zoe s z) (recStream rec)).pend = pre ++ e :: post) (first : ∀ p ∈ pre, p.wtag ≠ recTag rec) (he : e.wtag = recTag rec) :
    zoe (auditPort z rec s).2 z
      = { onStream (recStream rec) (fun r => { r with pend := dropPend (recTag rec) r.pend }) (zoe s z) with
          prec := addRecord rec e.wee (zoe s z).prec } := by
  have found := find?_append_cons (p := fun e => decide (e.wtag = recTag rec)) (post := post) (fun p hp => by simpa using first p hp)
    (by simpa using he)
  rw [← hpend] at found
  have keeps : (onStream (recStream rec) (fun r => { r with pend := dropPend (recTag rec) r.pend }) (zoe s z)).prec = (zoe s z).prec := by
    rw [onStream_rest]
  unfold recStream recTag at *
  unfold auditPort
  dsimp only
  rw [zoe_modZoe_same, found]
  simp only [keeps]

theorem auditPort_stray {z : Nat} {rec : BitVec 128} {s : State}
    (none : ∀ p ∈ (stream (zoe s z) (recStream rec)).pend, p.wtag ≠ recTag rec) :
    zoe (auditPort z rec s).2 z = { zoe s z with prec.audBadtag := (zoe s z).prec.audBadtag + 1 } := by
  have missing : (stream (zoe s z) (recStream rec)).pend.find? (fun e => decide (e.wtag = recTag rec)) = Option.none := by
    rw [List.find?_eq_none]; simpa using none
  unfold recStream recTag at missing
  unfold auditPort
  dsimp only
  rw [zoe_modZoe_same, missing]

theorem satAdd_toNat {w : Nat} {x : BitVec w} {n : Nat} (h : x.toNat + n < 2 ^ w) : (satAdd x n).toNat = x.toNat + n := by
  rw [satAdd, if_pos h, BitVec.toNat_ofNat, Nat.mod_eq_of_lt h]

/-- The greatest difference of the audit records (R82). -/
theorem addRecord_audMax (rec : BitVec 128) (wee : Byte) (p : ZoePrec) :
    (addRecord rec wee p).audMax.toNat = Max.max p.audMax.toNat (rec.extractLsb' 48 16).toNat := by
  have e : (addRecord rec wee p).audMax
      = if p.audMax.toNat < (rec.extractLsb' 48 16).toNat then rec.extractLsb' 48 16 else p.audMax := rfl
  rw [e]
  split <;> omega

theorem addRecord_audWeen (rec : BitVec 128) (wee : Byte) (p : ZoePrec) :
    (addRecord rec wee p).audWeen = if wee = 0xFF then p.audWeen else p.audWeen + 1 := by
  by_cases h : wee = 0xFF <;> simp [addRecord, h]

/-! ### Bad accesses (R138, R141) -/

/-- A load that ends with a status other than OK records it (R123). -/
theorem endLoad_rstat (o : Outst) (bs : List Byte) {st : Byte} (hst : st ≠ 0) (m : Marble) :
    (endLoad o bs st m).rstatLast = st ∧ (endLoad o bs st m).rstatCount = satInc m.rstatCount := by
  have rec' : recordStatus st m = { m with rstatLast := st, rstatCount := satInc m.rstatCount } := if_neg hst
  unfold endLoad
  rw [rec']
  dsimp only
  split
  · split
    · exact ⟨rfl, rfl⟩
    · rw [advance_rest]
      dsimp only
      split
      · rw [setM_rest]; exact ⟨rfl, rfl⟩
      · split <;> exact ⟨rfl, rfl⟩
  · exact ⟨rfl, rfl⟩

/-- The store that a bad access to a port offset ends. -/
def isPortStore (a len : Nat) (o : Outst) : Bool :=
  match o.op with
  | .store b bs => decide (b.toNat = a ∧ bs.length = len)
  | _ => false

theorem exec_space01BadAccess_write {n : MarbleId} {z : ZoeId} {s : State} (reach : portReach n.toNat z.val = true) {off : BitVec 26}
    {len : Nat} (bad : portAt off.toNat len = .none) :
    exec (.space01BadAccess n z off .write len) s = .next (modMarble n.toNat (fun m =>
      recordStatus 3 { m with outst := removeFirst (isPortStore (portAddr z.val off.toNat) len) m.outst }) s) := by
  have e : exec (.space01BadAccess n z off .write len) s = execSpace01BadAccess n z off .write len s := rfl
  rw [e, execSpace01BadAccess]
  simp only [reach, bad, Bool.not_true, Bool.false_eq_true, if_false, ne_eq, not_true_eq_false]
  rfl

/-- A load from space 01 that R141 does not name changes free values and its own Marble, which records BAD_ADDR. -/
theorem exec_space01BadAccess_read {n : MarbleId} {z : ZoeId} {s : State} (reach : portReach n.toNat z.val = true) (off : BitVec 26)
    (len : Nat) : ∃ f : Marble → Marble, exec (.space01BadAccess n z off .read len) s = .next (useFrees 16 (modMarble n.toNat f s))
      ∧ (f (marble s n.toNat)).rstatLast = 3 ∧ (f (marble s n.toNat)).rstatCount = satInc (marble s n.toNat).rstatCount := by
  have e : exec (.space01BadAccess n z off .read len) s = execSpace01BadAccess n z off .read len s := rfl
  rw [e, execSpace01BadAccess]
  simp only [reach, Bool.not_true, Bool.false_eq_true, if_false]
  refine ⟨_, rfl, ?_⟩
  split
  · exact ⟨rfl, rfl⟩
  · exact endLoad_rstat _ _ (by decide) _

/-! ### The obligation -/

theorem zoetropePorts : Claims.ZoetropePorts := by
  intro n z s reach
  refine ⟨fun owner up => ⟨?_, ?_, ?_⟩, ?_, ?_⟩
  · intro off bs wf k o ho lo hi aligned width
    have port := portAt_sums ho lo hi aligned width (length_of_expectationSumWrite_wf wf)
    have run := exec_expectationSumWrite reach owner up off bs port
    constructor
    · intro openSlot
      obtain ⟨ok, only, slots, valid, tag, sums⟩ := writeSums_open (first := (o - 4) / 4) bs openSlot
      refine ⟨_, run, ?_, slots, valid, tag, sums⟩
      rw [ok]
      exact portEnded_endStore only ..
    · intro committed
      rw [writeSums_busy bs committed] at run
      exact ⟨_, run, portEnded_endStore (.refl ..) .., rfl⟩
  · intro slot hdr
    refine ⟨_, exec_expectationHeaderWrite reach owner up slot hdr, portEnded_endStore (onlyZoe_modZoe ..) .., ?_⟩
    rw [zoe_endStore, writeHeader, zoe_modZoe_same]
    refine ⟨fun i => ?_, rfl, rfl, rfl⟩
    rw [expSlot_modAt]
    split
    · next h => rw [h]
    · rfl
  · intro rec q tag
    refine ⟨fun pre post e hpend first he => ⟨_, exec_auditRecord reach owner up rec, portEnded_endStore (onlyZoe_modZoe ..) .., ?_⟩,
      fun none => ⟨_, exec_auditRecord reach owner up rec, portEnded_endStore (onlyZoe_modZoe ..) .., ?_⟩⟩
    · rw [zoe_endStore, auditPort_match hpend first he]
      refine ⟨?_, ?_, rfl, rfl, satAdd_toNat, satAdd_toNat, addRecord_audMax .., addRecord_audWeen ..⟩
      · rw [← dropPend_append (post := post) first he, ← hpend]
        exact congrArg StreamSt.pend (stream_onStream_same q _ (zoe s z.val))
      · exact otherStream_onStream q _ (zoe s z.val)
    · rw [zoe_endStore, auditPort_stray none]
      exact ⟨rfl, rfl⟩
  · intro off len bad
    refine ⟨_, exec_space01BadAccess_write reach bad, ⟨rfl, fun k hk => marble_modMarble_ne _ _ hk⟩, ?_⟩
    rw [marble_modMarble_same]
    exact ⟨rfl, rfl, fun _ => rfl, fun _ => rfl, rfl⟩
  · intro off len
    obtain ⟨f, run, status, count⟩ := exec_space01BadAccess_read (s := s) reach off len
    refine ⟨_, run, rfl, fun k hk => marble_modMarble_ne f s hk, ?_⟩
    have own : marble (useFrees 16 (modMarble n.toNat f s)) n.toNat = f (marble s n.toNat) := marble_modMarble_same ..
    rw [own]
    exact ⟨status, count⟩

/-- The record of the oldest window that waits has not come in time (R82). -/
theorem exec_auditTimeout {z : ZoeId} {q : Stream} {s : State} {e : PendAudit}
    (oldest : (stream (zoe s z.val) (streamNo q)).pend.find? (fun e => e.done.isSome) = some e) :
    exec (.auditTimeout z q) s = .next (modZoe z.val (fun x =>
      let x := onStream (streamNo q) (fun r => { r with pend := dropPend e.wtag r.pend }) x
      { x with prec.audMiss := x.prec.audMiss + 1 }) (advanceTo (e.done.getD 0 + 1000000) s)) := by
  have run : exec (.auditTimeout z q) s = execAuditTimeout z q s := rfl
  rw [run, execAuditTimeout, oldest]

theorem auditTimeout : Claims.AuditTimeout := by
  intro z q s pre post e d hpend waiting hdone first
  have oldest := find?_append_cons (pre := pre) (e := e) (p := fun e => e.done.isSome) (post := post) (fun p hp => by simp [waiting p hp])
    (by rw [hdone]; rfl)
  rw [← hpend] at oldest
  have late : e.done.getD 0 + 1000000 = d + 1000000 := by rw [hdone]; rfl
  refine ⟨_, exec_auditTimeout oldest, (onlyZoeAt_advanceTo ..).trans (onlyZoe_modZoe ..).at, ?_, ?_, ?_, ?_⟩
  · rw [late]
    exact advanceTo_time ..
  · rw [zoe_modZoe_same]
    exact otherStream_onStream (streamNo q) _ (zoe s z.val)
  · rw [zoe_modZoe_same, ← dropPend_append (post := post) first rfl, ← hpend]
    exact stream_onStream_same (streamNo q) _ (zoe s z.val)
  · rw [zoe_modZoe_same, onStream_rest]
    rfl

/-- Settles O14: a write that is taken by what its port does with it (`portCommand_eq`), a bad access by the status it records, a missed
audit by `exec_auditTimeout`. -/
theorem zoetropePortsAndAudits : Obligations.ZoetropePortsAndAudits := ⟨zoetropePorts, auditTimeout⟩

end Sys2Proof.Machine
end

section
/-! PROOFS. Calibration gaps, pilot windows and Trim rounds. -/

namespace Sys2Proof.Machine

open Sys2Proof Sys2Proof.Machine.Tables

/-! ### Idle gaps (R58, R97) -/

theorem queueWaits_eq_false {x : Zoe} (h : ∀ q ∈ streamsOf x, (stream x q).qstate ≠ .running) : queueWaits x = false := by
  rw [queueWaits, List.any_eq_false]
  intro q hq
  simp [h q hq]

/-- Over 1 ms has passed since the last pass, or there was none (R97). -/
theorem gapAged_iff (s : State) (x : Zoe) :
    gapAged s x = true ↔ x.prec.lastPass = none ∨ ∃ p, x.prec.lastPass = some p ∧ p + 1000000 < timeNs s := by
  unfold gapAged
  split <;> simp [*]

theorem exec_idleGapStart {z : ZoeId} {s : State}
    (h : (zoe s z.val).state = .ready ∧ (zoe s z.val).trim.light = true ∧ (0 < owedSym (zoe s z.val) ∨ gapAged s (zoe s z.val) = true)
      ∧ (!queueWaits (zoe s z.val)) = true) :
    exec (.idleGapStart z) s = .next (modZoe z.val (startGap (nowSym s) false false) s) :=
  congrArg Host.Outcome.next (if_pos h)

/-! ### Pilot windows (R94 to R99) -/

/-- A gap whose end has come ends. -/
def settleGap (z k : Nat) (s : State) : State :=
  if (zoe s z).state = .gap ∧ gapOver (zoe s z) = true then modZoe z (endGap k (timeNs s)) s else s

/-- The state in which a pilot window is taken: in a gap, at the window's end. -/
def pilotTime (z : Nat) (s : State) : State :=
  if (zoe s z).state = .gap then advanceSym (zoe s z).trim.pilotAt s else s

/-- The state after a pilot window was taken, before what it completes. -/
def pilotTaken (z : Nat) (r : PilotResult) (s : State) : State :=
  useFree (modZoe z (takePilot (pilotTime z s).free r) (pilotTime z s))

/-- The state after a pilot window and the pass that it may complete. -/
def pilotPassed (z : Nat) (r : PilotResult) (s : State) : State :=
  if (zoe (pilotTaken z r s) z).trim.passPos = 0 then endPass z r (pilotTaken z r s) else pilotTaken z r s

theorem zoe_pilotTime (z : Nat) (s : State) (i : Nat) : zoe (pilotTime z s) i = zoe s i := by unfold pilotTime; split <;> rfl

theorem pilotTime_free (z : Nat) (s : State) : (pilotTime z s).free = s.free := by unfold pilotTime; split <;> rfl

theorem zoe_pilotTaken_same (z : Nat) (r : PilotResult) (s : State) : zoe (pilotTaken z r s) z = takePilot s.free r (zoe s z) := by
  rw [pilotTaken, zoe_useFree, zoe_modZoe_same, zoe_pilotTime, pilotTime_free]

/-- A gap's pilot window ends no sooner than its symbols have passed. -/
theorem pilotTaken_time {z : Nat} (r : PilotResult) {s : State} (gap : (zoe s z).state = .gap) :
    (zoe s z).trim.pilotAt ≤ 16 * timeNs (pilotTaken z r s) := by
  have e : timeNs (pilotTaken z r s) = timeNs (pilotTime z s) := rfl
  rw [e, pilotTime, if_pos gap]
  exact advanceSym_time ..

/-- What a pilot window of Zoetrope z changes: the Zoetrope, module time, and one free value that is read. -/
def OnlyPilot (z : Nat) (s t : State) : Prop :=
  t = { s with zoes := t.zoes, ident.aux := t.ident.aux, free := s.free + 1 } ∧ ∀ i, i ≠ z → zoe t i = zoe s i

theorem pilotTaken_only (z : Nat) (r : PilotResult) (s : State) : OnlyPilot z s (pilotTaken z r s) := by
  refine ⟨?_, fun i hi => ?_⟩
  · unfold pilotTaken pilotTime
    split <;> rfl
  · rw [pilotTaken, zoe_useFree, zoe_modZoe_ne _ _ hi, zoe_pilotTime]

theorem OnlyPilot.then {z : Nat} {s t u : State} (h : OnlyPilot z s t) (k : OnlyZoe z t u) : OnlyPilot z s u := by
  obtain ⟨ht, hz⟩ := h
  obtain ⟨hu, kz⟩ := k
  exact ⟨by rw [hu, ht], fun i hi => (kz i hi).trans (hz i hi)⟩

theorem exec_pilotWindowEnd {z : ZoeId} {r : PilotResult} {s : State} (runs : pilotsRun (zoe s z.val) = true)
    (unfenced : (zoe (pilotPassed z.val r s) z.val).state = .gap → (zoe (pilotPassed z.val r s) z.val).fenceReq = 0) :
    exec (.pilotWindowEnd z r) s = .next (settleGap z.val (zoe s z.val).trim.pilotAt (pilotPassed z.val r s)) := by
  have run : exec (.pilotWindowEnd z r) s = .next (if !pilotsRun (zoe s z.val) then s else
      let u := pilotPassed z.val r s
      let x := zoe u z.val
      if x.state ≠ .gap then u
      else if x.fenceReq ≠ 0 then fenceZoe z.val x.fenceReq u
      else if gapOver x then modZoe z.val (endGap (zoe s z.val).trim.pilotAt (timeNs u)) u else u) := rfl
  rw [run, if_neg (by simp [runs])]
  dsimp only
  unfold settleGap
  by_cases gap : (zoe (pilotPassed z.val r s) z.val).state = .gap
  · simp [gap, unfenced gap]
  · simp [gap]

/-! What a pilot window does to its Zoetrope. -/

theorem pilotKind_quadrature_iff (n : Nat) : pilotKind n = .quadrature ↔ n % 4 = 3 := by
  unfold pilotKind
  split
  · next h => simp [h]
  · have : n % 4 < 4 := Nat.mod_lt _ (by decide)
    interval_cases n % 4 <;> simp

theorem pilotKind_inPhase_iff (n : Nat) : pilotKind n = .inPhase ↔ n % 4 = 2 := by
  unfold pilotKind
  split
  · next h => simp [h]
  · have : n % 4 < 4 := Nat.mod_lt _ (by decide)
    interval_cases n % 4 <;> simp

/-- The accounts of Zoetrope y are those of x after one pilot window more; its elements, descriptors and slots are as they were (R92,
R95, R96, R98). -/
def Paid (x y : Zoe) : Prop :=
  let n := x.trim.passPos.toNat
  y.trim.gapSym = x.trim.gapSym + 256 ∧ y.trim.owed200 = x.trim.owed200 - 51200 ∧ y.trim.passPos = x.trim.passPos + 1
    ∧ y.trim.phN = x.trim.phN + (if n % 4 = 3 then 1 else 0) ∧ y.trim.balN = x.trim.balN + (if n % 4 = 2 ∧ 4 ≤ n then 1 else 0)
    ∧ (x.trim.owed200 < 51400 → y.trim.gapRun = 0) ∧ (51400 ≤ x.trim.owed200 → y.trim.gapRun = x.trim.gapRun)
    ∧ y.trim.elems = x.trim.elems ∧ y.ram = x.ram ∧ y.slots = x.slots

/-- The trim area t after a pilot window that leaves `owed` of the gap owed (R92, R94 to R98). -/
def trimPaid (free : Nat) (r : PilotResult) (owed : Nat) (t : ZoeTrim) : ZoeTrim :=
  let k := pilotKind t.passPos.toNat
  let w := (List.range 260).map (fun i => r.taps.getD i 0)
  let a := (List.range 128).map (fun i => r.taps.getD (260 + i) 0)
  { t with
    owed200 := owed
    gapRun := if owed < 200 then 0 else t.gapRun
    runDue := t.runDue && decide (200 ≤ owed)
    gapSym := t.gapSym + 256
    phN := if k = .quadrature then t.phN + 1 else t.phN
    balN := if k = .inPhase ∧ 4 ≤ t.passPos.toNat then t.balN + 1 else t.balN
    accKey := free
    taps := if k = .weight then w ++ (List.range 128).map (fun i => t.taps.getD (260 + i) 0)
      else if k = .activation then (List.range 260).map (fun i => t.taps.getD i 0) ++ a else t.taps
    pilotAt := t.pilotAt + 256
    passPos := t.passPos + 1
    gapLeft := t.gapLeft - 1 }

/-- A pilot window changes the trim area alone. -/
theorem takePilot_eq (free : Nat) (r : PilotResult) (x : Zoe) :
    takePilot free r x = { x with trim := trimPaid free r (x.trim.owed200 - 51200) x.trim } := rfl

/-- The Zoetrope after a pilot window was taken, the owed symbols named. -/
theorem exists_trimPaid (z : Nat) (r : PilotResult) (s : State) :
    ∃ owed, owed = (zoe s z).trim.owed200 - 51200
      ∧ zoe (pilotTaken z r s) z = { zoe s z with trim := trimPaid s.free r owed (zoe s z).trim } :=
  ⟨_, rfl, (zoe_pilotTaken_same z r s).trans (takePilot_eq ..)⟩

theorem trimPaid_phN (free : Nat) (r : PilotResult) (owed : Nat) (t : ZoeTrim) :
    (trimPaid free r owed t).phN = t.phN + (if t.passPos.toNat % 4 = 3 then 1 else 0) := by
  have e : (trimPaid free r owed t).phN = if pilotKind t.passPos.toNat = .quadrature then t.phN + 1 else t.phN := rfl
  simp only [e, pilotKind_quadrature_iff]
  split <;> rfl

theorem trimPaid_balN (free : Nat) (r : PilotResult) (owed : Nat) (t : ZoeTrim) :
    (trimPaid free r owed t).balN = t.balN + (if t.passPos.toNat % 4 = 2 ∧ 4 ≤ t.passPos.toNat then 1 else 0) := by
  have e : (trimPaid free r owed t).balN
      = if pilotKind t.passPos.toNat = .inPhase ∧ 4 ≤ t.passPos.toNat then t.balN + 1 else t.balN := rfl
  simp only [e, pilotKind_inPhase_iff]
  split <;> rfl

/-- The windows of a pass other than W and A leave the tap powers. -/
theorem trimPaid_taps {t : ZoeTrim} (last : t.passPos.toNat = 1023) (free : Nat) (r : PilotResult) (owed : Nat) :
    (trimPaid free r owed t).taps = t.taps := by
  have q : pilotKind t.passPos.toNat = .quadrature := by rw [last]; rfl
  simp [trimPaid, q]

/-- What a pilot window leaves of the trim area. -/
theorem trimPaid_keeps (free : Nat) (r : PilotResult) (owed : Nat) (t : ZoeTrim) :
    (trimPaid free r owed t).gapKind = t.gapKind ∧ (trimPaid free r owed t).gapPassed = t.gapPassed
      ∧ (trimPaid free r owed t).gapNeedsPass = t.gapNeedsPass ∧ (trimPaid free r owed t).pilots = t.pilots
      ∧ (trimPaid free r owed t).passes = t.passes := ⟨rfl, rfl, rfl, rfl, rfl⟩

theorem paid_trimPaid {owed : Nat} {x : Zoe} (free : Nat) (r : PilotResult) (h : owed = x.trim.owed200 - 51200) :
    Paid x { x with trim := trimPaid free r owed x.trim } := by
  have run : (trimPaid free r owed x.trim).gapRun = if owed < 200 then 0 else x.trim.gapRun := rfl
  refine ⟨rfl, h, rfl, trimPaid_phN .., trimPaid_balN .., fun few => ?_, fun many => ?_, rfl, rfl, rfl⟩
  · exact run.trans (if_pos (by omega))
  · exact run.trans (if_neg (by omega))

/-- What the queues hold does not depend on the trim area. -/
theorem queueWaits_trim (x : Zoe) (t : ZoeTrim) : queueWaits { x with trim := t } = queueWaits x := rfl

theorem holdGap_qstate (now : Nat) (r : StreamSt) : (holdGap now r).qstate = r.qstate := by unfold holdGap; split <;> rfl

/-- A gap that is cut short leaves what its queues hold. -/
theorem queueWaits_cutGap (now : Nat) (x : Zoe) : queueWaits (cutGap now x) = queueWaits x := by
  have qstate (q : Nat) : (stream (cutGap now x) q).qstate = (stream x q).qstate := by
    unfold stream
    split <;> exact holdGap_qstate ..
  unfold queueWaits
  simp only [qstate]
  rfl

theorem endGap_state (k now : Nat) (x : Zoe) : (endGap k now x).state = if queueWaits x then .running else .ready := by
  have e : (endGap k now x).state = if queueWaits (cutGap now x) then .running else .ready := rfl
  rw [e, queueWaits_cutGap]

/-- The end of a gap leaves what it paid. -/
theorem Paid.endGap {x y : Zoe} (h : Paid x y) (k now : Nat) : Paid x (endGap k now y) := h

/-- When a gap ends (R97). -/
theorem gapOver_iff (x : Zoe) :
    gapOver x = true ↔ if x.trim.gapKind = .idle then queueWaits x = true ∨ owedSym x = 0 ∧ x.trim.gapPassed = true
      else x.trim.gapLeft = 0 ∧ (x.trim.gapNeedsPass = false ∨ x.trim.gapPassed = true) := by
  unfold gapOver
  cases x.trim.gapKind <;> simp

/-- Whether the pilot window that is taken in a gap ends it. -/
theorem gapOver_trimPaid_iff {owed : Nat} {x : Zoe} (free : Nat) (r : PilotResult) (h : owed = x.trim.owed200 - 51200) :
    gapOver { x with trim := trimPaid free r owed x.trim } = true ↔
      if x.trim.gapKind = .idle then queueWaits x = true ∨ x.trim.owed200 < 51400 ∧ x.trim.gapPassed = true
      else x.trim.gapLeft ≤ 1 ∧ (x.trim.gapNeedsPass = false ∨ x.trim.gapPassed = true) := by
  have few : owedSym { x with trim := trimPaid free r owed x.trim } = 0 ↔ x.trim.owed200 < 51400 := by
    have e : owedSym { x with trim := trimPaid free r owed x.trim } = owed / 200 := rfl
    omega
  have left : (trimPaid free r owed x.trim).gapLeft = 0 ↔ x.trim.gapLeft ≤ 1 := by
    have e : (trimPaid free r owed x.trim).gapLeft = x.trim.gapLeft - 1 := rfl
    omega
  obtain ⟨kind, passed, needs, _⟩ := trimPaid_keeps free r owed x.trim
  rw [gapOver_iff, queueWaits_trim, few]
  simp only [left, kind, passed, needs]

theorem settleGap_over {z k : Nat} {s : State} (gap : (zoe s z).state = .gap) (due : gapOver (zoe s z) = true) :
    settleGap z k s = modZoe z (Machine.endGap k (timeNs s)) s := if_pos ⟨gap, due⟩

theorem settleGap_still {z k : Nat} {s : State} (h : (zoe s z).state = .gap → gapOver (zoe s z) = false) : settleGap z k s = s :=
  if_neg fun ⟨gap, due⟩ => by rw [h gap] at due; cases due

theorem settleGap_only (z k : Nat) (s : State) : OnlyZoe z s (settleGap z k s) := by
  unfold settleGap
  split
  · exact onlyZoe_modZoe ..
  · exact .refl ..

theorem settleGap_time (z k : Nat) (s : State) : timeNs (settleGap z k s) = timeNs s := by unfold settleGap; split <;> rfl

/-- What the end of a gap leaves of any Zoetrope, whether it comes or not. -/
theorem settleGap_keeps {z : Nat} {s : State} {P : Zoe → Prop} (keeps : ∀ k now x, P x → P (Machine.endGap k now x)) (k : Nat)
    (h : P (zoe s z)) : P (zoe (settleGap z k s) z) := by
  unfold settleGap
  split
  · rw [zoe_modZoe_same]
    exact keeps _ _ _ h
  · exact h

/-! Passes (R94, R96). -/

/-- A pass in which no channel lies out of range fails none (R94). -/
theorem channelRuns_clean {t : ZoeTrim} (h : tapBad t.taps = []) : channelRuns t = ({ t with badRuns := [] }, []) := by
  unfold channelRuns
  dsimp only
  rw [h]
  rfl

/-- A pass completes in which no channel lies out of range. -/
theorem endPass_clean {z : Nat} {r : PilotResult} {s : State} (h : tapBad (zoe s z).trim.taps = []) :
    OnlyZoe z s (endPass z r s)
      ∧ zoe (endPass z r s) z = { completePass (timeNs s) r (zoe s z) with
          trim := { (completePass (timeNs s) r (zoe s z)).trim with badRuns := [] } } := by
  have clean := channelRuns_clean (t := (zoe (modZoe z (completePass (timeNs s) r) s) z).trim) (by rw [zoe_modZoe_same]; exact h)
  unfold endPass
  dsimp only
  rw [clean]
  refine ⟨(onlyZoe_modZoe ..).trans (onlyZoe_modZoe ..), ?_⟩
  change zoe (modZoe z _ (modZoe z _ s)) z = _
  rw [zoe_modZoe_same, zoe_modZoe_same]

theorem passConverged_iff (r : PilotResult) :
    passConverged r = true ↔ r.phRms.toNat ≤ 40 ∧ r.phMax.toNat ≤ 40 ∧ r.balRms.toNat ≤ 5 ∧ r.balMax.toNat ≤ 20
      ∧ r.worstErr.toNat ≤ 10 := decide_eq_true_iff

/-- The pass completes at its 1,024th window (R95, R96). -/
theorem passPos_succ_eq_zero_iff (p : BitVec 10) : p + 1 = 0 ↔ p.toNat = 1023 := by
  have := p.isLt
  rw [← BitVec.toNat_inj]
  simp
  omega

theorem pilotPassed_short {z : Nat} {s : State} (r : PilotResult) (h : (zoe s z).trim.passPos.toNat ≠ 1023) :
    pilotPassed z r s = pilotTaken z r s := by
  obtain ⟨owed, _, taken⟩ := exists_trimPaid z r s
  refine if_neg fun c => h ?_
  rw [taken] at c
  exact (passPos_succ_eq_zero_iff _).mp c

theorem pilotPassed_whole {z : Nat} {s : State} (r : PilotResult) (h : (zoe s z).trim.passPos.toNat = 1023) :
    pilotPassed z r s = endPass z r (pilotTaken z r s) := by
  obtain ⟨owed, _, taken⟩ := exists_trimPaid z r s
  refine if_pos ?_
  rw [taken]
  exact (passPos_succ_eq_zero_iff _).mpr h

/-- A pass that completes leaves what its last window paid. -/
theorem Paid.completePass {x y : Zoe} (h : Paid x y) (last : x.trim.passPos.toNat = 1023) (now : Nat) (r : PilotResult) :
    Paid x { completePass now r y with trim := { (completePass now r y).trim with badRuns := [] } } := by
  obtain ⟨gapSym, owes, _, rest⟩ := h
  exact ⟨gapSym, owes, ((passPos_succ_eq_zero_iff _).mpr last).symm, rest⟩

theorem pilotsRun_iff (x : Zoe) :
    pilotsRun x = true ↔ x.state = .gap ∧ x.trim.pilots = true ∨ x.state = .trimming ∧ x.trim.light = true := by
  simp [pilotsRun]

/-- A pilot window is taken in a gap with nothing to fence it, or under the continuous pilots of a Trimming with light. -/
def TakesPilots (x : Zoe) : Prop :=
  x.state = .gap ∧ x.trim.pilots = true ∧ x.fenceReq = 0 ∨ x.state = .trimming ∧ x.trim.light = true

theorem TakesPilots.runs {x : Zoe} (h : TakesPilots x) : pilotsRun x = true := (pilotsRun_iff x).mpr (h.imp (fun h => ⟨h.1, h.2.1⟩) id)

theorem TakesPilots.of_gap {x : Zoe} (h : TakesPilots x) (gap : x.state = .gap) : x.trim.pilots = true ∧ x.fenceReq = 0 := by
  rcases h with ⟨_, taken⟩ | ⟨trimming, _⟩
  · exact taken
  · exact absurd (trimming.symm.trans gap) (by decide)

/-- A pilot window has been paid for, in time t, whether or not its gap has ended. -/
theorem paid_settleGap {z : Nat} {r : PilotResult} {s u : State} (only : OnlyPilot z s u)
    (time : timeNs u = timeNs (pilotTaken z r s)) (hp : Paid (zoe s z) (zoe u z)) :
    let t := settleGap z (zoe s z).trim.pilotAt u
    OnlyPilot z s t ∧ ((zoe s z).state = .gap → (zoe s z).trim.pilotAt ≤ 16 * timeNs t) ∧ Paid (zoe s z) (zoe t z) := by
  refine ⟨only.then (settleGap_only ..), fun gap => ?_, settleGap_keeps (fun k now _ h => h.endGap k now) _ hp⟩
  rw [settleGap_time, time]
  exact pilotTaken_time r gap

/-- A pilot window that does not complete its pass (R95, R97, R98). -/
theorem pilotWindowEnd_short {z : ZoeId} {s : State} (r : PilotResult) (may : TakesPilots (zoe s z.val))
    (short : (zoe s z.val).trim.passPos.toNat ≠ 1023) :
    let x := zoe s z.val
    let ends : Prop := if x.trim.gapKind = .idle then queueWaits x = true ∨ x.trim.owed200 < 51400 ∧ x.trim.gapPassed = true
      else x.trim.gapLeft ≤ 1 ∧ (x.trim.gapNeedsPass = false ∨ x.trim.gapPassed = true)
    ∃ t, exec (.pilotWindowEnd z r) s = .next t
      ∧ (OnlyPilot z.val s t ∧ (x.state = .gap → x.trim.pilotAt ≤ 16 * timeNs t) ∧ Paid x (zoe t z.val))
      ∧ (zoe t z.val).prec = x.prec ∧ (zoe t z.val).trim.passes = x.trim.passes
      ∧ (x.state = .trimming → (zoe t z.val).state = .trimming)
      ∧ (x.state = .gap → ¬ ends → (zoe t z.val).state = .gap ∧ (zoe t z.val).trim.pilots = true)
      ∧ (x.state = .gap → ends → (zoe t z.val).state = (if queueWaits x then .running else .ready)
        ∧ (zoe t z.val).trim.gapKind = .none) := by
  intro x ends
  obtain ⟨owed, howed, taken⟩ := exists_trimPaid z.val r s
  obtain ⟨_, _, _, pilots, passes⟩ := trimPaid_keeps s.free r owed x.trim
  have after := exec_pilotWindowEnd (r := r) may.runs (by
    rw [pilotPassed_short r short, taken]
    exact fun gap => (may.of_gap gap).2)
  rw [pilotPassed_short r short] at after
  refine ⟨_, after, paid_settleGap (pilotTaken_only z.val r s) rfl (by rw [taken]; exact paid_trimPaid s.free r howed),
    settleGap_keeps (P := fun y => y.prec = x.prec) (fun _ _ _ h => h) _ (by rw [taken]),
    settleGap_keeps (P := fun y => y.trim.passes = x.trim.passes) (fun _ _ _ h => h) _ (by rw [taken]; exact passes), ?_, ?_, ?_⟩
  · intro trimming
    rw [settleGap_still fun gap => by rw [taken] at gap; exact absurd (trimming.symm.trans gap) (by decide), taken]
    exact trimming
  · intro gap goesOn
    rw [settleGap_still fun _ => by
      rw [taken, Bool.eq_false_iff, ne_eq, gapOver_trimPaid_iff s.free r howed]
      exact goesOn, taken]
    exact ⟨gap, pilots.trans (may.of_gap gap).1⟩
  · intro gap due
    rw [settleGap_over (by rw [taken]; exact gap) (by rw [taken, gapOver_trimPaid_iff s.free r howed]; exact due), zoe_modZoe_same,
      taken, endGap_state, queueWaits_trim]
    exact ⟨rfl, rfl⟩

/-- The pilot window that completes its pass, in which no channel lies out of range (R94 to R96, R101). -/
theorem pilotWindowEnd_whole {z : ZoeId} {s : State} (r : PilotResult) (may : TakesPilots (zoe s z.val))
    (last : (zoe s z.val).trim.passPos.toNat = 1023) (clean : tapBad (zoe s z.val).trim.taps = []) :
    let x := zoe s z.val
    ∃ t, exec (.pilotWindowEnd z r) s = .next t
      ∧ (OnlyPilot z.val s t ∧ (x.state = .gap → x.trim.pilotAt ≤ 16 * timeNs t) ∧ Paid x (zoe t z.val))
      ∧ (zoe t z.val).trim.passes = x.trim.passes + 1 ∧ (zoe t z.val).prec.lastPass = some (timeNs t)
      ∧ (zoe t z.val).trim.phRms = r.phRms ∧ (zoe t z.val).trim.balRms = r.balRms ∧ (zoe t z.val).trim.badRuns = []
      ∧ ((zoe t z.val).trim.conv = true ↔ r.phRms.toNat ≤ 40 ∧ r.phMax.toNat ≤ 40 ∧ r.balRms.toNat ≤ 5 ∧ r.balMax.toNat ≤ 20
        ∧ r.worstErr.toNat ≤ 10) := by
  intro x
  obtain ⟨y, taken, paid, state, fenceReq, taps, passes⟩ : ∃ y, zoe (pilotTaken z.val r s) z.val = y ∧ Paid x y ∧ y.state = x.state
      ∧ y.fenceReq = x.fenceReq ∧ y.trim.taps = x.trim.taps ∧ y.trim.passes = x.trim.passes := by
    obtain ⟨owed, howed, taken⟩ := exists_trimPaid z.val r s
    obtain ⟨_, _, _, _, passes⟩ := trimPaid_keeps s.free r owed x.trim
    exact ⟨_, taken, paid_trimPaid s.free r howed, rfl, rfl, trimPaid_taps last .., passes⟩
  obtain ⟨only, passed⟩ := endPass_clean (z := z.val) (r := r) (s := pilotTaken z.val r s) (by rw [taken, taps]; exact clean)
  rw [taken] at passed
  have after := exec_pilotWindowEnd (r := r) may.runs (by
    rw [pilotPassed_whole r last, passed]
    exact fun gap => fenceReq.trans (may.of_gap (state.symm.trans gap)).2)
  rw [pilotPassed_whole r last] at after
  refine ⟨_, after, paid_settleGap ((pilotTaken_only z.val r s).then only) only.time_eq
    (by rw [passed]; exact paid.completePass last ..), ?_⟩
  rw [settleGap_time, only.time_eq]
  refine settleGap_keeps (P := fun y => y.trim.passes = x.trim.passes + 1
    ∧ y.prec.lastPass = some (timeNs (pilotTaken z.val r s)) ∧ y.trim.phRms = r.phRms ∧ y.trim.balRms = r.balRms
    ∧ y.trim.badRuns = [] ∧ (y.trim.conv = true ↔ _)) (fun _ _ _ h => h) _ ?_
  rw [passed, ← passes]
  exact ⟨rfl, rfl, rfl, rfl, rfl, passConverged_iff r⟩

theorem gapsAndPilots : Claims.GapsAndPilots := by
  refine ⟨fun z s ready light owed still => ?_, ?_⟩
  · have due : 0 < owedSym (zoe s z.val) ∨ gapAged s (zoe s z.val) = true := by
      rw [gapAged_iff]
      rcases owed with owed | aged
      · exact .inl (by unfold owedSym; omega)
      · exact .inr aged
    refine ⟨_, exec_idleGapStart ⟨ready, light, due, by rw [queueWaits_eq_false still]; rfl⟩, onlyZoe_modZoe .., ?_⟩
    rw [zoe_modZoe_same]
    exact ⟨rfl, rfl, rfl, rfl, rfl, rfl, rfl⟩
  · intro z r s x n ends paid may
    refine ⟨fun short => ?_, fun last clean => ?_⟩
    · obtain ⟨t, run, ⟨⟨frame, others⟩, time, accounts⟩, rest⟩ := pilotWindowEnd_short r may short
      exact ⟨t, run, ⟨frame, others, time, accounts⟩, rest⟩
    · obtain ⟨t, run, ⟨⟨frame, others⟩, time, accounts⟩, rest⟩ := pilotWindowEnd_whole r may last clean
      exact ⟨t, run, ⟨frame, others, time, accounts⟩, rest⟩

end Sys2Proof.Machine
end

section
/-! PROOFS. A round of a trim engine. -/

namespace Sys2Proof.Machine

open Sys2Proof Sys2Proof.Machine.Tables

/-! ### The elements of an engine (R91) -/

/-- The cell elements of engine n. -/
def engineCells (n : Nat) : List Nat :=
  (List.range 260).flatMap (fun r => (List.range 8).flatMap (fun c => [2 * (128 * r + 8 * n + c), 2 * (128 * r + 8 * n + c) + 1]))

/-- The couplers of engine n, and the attenuator of engine 0. -/
def engineCouplers (n : Nat) : List Nat :=
  (if n < 4 then (List.range 49).map (fun i => 66560 + 49 * n + i)
    else (List.range 48).map (fun i => 66560 + 196 + 48 * (n - 4) + i)) ++ if n = 0 then [67332] else []

theorem engineElems_eq (n : Nat) : engineElems n = engineCells n ++ engineCouplers n := by
  rw [engineCouplers, ← List.append_assoc]; rfl

theorem mem_engineCells {n k : Nat} (h : k ∈ engineCells n) :
    ∃ r < 260, ∃ c < 8, k = 2 * (128 * r + 8 * n + c) ∨ k = 2 * (128 * r + 8 * n + c) + 1 := by
  simpa only [engineCells, List.mem_flatMap, List.mem_range, List.mem_cons, List.not_mem_nil, or_false] using h

/-- No cell element is served twice. -/
theorem nodup_engineCells (n : Nat) : (engineCells n).Nodup := by
  unfold engineCells
  rw [List.nodup_flatMap]
  refine ⟨fun r _ => ?_, ?_⟩
  · rw [List.nodup_flatMap]
    refine ⟨fun c _ => by simp, ?_⟩
    refine List.Pairwise.imp (fun {a b} hab => ?_) List.pairwise_lt_range
    simp only [Function.onFun, List.disjoint_left, List.mem_cons, List.not_mem_nil, or_false]
    omega
  · refine List.Pairwise.imp (fun {a b} hab => ?_) List.pairwise_lt_range
    simp only [Function.onFun, List.disjoint_left, List.mem_flatMap, List.mem_range, List.mem_cons, List.not_mem_nil, or_false]
    rintro k ⟨c, hc, hk⟩ ⟨d, hd, hl⟩
    omega

theorem le_of_mem_engineCouplers {n k : Nat} (hn : n < 16) (h : k ∈ engineCouplers n) : 66560 ≤ k := by
  unfold engineCouplers at h
  split at h <;> split at h <;> simp at h <;> omega

theorem nodup_engineCouplers {n : Nat} (hn : n < 16) : (engineCouplers n).Nodup := by
  have run (a m : Nat) : ((List.range m).map (fun i => a + i)).Nodup := List.nodup_range.map fun _ _ h => by simpa using h
  unfold engineCouplers
  by_cases low : n < 4
  · rw [if_pos low]
    split
    · refine List.Nodup.append (run _ _) (by simp) ?_
      simp only [List.disjoint_left, List.mem_map, List.mem_range, List.mem_singleton]
      rintro k ⟨i, hi, rfl⟩
      omega
    · rw [List.append_nil]; exact run _ _
  · rw [if_neg low, if_neg (by omega), List.append_nil]
    exact run _ _

/-- No element is served twice in a round. -/
theorem nodup_engineElems {n : Nat} (hn : n < 16) : (engineElems n).Nodup := by
  rw [engineElems_eq]
  refine List.Nodup.append (nodup_engineCells n) (nodup_engineCouplers hn) ?_
  rw [List.disjoint_left]
  intro k hk hl
  obtain ⟨r, hr, c, hc, h⟩ := mem_engineCells hk
  have := le_of_mem_engineCouplers hn hl
  omega

/-! ### Visits (R92, R100) -/

/-- What visits leave of a Zoetrope: all but the elements and the counts of clamped heaters. -/
def SameButElems (x y : Zoe) : Prop :=
  y = { x with trim := { x.trim with elems := y.trim.elems, clamp := y.trim.clamp, wrapCnt := y.trim.wrapCnt } }

theorem SameButElems.refl (x : Zoe) : SameButElems x x := rfl

theorem SameButElems.trans {x y w : Zoe} (h : SameButElems x y) (k : SameButElems y w) : SameButElems x w :=
  Eq.trans k (by unfold SameButElems at h; rw [h])

/-- The move of a lit cell's target for the pilot results since its last visit (R92). -/
def cellMove (x : Zoe) (z k : Nat) : Int :=
  let n := accCount x.trim k (elem x z k)
  if n = 0 then 0 else correction x.trim k n (Config.pilotSum x.trim.accKey k n)

theorem SameButElems.cellMove_eq {x y : Zoe} (h : SameButElems x y) {z k : Nat} (he : elem y z k = elem x z k) :
    cellMove y z k = cellMove x z k := by
  unfold cellMove
  rw [he, h]
  rfl

/-- The Zoetrope after element e was visited and took the value v; `out` where it was clamped for the first time. -/
def visited (z e : Nat) (v : TrimElem) (out : Bool) (x : Zoe) : Zoe :=
  let t := setElem z e v x.trim
  { x with trim := if out then { t with clamp := t.clamp + 1, wrapCnt := satInc t.wrapCnt } else t }

theorem visited_same (z e : Nat) (v : TrimElem) (out : Bool) (x : Zoe) : SameButElems x (visited z e v out x) := by
  cases out <;> rfl

theorem elem_visited (z e : Nat) (v : TrimElem) (out : Bool) (x : Zoe) (k : Nat) :
    elem (visited z e v out x) z k = if k = e then v else elem x z k := by
  have elems : (visited z e v out x).trim.elems = (setElem z e v x.trim).elems := by cases out <;> rfl
  unfold elem
  rw [elems]
  by_cases h : k = e
  · subst h
    rw [if_pos rfl, look_setElem_same]
  · rw [if_neg h, look_setElem_ne _ _ h]

/-- Dark cells are held (R96). -/
theorem visitElem_dark {z e free : Nat} {x : Zoe} (cell : e < 66560) (dark : cellLit x.modeApplied (e / 256) (e / 2 % 128) = false) :
    visitElem z e free x = x := by
  rw [show e / 256 = e / 2 / 128 by omega] at dark
  simp [visitElem, cell, dark]

/-- A visit that is not to a dark cell gives its element a target and a drive within its band. -/
theorem visitElem_lit {z e free : Nat} {x : Zoe} (lit : e < 66560 → cellLit x.modeApplied (e / 256) (e / 2 % 128) = true) :
    ∃ v out, visitElem z e free x = visited z e v out x
      ∧ (e < 66560 → v.target = (elem x z e).target - cellMove x z e) ∧ ∃ want, v.drive = bandDrive e want := by
  have open' : (decide (e < 66560) && !cellLit x.modeApplied (e / 2 / 128) (e / 2 % 128)) = false := by
    by_cases cell : e < 66560
    · have := lit cell
      rw [show e / 256 = e / 2 / 128 by omega] at this
      simp [this]
    · simp [cell]
  unfold visitElem
  dsimp only
  rw [if_neg (by rw [open']; decide)]
  refine ⟨_, _, rfl, fun cell => ?_, _, rfl⟩
  simp only [cell, decide_true, if_true]
  rfl

theorem visitElem_same (z e free : Nat) (x : Zoe) : SameButElems x (visitElem z e free x) := by
  by_cases dark : e < 66560 ∧ cellLit x.modeApplied (e / 256) (e / 2 % 128) = false
  · rw [visitElem_dark dark.1 dark.2]
    exact .refl x
  · obtain ⟨v, out, h, _⟩ := visitElem_lit (z := z) (e := e) (free := free) (x := x) (fun cell => by
      rw [← Bool.not_eq_false]; exact fun c => dark ⟨cell, c⟩)
    rw [h]
    exact visited_same ..

/-- A visit leaves every other element. -/
theorem elem_visitElem_ne {z e k : Nat} (free : Nat) (x : Zoe) (hk : k ≠ e) : elem (visitElem z e free x) z k = elem x z k := by
  by_cases dark : e < 66560 ∧ cellLit x.modeApplied (e / 256) (e / 2 % 128) = false
  · rw [visitElem_dark dark.1 dark.2]
  · obtain ⟨v, out, h, _⟩ := visitElem_lit (z := z) (e := e) (free := free) (x := x) (fun cell => by
      rw [← Bool.not_eq_false]; exact fun c => dark ⟨cell, c⟩)
    rw [h, elem_visited, if_neg hk]

/-! ### Rounds (R91) -/

/-- The elements of a list visited in turn. -/
def visitAll (z free : Nat) (ks : List Nat) (x : Zoe) : Zoe := ks.foldl (fun x k => visitElem z k free x) x

theorem visitAll_same (z free : Nat) (ks : List Nat) (x : Zoe) : SameButElems x (visitAll z free ks x) := by
  induction ks generalizing x with
  | nil => exact .refl x
  | cons k ks ih => exact (visitElem_same z k free x).trans (ih _)

theorem elem_visitAll_of_not_mem {z k : Nat} (free : Nat) {ks : List Nat} (x : Zoe) (h : k ∉ ks) :
    elem (visitAll z free ks x) z k = elem x z k := by
  induction ks generalizing x with
  | nil => rfl
  | cons e ks ih =>
    obtain ⟨ne, tail⟩ := not_or.mp (List.mem_cons.not.mp h)
    exact (ih _ tail).trans (elem_visitElem_ne free x ne)

/-- An element of a list without repetitions is as its one visit leaves it, which finds it as it was. -/
theorem elem_visitAll_of_mem {z k : Nat} (free : Nat) {ks : List Nat} (nodup : ks.Nodup) (x : Zoe) (h : k ∈ ks) :
    ∃ y, SameButElems x y ∧ elem y z k = elem x z k ∧ elem (visitAll z free ks x) z k = elem (visitElem z k free y) z k := by
  induction ks generalizing x with
  | nil => cases h
  | cons e ks ih =>
    obtain ⟨fresh, nodup'⟩ := List.nodup_cons.mp nodup
    by_cases hk : k = e
    · subst hk
      exact ⟨x, .refl x, rfl, elem_visitAll_of_not_mem free _ fresh⟩
    · obtain ⟨y, same, kept, visit⟩ := ih nodup' (visitElem z e free x) (List.mem_of_ne_of_mem hk h)
      exact ⟨y, (visitElem_same z e free x).trans same, kept.trans (elem_visitElem_ne free x hk), visit⟩

theorem SameButElems.modeApplied_eq {x y : Zoe} (h : SameButElems x y) : y.modeApplied = x.modeApplied := by rw [h]

theorem SameButElems.engRound_eq {x y : Zoe} (h : SameButElems x y) : y.trim.engRound = x.trim.engRound := by rw [h]

/-- The phase drives' band (R100). -/
theorem bandDrive_phase {e : Nat} (cell : e < 66560) (phase : e % 2 = 0) (want : Int) :
    64 ≤ (bandDrive e want).toNat ∧ (bandDrive e want).toNat ≤ 3900 := by
  have band : 64 ≤ clampInt 64 3900 want ∧ clampInt 64 3900 want ≤ 3900 := by unfold clampInt; omega
  rw [bandDrive, if_pos ⟨cell, phase⟩, BitVec.toNat_ofInt]
  omega

theorem exec_trimRound_held {z : ZoeId} {e : Fin 16} {us : Byte} {s : State} (held : loopsRun (zoe s z.val) = false) :
    exec (.trimRound z e us) s = .next s := congrArg Host.Outcome.next (if_pos (by rw [held]; rfl))

/-- The round of engine e that begins at `us` is noted (R91). -/
def noteRound (e : Nat) (us : Byte) (x : Zoe) : Zoe := { x with trim.engRound := put x.trim.engRound e us 0 }

theorem elem_noteRound (e : Nat) (us : Byte) (x : Zoe) (z k : Nat) : elem (noteRound e us x) z k = elem x z k := rfl

theorem engRound_noteRound (e : Nat) (us : Byte) (x : Zoe) : (noteRound e us x).trim.engRound = put x.trim.engRound e us 0 := rfl

theorem exec_trimRound_runs {z : ZoeId} {e : Fin 16} {us : Byte} {s : State} (runs : loopsRun (zoe s z.val) = true) :
    exec (.trimRound z e us) s
      = .next (useFrees 67333 (modZoe z.val (fun x => noteRound e.val us (visitAll z.val s.free (engineElems e.val) x)) s)) := by
  have run : exec (.trimRound z e us) s = execTrimRound z e us s := rfl
  rw [run, execTrimRound, if_neg (by rw [runs]; decide)]
  simp only [noteRound, visitAll]

theorem useFrees_modZoe_frame (n z : Nat) (f : Zoe → Zoe) (s : State) :
    useFrees n (modZoe z f s) = { s with zoes := (useFrees n (modZoe z f s)).zoes, free := s.free + n } := rfl

theorem trimRounds : Claims.TrimRounds := by
  intro z e us s x
  refine ⟨exec_trimRound_held, fun runs => ⟨_, exec_trimRound_runs runs, useFrees_modZoe_frame ..,
    fun i hi => (zoe_useFrees ..).trans (zoe_modZoe_ne _ s hi), ?_⟩⟩
  rw [zoe_useFrees, zoe_modZoe_same]
  refine ⟨fun i => ?_, fun k hk => ?_, fun k hk cell dark => ?_, fun k hk cell lit => ?_⟩
  · rw [engRound_noteRound, (visitAll_same ..).engRound_eq, look_put]
  · rw [elem_noteRound]
    exact elem_visitAll_of_not_mem s.free x hk
  · obtain ⟨y, same, kept, visit⟩ := elem_visitAll_of_mem (z := z.val) s.free (nodup_engineElems e.isLt) x hk
    rw [← same.modeApplied_eq] at dark
    rw [elem_noteRound, visit, visitElem_dark cell dark, kept]
  · obtain ⟨y, same, kept, visit⟩ := elem_visitAll_of_mem (z := z.val) s.free (nodup_engineElems e.isLt) x hk
    rw [← same.modeApplied_eq] at lit
    obtain ⟨v, out, hv, target, want, drive⟩ := visitElem_lit (z := z.val) (e := k) (free := s.free) (x := y) (fun _ => lit)
    rw [elem_noteRound, visit, hv, elem_visited, if_pos rfl]
    refine ⟨?_, fun phase => ?_⟩
    · rw [target cell, same.cellMove_eq kept, kept]
      rfl
    · rw [drive]
      exact bandDrive_phase cell phase want

/-- Settles O16: pilot windows by the accounts that each of them pays, a Trim round by the one visit that each of its elements gets. -/
theorem calibrationRuns : Obligations.CalibrationRuns := ⟨gapsAndPilots, trimRounds⟩

end Sys2Proof.Machine
end

section
/-! PROOFS. The window boundary of a stream with nothing due, and the descriptor that it takes. -/

namespace Sys2Proof.Machine

open Sys2Proof Sys2Proof.Machine.Tables

/-! ### Every Zoetrope as it was -/

/-- Nothing differs, whatever the form in which the Zoetropes are listed. -/
def SameZoes (s u : State) : Prop := u = { s with zoes := u.zoes } ∧ ∀ i, zoe u i = zoe s i

theorem SameZoes.time_eq {s u : State} (h : SameZoes s u) : timeNs u = timeNs s := by rw [h.1]; rfl

theorem SameZoes.runGrant_eq {s u : State} (h : SameZoes s u) (z : Nat) : runGrant u z = runGrant s z := by rw [h.1]; rfl

theorem SameZoes.boundarySym_eq {s u : State} (h : SameZoes s u) (r : StreamSt) : boundarySym u r = boundarySym s r := by
  unfold boundarySym nowSym
  rw [h.time_eq]

/-- A change of Zoetrope z after one that changed nothing is a change of Zoetrope z. -/
theorem SameZoes.onlyZoe {s u t : State} (h : SameZoes s u) {z : Nat} (k : OnlyZoe z u t) : OnlyZoe z s t := by
  obtain ⟨hu, hz⟩ := h
  obtain ⟨ht, kz⟩ := k
  exact ⟨by rw [ht, hu], fun i hi => (kz i hi).trans (hz i)⟩

/-! ### What is due at a boundary (R39) -/

theorem countPause_of_not_paused {z q : Nat} {s : State} (h : (stream (zoe s z) q).paused = false) : countPause z q s = s := by
  simp [countPause, pauseCycles, h]

theorem triggers_still {q : Nat} {x : Zoe} (gap : gapRuleMet x (stream x q) = false) (fence : fenceRuleMet x (stream x q) = false)
    (run : x.trim.gapRun.toNat < 16000000) : triggerRun (triggerGap q (triggerFence q x)) = x := by
  simp [triggerFence, fence, triggerGap, gap, triggerRun, Nat.not_le.mpr run]

theorem settleStop_of_not_stopping {p : Nat} {s : State} (h : ∀ w, find s.shows p = some w → w.stopping = false) :
    settleStop p s = s := by
  unfold settleStop stopDone
  cases show' : find s.shows p with
  | none => simp
  | some w => simp [h w show']

/-- With nothing due before it, a stream at its boundary takes its next descriptor, unless that lacks its grant. -/
theorem boundary_quiet {z q : Nat} {s : State} (quiet : Tables.Quiet s z q) :
    ∃ u, SameZoes s u ∧ (lacksGrant u z q = true → boundary z q s = pauseStream z q u)
      ∧ (lacksGrant u z q = false → (nextDescriptor 16384 z q u).shows = s.shows →
        boundary z q s = modZoe z settleReady (nextDescriptor 16384 z q u)) := by
  obtain ⟨ready, integ, idle, paused, qrun, halt, held, fenceReq, fenceDue, light, lightDue, calDue, runDue, gapRun, gap0, gap1,
    gapRule, fenceRule, stopRun, shows⟩ := quiet
  have still : triggerRun (triggerGap q (triggerFence q (zoe s z))) = zoe s z := triggers_still gapRule fenceRule gapRun
  have noGap (i : Nat) : (stream (zoe s z) i).gapDue = false := by unfold stream; split <;> assumption
  have shows' : ((quadPart s z).bind (find s.shows)).any (·.faulted) = false := by
    cases hp : quadPart s z with
    | none => rfl
    | some p =>
      cases hw : find s.shows p with
      | none => simp [hw]
      | some w => simp [hw, (shows p w hp hw).1]
  have bound : boundary z q s = (let u := modZoe z (fun x => triggerRun (triggerGap q (triggerFence q x))) s
      if lacksGrant u z q then pauseStream z q u
      else (quadPart s z).elim (modZoe z settleReady (nextDescriptor 16384 z q u))
        (fun p => settleStop p (modZoe z settleReady (nextDescriptor 16384 z q u)))) := by
    unfold boundary
    rw [countPause_of_not_paused paused]
    simp only [zoe_modZoe_same, still]
    have busy : ¬(((zoe s z).state ≠ .ready ∧ (zoe s z).state ≠ .running) ∨ (stream (zoe s z) q).integ.isSome = true
        ∨ (stream (zoe s z) q).idle.isSome = true ∨ blockHeld s .zoetrope z = true) := by
      rw [integ, idle, held]
      rintro (⟨h, h'⟩ | h | h | h)
      · exact ready.elim h h'
      all_goals exact absurd h (by decide)
    refine (if_neg busy).trans ?_
    rw [if_neg (by simp [fenceReq]), if_neg (by simp [fenceDue]),
      if_neg (by simp [light, lightDue]), if_neg (by simp [calDue]), if_neg (by simp [noGap, runDue]),
      if_neg (by rw [not_or]; exact ⟨by simp [stopRun], fun h => absurd (shows'.symm.trans h) (by decide)⟩)]
    simp only [halt, qrun, false_and, if_false, Bool.false_eq_true, not_true, ne_eq]
    rfl
  refine ⟨_, ⟨rfl, fun i => ?_⟩, fun lacks => bound.trans (if_pos lacks), fun has kept => bound.trans ?_⟩
  · by_cases hi : i = z
    · subst hi
      rw [zoe_modZoe_same, still]
    · exact zoe_modZoe_ne _ _ hi
  · dsimp only
    rw [if_neg (by rw [has]; decide)]
    cases hp : quadPart s z with
    | none => rfl
    | some p => exact settleStop_of_not_stopping fun w hw => (shows p w hp (by rwa [modZoe_shows, kept] at hw)).2

/-! ### The next descriptor (R47 to R49) -/

theorem peekDesc_of_type {n : Nat} (fuel : 0 < n) {x : Zoe} {pos : BitVec 14} (h : wdType (look x.ram pos.toNat 0) ≠ 0) :
    peekDesc n x pos = look x.ram pos.toNat 0 := by
  cases n with
  | zero => exact absurd fuel (by decide)
  | succ n => exact if_neg h

/-- A descriptor of queue 1 outside Twin mode is in error whatever it says (R49). -/
theorem dscError_of_single {q : Nat} {twin : Bool} (d : BitVec 128) (h : q = 1 ∧ (!twin) = true) : dscError twin q d ≠ 0 := by
  unfold dscError
  dsimp only
  rw [if_pos h]
  repeat' split
  all_goals decide

/-- A NOP is in error in queue 1 outside Twin mode only (R49). -/
theorem single_of_dscError_nop {q : Nat} {twin : Bool} {d : BitVec 128} (nop : wdType d = 0) (h : dscError twin q d ≠ 0) :
    q = 1 ∧ (!twin) = true := by
  by_contra c
  exact h (by simpa [dscError, nop] using c)

/-- The queue of a descriptor without error is in use (R34). -/
theorem mem_streamsOf_of_dscError {q : Stream} {x : Zoe} {d : BitVec 128} (h : dscError x.modeApplied (streamNo q) d = 0) :
    streamNo q ∈ streamsOf x := by
  by_contra c
  refine dscError_of_single d ?_ h
  cases twin : x.modeApplied <;> rcases streamNo_eq q with k | k <;> simp_all [streamsOf]

variable {n z q : Nat} {s : State}

theorem nextDescriptor_fail (h : dscError (zoe s z).modeApplied q (look (zoe s z).ram (stream (zoe s z) q).pos.toNat 0) ≠ 0) :
    nextDescriptor (n + 1) z q s
      = dscFail z q (dscError (zoe s z).modeApplied q (look (zoe s z).ram (stream (zoe s z) q).pos.toNat 0)) s := if_pos h

theorem nextDescriptor_idle (ok : dscError (zoe s z).modeApplied q (look (zoe s z).ram (stream (zoe s z) q).pos.toNat 0) = 0)
    (h : wdType (look (zoe s z).ram (stream (zoe s z) q).pos.toNat 0) = 2) :
    nextDescriptor (n + 1) z q s = modZoe z (fun x => { (onStream q (fun r => { r with
      idle := some (startSym s (stream (zoe s z) q) + idCount (look (zoe s z).ram (stream (zoe s z) q).pos.toNat 0))
      pos := r.pos + 1, paused := false }) x) with state := .running }) s := by
  unfold nextDescriptor
  simp only [ok, h, ne_eq, not_true, if_false]

theorem nextDescriptor_window (ok : dscError (zoe s z).modeApplied q (look (zoe s z).ram (stream (zoe s z) q).pos.toNat 0) = 0)
    (h : wdType (look (zoe s z).ram (stream (zoe s z) q).pos.toNat 0) = 1) :
    nextDescriptor (n + 1) z q s = beginWindow z q (look (zoe s z).ram (stream (zoe s z) q).pos.toNat 0)
      (startSym s (stream (zoe s z) q)) (modZoe z (fillCredits (runGrant s z) (startSym s (stream (zoe s z) q))) s) := by
  unfold nextDescriptor
  simp only [ok, h, ne_eq, not_true, if_false]

theorem nextDescriptor_end (ok : dscError (zoe s z).modeApplied q (look (zoe s z).ram (stream (zoe s z) q).pos.toNat 0) = 0)
    (h : wdType (look (zoe s z).ram (stream (zoe s z) q).pos.toNat 0) = 3) (notDeferred : (stream (zoe s z) q).gapDeferred = false) :
    nextDescriptor (n + 1) z q s = sceneDone z q (modStream z q (fun r => { r with
      pos := r.pos + 1, paused := false, boundAt := startSym s (stream (zoe s z) q) }) s) := by
  unfold nextDescriptor
  simp only [ok, h, ne_eq, not_true, if_false, notDeferred, Bool.false_eq_true]

/-- Whether the descriptor at hand lacks its grant or its credits, where it is no NOP (R353). -/
theorem lacksGrant_eq (h : wdType (look (zoe s z).ram (stream (zoe s z) q).pos.toNat 0) ≠ 0)
    (qrun : (stream (zoe s z) q).qstate = .running)
    (ok : dscError (zoe s z).modeApplied q (look (zoe s z).ram (stream (zoe s z) q).pos.toNat 0) = 0) :
    lacksGrant s z q = true ↔
      (wdType (look (zoe s z).ram (stream (zoe s z) q).pos.toNat 0) = 1 ∧ (runGrant s z = 0
        ∨ (fillCredits (runGrant s z) (startSym s (stream (zoe s z) q)) (zoe s z)).credits4
          < 4 * wdK (look (zoe s z).ram (stream (zoe s z) q).pos.toNat 0)))
      ∨ (wdType (look (zoe s z).ram (stream (zoe s z) q).pos.toNat 0) = 2 ∧ (zoe s z).state ≠ .running) ∧ runGrant s z = 0 := by
  unfold lacksGrant
  dsimp only
  rw [peekDesc_of_type (n := 16384) (by decide) h, ok]
  simp [qrun]

/-- A descriptor in error lacks nothing. -/
theorem lacksGrant_of_error (h : dscError (zoe s z).modeApplied q (look (zoe s z).ram (stream (zoe s z) q).pos.toNat 0) ≠ 0) :
    lacksGrant s z q = false := by
  have err : dscError (zoe s z).modeApplied q (peekDesc 16384 (zoe s z) (stream (zoe s z) q).pos) ≠ 0 := by
    by_cases nop : wdType (look (zoe s z).ram (stream (zoe s z) q).pos.toNat 0) = 0
    · exact dscError_of_single _ (single_of_dscError_nop nop h)
    · rwa [peekDesc_of_type (by decide) nop]
  simp [lacksGrant, err]

/-! ### What a window starts with (R50, R51, R54) -/

/-- What a feeder reads rests on the banks, and of the Zoetrope on its feeder map. -/
theorem feedStart_congr {v : State} (hv : v = { s with zoes := v.zoes }) {x y : Zoe} (fmap : y.fmap = x.fmap) (i ch f K o : Nat) :
    feedStart v z y i ch f K o = feedStart s z x i ch f K o := by
  unfold feedStart feedCluster
  rw [fmap, hv]
  rfl

theorem blankCol_congr {v : State} (hv : v = { s with zoes := v.zoes })
    (thread : (stream (zoe v z) q).thread = (stream (zoe s z) q).thread) (j : Nat) : blankCol v z q j = blankCol s z q j := by
  unfold blankCol
  rw [thread, hv]
  rfl

theorem feedWindow_congr {v : State} (hv : v = { s with zoes := v.zoes }) (mode : (zoe v z).modeApplied = (zoe s z).modeApplied)
    (fmap : (zoe v z).fmap = (zoe s z).fmap) (thread : (stream (zoe v z) q).thread = (stream (zoe s z) q).thread) (d : BitVec 128)
    (t0 : Nat) : feedWindow v z q d t0 = feedWindow s z q d t0 := by
  have blank : blankCol v z q = blankCol s z q := funext fun j => blankCol_congr hv thread j
  unfold feedWindow
  dsimp only
  simp only [mode, blank, feedStart_congr hv fmap]

/-- A fold each step of which finds something finds something in a list that is not empty. -/
theorem isSome_foldl_cons {α : Type} {f : Option α → α → Option α} (h : ∀ b e, (f b e).isSome = true) (e : α) (es : List α)
    (b : Option α) : ((e :: es).foldl f b).isSome = true := by
  induction es generalizing e b with
  | nil => exact h b e
  | cons a es ih => exact ih a (f b e)

/-- A run without a granule in trouble is never cut, and a run that is not cut had none (R50). -/
theorem badSymbol_eq_none {f K : Nat} {bad : List (Nat × Nat)} : badSymbol f K bad = none ↔ bad = [] := by
  cases bad with
  | nil => exact iff_of_true rfl rfl
  | cons e es =>
    refine iff_of_false (fun h => ?_) (List.cons_ne_nil _ _)
    rw [← Option.not_isSome_iff_eq_none] at h
    refine h (isSome_foldl_cons (fun b e => ?_) _ _ _)
    cases b with
    | none => rfl
    | some b => dsimp only; split <;> rfl

/-- A run that is not cut is as the banks hold it. -/
theorem feedStart_clean {x : Zoe} {i ch f K o : Nat} (h : (feedStart s z x i ch f K o).2 = none) :
    (feedStart s z x i ch f K o).1 = (feedRun s (feedTag s z) (feedCluster x z ch) o (runLen f K)).1 := by
  unfold feedStart at h ⊢
  dsimp only at h ⊢
  rw [badSymbol_eq_none.mp h]
  simp [List.mapIdx_eq_ofFn]

/-- The channels of a window as their feeders begin to read them. -/
def feedStarts (s : State) (z q : Nat) (d : BitVec 128) : List (List Byte × Option (Nat × Nat)) :=
  (streamChans (zoe s z).modeApplied q).mapIdx (fun i c =>
    feedStart s z (zoe s z) i c.1 (chanForm d c.2).1 (wdK d) (chanForm d c.2).2.2)

theorem length_feedStarts (d : BitVec 128) :
    (feedStarts s z q d).length = (tileRows (zoe s z).modeApplied q).length + (tileCols (zoe s z).modeApplied q).length := by
  simp [feedStarts, streamChans]

theorem feedWindow_lost (d : BitVec 128) (t0 : Nat) :
    (feedWindow s z q d t0).2 = (feedStarts s z q d).filterMap (fun c => c.2.map (·.2)) := rfl

theorem feedWindow_runs (d : BitVec 128) (t0 : Nat) :
    (feedWindow s z q d t0).1.wRuns = ((feedStarts s z q d).take (tileRows (zoe s z).modeApplied q).length).map (·.1)
      ∧ (feedWindow s z q d t0).1.aRuns = ((feedStarts s z q d).drop (tileRows (zoe s z).modeApplied q).length).map (·.1)
      ∧ (feedWindow s z q d t0).1.underrun = ((feedStarts s z q d).map (fun c => c.2.map (·.1))).any (·.isSome)
      ∧ (feedWindow s z q d t0).1.desc = d ∧ (feedWindow s z q d t0).1.t0 = t0 := ⟨rfl, rfl, rfl, rfl, rfl⟩

theorem length_feedWindow_runs (d : BitVec 128) (t0 : Nat) :
    (feedWindow s z q d t0).1.wRuns.length = (tileRows (zoe s z).modeApplied q).length
      ∧ (feedWindow s z q d t0).1.aRuns.length = (tileCols (zoe s z).modeApplied q).length := by
  obtain ⟨ws, as, _⟩ := feedWindow_runs (s := s) (z := z) (q := q) d t0
  rw [ws, as, List.length_map, List.length_map, List.length_take, List.length_drop, length_feedStarts]
  omega

/-- A window all of whose reads pass starts with the bytes that the banks hold, and without UNDERRUN (R51). -/
theorem feedWindow_clean {d : BitVec 128} {t0 : Nat} (clean : (feedWindow s z q d t0).2 = []) :
    (feedWindow s z q d t0).1.underrun = false
      ∧ ∀ i c : Nat, (tileRows (zoe s z).modeApplied q)[i]? = some c → (feedWindow s z q d t0).1.wRuns[i]?
        = some (feedRun s (feedTag s z) (feedCluster (zoe s z) z c) (wdWoff d) (runLen (wdWfmt d) (wdK d))).1 := by
  rw [feedWindow_lost, List.filterMap_eq_nil_iff] at clean
  have uncut (c) (h : c ∈ feedStarts s z q d) : c.2 = none := Option.map_eq_none_iff.mp (clean c h)
  obtain ⟨ws, _, under, _⟩ := feedWindow_runs (s := s) (z := z) (q := q) d t0
  refine ⟨?_, fun i c row => ?_⟩
  · rw [under, List.any_map, List.any_eq_false]
    intro c h
    simp [uncut c h]
  · obtain ⟨hi, rfl⟩ := List.getElem?_eq_some_iff.mp row
    have start : (feedStarts s z q d)[i]?
        = some (feedStart s z (zoe s z) i (tileRows (zoe s z).modeApplied q)[i] (wdWfmt d) (wdK d) (wdWoff d)) := by
      simp [feedStarts, streamChans, List.getElem?_mapIdx, List.getElem?_append_left, hi, chanForm]
    rw [ws, List.getElem?_map, List.getElem?_take_of_lt hi, start, Option.map_some,
      feedStart_clean (uncut _ (List.mem_of_getElem? start))]

end Sys2Proof.Machine
end

section
/-! PROOFS. What each descriptor does at a window boundary. -/

namespace Sys2Proof.Machine

open Sys2Proof Sys2Proof.Machine.Tables

/-! ### A window begins (R38, R47, R80) -/

/-- The window that a descriptor starts, with what the audit and the thresholds give it (R54, R80). -/
def startedWin (s : State) (z q : Nat) (d : BitVec 128) (t0 : Nat) : WinRun :=
  { (feedWindow s z q d t0).1 with
    audit := decide ((zoe s z).prec.audLog ≠ 0)
      && decide (((stream (zoe s z) q).audIndex + (zoe s z).prec.phase.toNat) % 2 ^ (zoe s z).prec.audLog.toNat = 0)
    forcedGap := (stream (zoe s z) q).forcedNext
    thrFlag := (zoe s z).prec.thrFlag, thrGap := (zoe s z).prec.thrGap, thrFence := (zoe s z).prec.thrFence }

/-- What a window that starts does to its Zoetrope. -/
def windowStarted (q : Nat) (d : BitVec 128) (t0 : Nat) (w : WinRun) (x : Zoe) : Zoe :=
  let x := onStream q (fun r => { r with
    integ := some w, pos := r.pos + 1, audIndex := r.audIndex + 1, forcedNext := false, paused := false, boundAt := t0 }) x
  let x := if w.audit then pendWindow q (wdTag d) x else x
  { x with state := .running, credits4 := x.credits4 - 4 * wdK d }

theorem beginWindow_clean {z q : Nat} {d : BitVec 128} {t0 : Nat} {s : State} (clean : (feedWindow s z q d t0).2 = []) :
    beginWindow z q d t0 s = modZoe z (windowStarted q d t0 (startedWin s z q d t0)) (useFrees (chanFree * 388 + 128) s) := by
  unfold beginWindow
  dsimp only
  rw [clean]
  rfl

theorem pendWindow_spec (q : Nat) (tag : BitVec 16) (x : Zoe) :
    OtherStream q x (pendWindow q tag x) ∧ (pendWindow q tag x).credits4 = x.credits4
      ∧ (pendWindow q tag x).modeApplied = x.modeApplied
      ∧ ∃ l, stream (pendWindow q tag x) q = { stream x q with pend := l } := by
  unfold pendWindow OtherStream onStream stream
  dsimp only
  repeat' split
  all_goals exact ⟨rfl, rfl, rfl, _, rfl⟩

theorem windowStarted_spec (q : Nat) (d : BitVec 128) (t0 : Nat) (w : WinRun) (x : Zoe) :
    OtherStream q x (windowStarted q d t0 w x) ∧ (windowStarted q d t0 w x).state = .running
      ∧ (windowStarted q d t0 w x).credits4 = x.credits4 - 4 * wdK d
      ∧ (windowStarted q d t0 w x).modeApplied = x.modeApplied
      ∧ (stream (windowStarted q d t0 w x) q).integ = some w
      ∧ (stream (windowStarted q d t0 w x) q).pos = (stream x q).pos + 1
      ∧ (stream (windowStarted q d t0 w x) q).audIndex = (stream x q).audIndex + 1 := by
  unfold windowStarted
  dsimp only
  generalize hy : onStream q _ x = y
  have start : OtherStream q x y := hy ▸ otherStream_onStream ..
  have at' : stream y q = { stream x q with
      integ := some w, pos := (stream x q).pos + 1, audIndex := (stream x q).audIndex + 1, forcedNext := false, paused := false
      boundAt := t0 } := hy ▸ stream_onStream_same ..
  have rest : y.credits4 = x.credits4 ∧ y.modeApplied = x.modeApplied := by
    rw [← hy, onStream_rest]
    exact ⟨rfl, rfl⟩
  obtain ⟨other, credits, mode, l, same⟩ := pendWindow_spec q (wdTag d) y
  split
  · refine ⟨start.trans other, rfl, congrArg (· - _) (credits.trans rest.1), mode.trans rest.2, ?_⟩
    change (stream (pendWindow q (wdTag d) y) q).integ = _ ∧ (stream (pendWindow q (wdTag d) y) q).pos = _
      ∧ (stream (pendWindow q (wdTag d) y) q).audIndex = _
    rw [same, at']
    exact ⟨rfl, rfl, rfl⟩
  · refine ⟨start, rfl, congrArg (· - _) rest.1, rest.2, ?_⟩
    change (stream y q).integ = _ ∧ (stream y q).pos = _ ∧ (stream y q).audIndex = _
    rw [at']
    exact ⟨rfl, rfl, rfl⟩

theorem startedWin_spec (s : State) (z q : Nat) (d : BitVec 128) (t0 : Nat) :
    (startedWin s z q d t0).desc = d ∧ (startedWin s z q d t0).t0 = t0
      ∧ (startedWin s z q d t0).wRuns = (feedWindow s z q d t0).1.wRuns
      ∧ (startedWin s z q d t0).aRuns = (feedWindow s z q d t0).1.aRuns
      ∧ (startedWin s z q d t0).underrun = (feedWindow s z q d t0).1.underrun := ⟨rfl, rfl, rfl, rfl, rfl⟩

theorem startedWin_audit (s : State) (z q : Nat) (d : BitVec 128) (t0 : Nat) :
    (startedWin s z q d t0).audit = true ↔ (zoe s z).prec.audLog ≠ 0
      ∧ ((stream (zoe s z) q).audIndex + (zoe s z).prec.phase.toNat) % 2 ^ (zoe s z).prec.audLog.toNat = 0 := by
  simp [startedWin]

/-! ### A Zoetrope with something to run stays as it is (R58) -/

theorem settleReady_eq (x : Zoe) : settleReady x = { x with state := (settleReady x).state } := by
  unfold settleReady; split <;> rfl

@[simp] theorem stream_settleReady (x : Zoe) (q : Nat) : stream (settleReady x) q = stream x q := by
  rw [settleReady_eq]; rfl

theorem otherStream_settleReady (q : Nat) (x : Zoe) : OtherStream q x (settleReady x) := by
  rw [settleReady_eq]
  exact .refl q x

theorem settleReady_of_integ {q : Nat} {x : Zoe} {w : WinRun} (used : q ∈ streamsOf x) (h : (stream x q).integ = some w) :
    settleReady x = x := by
  refine if_neg fun c => ?_
  have idle := List.all_eq_true.mp c.2 q used
  simp [h] at idle

/-! ### Each descriptor at a quiet boundary (R38, R40, R47, R49, R353) -/

theorem exec_windowBoundary (z : ZoeId) (q : Stream) (s : State) :
    exec (.windowBoundary z q) s = .next (boundary z.val (streamNo q) s) := rfl

theorem exec_idleEnd {z : ZoeId} {q : Stream} {s : State} {k : Nat} (h : (stream (zoe s z.val) (streamNo q)).idle = some k) :
    exec (.idleEnd z q) s = .next (boundary z.val (streamNo q)
      (modStream z.val (streamNo q) (fun r => { r with idle := none, boundAt := k }) (advanceSym k s))) := by
  have run : exec (.idleEnd z q) s = execIdleEnd z q s := rfl
  rw [run, execIdleEnd, h]

/-- The credit bucket at symbol k (R353). -/
def bucket (s : State) (z k : Nat) : Nat := min 32768 ((zoe s z).credits4 + runGrant s z * (k - (zoe s z).creditAt))

theorem four_wdK (d : BitVec 128) : 4 * wdK d = 256 * 2 ^ wdKlog d := by
  unfold wdK
  omega

theorem SameZoes.pwr_eq {s u : State} (h : SameZoes s u) : u.pwr = s.pwr := by rw [h.1]

/-- A wait counted besides a change of a Zoetrope. -/
theorem countWait_spec {z : Nat} {s v : State} (only : OnlyZoe z s v) (n : BitVec 48) :
    { v with pwr.zpause := n } = { s with zoes := v.zoes, pwr.zpause := n }
      ∧ (∀ i, i ≠ z → zoe { v with pwr.zpause := n } i = zoe s i) ∧ zoe { v with pwr.zpause := n } z = zoe v z := by
  obtain ⟨hv, others⟩ := only
  exact ⟨by rw [hv], others, rfl⟩

theorem frame_useFrees {s v : State} (hv : v = { s with zoes := v.zoes }) (n : Nat) :
    useFrees n v = { s with zoes := (useFrees n v).zoes, free := s.free + n } := by
  rw [hv]
  rfl

theorem frame_modZoe_free {s v : State} {n : Nat} (hv : v = { s with zoes := v.zoes, free := n }) (z : Nat) (f : Zoe → Zoe) :
    modZoe z f v = { s with zoes := (modZoe z f v).zoes, free := n } := by
  rw [hv]
  rfl

section
variable {z q : Nat} {s : State} {d : BitVec 128}

/-- The next descriptor of a quiet boundary, and whether it lacks its grant, by what stands there. -/
theorem boundary_descriptor (quiet : Tables.Quiet s z q) (hd : look (zoe s z).ram (stream (zoe s z) q).pos.toNat 0 = d)
    (ok : dscError (zoe s z).modeApplied q d = 0) (type : wdType d ≠ 0) :
    ∃ u, SameZoes s u
      ∧ ((wdType d = 1 ∧ (runGrant s z = 0 ∨ bucket s z (boundarySym s (stream (zoe s z) q)) < 256 * 2 ^ wdKlog d))
          ∨ (wdType d = 2 ∧ (zoe s z).state ≠ .running) ∧ runGrant s z = 0 → boundary z q s = pauseStream z q u)
      ∧ (¬((wdType d = 1 ∧ (runGrant s z = 0 ∨ bucket s z (boundarySym s (stream (zoe s z) q)) < 256 * 2 ^ wdKlog d))
          ∨ (wdType d = 2 ∧ (zoe s z).state ≠ .running) ∧ runGrant s z = 0) → (nextDescriptor 16384 z q u).shows = s.shows →
        boundary z q s = modZoe z settleReady (nextDescriptor 16384 z q u)) := by
  obtain ⟨u, same, lack, has⟩ := boundary_quiet quiet
  obtain ⟨-, -, -, paused, qrun, -⟩ := quiet
  have start : startSym u (stream (zoe s z) q) = boundarySym s (stream (zoe s z) q) := by
    rw [startSym, paused, same.boundarySym_eq]
    rfl
  have lacks := lacksGrant_eq (s := u) (z := z) (q := q) (by rw [same.2, hd]; exact type) (by rw [same.2]; exact qrun)
    (by rw [same.2, hd]; exact ok)
  rw [same.2, hd, same.runGrant_eq, start, four_wdK] at lacks
  exact ⟨u, same, fun h => lack (lacks.mpr h), fun h => has (Bool.eq_false_iff.mpr (mt lacks.mp h))⟩

/-- A paused stream counts a wait, and the stream is all that differs. -/
theorem pauseStream_spec {u : State} (same : SameZoes s u) (paused : (stream (zoe s z) q).paused = false) :
    pauseStream z q u = { s with zoes := (pauseStream z q u).zoes, pwr.zpause := s.pwr.zpause + 1 }
      ∧ (∀ i, i ≠ z → zoe (pauseStream z q u) i = zoe s i)
      ∧ zoe (pauseStream z q u) z = { onStream q (pauseAt (boundarySym s (stream (zoe s z) q))) (zoe s z) with
          state := if runGrant s z = 0 then (zoe s z).state else .running } := by
  have eq : pauseStream z q u = { (modZoe z (fun x => { (onStream q (pauseAt (boundarySym s (stream (zoe s z) q))) x) with
      state := if runGrant s z = 0 then x.state else .running }) u) with pwr.zpause := u.pwr.zpause + 1 } := by
    unfold pauseStream
    rw [same.2, paused, same.boundarySym_eq, same.runGrant_eq]
    rfl
  obtain ⟨frame, others, at'⟩ := countWait_spec (same.onlyZoe (onlyZoe_modZoe z _ u)) (u.pwr.zpause + 1)
  rw [eq]
  refine ⟨frame.trans (by rw [same.pwr_eq]), others, at'.trans ?_⟩
  rw [zoe_modZoe_same, same.2]

/-- A WINDOW with its grant and its credits begins (R38, R353). -/
theorem boundary_window (quiet : Tables.Quiet s z q) (hd : look (zoe s z).ram (stream (zoe s z) q).pos.toNat 0 = d)
    (ok : dscError (zoe s z).modeApplied q d = 0) (used : q ∈ streamsOf (zoe s z)) (type : wdType d = 1) (grant : runGrant s z ≠ 0)
    {t0 : Nat} (ht : boundarySym s (stream (zoe s z) q) = t0) (credits : 256 * 2 ^ wdKlog d ≤ bucket s z t0)
    (clean : (feedWindow s z q d t0).2 = []) :
    boundary z q s = { s with zoes := (boundary z q s).zoes, free := s.free + (chanFree * 388 + 128) }
      ∧ (∀ i, i ≠ z → zoe (boundary z q s) i = zoe s i)
      ∧ zoe (boundary z q s) z
        = windowStarted q d t0 (startedWin s z q d t0) (fillCredits (runGrant s z) t0 (zoe s z)) := by
  obtain ⟨u, same, -, has⟩ := boundary_descriptor quiet hd ok (by rw [type]; decide)
  obtain ⟨-, -, -, paused, -⟩ := quiet
  have start : startSym u (stream (zoe s z) q) = t0 := by
    rw [startSym, paused, same.boundarySym_eq, ht]
    rfl
  have window := nextDescriptor_window (n := 16383) (s := u) (z := z) (q := q) (by rw [same.2, hd]; exact ok)
    (by rw [same.2, hd]; exact type)
  rw [same.2, hd, start, same.runGrant_eq] at window
  have feed : feedWindow (modZoe z (fillCredits (runGrant s z) t0) u) z q d t0 = feedWindow s z q d t0 := by
    refine feedWindow_congr (by rw [same.1]; rfl) ?_ ?_ ?_ d t0 <;> rw [zoe_modZoe_same, same.2] <;> rfl
  have won : startedWin (modZoe z (fillCredits (runGrant s z) t0) u) z q d t0 = startedWin s z q d t0 := by
    unfold startedWin
    rw [feed, zoe_modZoe_same, same.2]
    rfl
  rw [beginWindow_clean (feed ▸ clean), won] at window
  have bound := has (by rw [ht, type]; omega) (by rw [window, same.1]; rfl)
  rw [window] at bound
  rw [bound]
  refine ⟨frame_modZoe_free (frame_modZoe_free (frame_useFrees (same.onlyZoe (onlyZoe_modZoe ..)).1 _) ..) .., fun i hi => ?_, ?_⟩
  · rw [zoe_modZoe_ne _ _ hi, zoe_modZoe_ne _ _ hi, zoe_useFrees, zoe_modZoe_ne _ _ hi, same.2]
  · rw [zoe_modZoe_same, zoe_modZoe_same, zoe_useFrees, zoe_modZoe_same, same.2]
    obtain ⟨-, -, -, mode, integ, -⟩ := windowStarted_spec q d t0 (startedWin s z q d t0) (fillCredits (runGrant s z) t0 (zoe s z))
    exact settleReady_of_integ (by unfold streamsOf; rw [mode]; exact used) integ

/-- An IDLE holds the stream for its count (R47). -/
theorem boundary_idle (quiet : Tables.Quiet s z q) (hd : look (zoe s z).ram (stream (zoe s z) q).pos.toNat 0 = d)
    (ok : dscError (zoe s z).modeApplied q d = 0) (type : wdType d = 2) (may : runGrant s z ≠ 0 ∨ (zoe s z).state = .running) :
    OnlyZoe z s (boundary z q s) ∧ zoe (boundary z q s) z = settleReady { onStream q (fun r => { r with
      idle := some (boundarySym s (stream (zoe s z) q) + idCount d), pos := r.pos + 1, paused := false }) (zoe s z) with
        state := .running } := by
  obtain ⟨u, same, -, has⟩ := boundary_descriptor quiet hd ok (by rw [type]; decide)
  obtain ⟨-, -, -, paused, -⟩ := quiet
  have start : startSym u (stream (zoe s z) q) = boundarySym s (stream (zoe s z) q) := by
    rw [startSym, paused, same.boundarySym_eq]
    rfl
  have idle := nextDescriptor_idle (n := 16383) (s := u) (z := z) (q := q) (by rw [same.2, hd]; exact ok)
    (by rw [same.2, hd]; exact type)
  rw [same.2, hd, start] at idle
  have bound := has (by simp only [type]; tauto) (by rw [idle, same.1]; rfl)
  rw [idle] at bound
  rw [bound]
  refine ⟨same.onlyZoe ((onlyZoe_modZoe ..).trans (onlyZoe_modZoe ..)), ?_⟩
  rw [zoe_modZoe_same, zoe_modZoe_same, same.2]

/-- A descriptor in error halts its queue (R49). -/
theorem boundary_fail (quiet : Tables.Quiet s z q) (hd : look (zoe s z).ram (stream (zoe s z) q).pos.toNat 0 = d)
    (err : dscError (zoe s z).modeApplied q d ≠ 0) :
    (boundary z q s).flt.nCont = s.flt.nCont + 1 ∧ (boundary z q s).mrb = s.mrb
      ∧ zoe (boundary z q s) z = settleReady (onStream q (fun r => { r with
        qstate := .error, err := BitVec.ofNat 6 (dscError (zoe s z).modeApplied q d) }) (zoe s z)) := by
  obtain ⟨u, same, -, has⟩ := boundary_quiet quiet
  have err' : dscError (zoe u z).modeApplied q (look (zoe u z).ram (stream (zoe u z) q).pos.toNat 0) ≠ 0 := by
    rw [same.2, hd]; exact err
  have fail := nextDescriptor_fail (n := 16383) err'
  have bound := has (lacksGrant_of_error err') (by rw [fail, dscFail, raiseFault_shows, same.1]; rfl)
  rw [fail, same.2, hd, dscFail] at bound
  rw [bound]
  refine ⟨?_, ?_, ?_⟩
  · rw [modZoe_flt, raiseFault_nCont (by decide), same.1]
    rfl
  · rw [modZoe_mrb, raiseFault_mrb, same.1]
    rfl
  · rw [zoe_modZoe_same, zoe_raiseFault, modStream, zoe_modZoe_same, same.2]

end

theorem windowBoundaries : Claims.WindowBoundaries := by
  refine ⟨fun z q s quiet => ?_, fun z q k s hold => ⟨advanceSym_time k s, _, exec_idleEnd hold, rfl⟩⟩
  intro k x r d g t0 credits
  have ⟨_, integ, _, paused, _⟩ := quiet
  refine ⟨fun ok type grant enough clean => ?_, fun ok type grant few => ?_, fun ok type grant => ?_,
    fun ok type may => ?_, fun err => ?_⟩
  · obtain ⟨frame, others, at'⟩ := boundary_window quiet rfl ok (mem_streamsOf_of_dscError ok) type grant rfl enough clean
    obtain ⟨other, state, left, _, started, pos, aud⟩ := windowStarted_spec k d t0 (startedWin s z.val k d t0) (fillCredits g t0 x)
    obtain ⟨wd, wt, ws, as, wu⟩ := startedWin_spec s z.val k d t0
    obtain ⟨lenW, lenA⟩ := length_feedWindow_runs (s := s) (z := z.val) (q := k) d t0
    obtain ⟨under, runs⟩ := feedWindow_clean clean
    rw [← at'] at other state left started pos aud
    exact ⟨_, _, exec_windowBoundary z q s, frame, others, other, started, wd, wt, wu.trans under, rfl, rfl, rfl,
      (congrArg _ ws).trans lenW, (congrArg _ as).trans lenA, fun i c row => by rw [ws]; exact runs i c row, pos, aud,
      startedWin_audit .., rfl, state, left.trans (by rw [four_wdK]; rfl)⟩
  · obtain ⟨u, same, lacks, -⟩ := boundary_descriptor quiet rfl ok (by rw [type]; decide)
    obtain ⟨frame, others, at'⟩ := pauseStream_spec same paused
    rw [← lacks (.inl ⟨type, .inr few⟩)] at frame others at'
    refine ⟨_, exec_windowBoundary z q s, frame, others, ?_⟩
    rw [at']
    refine ⟨otherStream_onStream .., ?_, ?_⟩
    · exact (stream_onStream_same ..)
    · rw [onStream_rest]
  · obtain ⟨u, same, lacks, -⟩ := boundary_descriptor quiet rfl ok (by rcases type with h | ⟨h, _⟩ <;> rw [h] <;> decide)
    obtain ⟨frame, others, at'⟩ := pauseStream_spec same paused
    have lack : wdType d = 1 ∨ wdType d = 2 ∧ x.state ≠ .running := type.imp_right fun h => ⟨h.1, by rw [h.2]; decide⟩
    rw [← lacks (lack.imp (fun h => ⟨h, .inl grant⟩) (fun h => ⟨h, grant⟩))] at frame others at'
    have same' : stream (zoe (boundary z.val k s) z.val) k = pauseAt (boundarySym s r) r := by
      rw [at']
      exact stream_onStream_same ..
    refine ⟨_, exec_windowBoundary z q s, frame, others, ?_⟩
    rw [same']
    exact ⟨integ, by rw [at']; exact if_pos grant, rfl, rfl⟩
  · obtain ⟨only, at'⟩ := boundary_idle quiet rfl ok type may
    refine ⟨_, exec_windowBoundary z q s, only, ?_⟩
    rw [at', stream_settleReady]
    refine ⟨.trans (otherStream_onStream ..) (otherStream_settleReady ..), ?_⟩
    exact (stream_onStream_same ..).trans (by rw [paused])
  · obtain ⟨cont, mrb, at'⟩ := boundary_fail quiet rfl err
    have same : stream (zoe (boundary z.val k s) z.val) k
        = { r with qstate := .error, err := BitVec.ofNat 6 (dscError x.modeApplied k d) } := by
      rw [at', stream_settleReady, stream_onStream_same]
    refine ⟨_, exec_windowBoundary z q s, ?_⟩
    rw [same]
    exact ⟨rfl, rfl, rfl, integ, cont, mrb⟩

end Sys2Proof.Machine
end

section
/-! PROOFS. The end of a window's integration. -/

namespace Sys2Proof.Machine

open Sys2Proof Sys2Proof.Machine.Tables

/-! ### The runs as they were carried (R45, R50, R142) -/

theorem length_convertRun (f b K : Nat) (bs : List Byte) :
    (convertRun f b K bs).codes.length = K ∧ (convertRun f b K bs).clamped.length = K := by
  obtain ⟨xs, len, codes, clamped⟩ := convertRun_clamps f b K bs
  exact ⟨by rw [codes, List.length_map, len], by rw [clamped, List.length_map, len]⟩

theorem cutCodes_length {K : Nat} {xs : List Int} (h : xs.length = K) : cutCodes K xs = xs := by
  simp [cutCodes, h]

/-- A run that did not change while its window was fed. -/
theorem mixBytes_same (s : State) (i : Nat) (bs : List Byte) : mixBytes s i bs bs = bs := by
  unfold mixBytes
  refine List.ext_getElem (List.length_mapIdx ..) fun j h _ => ?_
  have hj : j < bs.length := by rwa [List.length_mapIdx] at h
  rw [List.getElem_mapIdx]
  exact if_pos (.inl (by rw [List.getD_eq_getElem _ _ hj]))

/-- A channel that was not cut, and whose run its bank still holds, carried that run's codes. -/
theorem feedEnd_clean {s : State} {z : Nat} {x : Zoe} {i ch f b K o : Nat} {bs : List Byte}
    (h : feedRun s (feedTag s z) (feedCluster x z ch) o (runLen f K) = (bs, [])) :
    feedEnd s z x i ch f b K o bs none = (convertRun f b K bs, none) := by
  unfold feedEnd
  obtain ⟨codes, clamped⟩ := length_convertRun f b K bs
  simp [h, mixBytes_same, badSymbol_eq_none.mpr, cutCodes_length codes, List.take_of_length_le clamped.le]

/-- A channel of window w as it stood at the end, the i-th of its stream. -/
def chanEnd (s : State) (z q : Nat) (late : List (Nat × Nat)) (w : WinRun) (i : Nat) (c : Nat × Bool) : FeedRun × Option Nat :=
  let f := chanForm w.desc c.2
  let n := (tileRows (zoe s z).modeApplied q).length
  let r := feedEnd s z (zoe s z) i c.1 f.1 f.2.1 (wdK w.desc) f.2.2 ((w.wRuns ++ w.aRuns).getD i []) ((w.wCut ++ w.aCut).getD i none)
  let at' := (lateAt c.1 late none).getD (wdK w.desc)
  let r := ({ r.1 with codes := cutCodes at' r.1.codes, clamped := r.1.clamped.take at' }, r.2)
  if n ≤ i && w.blank.getD (i - n) false then ({ r.1 with codes := List.replicate (wdK w.desc) 0, clamped := [] }, r.2) else r

/-- The channels of window w as they stood at the end. -/
def chanEnds (s : State) (z q : Nat) (late : List (Nat × Nat)) (w : WinRun) : List (FeedRun × Option Nat) :=
  (streamChans (zoe s z).modeApplied q).mapIdx (chanEnd s z q late w)

theorem length_chanEnds (s : State) (z q : Nat) (late : List (Nat × Nat)) (w : WinRun) :
    (chanEnds s z q late w).length = (tileRows (zoe s z).modeApplied q).length + (tileCols (zoe s z).modeApplied q).length := by
  simp [chanEnds, streamChans]

theorem endWindow_codes (s : State) (z q : Nat) (late : List (Nat × Nat)) (w : WinRun) :
    (endWindow s z q late w).1.1.wCodes
        = (((chanEnds s z q late w).take (tileRows (zoe s z).modeApplied q).length).map (·.1)).map (·.codes)
      ∧ (endWindow s z q late w).1.1.aCodes
        = (((chanEnds s z q late w).drop (tileRows (zoe s z).modeApplied q).length).map (·.1)).map (·.codes) := ⟨rfl, rfl⟩

theorem length_endWindow_codes (s : State) (z q : Nat) (late : List (Nat × Nat)) (w : WinRun) :
    (endWindow s z q late w).1.1.wCodes.length = (tileRows (zoe s z).modeApplied q).length
      ∧ (endWindow s z q late w).1.1.aCodes.length = (tileCols (zoe s z).modeApplied q).length := by
  obtain ⟨ws, as⟩ := endWindow_codes s z q late w
  rw [ws, as]
  simp [length_chanEnds]

/-- Without a lost bank or a late channel UNDERRUN stays as it began (R51). -/
theorem endWindow_underrun {s : State} {z q : Nat} {w : WinRun} (clean : (endWindow s z q [] w).2 = []) :
    (endWindow s z q [] w).1.1.underrun = w.underrun := by
  have under : (endWindow s z q [] w).1.1.underrun = (w.underrun || decide ((endWindow s z q [] w).2 ≠ []) || false) := rfl
  rw [under, clean]
  simp

/-- A weight channel that came in time carried the codes of its run. -/
theorem endWindow_wCode {s : State} {z q i c : Nat} {w : WinRun} {bs : List Byte}
    (row : (tileRows (zoe s z).modeApplied q)[i]? = some c) (run : w.wRuns[i]? = some bs) (cut : w.wCut[i]? = some none)
    (held : feedRun s (feedTag s z) (feedCluster (zoe s z) z c) (wdWoff w.desc) (runLen (wdWfmt w.desc) (wdK w.desc)) = (bs, [])) :
    (endWindow s z q [] w).1.1.wCodes[i]? = some (convertRun (wdWfmt w.desc) (wdWb w.desc) (wdK w.desc) bs).codes := by
  obtain ⟨hi, rfl⟩ := List.getElem?_eq_some_iff.mp row
  have run' : (w.wRuns ++ w.aRuns)[i]?.getD [] = bs := by
    rw [List.getElem?_append_left (List.getElem?_eq_some_iff.mp run).1, run]
    rfl
  have cut' : (w.wCut ++ w.aCut)[i]?.getD none = none := by
    rw [List.getElem?_append_left (List.getElem?_eq_some_iff.mp cut).1, cut]
    rfl
  obtain ⟨codes, clamped⟩ := length_convertRun (wdWfmt w.desc) (wdWb w.desc) (wdK w.desc) bs
  have chan : (chanEnds s z q [] w)[i]? = some (chanEnd s z q [] w i ((tileRows (zoe s z).modeApplied q)[i], true)) := by
    simp [chanEnds, streamChans, List.getElem?_append_left, hi]
  have whole : (chanEnd s z q [] w i ((tileRows (zoe s z).modeApplied q)[i], true)).1
      = convertRun (wdWfmt w.desc) (wdWb w.desc) (wdK w.desc) bs := by
    unfold chanEnd
    simp [run', cut', chanForm, feedEnd_clean held, lateAt, cutCodes_length codes, List.take_of_length_le clamped.le, Nat.not_le.mpr hi]
  rw [(endWindow_codes ..).1, List.getElem?_map, List.getElem?_map, List.getElem?_take_of_lt hi, chan, Option.map_some,
    Option.map_some, whole]

/-! ### The values of a window's cells (R53, R55) -/

/-- Rows of one length, one after another. -/
theorem getElem?_flatten_of_length {α : Type} {n j : Nat} (hj : j < n) {rows : List (List α)}
    (h : ∀ r ∈ rows, r.length = n) (i : Nat) :
    rows.flatten[n * i + j]? = (rows[i]?).bind (·[j]?) := by
  induction rows generalizing i with
  | nil => simp
  | cons r rs ih =>
    have len : r.length = n := h r List.mem_cons_self
    rw [List.flatten_cons]
    cases i with
    | zero => simp [List.getElem?_append_left, len, hj]
    | succ i =>
      rw [List.getElem?_append_right (by rw [len, Nat.mul_succ]; omega), List.getElem?_cons_succ,
        ← ih (fun r hr => h r (List.mem_cons_of_mem _ hr)), len]
      congr 1
      rw [Nat.mul_succ]
      omega

/-- A table made of two lists, row after row. -/
theorem getElem?_table {α β γ : Type} (g : Nat → Nat → α → β → γ) {xs : List α} {ys : List β} {i j : Nat} {a : α} {b : β}
    (hx : xs[i]? = some a) (hy : ys[j]? = some b) :
    ((xs.mapIdx (fun i a => ys.mapIdx (fun j b => g i j a b))).flatten)[ys.length * i + j]? = some (g i j a b) := by
  have hj : j < ys.length := (List.getElem?_eq_some_iff.mp hy).1
  rw [getElem?_flatten_of_length hj (by
    intro r hr
    obtain ⟨i, hi, rfl⟩ := List.mem_mapIdx.mp hr
    exact List.length_mapIdx), List.getElem?_mapIdx, hx, Option.map_some, Option.bind_some, List.getElem?_mapIdx, hy, Option.map_some]

theorem length_table {α β γ : Type} (g : Nat → Nat → α → β → γ) (xs : List α) (ys : List β) :
    ((xs.mapIdx (fun i a => ys.mapIdx (fun j b => g i j a b))).flatten).length = xs.length * ys.length := by
  rw [List.length_flatten]
  have rows : (xs.mapIdx (fun i a => ys.mapIdx (fun j b => g i j a b))).map List.length = List.replicate xs.length ys.length := by
    refine List.ext_getElem (by simp) fun i _ _ => by simp
  rw [rows]
  simp

theorem length_windowValues (x : Zoe) (q free : Nat) (w : WinRun) :
    (windowValues x q free w).length = w.wCodes.length * w.aCodes.length := by
  unfold windowValues
  rw [length_table]
  simp

theorem windowValues_at {x : Zoe} {q free : Nat} {w : WinRun} {i j : Nat} {wc ac : List Int} (hw : w.wCodes[i]? = some wc)
    (ha : w.aCodes[j]? = some ac) : (windowValues x q free w)[w.aCodes.length * i + j]?
      = some (cellValue (fsShift x (wdOsel w.desc)) (Config.noise (free + w.aCodes.length * i + j)
        (driveCodes x ((tileRows x.modeApplied q).getD i 0) (wdWb w.desc) wc)
        (driveCodes x (260 + (tileCols x.modeApplied q).getD j 0) (wdAb w.desc) ac)) (dotCodes wc ac)) := by
  have pair {c : List Int} {cs : List (List Int)} {n : Nat} (g : Nat → List Int → List Byte) (h : cs[n]? = some c) :
      (cs.zip (cs.mapIdx g))[n]? = some (c, g n c) := by
    rw [List.getElem?_zip_eq_some]
    exact ⟨h, by rw [List.getElem?_mapIdx, h]; rfl⟩
  have len {cs : List (List Int)} (g : Nat → List Int → List Byte) : (cs.zip (cs.mapIdx g)).length = cs.length := by simp
  have table := getElem?_table (fun i' j' (wc ac : List Int × List Byte) => cellValue (fsShift x (wdOsel w.desc))
      (Config.noise (free + w.aCodes.length * i' + j') wc.2 ac.2) (dotCodes wc.1 ac.1))
    (pair (fun i cs => driveCodes x ((tileRows x.modeApplied q).getD i 0) (wdWb w.desc) cs) hw)
    (pair (fun j cs => driveCodes x (260 + (tileCols x.modeApplied q).getD j 0) (wdAb w.desc) cs) ha)
  rw [len] at table
  exact table

/-! ### The accounts of a window (R65, R98) -/

theorem stream_onStream_other {q : Stream} (f : StreamSt → StreamSt) (x : Zoe) :
    stream (onStream (streamNo q) f x) (1 - streamNo q) = stream x (1 - streamNo q) := by
  cases q <;> rfl

theorem countSpan_spec (q : Stream) (p : WinSpan) (x : Zoe) :
    OtherStream (streamNo q) x (countSpan (streamNo q) p x)
      ∧ (∃ l, stream (countSpan (streamNo q) p x) (streamNo q) = { stream x (streamNo q) with spans := l })
      ∧ (countSpan (streamNo q) p x).trim.runSym
        = x.trim.runSym + BitVec.ofNat 64 (p.hi - p.lo - overlap p.lo p.hi (stream x (1 - streamNo q)).spans)
      ∧ (countSpan (streamNo q) p x).trim.owed200
        = x.trim.owed200 + 3 * (p.hi - p.lo - overlap p.lo p.hi (stream x (1 - streamNo q)).spans) := by
  cases q <;> exact ⟨rfl, ⟨_, rfl⟩, rfl, rfl⟩

/-- A window at the end of its integration, with the values that its cells were sampled at. -/
def sampled (s : State) (z q : Nat) (late : List (Nat × Nat)) (w : WinRun) : WinRun :=
  { (endWindow s z q late w).1.1 with
    values := windowValues (zoe s z) q (s.free + chanFree * 388) (endWindow s z q late w).1.1 }

/-- What the end of a window's integration does to its Zoetrope. -/
def integrated (q : Nat) (w w' : WinRun) (clamps : List Nat) (x : Zoe) : Zoe :=
  countSpan q { lo := w.t0, hi := winEnd w, clamps := clamps }
    (onStream q (fun r => { r with integ := none, post := r.post ++ [w'], boundAt := winEnd w }) x)

theorem exec_integrationEnd {z : ZoeId} {q : Stream} {late : List (Nat × Nat)} {s : State} {w : WinRun}
    (hold : (stream (zoe s z.val) (streamNo q)).integ = some w)
    (clean : (endWindow (advanceSym (winEnd w) s) z.val (streamNo q) late w).2 = []) :
    exec (.integrationEnd z q late) s = .next (modZoe z.val (integrated (streamNo q) w
        (sampled (advanceSym (winEnd w) s) z.val (streamNo q) late w)
        (endWindow (advanceSym (winEnd w) s) z.val (streamNo q) late w).1.2)
      (useFrees (chanFree * 388 + 260 * 128) (advanceSym (winEnd w) s))) := by
  have run : exec (.integrationEnd z q late) s = execIntegrationEnd z q late s := rfl
  rw [run, execIntegrationEnd]
  dsimp only
  rw [hold]
  dsimp only
  rw [clean]
  rfl

theorem integrated_spec (q : Stream) (w w' : WinRun) (clamps : List Nat) (x : Zoe) :
    OtherStream (streamNo q) x (integrated (streamNo q) w w' clamps x)
      ∧ (∃ l, stream (integrated (streamNo q) w w' clamps x) (streamNo q) = { stream x (streamNo q) with
        integ := none, post := (stream x (streamNo q)).post ++ [w'], boundAt := winEnd w, spans := l })
      ∧ (integrated (streamNo q) w w' clamps x).trim.runSym = x.trim.runSym
        + BitVec.ofNat 64 (wdK w.desc - overlap w.t0 (winEnd w) (stream x (1 - streamNo q)).spans)
      ∧ (integrated (streamNo q) w w' clamps x).trim.owed200 = x.trim.owed200
        + 3 * (wdK w.desc - overlap w.t0 (winEnd w) (stream x (1 - streamNo q)).spans) := by
  unfold integrated
  generalize hy : onStream (streamNo q) _ x = y
  have at' := hy ▸ stream_onStream_same (streamNo q) _ x
  have others := hy ▸ stream_onStream_other (q := q) _ x
  have trim : y.trim = x.trim := by rw [← hy, onStream_rest]
  obtain ⟨other, ⟨l, same⟩, sym, owed⟩ := countSpan_spec q { lo := w.t0, hi := winEnd w, clamps := clamps } y
  have long : winEnd w - w.t0 = wdK w.desc := Nat.add_sub_cancel_left ..
  rw [others, trim, long] at sym owed
  exact ⟨.trans (hy ▸ otherStream_onStream ..) other, ⟨l, by rw [same, at']⟩, sym, owed⟩

theorem sampled_spec (s : State) (z q : Nat) (late : List (Nat × Nat)) (w : WinRun) :
    (sampled s z q late w).desc = w.desc ∧ (sampled s z q late w).t0 = w.t0 ∧ (sampled s z q late w).checked = w.checked
      ∧ (sampled s z q late w).nolight = w.nolight
      ∧ (sampled s z q late w).wCodes = (endWindow s z q late w).1.1.wCodes
      ∧ (sampled s z q late w).aCodes = (endWindow s z q late w).1.1.aCodes
      ∧ (sampled s z q late w).underrun = (endWindow s z q late w).1.1.underrun
      ∧ (sampled s z q late w).values
        = windowValues (zoe s z) q (s.free + chanFree * 388) (endWindow s z q late w).1.1 := ⟨rfl, rfl, rfl, rfl, rfl, rfl, rfl, rfl⟩

/-- A change of Zoetrope z after time went on and free values were taken. -/
theorem frame_modZoe_useFrees_advanceSym (z n k : Nat) (f : Zoe → Zoe) (s : State) :
    let t := modZoe z f (useFrees n (advanceSym k s))
    t = { s with zoes := t.zoes, ident.aux := t.ident.aux, free := s.free + n } := rfl

end Sys2Proof.Machine
end

section
/-! PROOFS. The check of a window's reference cells, and its results. -/

namespace Sys2Proof.Machine

open Sys2Proof Sys2Proof.Machine.Tables

/-! ### The reference check (R56, R78, R79) -/

/-- A window that was checked. -/
def markChecked (wee : Byte) (hit flag : Bool) (w : WinRun) : WinRun :=
  { w with checked := true, wee := wee, refLate := !hit, flagThr := flag }

/-- What the check of window w does to its Zoetrope. -/
def referenceChecked (q : Nat) (w : WinRun) (slot : ExpSlot) (hit : Bool) (wee : Byte) (flag : Bool) (x : Zoe) : Zoe :=
  let y := onStream q (fun r => countRuns x wee w { r with
    weeLast := wee, post := checkFirst (markChecked wee hit flag) r.post }) x
  { y with
    slots := if hit then put y.slots (wdSlot w.desc) { slot with valid := false } {} else y.slots
    prec := countWee flag wee y.prec }

theorem checkFirst_append {pre post : List WinRun} {w : WinRun} (f : WinRun → WinRun) (hpre : ∀ v ∈ pre, v.checked = true)
    (hw : w.checked = false) : checkFirst f (pre ++ w :: post) = pre ++ f w :: post := by
  induction pre with
  | nil => exact if_neg (by rw [hw]; decide)
  | cons v vs ih =>
    have tail : checkFirst f (vs ++ w :: post) = vs ++ f w :: post := ih fun v hv => hpre v (List.mem_cons_of_mem _ hv)
    rw [List.cons_append, checkFirst, if_pos (hpre v List.mem_cons_self), tail]
    rfl

theorem countRuns_spec (x : Zoe) (wee : Byte) (w : WinRun) (r : StreamSt) :
    (countRuns x wee w r).post = r.post ∧ (countRuns x wee w r).weeLast = r.weeLast
      ∧ (wee = 0xFF → countRuns x wee w r = r)
      ∧ (wee ≠ 0xFF → (countRuns x wee w r).fenceRuns = if exceeds x w.thrFence wee w.desc then r.fenceRuns + 1 else 0) := by
  unfold countRuns
  by_cases none : wee = 0xFF
  · rw [if_pos none]
    exact ⟨rfl, rfl, fun _ => rfl, fun c => absurd none c⟩
  · rw [if_neg none]
    exact ⟨rfl, rfl, fun c => absurd c none, fun _ => rfl⟩

theorem referenceChecked_rest (q : Nat) (w : WinRun) (slot : ExpSlot) (hit : Bool) (wee : Byte) (flag : Bool) (x : Zoe) :
    OtherStream q x (referenceChecked q w slot hit wee flag x)
      ∧ stream (referenceChecked q w slot hit wee flag x) q = countRuns x wee w { stream x q with
        weeLast := wee, post := checkFirst (markChecked wee hit flag) (stream x q).post }
      ∧ (referenceChecked q w slot hit wee flag x).prec = countWee flag wee x.prec
      ∧ (referenceChecked q w slot hit wee flag x).slots
        = if hit then put x.slots (wdSlot w.desc) { slot with valid := false } {} else x.slots := by
  unfold referenceChecked
  dsimp only
  generalize hy : onStream q _ x = y
  have rest : y.prec = x.prec ∧ y.slots = x.slots := by
    rw [← hy, onStream_rest]
    exact ⟨rfl, rfl⟩
  have at' := hy ▸ stream_onStream_same q _ x
  rw [rest.1, rest.2]
  exact ⟨hy ▸ otherStream_onStream .., at', rfl, rfl⟩

theorem exec_referenceCheck {z : ZoeId} {q : Stream} {s : State} {w : WinRun}
    (next : (stream (zoe s z.val) (streamNo q)).post.find? (fun w => !w.checked) = some w) {slot : ExpSlot} {hit : Bool} {wee : Byte}
    (hslot : look (zoe s z.val).slots (wdSlot w.desc) {} = slot) (hhit : (slot.valid && decide (slot.wtag = wdTag w.desc)) = hit)
    (hwee : (if hit = true then weeOf (refErrors (zoe s z.val) (streamNo q) w slot) else 0xFF) = wee) :
    exec (.referenceCheck z q) s = .next (modZoe z.val
      (referenceChecked (streamNo q) w slot hit wee (exceeds (zoe s z.val) w.thrFlag wee w.desc)) (advanceSym (winEnd w + 44) s)) := by
  subst hslot hhit hwee
  have run : exec (.referenceCheck z q) s = execReferenceCheck z q s := rfl
  rw [run, execReferenceCheck]
  dsimp only
  rw [next]
  rfl

/-- The moment of a window's reference check (R56, R79). -/
theorem referenceChecked_spec {q : Nat} {w : WinRun} {slot : ExpSlot} {hit : Bool} {wee : Byte} {flag : Bool} {x : Zoe}
    {pre post : List WinRun} (hslot : look x.slots (wdSlot w.desc) {} = slot) (hpost : (stream x q).post = pre ++ w :: post)
    (hpre : ∀ v ∈ pre, v.checked = true) (hw : w.checked = false) :
    let y := referenceChecked q w slot hit wee flag x
    OtherStream q x y
      ∧ (stream y q).post = pre ++ markChecked wee hit flag w :: post ∧ (stream y q).weeLast = wee
      ∧ (look y.slots (wdSlot w.desc) {}).valid = (slot.valid && !hit)
      ∧ (∀ i, i ≠ wdSlot w.desc → look y.slots i {} = look x.slots i {})
      ∧ y.prec.noest = (if wee = 0xFF then x.prec.noest + 1 else x.prec.noest)
      ∧ y.prec.flagged = (if flag then x.prec.flagged + 1 else x.prec.flagged)
      ∧ (wee = 0xFF → (stream y q).gapRuns = (stream x q).gapRuns ∧ (stream y q).fenceRuns = (stream x q).fenceRuns)
      ∧ (wee ≠ 0xFF → (stream y q).fenceRuns
        = if exceeds x w.thrFence wee w.desc then (stream x q).fenceRuns + 1 else 0) := by
  intro y
  obtain ⟨other, same, prec, slots⟩ := referenceChecked_rest q w slot hit wee flag x
  obtain ⟨runsPost, runsWee, unknown, known⟩ := countRuns_spec x wee w { stream x q with
    weeLast := wee, post := checkFirst (markChecked wee hit flag) (stream x q).post }
  rw [prec, slots, same]
  refine ⟨other, runsPost.trans ?_, runsWee, ?_, fun i hi => ?_, rfl, rfl, fun h => ?_, known⟩
  · dsimp only
    rw [hpost, checkFirst_append _ hpre hw]
  · cases hit with
    | true => rw [if_pos rfl, look_put_same]; simp
    | false => rw [if_neg (by decide), hslot]; simp
  · split
    · exact look_put_ne _ _ _ hi
    · rfl
  · rw [unknown h]
    exact ⟨rfl, rfl⟩

/-! ### Results and router writes leave all but the banks (R50, R52, R134) -/

/-- Nothing differs but the banks, the fault collector and what it signals, and the free values used up. -/
def OnlyBanks (s t : State) : Prop :=
  t = { s with mrb := t.mrb, flt := t.flt, host.pf := t.host.pf, host.vfs := t.host.vfs, out := t.out, free := t.free }

theorem OnlyBanks.refl (s : State) : OnlyBanks s s := rfl

theorem OnlyBanks.trans {s t u : State} (h : OnlyBanks s t) (k : OnlyBanks t u) : OnlyBanks s u :=
  Eq.trans k (by unfold OnlyBanks at h; rw [h])

theorem OnlyBanks.zoe_eq {s t : State} (h : OnlyBanks s t) (z : Nat) : zoe t z = zoe s z := by rw [h]; rfl

theorem OnlyBanks.time_eq {s t : State} (h : OnlyBanks s t) : timeNs t = timeNs s := by rw [h]; rfl

theorem OnlyBanks.shows_eq {s t : State} (h : OnlyBanks s t) : t.shows = s.shows := by rw [h]

theorem onlyBanks_of_faults {s t : State} (h : OnlyFaults s t) : OnlyBanks s t := by
  unfold OnlyFaults at h
  unfold OnlyBanks
  rw [h]

theorem dropAccess_onlyBanks (n master : Nat) (acc : BitVec 20) (s : State) : OnlyBanks s (dropAccess n master acc s) := by
  unfold dropAccess
  dsimp only
  split <;> split <;>
  · refine .trans ?_ (onlyBanks_of_faults (raiseFirst_onlyFaults (by decide) ..))
    rfl

theorem scratchWrite_onlyBanks (n a : Nat) (bs : List Byte) (s : State) : OnlyBanks s (scratchWrite n a bs s) := rfl

theorem checkedWrite_onlyBanks (n a : Nat) (bs : List Byte) (master : Nat) (acc : BitVec 20) (s : State) :
    OnlyBanks s (checkedWrite n a bs master acc s) := by
  unfold checkedWrite
  split
  · exact scratchWrite_onlyBanks ..
  · exact dropAccess_onlyBanks ..

theorem countLoss_onlyBanks (n k : Nat) (s : State) : OnlyBanks s (countLoss n k (useFree s)) := by
  unfold countLoss countWaits
  split <;> rfl

theorem routerWord_onlyBanks (n a : Nat) (w : Word) (acc : BitVec 20) (s : State) : OnlyBanks s (routerWord n a w acc s) := by
  unfold routerWord
  split
  · exact dropAccess_onlyBanks ..
  · dsimp only
    split
    · exact .trans (countLoss_onlyBanks ..) (onlyBanks_of_faults (raiseFault_onlyFaults (by decide) ..))
    · exact .trans (countLoss_onlyBanks ..) (scratchWrite_onlyBanks ..)

theorem forAll_onlyBanks {α : Type} (ks : List α) {f : α → State → State} (h : ∀ k s, OnlyBanks s (f k s)) (s : State) :
    OnlyBanks s (forAll ks f s) := forAll_inv (OnlyBanks s) ks f (fun k t ht => ht.trans (h k t)) s (.refl s)

theorem quadWord_onlyBanks (z a : Nat) (w : Word) (s : State) : OnlyBanks s (quadWord z a w s) :=
  forAll_onlyBanks _ (fun _ _ => routerWord_onlyBanks ..) s

theorem writeBlock_onlyBanks (c o : Nat) (acc : BitVec 20) (bs : List Byte) (s : State) : OnlyBanks s (writeBlock c o acc bs s) :=
  forAll_onlyBanks _ (fun _ _ => checkedWrite_onlyBanks ..) s

/-! ### Window-done (R52, R65, R134) -/

/-- A state with the result blocks of window w of stream q in scratch. -/
def resultsWritten (z q : Nat) (w : WinRun) (s : State) : State :=
  forAll ((tileCols (zoe s z).modeApplied q).mapIdx (fun j c => (j, c))) (fun jc u =>
    writeBlock (feedCluster (zoe s z) z (260 + jc.2)) (wdRoff w.desc) (feedTag s z)
      (resultBlock (zoe s z) q w (tileRows (zoe s z).modeApplied q) (tileCols (zoe s z).modeApplied q) jc.1) u) s

/-- The windows that stream q has done. -/
def doneCount (q : Nat) (x : Zoe) : BitVec 16 := if q = 0 then x.wdone0 else x.wdone1

/-- What a window-done does to its Zoetrope at time `now`. -/
def windowCounted (q : Nat) (w : WinRun) (rest : List WinRun) (n : BitVec 16) (now : Nat) (sat : Bool) (x : Zoe) : Zoe :=
  settleReady (countWindow sat w (onStream q (fun r => { r with
      post := rest
      pend := if w.audit then pendDone (wdTag w.desc) w.wee now r.pend else r.pend })
    (if q = 0 then { x with wdone0 := n } else { x with wdone1 := n })))

theorem windowCounted_spec (q : Stream) (w : WinRun) (rest : List WinRun) (n : BitVec 16) (now : Nat) (sat : Bool) (x : Zoe) :
    let y := windowCounted (streamNo q) w rest n now sat x
    OtherStream (streamNo q) x y ∧ (stream y (streamNo q)).post = rest ∧ doneCount (streamNo q) y = n ∧ y.cWin = x.cWin + 1
      ∧ y.cUnderrun = (if w.underrun then x.cUnderrun + 1 else x.cUnderrun)
      ∧ y.cReflate = (if w.refLate then x.cReflate + 1 else x.cReflate)
      ∧ y.cNolight = (if w.nolight then x.cNolight + 1 else x.cNolight) := by
  intro y
  unfold y windowCounted
  rw [settleReady_eq]
  cases q <;> exact ⟨rfl, rfl, rfl, rfl, rfl, rfl, rfl⟩

theorem exec_windowDone {z : ZoeId} {q : Stream} {s : State} {w : WinRun} {rest : List WinRun}
    (first : (stream (zoe s z.val) (streamNo q)).post = w :: rest) (checked : w.checked = true) {n : BitVec 16}
    (hn : doneCount (streamNo q) (zoe s z.val) + 1 = n) {u : State}
    (hu : quadWord z.val (if streamNo q = 0 then 0x7CC else 0x7D0) (n ++ wdTag w.desc)
      (resultsWritten z.val (streamNo q) w (advanceSym (winEnd w + 116) s)) = u) :
    exec (.windowDone z q) s = .next (modZoe z.val (windowCounted (streamNo q) w rest n (timeNs u)
      ((List.range (tileCols (zoe s z.val).modeApplied (streamNo q)).length).any (satAny (zoe s z.val) w
        (tileRows (zoe s z.val).modeApplied (streamNo q)) (tileCols (zoe s z.val).modeApplied (streamNo q))))) u) := by
  subst hn hu
  have run : exec (.windowDone z q) s = execWindowDone z q s := rfl
  rw [run, execWindowDone]
  dsimp only
  rw [first]
  dsimp only
  rw [checked]
  rfl

theorem resultsWritten_onlyBanks (z q : Nat) (w : WinRun) (s : State) : OnlyBanks s (resultsWritten z q w s) :=
  forAll_onlyBanks _ (fun _ _ => writeBlock_onlyBanks ..) s

theorem windowMoments : Claims.WindowMoments := by
  intro z q w s k x r rows cols
  refine ⟨?_, ?_, ?_⟩
  · intro late hold s1 free n clean
    obtain ⟨wd, wt, wc, wl, ws, as, wu, wv⟩ := sampled_spec s1 z.val k late w
    obtain ⟨lenW, lenA⟩ := length_endWindow_codes s1 z.val k late w
    have run := exec_integrationEnd (late := late) hold clean
    have at' : zoe (modZoe z.val (integrated k w (sampled s1 z.val k late w) (endWindow s1 z.val k late w).1.2)
        (useFrees (chanFree * 388 + 260 * 128) s1)) z.val
          = integrated k w (sampled s1 z.val k late w) (endWindow s1 z.val k late w).1.2 x := zoe_modZoe_same ..
    obtain ⟨other, ⟨l, same⟩, sym, owed⟩ := integrated_spec q w (sampled s1 z.val k late w) (endWindow s1 z.val k late w).1.2 x
    refine ⟨_, sampled s1 z.val k late w, run, frame_modZoe_useFrees_advanceSym .., fun i hi => zoe_modZoe_ne _ _ hi, ?_⟩
    rw [at', same]
    refine ⟨other, advanceSym_time (winEnd w) s, rfl, rfl, rfl, rfl, wd, wt, wc, wl, (congrArg _ ws).trans lenW,
      (congrArg _ as).trans lenA, ?_, fun i j c a hc ha => ?_, fun none => ?_, sym, owed⟩
    · rw [wv, length_windowValues, lenW, lenA]
      rfl
    · rw [ws] at hc
      rw [as] at ha
      have value := windowValues_at (x := x) (q := k) (free := free) hc ha
      rw [lenA] at value
      rw [wv]
      exact value
    · subst none
      exact ⟨wu.trans (endWindow_underrun clean), fun i c bs row run cut held => by
        rw [ws]
        exact endWindow_wCode row run cut held⟩
  · intro pre post hpost hpre hw slot hit wee flag
    have next : r.post.find? (fun w => !w.checked) = some w := by
      rw [hpost]
      exact find?_append_cons (fun v hv => by simp [hpre v hv]) (by simp [hw])
    obtain ⟨other, posted, last, valid, slots, noest, flagged, unknown, known⟩ :=
      referenceChecked_spec (hit := hit) (wee := wee) (flag := flag) (x := x) rfl hpost hpre hw
    have at' : zoe (modZoe z.val (referenceChecked k w slot hit wee flag) (advanceSym (winEnd w + 44) s)) z.val
        = referenceChecked k w slot hit wee flag x := zoe_modZoe_same ..
    refine ⟨_, exec_referenceCheck next rfl rfl rfl, (onlyZoeAt_advanceSym ..).trans (onlyZoe_modZoe ..).at, ?_⟩
    rw [at']
    exact ⟨other, advanceSym_time .., posted, last, valid, slots, noest, flagged, unknown, known⟩
  · intro rest hpost hw n s1 s2
    have written : resultsWritten z.val k w s1 = s2 := rfl
    obtain ⟨u, hu⟩ : ∃ u, quadWord z.val (if k = 0 then 0x7CC else 0x7D0) (n ++ wdTag w.desc) s2 = u := ⟨_, rfl⟩
    have banks : OnlyBanks s1 u := hu ▸ written ▸ (resultsWritten_onlyBanks z.val k w s1).trans (quadWord_onlyBanks ..)
    obtain ⟨other, posted, done, win, under, late, dark⟩ := windowCounted_spec q w rest n (timeNs u)
      ((List.range cols.length).any (satAny x w rows cols)) x
    refine ⟨_, exec_windowDone hpost hw rfl ((congrArg _ written).trans hu), ?_, ?_,
      fun i hi => (zoe_modZoe_ne _ _ hi).trans (banks.zoe_eq i), ?_⟩
    · rw [timeNs_modZoe, banks.time_eq]
      exact advanceSym_time ..
    · rw [modZoe_mrb, hu]
    · rw [zoe_modZoe_same, banks.zoe_eq]
      exact ⟨other, posted, done, win, under, late, dark⟩

/-- Settles O13: a quiet boundary does what its next descriptor says, and each moment of a window is one change of its Zoetrope. -/
theorem windowsOfAStream : Obligations.WindowsOfAStream := ⟨windowBoundaries, windowMoments⟩

end Sys2Proof.Machine
end

section
/-! PROOFS. Scenes: what router writes rest on, what a thread notes, and what a lost step leaves alone. -/

namespace Sys2Proof.Machine

open Sys2Proof Sys2Proof.Machine.Tables

/-! ### What router writes rest on (R134, R138) -/

/-- The state with its Zoetropes listed otherwise. -/
def withZoes (zs : SMap Zoe) (s : State) : State := { s with zoes := zs }

theorem signalVec_withZoes (f : Fn) (vec : Nat) (zs : SMap Zoe) (s : State) :
    signalVec f vec (withZoes zs s) = withZoes zs (signalVec f vec s) := by
  unfold signalVec
  cases f <;>
  · simp only [show ∀ f, fnCfg (withZoes zs s) f = fnCfg s f from fun _ => rfl,
      show ∀ f, vecAlloc (withZoes zs s) f = vecAlloc s f from fun _ => rfl,
      show ∀ f, fnOn (withZoes zs s) f = fnOn s f from fun _ => rfl,
      show ∀ f, fnDma (withZoes zs s) f = fnDma s f from fun _ => rfl]
    repeat' split
    all_goals rfl

/-- A fault that is not Fatal does not look at the Zoetropes. -/
theorem raiseFault_withZoes {code : BitVec 16} (h : faultClass code ≠ 2) (kind index part detail : Nat) (zs : SMap Zoe) (s : State) :
    raiseFault code kind index part detail (withZoes zs s) = withZoes zs (raiseFault code kind index part detail s) := by
  have signals (f : FltSys) : (if h : part < 12 then signalVec (.vf ⟨part, h⟩) 1 (signalVec .pf 1 { withZoes zs s with flt := f })
      else signalVec .pf 1 { withZoes zs s with flt := f })
      = withZoes zs (if h : part < 12 then signalVec (.vf ⟨part, h⟩) 1 (signalVec .pf 1 { s with flt := f })
        else signalVec .pf 1 { s with flt := f }) := by
    have pf := signalVec_withZoes .pf 1 zs { s with flt := f }
    split
    · exact (congrArg _ pf).trans (signalVec_withZoes ..)
    · exact pf
  unfold raiseFault
  simp only [if_neg h]
  exact signals _

theorem raiseFirst_withZoes {code : BitVec 16} (h : faultClass code ≠ 2) (key len kind index part detail : Nat) (zs : SMap Zoe)
    (s : State) : raiseFirst key len code kind index part detail (withZoes zs s)
      = withZoes zs (raiseFirst key len code kind index part detail s) := by
  unfold raiseFirst
  dsimp only
  rw [show timeNs (withZoes zs s) = timeNs s from rfl, show (withZoes zs s).flt = s.flt from rfl]
  split
  · rfl
  · exact raiseFault_withZoes h kind index part detail zs { s with flt.firsts := put s.flt.firsts key (timeNs s / len + 1) 0 }

theorem dropAccess_withZoes (n master : Nat) (acc : BitVec 20) (zs : SMap Zoe) (s : State) :
    dropAccess n master acc (withZoes zs s) = withZoes zs (dropAccess n master acc s) := by
  have drop (key kind index part : Nat) (m : MarbleSys) : raiseFirst key 1000000 0x0303 kind index part n { withZoes zs s with mrb := m }
      = withZoes zs (raiseFirst key 1000000 0x0303 kind index part n { s with mrb := m }) :=
    raiseFirst_withZoes (by decide) _ _ _ _ _ _ zs { s with mrb := m }
  unfold dropAccess
  dsimp only
  rw [show bank (withZoes zs s) n = bank s n from rfl]
  by_cases east : halfOf n = 0 <;> simp only [east, if_true, if_false] <;> split <;>
    exact drop _ _ _ _ _

theorem routerWord_withZoes (n a : Nat) (w : Word) (acc : BitVec 20) (zs : SMap Zoe) (s : State) :
    routerWord n a w acc (withZoes zs s) = withZoes zs (routerWord n a w acc s) := by
  have loss : countLoss n (Config.routerLosses s.free n).val (useFree (withZoes zs s))
      = withZoes zs (countLoss n (Config.routerLosses s.free n).val (useFree s)) := by
    unfold countLoss countWaits
    split <;> rfl
  unfold routerWord
  dsimp only
  rw [show bank (withZoes zs s) n = bank s n from rfl, show (withZoes zs s).free = s.free from rfl, loss]
  split
  · exact dropAccess_withZoes ..
  · split
    · exact raiseFault_withZoes (by decide) ..
    · rfl

theorem quadWord_withZoes (z a : Nat) (w : Word) (zs : SMap Zoe) (s : State) :
    quadWord z a w (withZoes zs s) = withZoes zs (quadWord z a w s) := by
  have each (ks : List Nat) (acc : BitVec 20) (s : State) :
      forAll ks (fun i => routerWord (32768 * z + i) a w acc) (withZoes zs s)
        = withZoes zs (forAll ks (fun i => routerWord (32768 * z + i) a w acc) s) := by
    unfold forAll
    induction ks generalizing s with
    | nil => rfl
    | cons k ks ih => exact (congrArg (fun u => ks.foldl _ u) (routerWord_withZoes ..)).trans (ih _)
  unfold quadWord
  rw [show quadPart (withZoes zs s) z = quadPart s z from rfl]
  exact each ..

end Sys2Proof.Machine
end

section
/-! PROOFS. Scenes start, end, and lose a step. -/

namespace Sys2Proof.Machine

open Sys2Proof Sys2Proof.Machine.Tables

/-! ### What threads note (R155) -/

/-- Nothing of a Zoetrope differs but when its threads' conditions came to hold. -/
def OnlyMet (x y : Zoe) : Prop :=
  y = { x with scn.threads := y.scn.threads } ∧ ∀ t, ∃ m, threadOf y t = { threadOf x t with metAt := m }

theorem OnlyMet.refl (x : Zoe) : OnlyMet x x := ⟨rfl, fun _ => ⟨_, rfl⟩⟩

theorem OnlyMet.trans {x y w : Zoe} (h : OnlyMet x y) (k : OnlyMet y w) : OnlyMet x w := by
  refine ⟨k.1.trans (by rw [h.1]), fun t => ?_⟩
  obtain ⟨m, hm⟩ := h.2 t
  obtain ⟨n, hn⟩ := k.2 t
  exact ⟨n, by rw [hn, hm]⟩

theorem OnlyMet.stream_eq {x y : Zoe} (h : OnlyMet x y) (q : Nat) : stream y q = stream x q := by
  rw [h.1]
  rfl

/-- Threads listed with another time at which their conditions came to hold. -/
theorem look_map_met (ths : SMap ThreadSt) {g : Nat × ThreadSt → Nat × ThreadSt}
    (h : ∀ e, ∃ m, g e = (e.1, { e.2 with metAt := m })) (t : Nat) :
    ∃ m, look (ths.map g) t {} = { look ths t {} with metAt := m } := by
  induction ths with
  | nil => exact ⟨_, rfl⟩
  | cons e ths ih =>
    obtain ⟨m, hm⟩ := h e
    rw [List.map_cons, look_cons, look_cons, hm]
    split
    · exact ⟨m, rfl⟩
    · exact ih

theorem noteReady_spec (p : Nat) (s : State) :
    noteReady p s = { s with zoes := (noteReady p s).zoes } ∧ ∀ i, OnlyMet (zoe s i) (zoe (noteReady p s) i) := by
  refine forAll_inv (fun u => u = { s with zoes := u.zoes } ∧ ∀ i, OnlyMet (zoe s i) (zoe u i)) _ _ ?_ s ⟨rfl, fun i => .refl _⟩
  rintro z u ⟨hu, met⟩
  refine ⟨by rw [hu]; rfl, fun i => (met i).trans ?_⟩
  by_cases hi : i = z
  · subst hi
    rw [zoe_modZoe_same]
    refine ⟨rfl, look_map_met _ fun e => ?_⟩
    split
    · exact ⟨_, rfl⟩
    · exact ⟨_, rfl⟩
  · rw [zoe_modZoe_ne _ _ hi]
    exact .refl _

theorem noteReady_time (p : Nat) (s : State) : timeNs (noteReady p s) = timeNs s := by
  rw [(noteReady_spec p s).1]
  rfl

/-! ### Scenes start (R155) -/

theorem setSession_frame (p : Nat) (sid : BitVec 24) (x : Session) (s : State) :
    setSession p sid x s = { s with sessions := (setSession p sid x s).sessions } := rfl

theorem beginStep_frame (p t : Nat) (s : State) : beginStep p t s = { s with sessions := (beginStep p t s).sessions } := by
  unfold beginStep
  split
  · rfl
  · refine forAll_inv (fun u => u = { s with sessions := u.sessions }) _ _ ?_ s rfl
    intro e u hu
    split
    · rw [setSession_frame, hu]
    · exact hu

/-- A Scene that is no ENTRY begins no step. -/
theorem stepBegun_frame {p t : Nat} {e : BitVec 128} {begun : Bool} {u v : State}
    (h : (if scEntry e && !begun then beginStep p t v else v) = u) :
    u = { v with sessions := u.sessions } ∧ (scEntry e = false → u = v) := by
  subst h
  refine ⟨?_, fun plain => by rw [plain]; rfl⟩
  split
  · exact beginStep_frame ..
  · rfl

/-- What a Scene's start does to the counts and arrivals of its Quad. -/
def sceneCounted (q w : Nat) (e : BitVec 128) (x : Zoe) : Zoe :=
  { x with
    sceneEnd := x.sceneEnd &&& ~~~BitVec.ofNat 2 (2 ^ q)
    scn := { x.scn with
      arrivals := if scStart e = 1 then modAt x.scn.arrivals (scXid e) 0 (· - BitVec.ofNat 16 (scCount e)) else x.scn.arrivals
      starts := x.scn.starts + 1
      wmax := if x.scn.wmax.toNat < w then BitVec.ofNat 32 (min w 0xFFFFFFFF) else x.scn.wmax } }

/-- A thread whose next Scene, entry e, starts. -/
def sceneRuns (e : BitVec 128) (y : ThreadSt) : ThreadSt :=
  { y with running := true, scene := y.next, mid := y.mid || scEntry e, metAt := none }

/-- The state in which the next Scene of thread t, entry e, has started on queue q, from one that has come to its time. -/
def sceneStarted (p z : Nat) (t : Fin 8) (q w : Nat) (scene : BitVec 10) (e : BitVec 128) (u : State) : State :=
  noteReady p (modStream z q (fun r => { r with
      qstate := .running, pos := scPos e, thread := some t, scene := scene, boundAt := nowSym u })
    (modThread z t.val (sceneRuns e) (modZoe z (sceneCounted q w e) u)))

theorem sceneStarted_frame (p z : Nat) (t : Fin 8) (q w : Nat) (scene : BitVec 10) (e : BitVec 128) (u : State) :
    sceneStarted p z t q w scene e u = { u with zoes := (sceneStarted p z t q w scene e u).zoes } := by
  unfold sceneStarted
  rw [(noteReady_spec ..).1]
  rfl

/-- What a start leaves on its Zoetrope but for the times at which conditions came to hold. -/
def zoeStarted (t : Fin 8) (q w now : Nat) (scene : BitVec 10) (e : BitVec 128) (x : Zoe) : Zoe :=
  onStream q (fun r => { r with qstate := .running, pos := scPos e, thread := some t, scene := scene, boundAt := now })
    { sceneCounted q w e x with
      scn.threads := modAt (sceneCounted q w e x).scn.threads t.val {} (sceneRuns e) }

theorem zoe_sceneStarted (p z : Nat) (t : Fin 8) (q w : Nat) (scene : BitVec 10) (e : BitVec 128) (u : State) :
    OnlyMet (zoeStarted t q w (nowSym u) scene e (zoe u z)) (zoe (sceneStarted p z t q w scene e u) z) := by
  have met := (noteReady_spec p (modStream z q (fun r => { r with
      qstate := .running, pos := scPos e, thread := some t, scene := scene, boundAt := nowSym u })
    (modThread z t.val (sceneRuns e) (modZoe z (sceneCounted q w e) u)))).2 z
  rw [modStream, zoe_modZoe_same, modThread, zoe_modZoe_same, zoe_modZoe_same] at met
  exact met

theorem zoeStarted_scn (t : Fin 8) (q w now : Nat) (scene : BitVec 10) (e : BitVec 128) (x : Zoe) :
    (zoeStarted t q w now scene e x).scn = { (sceneCounted q w e x).scn with
        threads := modAt (sceneCounted q w e x).scn.threads t.val {} (sceneRuns e) }
      ∧ (zoeStarted t q w now scene e x).sceneEnd = (sceneCounted q w e x).sceneEnd := by
  unfold zoeStarted
  rw [onStream_rest]
  exact ⟨rfl, rfl⟩

theorem zoeStarted_spec (t : Fin 8) (q w now : Nat) (scene : BitVec 10) (e : BitVec 128) (x : Zoe) :
    let y := zoeStarted t q w now scene e x
    threadOf y t.val = sceneRuns e (threadOf x t.val)
      ∧ stream y q = { stream x q with qstate := .running, pos := scPos e, thread := some t, scene := scene, boundAt := now }
      ∧ y.scn.starts = x.scn.starts + 1 ∧ y.sceneEnd = x.sceneEnd &&& ~~~BitVec.ofNat 2 (2 ^ q)
      ∧ ∀ k, look y.scn.arrivals k 0
        = if scStart e = 1 ∧ k = scXid e then look x.scn.arrivals k 0 - BitVec.ofNat 16 (scCount e) else look x.scn.arrivals k 0 := by
  intro y
  obtain ⟨scn, ends⟩ := zoeStarted_scn t q w now scene e x
  refine ⟨?_, stream_onStream_same .., ?_, ends, fun k => ?_⟩
  · rw [threadOf, scn]
    exact look_modAt_same ..
  · rw [scn]
    rfl
  · rw [scn]
    change look (if scStart e = 1 then modAt x.scn.arrivals (scXid e) 0 (· - BitVec.ofNat 16 (scCount e)) else x.scn.arrivals) k 0 = _
    by_cases counts : scStart e = 1
    · rw [if_pos counts, modAt, look_put]
      simp only [counts, true_and]
      split
      · next h => rw [h]
      · rfl
    · rw [if_neg counts, if_neg (fun c => counts c.1)]

/-- Whether something keeps the next Scene of thread t from starting (R155). -/
def sceneHeld (s : State) (z p t : Nat) : Bool :=
  let x := zoe s z
  let th := threadOf x t
  let met := th.metAt.getD (timeNs s)
  !th.used || th.running || th.halted || !showRuns s p || !queueTakes x (threadQueue x t) || !sceneMet s z p t
    || comesFirst s z p t met (max (timeNs s) (readyAt x t met))

theorem exec_sceneStart_held {z : ZoeId} {t : Fin 8} {p : Nat} {s : State} (hp : quadPart s z.val = some p)
    (held : sceneHeld s z.val p t.val = true) : exec (.sceneStart z t) s = .next s := by
  have run : exec (.sceneStart z t) s = execSceneStart z t s := rfl
  rw [run, execSceneStart]
  dsimp only
  rw [hp]
  exact congrArg Host.Outcome.next (if_pos held)

theorem exec_sceneStart {z : ZoeId} {t : Fin 8} {p : Nat} {s : State} (hp : quadPart s z.val = some p)
    (free : sceneHeld s z.val p t.val = false) {x : Zoe} (hx : zoe s z.val = x) {th : ThreadSt} (hth : threadOf x t.val = th)
    {e : BitVec 128} (he : nextEntry x t.val = e) {v : State}
    (hv : advanceTo (max (timeNs s) (readyAt x t.val (th.metAt.getD (timeNs s)))) s = v) :
    ∃ begun, exec (.sceneStart z t) s = .next (sceneStarted p z.val t (threadQueue x t.val)
      (th.metAt.getD (timeNs s) - th.since) th.next e (if scEntry e && !begun then beginStep p t.val v else v)) := by
  subst hx hth he hv
  have run : exec (.sceneStart z t) s = execSceneStart z t s := rfl
  rw [run, execSceneStart]
  dsimp only
  rw [hp]
  exact ⟨_, congrArg Host.Outcome.next (if_neg (Bool.eq_false_iff.mp free))⟩

end Sys2Proof.Machine
end

section
/-! PROOFS. What the end of a step and the parking of its sessions leave alone. -/

namespace Sys2Proof.Machine

open Sys2Proof Sys2Proof.Machine.Tables

/-- The Zoetropes, time and the count of Contained faults are as they were. -/
def KeepsQuads (s t : State) : Prop := t.zoes = s.zoes ∧ t.ident = s.ident ∧ t.flt.nCont = s.flt.nCont

theorem KeepsQuads.refl (s : State) : KeepsQuads s s := ⟨rfl, rfl, rfl⟩

theorem KeepsQuads.trans {s t u : State} (h : KeepsQuads s t) (k : KeepsQuads t u) : KeepsQuads s u :=
  ⟨k.1.trans h.1, k.2.1.trans h.2.1, k.2.2.trans h.2.2⟩

theorem KeepsQuads.zoe_eq {s t : State} (h : KeepsQuads s t) (z : Nat) : zoe t z = zoe s z := by unfold zoe; rw [h.1]

theorem KeepsQuads.time_eq {s t : State} (h : KeepsQuads s t) : timeNs t = timeNs s := by unfold timeNs; rw [h.2.1]

theorem keepsQuads_forAll {α : Type} (ks : List α) {f : α → State → State} (h : ∀ k s, KeepsQuads s (f k s)) (s : State) :
    KeepsQuads s (forAll ks f s) := forAll_inv (KeepsQuads s) ks f (fun k t ht => ht.trans (h k t)) s (.refl s)

/-! ### Completions (R205, R209) -/

theorem keepsQuads_modQueue (q : Nat) (f : Queue → Queue) (s : State) : KeepsQuads s (modQueue q f s) := ⟨rfl, rfl, rfl⟩

theorem keepsQuads_signalVec (f : Fn) (vec : Nat) (s : State) : KeepsQuads s (signalVec f vec s) := by
  rw [signalVec_frame]
  exact ⟨rfl, rfl, rfl⟩

theorem keepsQuads_writeCpl (q : Nat) (c : Cpl) (s : State) : KeepsQuads s (writeCpl q c s) := by
  unfold writeCpl
  dsimp only
  split
  · exact .trans ⟨rfl, rfl, rfl⟩ (keepsQuads_signalVec ..)
  · exact ⟨rfl, rfl, rfl⟩

theorem keepsQuads_postCpl (q : Nat) (c : Cpl) (s : State) : KeepsQuads s (postCpl q c s) := by
  unfold postCpl postFormed
  dsimp only
  repeat' split
  · exact .refl s
  · exact .refl s
  · exact keepsQuads_modQueue ..
  · exact keepsQuads_writeCpl ..
  · exact keepsQuads_modQueue ..

theorem keepsQuads_endDesc (q id : Nat) (st : Byte) (data0 : Nat) (s : State) : KeepsQuads s (endDesc q id st data0 s) := by
  unfold endDesc
  split
  · exact .refl s
  · dsimp only
    split
    · exact keepsQuads_modQueue ..
    · exact .trans (keepsQuads_modQueue ..) (keepsQuads_postCpl ..)

theorem keepsQuads_settleFences (n q : Nat) (s : State) : KeepsQuads s (settleFences n q s) := by
  induction n generalizing s with
  | zero => exact .refl s
  | succ n ih =>
    unfold settleFences
    split
    · exact .refl s
    · exact .trans (keepsQuads_endDesc ..) (ih _)

theorem keepsQuads_takeDesc (q : Nat) (d : InFlight) (s : State) : KeepsQuads s (takeDesc q d s) := ⟨rfl, rfl, rfl⟩

theorem keepsQuads_flushBad (n q : Nat) (s : State) : KeepsQuads s (flushBad n q s) := by
  induction n generalizing s with
  | zero => exact .refl s
  | succ n ih =>
    unfold flushBad
    split
    · exact .refl s
    · split
      · exact .refl s
      · exact .trans (keepsQuads_takeDesc ..) (.trans (keepsQuads_endDesc ..) (ih _))

theorem keepsQuads_settleQueue (q : Nat) (s : State) : KeepsQuads s (settleQueue q s) :=
  .trans (keepsQuads_settleFences ..) (keepsQuads_flushBad ..)

theorem keepsQuads_finishDesc (q id : Nat) (st : Byte) (data0 : Nat) (s : State) : KeepsQuads s (finishDesc q id st data0 s) :=
  .trans (keepsQuads_endDesc ..) (keepsQuads_settleQueue ..)

theorem keepsQuads_settlePart (p : Nat) (s : State) : KeepsQuads s (settlePart p s) :=
  keepsQuads_forAll _ keepsQuads_settleQueue s

/-! ### Sessions parked and closed (R157, R162) -/

theorem keepsQuads_setSession (p : Nat) (sid : BitVec 24) (x : Session) (s : State) : KeepsQuads s (setSession p sid x s) :=
  ⟨rfl, rfl, rfl⟩

theorem keepsQuads_dropAccess (n master : Nat) (acc : BitVec 20) (s : State) : KeepsQuads s (dropAccess n master acc s) := by
  have banks := dropAccess_onlyBanks n master acc s
  refine ⟨by rw [banks], by rw [banks], ?_⟩
  unfold dropAccess
  dsimp only
  split <;> split <;> rw [raiseFirst_nCont (by decide)]

theorem keepsQuads_zeroSlot (p : Nat) (x : Session) (s : State) : KeepsQuads s (zeroSlot p x s) := by
  unfold zeroSlot fillSlot mrtWrite
  split
  · refine keepsQuads_forAll _ (fun n s => ?_) s
    split
    · exact ⟨rfl, rfl, rfl⟩
    · exact keepsQuads_dropAccess ..
  · exact .refl s

theorem keepsQuads_hbmSet (c o : Nat) (b : Byte) (s : State) : KeepsQuads s (hbmSet c o b s) := by
  unfold hbmSet
  split <;> exact ⟨rfl, rfl, rfl⟩

theorem keepsQuads_hbmWrite (c o : Nat) (bs : List Byte) (s : State) : KeepsQuads s (hbmWrite c o bs s) :=
  keepsQuads_forAll _ (fun _ _ => keepsQuads_hbmSet ..) s

theorem keepsQuads_healLine (c line : Nat) (s : State) : KeepsQuads s (healLine c line s) := by
  unfold healLine
  dsimp only
  repeat' split
  all_goals exact ⟨rfl, rfl, rfl⟩

theorem keepsQuads_countAct (c line : Nat) (s : State) : KeepsQuads s (countAct c line s) := by
  unfold countAct
  dsimp only
  split <;> exact ⟨rfl, rfl, rfl⟩

theorem keepsQuads_modRlc (h : Nat) (f : Rlc → Rlc) (s : State) : KeepsQuads s (modRlc h f s) := by
  unfold modRlc
  split <;> exact ⟨rfl, rfl, rfl⟩

theorem keepsQuads_writeLine (h z c line : Nat) (bytes : List Byte) (s : State) : KeepsQuads s (writeLine h z c line bytes s).2 := by
  have written : KeepsQuads s (countAct c line (healLine c line (hbmWrite c (128 * line) bytes s))) :=
    (keepsQuads_hbmWrite ..).trans ((keepsQuads_healLine ..).trans (keepsQuads_countAct ..))
  unfold writeLine
  dsimp only
  repeat' split
  · exact written.trans (keepsQuads_modRlc ..)
  · exact written.trans (keepsQuads_modRlc ..)
  · exact written

theorem keepsQuads_parkStore (p addr : Nat) (bs : List Byte) (s : State) : KeepsQuads s (parkStore p addr bs s) := by
  refine keepsQuads_forAll _ (fun i s => ?_) s
  split
  · exact .refl s
  · exact keepsQuads_writeLine ..

theorem keepsQuads_removeSession (p : Nat) (sid : BitVec 24) (s : State) : KeepsQuads s (removeSession p sid s) := by
  unfold removeSession
  split
  · exact .refl s
  · exact .trans (keepsQuads_zeroSlot ..) (.trans (keepsQuads_parkStore ..) ⟨rfl, rfl, rfl⟩)

theorem keepsQuads_sessionEvent (home : Nat) (sid : BitVec 24) (st : Byte) (step : Word) (ext : Bool) (s : State) :
    KeepsQuads s (sessionEvent home sid st step ext s) := keepsQuads_postCpl ..

theorem keepsQuads_forceClose (p : Nat) (sid : BitVec 24) (st : Byte) (s : State) : KeepsQuads s (forceClose p sid st s) := by
  unfold forceClose
  split
  · exact .refl s
  · next x _ =>
    refine .trans (keepsQuads_removeSession p sid s) ?_
    generalize removeSession p sid s = u
    dsimp only
    cases x.op with
    | none => exact keepsQuads_sessionEvent ..
    | forced st => exact keepsQuads_sessionEvent ..
    | close q id => exact keepsQuads_finishDesc ..
    | park q id => exact .trans (keepsQuads_finishDesc ..) (keepsQuads_sessionEvent ..)
    | resume q id => exact .trans (keepsQuads_finishDesc ..) (keepsQuads_sessionEvent ..)

theorem keepsQuads_forcePark (p : Nat) (sid : BitVec 24) (st : Byte) (s : State) : KeepsQuads s (forcePark p sid st s) := by
  unfold forcePark
  split
  · exact .refl s
  · split
    · split
      · exact keepsQuads_setSession ..
      · exact keepsQuads_forceClose ..
    · exact .trans (keepsQuads_setSession ..) (keepsQuads_finishDesc ..)
    · exact .refl s

theorem keepsQuads_abandonStep (p t : Nat) (s : State) : KeepsQuads s (abandonStep p t s) := by
  unfold abandonStep
  split
  · exact .refl s
  · refine .trans (keepsQuads_forAll _ (fun e s => ?_) s) (keepsQuads_settlePart ..)
    split
    · exact keepsQuads_setSession ..
    · exact .refl s

/-! ### A lost step on each Quad (R157) -/

/-- What a lost step does to its thread on one Quad, whose ENTRY Scene is `first`. -/
def threadLost (first : BitVec 10) (halt : Bool) (now : Nat) (y : ThreadSt) : ThreadSt :=
  { y with
    lost := y.running, next := if y.running then y.next else first, mid := !halt, lead := 0, rerun := !halt, halted := halt
    since := now, metAt := none }

/-- What a lost step does to one Quad of its thread. -/
def stepLostOn (scenes t : Nat) (halt : Bool) (now : Nat) (x : Zoe) : Zoe :=
  { x with
    scn := { x.scn with
      arrivals := x.scn.arrivals.filter (fun e => decide (e.1 ∉ threadXids x scenes t))
      rerun := if halt then x.scn.rerun else x.scn.rerun + 1
      threads := modAt x.scn.threads t {} (threadLost (firstEntry x scenes t) halt now) } }

theorem loseOn_spec (scenes t : Nat) (halt : Bool) (z : Nat) (s : State) :
    OnlyZoe z s (loseOn scenes t halt z s) ∧ zoe (loseOn scenes t halt z s) z = stepLostOn scenes t halt (timeNs s) (zoe s z) := by
  refine ⟨(onlyZoe_modZoe ..).trans (onlyZoe_modZoe ..), ?_⟩
  unfold loseOn modThread
  rw [zoe_modZoe_same, zoe_modZoe_same]
  rfl

/-- Each Quad of a list changed by itself. -/
theorem zoe_forAll_own {f : Nat → State → State} {g : Zoe → Zoe} {now : Nat}
    (h : ∀ z s, timeNs s = now → OnlyZoe z s (f z s) ∧ zoe (f z s) z = g (zoe s z)) {ks : List Nat} (nodup : ks.Nodup) (s : State)
    (time : timeNs s = now) :
    forAll ks f s = { s with zoes := (forAll ks f s).zoes }
      ∧ ∀ i, zoe (forAll ks f s) i = if i ∈ ks then g (zoe s i) else zoe s i := by
  induction ks generalizing s with
  | nil => exact ⟨rfl, fun i => rfl⟩
  | cons k ks ih =>
    obtain ⟨fresh, nodup'⟩ := List.nodup_cons.mp nodup
    obtain ⟨only, own⟩ := h k s time
    obtain ⟨frame, each⟩ := ih nodup' (f k s) (only.time_eq.trans time)
    have rest (zs : SMap Zoe) : { f k s with zoes := zs } = { s with zoes := zs } := by rw [only.1]
    refine ⟨frame.trans (rest _), fun i => (each i).trans ?_⟩
    by_cases hi : i = k
    · subst hi
      rw [if_neg fresh, if_pos List.mem_cons_self, own]
    · rw [only.2 i hi]
      simp only [List.mem_cons, hi, false_or]

theorem stepLostOn_spec (scenes t : Nat) (halt : Bool) (now : Nat) (x : Zoe) :
    let y := stepLostOn scenes t halt now x
    (threadOf y t).halted = halt ∧ (threadOf y t).rerun = !halt
      ∧ ((threadOf x t).running = false → (threadOf y t).next = firstEntry x scenes t)
      ∧ (threadOf y t).lost = (threadOf x t).running
      ∧ (∀ xid ∈ threadXids x scenes t, look y.scn.arrivals xid 0 = 0) ∧ y.scn.lost = x.scn.lost := by
  intro y
  have at' : threadOf y t = threadLost (firstEntry x scenes t) halt now (threadOf x t) := look_modAt_same ..
  rw [at']
  exact ⟨rfl, rfl, fun h => if_neg (by rw [h]; decide), rfl,
    fun xid h => look_filter_neg _ (fun k => decide (k ∉ threadXids x scenes t)) _ _ (by simpa using h), rfl⟩

end Sys2Proof.Machine
end

section
/-! PROOFS. Scenes. -/

namespace Sys2Proof.Machine

open Sys2Proof Sys2Proof.Machine.Tables

/-! ### Scene-done (R48, R134) -/

theorem withZoes_mrb (zs : SMap Zoe) (s : State) : (withZoes zs s).mrb = s.mrb := rfl

/-- A queue without a thread at SCENE_END is idle, and Scene-done is posted into every Marble of the Quad. -/
theorem sceneDone_spec {z q : Nat} {s u : State} (hu : u = { s with zoes := u.zoes }) (free : (stream (zoe u z) q).thread = none) :
    (sceneDone z q u).shows = s.shows
      ∧ (sceneDone z q u).mrb = (quadWord z 0x7D4 ((zoe u z).sdone + 1 ++ (0 : BitVec 14)
        ++ ((zoe u z).sceneEnd ||| BitVec.ofNat 2 (2 ^ q))) s).mrb
      ∧ zoe (sceneDone z q u) z = onStream q (fun r => { r with qstate := .idle, thread := none })
        { zoe u z with sdone := (zoe u z).sdone + 1, sceneEnd := (zoe u z).sceneEnd ||| BitVec.ofNat 2 (2 ^ q) } := by
  obtain ⟨cnt, hcnt⟩ : ∃ c, (zoe u z).sdone + 1 = c := ⟨_, rfl⟩
  obtain ⟨bits, hbits⟩ : ∃ b, (zoe u z).sceneEnd ||| BitVec.ofNat 2 (2 ^ q) = b := ⟨_, rfl⟩
  obtain ⟨v, hv⟩ : ∃ v, modZoe z (fun x => { x with sdone := cnt, sceneEnd := bits }) u = v := ⟨_, rfl⟩
  have listed : v = withZoes v.zoes s := by rw [← hv, hu]; rfl
  have done : sceneDone z q u = modStream z q (fun r => { r with qstate := .idle, thread := none })
      (quadWord z 0x7D4 (cnt ++ (0 : BitVec 14) ++ bits) v) := by
    unfold sceneDone
    dsimp only
    rw [free, hcnt, hbits, hv]
  have banks := quadWord_onlyBanks z 0x7D4 (cnt ++ (0 : BitVec 14) ++ bits) v
  rw [hcnt, hbits, done]
  refine ⟨?_, ?_, ?_⟩
  · rw [modStream, modZoe_shows, banks.shows_eq, listed]
    rfl
  · rw [modStream, modZoe_mrb, listed, quadWord_withZoes, withZoes_mrb]
  · rw [modStream, zoe_modZoe_same, banks.zoe_eq, ← hv, zoe_modZoe_same]

/-- A quiet boundary at a SCENE_END (R48). -/
theorem boundary_sceneEnd {z q : Nat} {s : State} {d : BitVec 128} (quiet : Tables.Quiet s z q)
    (hd : look (zoe s z).ram (stream (zoe s z) q).pos.toNat 0 = d) (ok : dscError (zoe s z).modeApplied q d = 0) (type : wdType d = 3)
    (notDeferred : (stream (zoe s z) q).gapDeferred = false) (free : (stream (zoe s z) q).thread = none) :
    (boundary z q s).mrb = (quadWord z 0x7D4 ((zoe s z).sdone + 1 ++ (0 : BitVec 14)
        ++ ((zoe s z).sceneEnd ||| BitVec.ofNat 2 (2 ^ q))) s).mrb
      ∧ (stream (zoe (boundary z q s) z) q).qstate = .idle ∧ (stream (zoe (boundary z q s) z) q).pos = (stream (zoe s z) q).pos + 1
      ∧ (zoe (boundary z q s) z).sdone = (zoe s z).sdone + 1
      ∧ (zoe (boundary z q s) z).sceneEnd = (zoe s z).sceneEnd ||| BitVec.ofNat 2 (2 ^ q) := by
  obtain ⟨u, same, -, has⟩ := boundary_descriptor quiet hd ok (by rw [type]; decide)
  have done := nextDescriptor_end (n := 16383) (s := u) (z := z) (q := q) (by rw [same.2, hd]; exact ok)
    (by rw [same.2, hd]; exact type) (by rw [same.2]; exact notDeferred)
  obtain ⟨v, hv⟩ : ∃ v, modStream z q (fun r => { r with
    pos := r.pos + 1, paused := false, boundAt := startSym u (stream (zoe u z) q) }) u = v := ⟨_, rfl⟩
  rw [hv] at done
  have at' : zoe v z = onStream q (fun r => { r with
      pos := r.pos + 1, paused := false, boundAt := startSym u (stream (zoe u z) q) }) (zoe s z) := by
    rw [← hv, modStream, zoe_modZoe_same, same.2]
  have row : stream (zoe v z) q = { stream (zoe s z) q with
      pos := (stream (zoe s z) q).pos + 1, paused := false, boundAt := startSym u (stream (zoe u z) q) } := by
    rw [at', stream_onStream_same]
  have rest : (zoe v z).sdone = (zoe s z).sdone ∧ (zoe v z).sceneEnd = (zoe s z).sceneEnd := by
    rw [at', onStream_rest]
    exact ⟨rfl, rfl⟩
  have only : OnlyZoe z u v := by rw [← hv]; exact onlyZoe_modZoe ..
  obtain ⟨shows, mrb, own⟩ := sceneDone_spec (z := z) (q := q) (same.onlyZoe only).1 (by rw [row]; exact free)
  rw [rest.1, rest.2] at mrb own
  rw [← done] at shows mrb own
  have bound := has (by rw [type]; simp) shows
  have ends : zoe (boundary z q s) z = settleReady (zoe (nextDescriptor 16384 z q u) z) := by
    rw [bound, zoe_modZoe_same]
  have last : stream (zoe (boundary z q s) z) q = { stream (zoe v z) q with qstate := .idle, thread := none } := by
    rw [ends, stream_settleReady, own, stream_onStream_same]
    rfl
  refine ⟨by rw [bound, modZoe_mrb, mrb], by rw [last], by rw [last, row], ?_, ?_⟩
  · rw [ends, settleReady_eq, own, onStream_rest]
  · rw [ends, settleReady_eq, own, onStream_rest]

/-! ### Steps lost (R157) -/

/-- The Scene's wait has run out: the loss is counted on the Quad that noticed it. -/
def lossNoted (z due : Nat) (s : State) : State := modZoe z (fun x => { x with scn.lost := x.scn.lost + 1 }) (advanceTo due s)

/-- A step lost on every Quad of its thread. -/
def stepLost (p t scenes : Nat) (halt : Bool) (v : State) : State := forAll (threadQuads v p t) (loseOn scenes t halt) v

theorem zoe_lossNoted (z due : Nat) (s : State) (i : Nat) :
    ∃ l, zoe (lossNoted z due s) i = { zoe s i with scn.lost := l } ∧ (i = z → l = (zoe s z).scn.lost + 1) := by
  by_cases hi : i = z
  · subst hi
    exact ⟨_, zoe_modZoe_same .., fun _ => rfl⟩
  · exact ⟨_, zoe_modZoe_ne _ _ hi, fun c => absurd c hi⟩

theorem threadQuads_lossNoted (z due p t : Nat) (s : State) : threadQuads (lossNoted z due s) p t = threadQuads s p t := by
  refine List.filter_congr fun i _ => ?_
  obtain ⟨l, hl, _⟩ := zoe_lossNoted z due s i
  rw [hl]
  rfl

theorem nodup_threadQuads (s : State) (p t : Nat) : (threadQuads s p t).Nodup := (List.nodup_range.filter _).filter _

/-- What a loss does to each Quad of its thread. -/
theorem zoe_stepLost {z due p t scenes : Nat} {halt : Bool} {s : State} {i : Nat} (hi : i ∈ threadQuads s p t) :
    let y := zoe (stepLost p t scenes halt (lossNoted z due s)) i
    (threadOf y t).halted = halt ∧ (threadOf y t).rerun = !halt
      ∧ ((threadOf (zoe s i) t).running = false → (threadOf y t).next = firstEntry (zoe s i) scenes t)
      ∧ (threadOf y t).lost = (threadOf (zoe s i) t).running
      ∧ ∀ xid ∈ threadXids (zoe s i) scenes t, look y.scn.arrivals xid 0 = 0 := by
  intro y
  have each := (zoe_forAll_own (g := stepLostOn scenes t halt (timeNs (lossNoted z due s)))
    (fun k u hu => hu ▸ loseOn_spec scenes t halt k u) (nodup_threadQuads (lossNoted z due s) p t) _ rfl).2 i
  rw [threadQuads_lossNoted, if_pos hi] at each
  obtain ⟨l, hl, -⟩ := zoe_lossNoted z due s i
  have lost : y = stepLostOn scenes t halt (timeNs (lossNoted z due s)) { zoe s i with scn.lost := l } := by
    rw [← hl, ← each, ← threadQuads_lossNoted z due p t s]
    rfl
  obtain ⟨halted, rerun, next, was, xids, _⟩ :=
    stepLostOn_spec scenes t halt (timeNs (lossNoted z due s)) { zoe s i with scn.lost := l }
  rw [lost]
  exact ⟨halted, rerun, next, was, xids⟩

/-- A loss is counted once, and changes nothing but the Quads. -/
theorem stepLost_rest (z due p t scenes : Nat) (halt : Bool) (s : State) :
    (zoe (stepLost p t scenes halt (lossNoted z due s)) z).scn.lost = (zoe s z).scn.lost + 1
      ∧ stepLost p t scenes halt (lossNoted z due s)
        = { advanceTo due s with zoes := (stepLost p t scenes halt (lossNoted z due s)).zoes } := by
  obtain ⟨frame, each⟩ := zoe_forAll_own (g := stepLostOn scenes t halt (timeNs (lossNoted z due s)))
    (fun k u hu => hu ▸ loseOn_spec scenes t halt k u) (nodup_threadQuads (lossNoted z due s) p t) _ rfl
  obtain ⟨l, hl, counted⟩ := zoe_lossNoted z due s z
  refine ⟨?_, frame⟩
  rw [← counted rfl, stepLost, each, hl]
  split <;> rfl

/-- The end of a loss: the thread goes back to its ENTRY Scene, or halts and its sessions are parked. -/
def lossSettled (p t : Nat) (w : ShowSt) (halt : Bool) (v : State) : State :=
  if halt then
    let u := abandonStep p t v
    raiseFault 0x0B01 12 p p t
      (forAll ((sessionsOf u p).filter (fun e => inBatch w.hdr t e.2)) (fun e => forcePark p (sidOf e.1) 0x16) u)
  else noteReady p v

theorem lossSettled_spec (p t : Nat) (w : ShowSt) (halt : Bool) (v : State) :
    timeNs (lossSettled p t w halt v) = timeNs v ∧ (∀ i, OnlyMet (zoe v i) (zoe (lossSettled p t w halt v) i))
      ∧ (halt = false → (lossSettled p t w halt v).sessions = v.sessions ∧ (lossSettled p t w halt v).flt = v.flt)
      ∧ (halt = true → (lossSettled p t w halt v).flt.nCont = v.flt.nCont + 1) := by
  cases halt with
  | false =>
    obtain ⟨frame, met⟩ := noteReady_spec p v
    refine ⟨noteReady_time p v, met, fun _ => ?_, fun c => absurd c (by decide)⟩
    change (noteReady p v).sessions = v.sessions ∧ (noteReady p v).flt = v.flt
    rw [frame]
    exact ⟨rfl, rfl⟩
  | true =>
    obtain ⟨u, hu⟩ : ∃ u, forAll ((sessionsOf (abandonStep p t v) p).filter (fun e => inBatch w.hdr t e.2))
      (fun e => forcePark p (sidOf e.1) 0x16) (abandonStep p t v) = u := ⟨_, rfl⟩
    have keeps : KeepsQuads v u :=
      hu ▸ (keepsQuads_abandonStep p t v).trans (keepsQuads_forAll _ (fun _ _ => keepsQuads_forcePark ..) _)
    have settled : lossSettled p t w true v = raiseFault 0x0B01 12 p p t u := by
      rw [← hu]
      rfl
    rw [settled]
    refine ⟨?_, fun i => ?_, fun c => absurd c (by decide), fun _ => ?_⟩
    · unfold timeNs
      rw [raiseFault_ident]
      exact keeps.time_eq
    · rw [zoe_raiseFault, keeps.zoe_eq]
      exact .refl _
    · rw [raiseFault_nCont (by decide), keeps.2.2]

/-- Whether the next Scene of a thread is ready by the time its step is lost (R157). -/
def readyInTime (s : State) (z p t due : Nat) : Bool :=
  sceneMet s z p t && decide (readyAt (zoe s z) t ((threadOf (zoe s z) t).metAt.getD (timeNs s)) ≤ due)

section
variable {z : ZoeId} {t : Fin 8} {p : Nat} {w : ShowSt} {s : State} {th : ThreadSt} {due : Nat}

theorem exec_stepLost_inTime (hp : quadPart s z.val = some p) (hw : find s.shows p = some w) (hth : threadOf (zoe s z.val) t.val = th)
    (hdue : th.since + 1000 * (part s p).swait = due) (inTime : readyInTime s z.val p t.val due = true) :
    exec (.stepLost z t) s = .next s := by
  subst hth hdue
  have run : exec (.stepLost z t) s = execStepLost z t s := rfl
  rw [run, execStepLost]
  dsimp only
  rw [hp]
  dsimp only
  rw [hw]
  exact congrArg Host.Outcome.next (if_pos (Bool.or_eq_true_iff.mpr (.inr inTime)))

theorem exec_stepLost (hp : quadPart s z.val = some p) (hw : find s.shows p = some w) (hth : threadOf (zoe s z.val) t.val = th)
    (hdue : th.since + 1000 * (part s p).swait = due) (used : th.used = true) (running : th.running = false)
    (halted : th.halted = false) (mid : th.mid = true) (loading : w.loading = false) (stopping : w.stopping = false)
    (late : readyInTime s z.val p t.val due = false) :
    exec (.stepLost z t) s = .next (lossSettled p t.val w th.rerun
      (stepLost p t.val w.hdr.scenes th.rerun (lossNoted z.val due s))) := by
  subst hth hdue
  have run : exec (.stepLost z t) s = execStepLost z t s := rfl
  rw [run, execStepLost]
  dsimp only
  rw [hp]
  dsimp only
  rw [hw]
  refine congrArg Host.Outcome.next (if_neg (Bool.eq_false_iff.mp ?_))
  unfold readyInTime at late
  rw [late, used, running, halted, mid, loading, stopping]
  rfl

end

/-- Settles O29: a start is one change of its thread and queue besides the times that conditions came to hold, SCENE_END is a quiet
boundary's descriptor, and a lost step changes each Quad of its thread by itself. -/
theorem scenes : Obligations.Scenes := by
  refine ⟨?_, ?_, ?_⟩
  · intro z t' p s hp x th e q met start first
    refine ⟨fun held => exec_sceneStart_held hp ?_, fun used running halted runs takes meets alone => ?_⟩
    · unfold sceneHeld
      rcases held with h | h | h | h
      · simp [h]
      · exact Bool.or_eq_true_iff.mpr (.inr h)
      · simp [show queueTakes (zoe s z.val) (threadQueue (zoe s z.val) t'.val) = false from h]
      · simp [h]
    · have free : sceneHeld s z.val p t'.val = false := by
        have alone' : comesFirst s z.val p t'.val (th.metAt.getD (timeNs s))
            (max (timeNs s) (readyAt x t'.val (th.metAt.getD (timeNs s)))) = false := alone
        unfold sceneHeld
        dsimp only
        rw [alone', used, running, halted, runs, takes, meets]
        rfl
      obtain ⟨v, hv⟩ : ∃ v, advanceTo (max (timeNs s) (readyAt x t'.val (th.metAt.getD (timeNs s)))) s = v := ⟨_, rfl⟩
      obtain ⟨begun, run⟩ := exec_sceneStart (e := e) hp free rfl rfl rfl hv
      obtain ⟨u, hu⟩ : ∃ u, (if scEntry e && !begun then beginStep p t'.val v else v) = u := ⟨_, rfl⟩
      obtain ⟨step, plain⟩ := stepBegun_frame hu
      rw [hu] at run
      have own : zoe u z.val = x := by rw [step, ← hv]; rfl
      have frame := sceneStarted_frame p z.val t' q (met - th.since) th.next e u
      have settled := zoe_sceneStarted p z.val t' q (met - th.since) th.next e u
      rw [own] at settled
      obtain ⟨hthread, hstream, hstarts, hends, harrivals⟩ := zoeStarted_spec t' q (met - th.since) (nowSym u) th.next e x
      obtain ⟨m, hm⟩ := settled.2 t'.val
      have time : timeNs (sceneStarted p z.val t' q (met - th.since) th.next e u) = timeNs v := by
        rw [frame, step]
        rfl
      have now : nowSym u = nowSym (sceneStarted p z.val t' q (met - th.since) th.next e u) := by
        rw [nowSym, nowSym, time, step]
        rfl
      have due : max (timeNs s) start ≤ timeNs v := hv ▸ advanceTo_time ..
      refine ⟨_, run, ?_, ?_, ?_, ?_, ?_, ?_, ?_, ?_, ?_, fun k => ?_, fun entry => ?_, fun other => ?_⟩
      · rw [frame, step, ← hv]; rfl
      · rw [frame, step, ← hv]; rfl
      · rw [time]
        exact (Nat.le_max_right ..).trans due
      · rw [time]
        exact (Nat.le_max_left ..).trans due
      · rw [hm, hthread]; rfl
      · rw [hm, hthread]; rfl
      · rw [settled.stream_eq, hstream, now]
      · rw [settled.1]
        exact hstarts
      · rw [settled.1]
        exact hends
      · rw [settled.1]
        exact harrivals k
      · rw [hm, hthread]
        exact Bool.or_eq_true_iff.mpr (.inr entry)
      · rw [frame, plain other, ← hv]; rfl
  · intro z q s quiet k x r d bits ok type notDeferred free
    obtain ⟨mrb, idle, pos, cnt, ends⟩ := boundary_sceneEnd quiet rfl ok type notDeferred free
    exact ⟨_, exec_windowBoundary z q s, idle, pos, cnt, ends, mrb⟩
  · intro z t' p w s hp hw th due start used running halted mid loading stopping
    refine ⟨fun meets early => exec_stepLost_inTime hp hw rfl rfl (Bool.and_eq_true_iff.mpr
      ⟨meets, decide_eq_true early⟩), fun late => ?_⟩
    have late' : readyInTime s z.val p t'.val due = false := by
      rw [readyInTime, Bool.and_eq_false_iff]
      exact late.imp_right fun h => decide_eq_false (Nat.not_le.mpr h)
    obtain ⟨time, met, again, halts⟩ := lossSettled_spec p t'.val w th.rerun
      (stepLost p t'.val w.hdr.scenes th.rerun (lossNoted z.val due s))
    obtain ⟨counted, frame⟩ := stepLost_rest z.val due p t'.val w.hdr.scenes th.rerun s
    refine ⟨_, exec_stepLost hp hw rfl rfl used running halted mid loading stopping late', ?_, ?_, fun i hi => ?_⟩
    · rw [time, frame]
      exact advanceTo_time due s
    · rw [(met z.val).1]
      exact counted
    · obtain ⟨hhalt, hrerun, hnext, hlost, hxids⟩ :=
        zoe_stepLost (z := z.val) (due := due) (scenes := w.hdr.scenes) (halt := th.rerun) hi
      obtain ⟨m, hm⟩ := (met i).2 t'.val
      rw [hm]
      refine ⟨hhalt, hrerun, hnext, hlost, fun xid h => ?_, fun h => ?_, fun h => ?_⟩
      · rw [(met i).1]
        exact hxids xid h
      · obtain ⟨sessions, flt⟩ := again h
        rw [sessions, flt, frame]
        exact ⟨rfl, rfl⟩
      · rw [halts h, frame]
        rfl

end Sys2Proof.Machine
end

section
/-! PROOFS. Loss and return of light, and how a Zoetrope leaves Warming and Trimming. -/

namespace Sys2Proof.Machine

open Sys2Proof Sys2Proof.Machine.Tables

/-! ### What a boundary finds before loss of light and calibration (R39) -/

/-- Nothing of a Zoetrope differs but the gaps that are due and what its pauses have counted. -/
def OnlyDue (x y : Zoe) : Prop :=
  y = { x with st0 := y.st0, st1 := y.st1, trim.runDue := y.trim.runDue }
    ∧ ∀ i, ∃ a b c d, stream y i = { stream x i with pausedAt := a, gapDue := b, gapDeferred := c, gapRuns := d }

theorem OnlyDue.refl (x : Zoe) : OnlyDue x x := ⟨rfl, fun _ => ⟨_, _, _, _, rfl⟩⟩

theorem OnlyDue.trans {x y w : Zoe} (h : OnlyDue x y) (k : OnlyDue y w) : OnlyDue x w := by
  refine ⟨k.1.trans (by rw [h.1]), fun i => ?_⟩
  obtain ⟨_, _, _, _, hi⟩ := h.2 i
  obtain ⟨a, b, c, d, ki⟩ := k.2 i
  exact ⟨a, b, c, d, by rw [ki, hi]⟩

theorem onlyDue_onStream {q : Nat} {f : StreamSt → StreamSt} {x : Zoe}
    (h : ∃ a b c d, f (stream x q) = { stream x q with pausedAt := a, gapDue := b, gapDeferred := c, gapRuns := d }) :
    OnlyDue x (onStream q f x) := by
  refine ⟨by unfold onStream; split <;> rfl, fun i => ?_⟩
  unfold stream onStream at *
  by_cases hq : q = 0
  · rw [if_pos hq] at h ⊢
    by_cases hi : i = 0
    · rw [if_pos hi, if_pos hi]
      exact h
    · rw [if_neg hi, if_neg hi]
      exact ⟨_, _, _, _, rfl⟩
  · rw [if_neg hq] at h ⊢
    by_cases hi : i = 0
    · rw [if_pos hi, if_pos hi]
      exact ⟨_, _, _, _, rfl⟩
    · rw [if_neg hi, if_neg hi]
      exact h

theorem onlyDue_triggerGap (q : Nat) (x : Zoe) : OnlyDue x (triggerGap q x) := by
  unfold triggerGap
  split
  · refine onlyDue_onStream ?_
    split <;> exact ⟨_, _, _, _, rfl⟩
  · exact .refl x

theorem onlyDue_triggerRun (x : Zoe) : OnlyDue x (triggerRun x) := by
  rw [triggerRun_eq]
  exact ⟨rfl, fun _ => ⟨_, _, _, _, rfl⟩⟩

theorem onlyDue_countPause (z q : Nat) (s : State) :
    OnlyDue (zoe s z) (zoe (countPause z q s) z) ∧ timeNs (countPause z q s) = timeNs s ∧ (countPause z q s).rst = s.rst := by
  unfold countPause
  dsimp only
  split
  · exact ⟨.refl _, rfl, rfl⟩
  · refine ⟨?_, rfl, rfl⟩
    rw [modStream, zoe_modZoe_same]
    exact onlyDue_onStream ⟨_, _, _, _, rfl⟩

/-- A boundary of a stream that is not to be fenced: loss of light comes first, then a calibration. -/
theorem boundary_due {z q : Nat} {s : State} (ready : (zoe s z).state = .ready ∨ (zoe s z).state = .running)
    (integ : (stream (zoe s z) q).integ = none) (idle : (stream (zoe s z) q).idle = none) (held : blockHeld s .zoetrope z = false)
    (fenceReq : (zoe s z).fenceReq = 0) (fenceDue : (stream (zoe s z) q).fenceDue = false)
    (fenceRule : fenceRuleMet (zoe s z) (stream (zoe s z) q) = false) :
    ∃ u, OnlyDue (zoe s z) (zoe u z)
      ∧ ((zoe s z).trim.light = false ∨ (zoe s z).trim.lightDue = true → boundary z q s = modZoe z (fallDark (timeNs s)) u)
      ∧ ((zoe s z).trim.light = true → (zoe s z).trim.lightDue = false → (zoe s z).calDue = true →
        boundary z q s = modZoe z (startCal z (timeNs s) q) u) := by
  obtain ⟨paused, time, rst⟩ := onlyDue_countPause z q s
  obtain ⟨p, hp⟩ : ∃ p, countPause z q s = p := ⟨_, rfl⟩
  rw [hp] at paused time rst
  obtain ⟨_, _, _, _, row⟩ := paused.2 q
  have noFence : triggerFence q (zoe p z) = zoe p z := by
    refine if_neg ?_
    have same : fenceRuleMet (zoe p z) (stream (zoe p z) q) = fenceRuleMet (zoe s z) (stream (zoe s z) q) := by
      rw [row, paused.1]
      rfl
    rw [same, fenceRule]
    decide
  obtain ⟨u, hu⟩ : ∃ u, modZoe z (fun x => triggerRun (triggerGap q (triggerFence q x))) p = u := ⟨_, rfl⟩
  have due : OnlyDue (zoe s z) (zoe u z) := by
    rw [← hu, zoe_modZoe_same, noFence]
    exact paused.trans ((onlyDue_triggerGap ..).trans (onlyDue_triggerRun ..))
  have time' : timeNs u = timeNs s := by rw [← hu]; exact time
  have held' : blockHeld u .zoetrope z = false := by
    rw [← held, ← hu]
    exact congrArg (fun r : RstSys => r.blocks.any (fun e => decide (e = (.zoetrope, z)))) rst
  obtain ⟨_, _, _, _, row'⟩ := due.2 q
  have busy : ¬(((zoe u z).state ≠ .ready ∧ (zoe u z).state ≠ .running) ∨ (stream (zoe u z) q).integ.isSome = true
      ∨ (stream (zoe u z) q).idle.isSome = true ∨ blockHeld u .zoetrope z = true) := by
    rw [row', held', due.1, integ, idle]
    rintro (⟨h, h'⟩ | h | h | h)
    · exact ready.elim h h'
    all_goals exact absurd h (by decide)
  have free : ¬(zoe u z).fenceReq ≠ 0 := by
    rw [due.1]
    exact not_not_intro fenceReq
  have free' : ¬(stream (zoe u z) q).fenceDue = true := by
    rw [row', fenceDue]
    decide
  refine ⟨u, due, fun dark => ?_, fun light lit cal => ?_⟩
  · unfold boundary
    rw [hp, hu]
    dsimp only
    rw [if_neg busy, if_neg free, if_neg free', if_pos (by rw [due.1]; simpa using dark), time']
  · unfold boundary
    rw [hp, hu]
    dsimp only
    rw [if_neg busy, if_neg free, if_neg free', if_neg (by rw [due.1]; simp [light, lit]), if_pos (by rw [due.1]; exact cal), time']

/-! ### Loss of light (R57, R99) -/

/-- Every stream has come to its boundary: the Zoetrope waits in Trimming for light. -/
theorem fallDark_spec {x : Zoe} (now : Nat) (still : (stream x 0).integ = none ∧ (stream x 1).integ = none) :
    let y := fallDark now x
    y.state = .trimming ∧ y.trim.lightDue = false ∧ y.trim.cause = (if x.trim.light then 4 else 3) ∧ y.trim.elems = x.trim.elems
      ∧ y.trim.light = x.trim.light
      ∧ ∀ q, (stream y q).integ = (stream x q).integ ∧ (stream y q).post = (stream x q).post := by
  intro y
  have all : (streamsOf x).all (fun i => (stream x i).integ.isNone) = true := by
    unfold streamsOf
    split <;> simp [still]
  have eq : y = { cutGap now x with
      state := .trimming, st0 := { (cutGap now x).st0 with stopped := false, paused := false }
      st1 := { (cutGap now x).st1 with stopped := false, paused := false }
      trim := { (cutGap now x).trim with cause := if (cutGap now x).trim.light then 4 else 3, lightDue := false, since := now } } :=
    if_pos all
  rw [eq]
  refine ⟨rfl, rfl, rfl, rfl, rfl, fun q => ?_⟩
  unfold stream
  split <;> exact holdGap_windows ..

/-- A Zoetrope whose taps have lost compute light. -/
def dimmed (x : Zoe) : Zoe :=
  { x with
    st0 := { x.st0 with integ := x.st0.integ.map (fun w => { w with nolight := true }) }
    st1 := { x.st1 with integ := x.st1.integ.map (fun w => { w with nolight := true }) }
    trim := { x.trim with
      light := false
      lightDue := decide (x.state = .ready ∨ x.state = .running ∨ x.state = .gap)
      cause := if x.trim.cause = 4 then 3 else x.trim.cause } }

theorem stream_dimmed (x : Zoe) (q : Nat) :
    stream (dimmed x) q = { stream x q with integ := (stream x q).integ.map (fun w => { w with nolight := true }) } := by
  unfold stream
  split <;> rfl

theorem exec_lightLost (z : ZoeId) (s : State) :
    exec (.lightLost z) s = .next (
      if (!(zoe (modZoe z.val dimmed s) z.val).trim.lightDue) = true ∨ (stream (zoe (modZoe z.val dimmed s) z.val) 0).integ.isSome = true
          ∨ (stream (zoe (modZoe z.val dimmed s) z.val) 1).integ.isSome = true then modZoe z.val dimmed s
      else if (zoe (modZoe z.val dimmed s) z.val).fenceReq ≠ 0 then
        fenceZoe z.val (zoe (modZoe z.val dimmed s) z.val).fenceReq (modZoe z.val dimmed s)
      else modZoe z.val (fallDark (timeNs s)) (modZoe z.val dimmed s)) := rfl

/-- A Zoetrope that does not run, or one whose streams still integrate, notes the loss alone. -/
theorem exec_lightLost_noted {z : ZoeId} {s : State} (h : ¬((zoe s z.val).state = .ready ∨ (zoe s z.val).state = .running
      ∨ (zoe s z.val).state = .gap) ∨ ¬((stream (zoe s z.val) 0).integ = none ∧ (stream (zoe s z.val) 1).integ = none)) :
    exec (.lightLost z) s = .next (modZoe z.val dimmed s) := by
  rw [exec_lightLost, if_pos]
  rw [zoe_modZoe_same, stream_dimmed, stream_dimmed, Option.isSome_map, Option.isSome_map]
  rcases h with h | h
  · exact .inl (by rw [dimmed, decide_eq_false h]; rfl)
  · rw [not_and_or, ← ne_eq, ← ne_eq, Option.ne_none_iff_isSome, Option.ne_none_iff_isSome] at h
    exact .inr h

theorem exec_lightLost_falls {z : ZoeId} {s : State} (runs : (zoe s z.val).state = .ready ∨ (zoe s z.val).state = .running
      ∨ (zoe s z.val).state = .gap) (still : (stream (zoe s z.val) 0).integ = none ∧ (stream (zoe s z.val) 1).integ = none)
    (fenceReq : (zoe s z.val).fenceReq = 0) :
    exec (.lightLost z) s = .next (modZoe z.val (fallDark (timeNs s)) (modZoe z.val dimmed s)) := by
  rw [exec_lightLost, if_neg, if_neg]
  · rw [zoe_modZoe_same]
    exact not_not_intro fenceReq
  · rw [zoe_modZoe_same, stream_dimmed, stream_dimmed, still.1, still.2, dimmed, decide_eq_true runs]
    simp

/-! ### Return of light, Trimming and Warming (R57, R101, R106) -/

theorem exec_lightReturn {z : ZoeId} {s : State} (on : (zoe s z.val).state ≠ .off) :
    ∃ t, exec (.lightReturn z) s = .next t ∧ OnlyZoe z.val s t ∧ (zoe t z.val).trim.light = true
      ∧ (zoe t z.val).state = (zoe s z.val).state
      ∧ (zoe t z.val).trim.cause
        = (if (zoe s z.val).state = .trimming ∧ (zoe s z.val).trim.cause = 3 then 4 else (zoe s z.val).trim.cause) := by
  refine ⟨_, rfl, onlyZoe_modZoe .., ?_⟩
  rw [zoe_modZoe_same, if_neg on]
  exact ⟨rfl, rfl, rfl⟩

/-- A Zoetrope that nothing else waits for is Ready. -/
theorem becomeReady_plain {z : Nat} {s : State} (fenceReq : (zoe s z).fenceReq = 0) (calDue : (zoe s z).calDue = false) :
    becomeReady z s = modZoe z zoeReady s := by
  unfold becomeReady
  dsimp only
  rw [zoe_modZoe_same]
  refine (if_neg (not_not_intro fenceReq)).trans (if_neg ?_)
  rw [zoeReady, calDue]
  decide

section
variable {z : ZoeId} {s : State} {x : Zoe}

theorem exec_trimConverged (hx : zoe s z.val = x) (state : x.state = .trimming) (cause : x.trim.cause = 4 ∨ x.trim.cause = 5)
    (light : x.trim.light = true) (conv : passSince x x.trim.since = false ∨ x.trim.conv = true) (fenceReq : x.fenceReq = 0)
    (calDue : x.calDue = false) :
    ∃ t, exec (.trimConverged z) s = .next t ∧ OnlyZoe z.val s t
      ∧ zoe t z.val = { x with state := .ready, trim.conv := true, trim.cause := 0 } := by
  subst hx
  have may : passSince (zoe s z.val) (zoe s z.val).trim.since = true → (zoe s z.val).trim.conv = true :=
    fun h => conv.resolve_left (by rw [h]; decide)
  have ready := becomeReady_plain (z := z.val) (s := modZoe z.val (fun x => { x with trim := { x.trim with conv := true } }) s)
    (by rw [zoe_modZoe_same]; exact fenceReq) (by rw [zoe_modZoe_same]; exact calDue)
  refine ⟨_, congrArg Host.Outcome.next ((if_pos ⟨state, cause, light, may⟩).trans ready),
    (onlyZoe_modZoe ..).trans (onlyZoe_modZoe ..), ?_⟩
  rw [zoe_modZoe_same, zoe_modZoe_same]
  rfl

theorem exec_trimConverged_not (hx : zoe s z.val = x) (passed : passSince x x.trim.since = true) (conv : x.trim.conv = false) :
    exec (.trimConverged z) s = .next s := by
  subst hx
  refine congrArg Host.Outcome.next (if_neg fun c => ?_)
  have := c.2.2.2 passed
  rw [conv] at this
  exact absurd this (by decide)

theorem exec_trimTimeout (hx : zoe s z.val = x) (state : x.state = .trimming) (cause : x.trim.cause = 4 ∨ x.trim.cause = 5)
    (light : x.trim.light = true) : exec (.trimTimeout z) s = .next (fenceZoe z.val 4 (advanceTo (x.trim.since + 50000000) s)) := by
  subst hx
  exact congrArg Host.Outcome.next (if_pos ⟨state, cause, light⟩)

theorem exec_warmingSettled (hx : zoe s z.val = x) (state : x.state = .warming) (light : x.trim.light = true) :
    ∃ t, exec (.warmingSettled z) s = .next t ∧ OnlyZoe z.val s t
      ∧ zoe t z.val = { x with state := .trimming, trim.cause := 1, trim.since := timeNs s } := by
  subst hx
  refine ⟨_, rfl, onlyZoe_modZoe .., ?_⟩
  rw [zoe_modZoe_same, if_pos ⟨state, light⟩]

theorem exec_warmingTimeout (hx : zoe s z.val = x) (state : x.state = .warming) :
    exec (.warmingTimeout z) s = .next (fenceZoe z.val 7 (advanceTo (x.trim.since + 500000000) s)) := by
  subst hx
  exact congrArg Host.Outcome.next (if_pos state)

end

/-! ### A light die without rails (R106) -/

/-- A Zoetrope that is Off, its threads no longer running. -/
def zoeDropped (x : Zoe) : Zoe :=
  { zoeOff x with
    st0 := { (zoeOff x).st0 with thread := none }, st1 := { (zoeOff x).st1 with thread := none }
    scn := { (zoeOff x).scn with threads := (zoeOff x).scn.threads.map (fun e => (e.1, { e.2 with running := false })) } }

theorem zoeDropped_spec (x : Zoe) : (zoeDropped x).state = .off ∧ (zoeDropped x).trim.light = false
    ∧ ∀ q, (stream (zoeDropped x) q).integ = none ∧ (stream (zoeDropped x) q).post = [] := by
  refine ⟨rfl, rfl, fun q => ?_⟩
  unfold stream
  split <;> exact ⟨rfl, rfl⟩

/-- The first Zoetrope of a half. -/
def halfBase : Half → Nat
  | .east => 0
  | .west => 16

theorem exec_lightDieRailsRemoved (h : Half) (s : State) : exec (.lightDieRailsRemoved h) s
    = .next (forAll ((List.range 16).map (halfBase h + ·)) (fun z s => dropThreads z (modZoe z zoeOff s)) s) := by
  cases h <;> rfl

theorem mem_half {h : Half} {z : Nat} (hz : z < 32) : z ∈ (List.range 16).map (halfBase h + ·) ↔ (z < 16 ↔ h = .east) := by
  rw [List.mem_map]
  cases h
  · simp [halfBase]
  · simp only [halfBase, List.mem_range, reduceCtorEq, iff_false, not_lt]
    exact ⟨fun ⟨a, _, ha⟩ => by omega, fun ge => ⟨z - 16, by omega, by omega⟩⟩

theorem lightAndWarming : Claims.LightAndWarming := by
  refine ⟨fun z s => ?_, fun h s => ?_⟩
  · intro x still runs
    refine ⟨fun may => ?_, fun q ready hstill idle held fenceReq fenceDue fenceRule dark => ?_, exec_lightReturn,
      fun state cause light => ⟨exec_trimConverged rfl state cause light, exec_trimConverged_not rfl,
        _, exec_trimTimeout rfl state cause light, rfl, advanceTo_time ..⟩,
      fun state => ⟨exec_warmingSettled rfl state, _, exec_warmingTimeout rfl state, rfl, advanceTo_time ..⟩⟩
    · by_cases falls : runs ∧ still
      · obtain ⟨hruns, hstill⟩ := falls
        have fenceReq : x.fenceReq = 0 := may.resolve_right (not_or.mpr ⟨not_not_intro hstill, not_not_intro hruns⟩)
        obtain ⟨state, _, cause, elems, light, streams⟩ := fallDark_spec (x := dimmed x) (timeNs s)
          (by rw [stream_dimmed, stream_dimmed, hstill.1, hstill.2]; exact ⟨rfl, rfl⟩)
        refine ⟨_, exec_lightLost_falls hruns hstill fenceReq, (onlyZoe_modZoe ..).trans (onlyZoe_modZoe ..), ?_⟩
        rw [zoe_modZoe_same, zoe_modZoe_same]
        refine ⟨light, elems, fun _ _ => ⟨state, cause⟩, fun _ h => absurd hstill h, fun h => absurd hruns h, fun q => ?_⟩
        rw [(streams q).1, (streams q).2, stream_dimmed]
        exact ⟨rfl, rfl⟩
      · refine ⟨_, exec_lightLost_noted (not_and_or.mp falls), onlyZoe_modZoe .., ?_⟩
        rw [zoe_modZoe_same]
        refine ⟨rfl, rfl, fun h h' => absurd ⟨h, h'⟩ falls, fun h _ => ⟨rfl, decide_eq_true h⟩, fun _ => rfl, fun q => ?_⟩
        rw [stream_dimmed]
        exact ⟨rfl, rfl⟩
    · have integ : (stream x (streamNo q)).integ = none := by
        cases q
        · exact hstill.1
        · exact hstill.2
      obtain ⟨u, due, falls, _⟩ := boundary_due ready integ idle held fenceReq fenceDue fenceRule
      have still' (i : Nat) : (stream (zoe u z.val) i).integ = (stream x i).integ := by
        obtain ⟨_, _, _, _, row⟩ := due.2 i
        rw [row]
      obtain ⟨state, lightDue, cause, elems, _⟩ := fallDark_spec (x := zoe u z.val) (timeNs s)
        ⟨(still' 0).trans hstill.1, (still' 1).trans hstill.2⟩
      refine ⟨_, (exec_windowBoundary z q s).trans (congrArg _ (falls dark)), ?_⟩
      rw [zoe_modZoe_same]
      refine ⟨state, lightDue, cause.trans ?_, elems.trans ?_⟩ <;> rw [due.1]
  · have off (z : Nat) (u : State) (_ : timeNs u = timeNs s) :
        OnlyZoe z u (dropThreads z (modZoe z zoeOff u)) ∧ zoe (dropThreads z (modZoe z zoeOff u)) z = zoeDropped (zoe u z) := by
      refine ⟨(onlyZoe_modZoe ..).trans (onlyZoe_modZoe ..), ?_⟩
      rw [zoe_dropThreads_same, zoe_modZoe_same]
      rfl
    obtain ⟨frame, each⟩ := zoe_forAll_own off (ks := (List.range 16).map (halfBase h + ·))
      (List.nodup_range.map fun _ _ h => by simpa using h) s rfl
    refine ⟨_, exec_lightDieRailsRemoved h s, frame, fun z hz => ?_⟩
    rw [each z]
    by_cases mem : z ∈ (List.range 16).map (halfBase h + ·)
    · rw [if_pos mem, if_pos ((mem_half hz).mp mem)]
      exact zoeDropped_spec _
    · rw [if_neg mem, if_neg (mt (mem_half hz).mpr mem)]

end Sys2Proof.Machine
end

section
/-! PROOFS. How calibrations begin and end. -/

namespace Sys2Proof.Machine

open Sys2Proof Sys2Proof.Machine.Tables

/-! ### A call to calibration (R100, R102) -/

/-- A Full-mode Zoetrope at its boundary, called to calibration. -/
theorem startCal_spec {z now : Nat} {x : Zoe} (single : x.modeApplied = false) (integ : x.st0.integ = none) :
    let y := startCal z now 0 x
    y.state = .trimming ∧ y.trim.cause = 1 ∧ y.calDue = false ∧ y.halt0 = true ∧ y.halt1 = true ∧ y.trim.wrapCnt = 0
      ∧ y.trim.since = now := by
  intro y
  obtain ⟨h, hh⟩ : ∃ h, onStream 0 (fun r => { r with
    qstate := if r.qstate = .running then .halted else r.qstate, paused := false }) x = h := ⟨_, rfl⟩
  have mode : h.modeApplied = false := by rw [← hh]; exact single
  have row : stream h 0 = { x.st0 with qstate := if x.st0.qstate = .running then .halted else x.st0.qstate, paused := false } := by
    rw [← hh]; rfl
  have still : streamStill (stream h 0) = true := by
    unfold streamStill
    rw [row]
    dsimp only
    rw [integ]
    by_cases run : x.st0.qstate = .running <;> simp [run]
  have all : (streamsOf h).all (fun i => streamStill (stream h i)) = true := by simp [streamsOf, mode, still]
  have eq : y = { moveWraps z (cutGap now h) with
      state := .trimming, calDue := false, halt0 := true, halt1 := true
      trim := { (moveWraps z (cutGap now h)).trim with cause := 1, since := now } } := by
    unfold y startCal
    rw [hh]
    exact if_pos all
  rw [eq]
  exact ⟨rfl, rfl, rfl, rfl, rfl, rfl, rfl⟩

theorem calibrationCalls : Claims.CalibrationCalls := by
  intro z s x ready calDue single fenceReq light lightDue integ idle fenceDue fenceRule held
  obtain ⟨u, due, _, calls⟩ := boundary_due (q := 0) ready integ idle held fenceReq fenceDue fenceRule
  obtain ⟨_, _, _, _, row⟩ := due.2 0
  obtain ⟨state, cause, cal, halt0, halt1, wraps, since⟩ := startCal_spec (z := z.val) (now := timeNs s) (x := zoe u z.val)
    (by rw [due.1]; exact single) (by rw [show (zoe u z.val).st0 = stream (zoe u z.val) 0 from rfl, row]; exact integ)
  refine ⟨_, (exec_windowBoundary z .s0 s).trans (congrArg _ (calls light lightDue calDue)), ?_⟩
  rw [zoe_modZoe_same]
  exact ⟨state, cause, cal, halt0, halt1, wraps, since⟩

/-! ### What a calibration finds (R29 to R31, R36, R93) -/

theorem mapSpare_eq {ch : Nat} {x y : Zoe} (h : mapSpare ch x = some y) : y = { x with spare := y.spare } := by
  unfold mapSpare at h
  generalize (if ch < 128 then (23, 16, 7, 0) else if ch < 256 then (31, 24, 7, 128) else if ch < 324 then (7, 0, 6, 260)
    else (15, 8, 6, 324) : Nat × Nat × Nat × Nat) = field at h
  obtain ⟨en, lo, w, base⟩ := field
  dsimp only at h
  split at h
  · exact absurd h (Option.some_ne_none y).symm
  · obtain rfl := Option.some.inj h
    rfl

/-- Spares mapped in change ZOE_SPARE alone. -/
theorem mapSpares_eq (chs : List Nat) (x : Zoe) : (mapSpares chs x).2 = { x with spare := (mapSpares chs x).2.spare } := by
  refine List.foldlRecOn (motive := fun acc : List Nat × Zoe => acc.2 = { x with spare := acc.2.spare }) _ _ rfl fun acc h ch _ => ?_
  split
  · next y found => exact (mapSpare_eq found).trans (by rw [h])
  · exact h

/-- The matrix refined changes the elements and the count of kept coefficients alone. -/
theorem refineMatrix_eq (z free : Nat) (t : ZoeTrim) :
    refineMatrix z free t = { t with elems := (refineMatrix z free t).elems, kept := (refineMatrix z free t).kept } := by
  refine List.foldlRecOn (motive := fun u : ZoeTrim => u = { t with elems := u.elems, kept := u.kept }) _ _ rfl fun u h e _ => ?_
  rw [h]
  rfl

/-- The settings in force change the mode, the detector power and the nominal table alone. -/
theorem applySettings_eq (s : State) (z : Nat) (x : Zoe) :
    ∃ d n, applySettings s z x = { x with modeApplied := x.modeReq, detpwr := d, prec.nom := n } := by
  unfold applySettings
  dsimp only
  split
  · exact ⟨x.detpwr, x.prec.nom, rfl⟩
  · split
    · exact ⟨_, x.prec.nom, rfl⟩
    · exact ⟨_, _, rfl⟩

/-! ### The pass that a calibration ends with (R96, R104) -/

/-- Nothing of a Zoetrope differs but what a completed pass and its symbols count. -/
def OnlyPassed (x y : Zoe) : Prop :=
  y = { x with
    prec.lastPass := y.prec.lastPass
    trim := { x.trim with
      passes := y.trim.passes, passPos := y.trim.passPos, gapPassed := y.trim.gapPassed, conv := y.trim.conv, phRms := y.trim.phRms
      phMax := y.trim.phMax, balRms := y.trim.balRms, balMax := y.trim.balMax, cplWorst := y.trim.cplWorst, cplErr := y.trim.cplErr
      badRuns := y.trim.badRuns, gapSym := y.trim.gapSym, owed200 := y.trim.owed200, gapRun := y.trim.gapRun
      runDue := y.trim.runDue, phN := y.trim.phN, balN := y.trim.balN } }

/-- The symbols of a pass taken off what is owed: `sym` of them, which pay `owed`. -/
def passPaid (sym : BitVec 64) (owed : Nat) (x : Zoe) : Zoe :=
  { x with trim :=
    let owed := x.trim.owed200 - owed
    { x.trim with
      gapSym := x.trim.gapSym + sym
      owed200 := owed
      gapRun := if owed < 200 then 0 else x.trim.gapRun
      runDue := x.trim.runDue && decide (200 ≤ owed)
      phN := x.trim.phN + 256
      balN := x.trim.balN + 255 } }

theorem passPaid_taps (sym : BitVec 64) (owed : Nat) (x : Zoe) : (passPaid sym owed x).trim.taps = x.trim.taps := rfl

theorem checkPass_counted {z t : Nat} {r : PilotResult} {s : State} (new : passSince (zoe s z) t = false) :
    checkPass z t r s = endPass z r (modZoe z (passPaid 262144 (1024 * 51200)) s) := by
  unfold checkPass
  rw [if_neg (by rw [new]; decide)]
  rfl

/-- The pass of a calibration, counted at time `now`. -/
def passCounted (sym : BitVec 64) (owed now : Nat) (r : PilotResult) (x : Zoe) : Zoe :=
  { completePass now r (passPaid sym owed x) with
    trim := { (completePass now r (passPaid sym owed x)).trim with badRuns := [] } }

theorem passCounted_spec (sym : BitVec 64) (owed now : Nat) (r : PilotResult) (x : Zoe) :
    let y := passCounted sym owed now r x
    OnlyPassed x y ∧ y.trim.conv = passConverged r ∧ y.trim.passes = x.trim.passes + 1 ∧ y.prec.lastPass = some now
      ∧ y.trim.phRms = r.phRms ∧ y.trim.gapSym = x.trim.gapSym + sym := ⟨rfl, rfl, rfl, rfl, rfl, rfl⟩

/-- A calibration ends with the last pass of its pilot windows, or counts one of its own in which no channel lies out of range. -/
theorem checkPass_spec {z t : Nat} (r : PilotResult) {s : State} {x : Zoe} (hx : zoe s z = x)
    (h : passSince x t = true ∨ tapBad x.trim.taps = []) :
    let y := zoe (checkPass z t r s) z
    OnlyZoe z s (checkPass z t r s) ∧ OnlyPassed x y
      ∧ y.trim.conv = (if passSince x t then x.trim.conv else passConverged r)
      ∧ y.trim.passes = x.trim.passes + (if passSince x t then 0 else 1)
      ∧ (passSince x t = false → y.prec.lastPass = some (timeNs s) ∧ y.trim.phRms = r.phRms
        ∧ y.trim.gapSym = x.trim.gapSym + 262144) := by
  subst hx
  intro y
  cases passed : passSince (zoe s z) t with
  | true =>
    have eq : checkPass z t r s = s := if_pos passed
    have own : y = zoe s z := congrArg (zoe · z) eq
    rw [eq, own]
    exact ⟨.refl z s, rfl, rfl, (BitVec.add_zero _).symm, fun c => absurd c (by decide)⟩
  | false =>
    have clean : tapBad (zoe s z).trim.taps = [] := h.resolve_left (by rw [passed]; decide)
    obtain ⟨only, after⟩ := endPass_clean (z := z) (r := r) (s := modZoe z (passPaid 262144 (1024 * 51200)) s)
      (by rw [zoe_modZoe_same, passPaid_taps]; exact clean)
    rw [← checkPass_counted passed, timeNs_modZoe, zoe_modZoe_same] at after
    obtain ⟨same, conv, passes, last, rms, sym⟩ := passCounted_spec 262144 (1024 * 51200) (timeNs s) r (zoe s z)
    have own : y = passCounted 262144 (1024 * 51200) (timeNs s) r (zoe s z) := after
    rw [checkPass_counted passed, own]
    exact ⟨(onlyZoe_modZoe ..).trans only, same, conv, passes, fun _ => ⟨last, rms, sym⟩⟩

end Sys2Proof.Machine
end

section
/-! PROOFS. What a full calibration and a Show load's changes leave in force. -/

namespace Sys2Proof.Machine

open Sys2Proof Sys2Proof.Machine.Tables

/-! ### A full calibration (R102, R103) -/

/-- A Zoetrope as a full calibration found it, its spares mapped: what the calibration sets, and what it measured. -/
def calFound (r : CalResult) (sp : List Nat × Zoe) (det : BitVec 7) (nom : SMap Byte) (elems : SMap TrimElem) (kept : Nat)
    (tables : SMap Byte) (x : Zoe) : Zoe :=
  { x with
    modeApplied := x.modeReq, detpwr := det, prec.nom := nom, spare := sp.2.spare, dead := r.dead.take 64, badRefRows := ~~~r.refRows
    predist := tables
    trim := { x.trim with elems := elems, kept := kept, failed := sp.1, hpiPh := r.hpiPh, hpiBal := r.hpiBal } }

/-- The end of a full calibration once its pass is counted: the commit, and the state that the Zoetrope goes to. -/
def calSettled (z : Nat) (r : CalResult) (left : List Nat) (s : State) : State :=
  let x := zoe s z
  let c := calCause left x.modeApplied x.trim.conv x.badRefRows r
  let rec' : CalRec := { elems := x.trim.elems, predist := some x.predist, spare := x.spare, failed := x.trim.failed }
  let s := if flashOk s then modZoe z (fun x => { x with trim := commitRec rec' x.trim }) s
    else deferFlash 0 (modZoe z (fun x => { x with trim := { x.trim with flashPend := some rec' } }) s)
  if x.state ≠ .trimming then s
  else if c ≠ 0 then fenceZoe z c s
  else becomeReady z (modZoe z (fun x => { x with prec := { x.prec with lastPass := some (timeNs s) } }) s)

theorem calFound_of {z : Nat} {r : CalResult} {sp : List Nat × Zoe} {x : Zoe} (hsp : sp.2 = { x with spare := sp.2.spare }) (u : State)
    (free : Nat) (tables : SMap Byte) :
    ∃ det nom elems kept, applySettings u z { sp.2 with
        dead := r.dead.take 64, badRefRows := ~~~r.refRows, predist := tables
        trim := { (refineMatrix z free sp.2.trim) with failed := sp.1, hpiPh := r.hpiPh, hpiBal := r.hpiBal } }
      = calFound r sp det nom elems kept tables x := by
  obtain ⟨det, nom, set⟩ := applySettings_eq u z { sp.2 with
    dead := r.dead.take 64, badRefRows := ~~~r.refRows, predist := tables
    trim := { (refineMatrix z free sp.2.trim) with failed := sp.1, hpiPh := r.hpiPh, hpiBal := r.hpiBal } }
  refine ⟨det, nom, (refineMatrix z free x.trim).elems, (refineMatrix z free x.trim).kept, set.trans ?_⟩
  have trim : sp.2.trim = x.trim := by rw [hsp]
  rw [trim, refineMatrix_eq, hsp]
  rfl

/-- The predistortion tables that a calibration gives (R102). -/
def calTables (z free : Nat) : SMap Byte := ofList ((List.range 100352).map (fun i => Config.calPredist z i free)) 0

/-- How long a full calibration takes, in ms (R102). -/
def calTime (r : CalResult) (x y : Zoe) : Nat := 800 + (if y.spare ≠ x.spare then 250 else 0) + (if r.again then 200 else 0)

theorem exec_fullCalibrationDone {z : ZoeId} {r : CalResult} {s : State} {x : Zoe} (hx : zoe s z.val = x) (state : x.state = .trimming)
    (cause : x.trim.cause = 1) (light : x.trim.light = true) {sp : List Nat × Zoe}
    (hsp : mapSpares (r.failed.foldl (fun xs c => addFailed c xs) x.trim.failed) x = sp) :
    ∃ det nom elems kept tables, exec (.fullCalibrationDone z r) s = .next (calSettled z.val r sp.1
      (checkPass z.val (x.trim.since + 700000000) r.pass (useFree (modZoe z.val
        (fun _ => calFound r sp det nom elems kept tables x) (advanceTo (x.trim.since + 1000000 * calTime r x sp.2) s))))) := by
  subst hx
  have run : exec (.fullCalibrationDone z r) s = execFullCalibrationDone z r s := rfl
  obtain ⟨det, nom, elems, kept, found⟩ := calFound_of (z := z.val) (r := r) (sp := sp) (hsp ▸ mapSpares_eq ..)
    (advanceTo ((zoe s z.val).trim.since + 1000000 * calTime r (zoe s z.val) sp.2) s) s.free
    (calTables z.val s.free)
  refine ⟨det, nom, elems, kept, calTables z.val s.free, ?_⟩
  rw [run, execFullCalibrationDone]
  dsimp only
  rw [if_neg (by simp [state, cause, light]), hsp, ← found]
  rfl


/-! ### The commit and the state that follows (R58, R103) -/

/-- The record that a calibration of a Zoetrope commits. -/
def calRec (x : Zoe) : CalRec := { elems := x.trim.elems, predist := some x.predist, spare := x.spare, failed := x.trim.failed }

theorem commitRec_spec (r : CalRec) (t : ZoeTrim) :
    commitRec r t = { t with
        flashA := (commitRec r t).flashA, flashB := (commitRec r t).flashB, flashInB := !t.flashInB, flashPend := none }
      ∧ flashRec (commitRec r t) = r := by
  unfold commitRec flashRec
  cases t.flashInB <;> exact ⟨rfl, rfl⟩

/-- The fence cause that a calibration's findings give a Zoetrope. -/
def calFindings (left : List Nat) (r : CalResult) (x : Zoe) : Byte := calCause left x.modeApplied x.trim.conv x.badRefRows r

section
variable {z : Nat} {r : CalResult} {left : List Nat} {s : State} {x : Zoe}

theorem calSettled_fenced (hx : zoe s z = x) (flash : flashOk s = true) (state : x.state = .trimming)
    (bad : calFindings left r x ≠ 0) :
    calSettled z r left s = fenceZoe z (calFindings left r x) (modZoe z (fun y => { y with trim := commitRec (calRec x) y.trim }) s) := by
  subst hx
  unfold calSettled
  dsimp only
  rw [if_pos flash, if_neg (not_not_intro state)]
  exact if_pos bad

theorem calSettled_ready (hx : zoe s z = x) (flash : flashOk s = true) (state : x.state = .trimming) (good : calFindings left r x = 0)
    (fenceReq : x.fenceReq = 0) (calDue : x.calDue = false) :
    OnlyZoe z s (calSettled z r left s) ∧ zoe (calSettled z r left s) z
      = zoeReady { x with trim := commitRec (calRec x) x.trim, prec.lastPass := some (timeNs s) } := by
  subst hx
  obtain ⟨u, hu⟩ : ∃ u, modZoe z (fun y => { y with prec := { y.prec with lastPass := some (timeNs s) } })
    (modZoe z (fun y => { y with trim := commitRec (calRec (zoe s z)) y.trim }) s) = u := ⟨_, rfl⟩
  have own : zoe u z = { zoe s z with trim := commitRec (calRec (zoe s z)) (zoe s z).trim, prec.lastPass := some (timeNs s) } := by
    rw [← hu, zoe_modZoe_same, zoe_modZoe_same]
  have only : OnlyZoe z s u := hu ▸ (onlyZoe_modZoe ..).trans (onlyZoe_modZoe ..)
  have eq : calSettled z r left s = becomeReady z u := by
    rw [← hu]
    unfold calSettled
    dsimp only
    rw [if_pos flash, if_neg (not_not_intro state)]
    exact if_neg (not_not_intro good)
  rw [eq, becomeReady_plain (by rw [own]; exact fenceReq) (by rw [own]; exact calDue)]
  refine ⟨only.trans (onlyZoe_modZoe ..), ?_⟩
  rw [zoe_modZoe_same, own]

end

/-! ### A Show load's changes (R104) -/

/-- A Zoetrope as the changes of a Show load found it, its spares mapped. -/
def reconfigFound (r : CalResult) (sp : List Nat × Zoe) (det : BitVec 7) (nom : SMap Byte) (x : Zoe) : Zoe :=
  { x with
    modeApplied := x.modeReq, detpwr := det, prec.nom := nom, spare := sp.2.spare
    dead := if r.dead.length ≤ 64 then r.dead else x.dead
    trim := { x.trim with failed := sp.1 } }

/-- The end of a Show load's changes once their pass is counted. -/
def reconfigSettled (z : Nat) (r : CalResult) (left : List Nat) (s : State) : State :=
  let x := zoe s z
  let c := reconfigCause left x.modeApplied x.trim.conv x.badRefRows r
  if x.state ≠ .trimming then s else if c ≠ 0 then fenceZoe z c s else becomeReady z s

theorem exec_zoeReconfigDone {z : ZoeId} {r : CalResult} {s : State} {x : Zoe} (hx : zoe s z.val = x) (state : x.state = .trimming)
    (cause : x.trim.cause = 2) (light : x.trim.light = true) {sp : List Nat × Zoe} (hsp : mapSpares x.trim.failed x = sp) :
    ∃ det nom, exec (.zoeReconfigDone z r) s = .next (reconfigSettled z.val r sp.1
      (checkPass z.val (x.trim.since + 38000000) r.pass (modZoe z.val
        (fun _ => reconfigFound r sp det nom x) (advanceTo (x.trim.since + 42000000) s)))) := by
  subst hx
  have run : exec (.zoeReconfigDone z r) s = execZoeReconfigDone z r s := rfl
  have same : sp.2 = { zoe s z.val with spare := sp.2.spare } := hsp ▸ mapSpares_eq ..
  obtain ⟨det, nom, set⟩ := applySettings_eq (advanceTo ((zoe s z.val).trim.since + 42000000) s) z.val { sp.2 with
    dead := if r.dead.length ≤ 64 then r.dead else (zoe s z.val).dead, trim := { sp.2.trim with failed := sp.1 } }
  have found : _ = reconfigFound r sp det nom (zoe s z.val) := set.trans (by rw [same]; rfl)
  refine ⟨det, nom, ?_⟩
  rw [run, execZoeReconfigDone]
  dsimp only
  rw [if_neg (by simp [state, cause, light]), hsp, ← found]
  rfl

section
variable {z : Nat} {r : CalResult} {left : List Nat} {s : State} {x : Zoe}

theorem reconfigSettled_fenced (hx : zoe s z = x) (state : x.state = .trimming)
    (bad : reconfigCause left x.modeApplied x.trim.conv x.badRefRows r ≠ 0) :
    reconfigSettled z r left s = fenceZoe z (reconfigCause left x.modeApplied x.trim.conv x.badRefRows r) s := by
  subst hx
  exact (if_neg (not_not_intro state)).trans (if_pos bad)

theorem reconfigSettled_ready (hx : zoe s z = x) (state : x.state = .trimming)
    (good : reconfigCause left x.modeApplied x.trim.conv x.badRefRows r = 0) (fenceReq : x.fenceReq = 0) (calDue : x.calDue = false) :
    OnlyZoe z s (reconfigSettled z r left s) ∧ zoe (reconfigSettled z r left s) z = zoeReady x := by
  subst hx
  have eq : reconfigSettled z r left s = modZoe z zoeReady s :=
    ((if_neg (not_not_intro state)).trans (if_neg (not_not_intro good))).trans (becomeReady_plain fenceReq calDue)
  rw [eq]
  exact ⟨onlyZoe_modZoe .., zoe_modZoe_same ..⟩

end

/-! ### How they end (R30 to R32, R102, R104) -/

/-- R101 holds, or does not, over the pass that a calibration ends with. -/
theorem conv_of_pass {x : Zoe} {r : PilotResult} {since : Nat} {b : Bool} (h : passSince x since = true ∧ x.trim.conv = b
      ∨ passSince x since = false ∧ tapBad x.trim.taps = [] ∧ passConverged r = b) :
    (passSince x since = true ∨ tapBad x.trim.taps = []) ∧ (if passSince x since then x.trim.conv else passConverged r) = b := by
  rcases h with ⟨passed, conv⟩ | ⟨new, clean, conv⟩
  · exact ⟨.inl passed, (if_pos passed).trans conv⟩
  · exact ⟨.inr clean, (if_neg (by rw [new]; decide)).trans conv⟩

theorem OnlyPassed.rest {x y : Zoe} (h : OnlyPassed x y) :
    y.state = x.state ∧ y.modeApplied = x.modeApplied ∧ y.badRefRows = x.badRefRows ∧ y.fenceReq = x.fenceReq
      ∧ y.calDue = x.calDue ∧ y.dead = x.dead ∧ y.spare = x.spare ∧ y.st0 = x.st0 ∧ y.st1 = x.st1 := by
  rw [h]
  exact ⟨rfl, rfl, rfl, rfl, rfl, rfl, rfl, rfl, rfl⟩

theorem OnlyPassed.trim {x y : Zoe} (h : OnlyPassed x y) :
    y.trim.failed = x.trim.failed ∧ y.trim.flashInB = x.trim.flashInB ∧ y.trim.hpiPh = x.trim.hpiPh
      ∧ y.trim.hpiBal = x.trim.hpiBal := by
  rw [h]
  exact ⟨rfl, rfl, rfl, rfl⟩

theorem applySettings_mode (s : State) (z : Nat) (x : Zoe) : (applySettings s z x).modeApplied = x.modeReq := by
  obtain ⟨d, n, h⟩ := applySettings_eq s z x
  rw [h]

theorem exec_calibration_dark {z : ZoeId} {r : CalResult} {s : State} (dark : (zoe s z.val).trim.light = false) :
    exec (.fullCalibrationDone z r) s = .next s ∧ exec (.zoeReconfigDone z r) s = .next s :=
  ⟨congrArg Host.Outcome.next (if_pos (.inr (.inr (by rw [dark]; rfl)))),
    congrArg Host.Outcome.next (if_pos (.inr (.inr (by rw [dark]; rfl))))⟩

/-- A change of Zoetrope z after a wait and one free value. -/
theorem calFrame {z d : Nat} {f : Zoe → Zoe} {s t : State} (only : OnlyZoe z (useFree (modZoe z f (advanceTo d s))) t) :
    t = { s with zoes := t.zoes, ident.aux := t.ident.aux, free := s.free + 1 } ∧ d ≤ timeNs t
      ∧ ∀ i, i ≠ z → zoe t i = zoe s i := by
  obtain ⟨frame, others⟩ := only
  refine ⟨by rw [frame]; rfl, ?_, fun i hi => (others i hi).trans (zoe_modZoe_ne _ _ hi)⟩
  rw [frame]
  exact advanceTo_time d s

end Sys2Proof.Machine
end

section
/-! PROOFS. Light, warming, and how calibrations begin and end. -/

namespace Sys2Proof.Machine

open Sys2Proof Sys2Proof.Machine.Tables

section
variable {z : ZoeId} {r : CalResult} {s : State} {x : Zoe} {sp : List Nat × Zoe}

/-- A full calibration up to its findings: the pass that it ends with is counted on what it found. -/
theorem fullCalibration_passed (hx : zoe s z.val = x) (state : x.state = .trimming) (cause : x.trim.cause = 1)
    (light : x.trim.light = true) (hsp : mapSpares (r.failed.foldl (fun xs c => addFailed c xs) x.trim.failed) x = sp)
    (pass : passSince x (x.trim.since + 700000000) = true ∨ tapBad x.trim.taps = []) :
    ∃ d f u det nom elems kept tables, x.trim.since + 800000000 ≤ d
      ∧ exec (.fullCalibrationDone z r) s = .next (calSettled z.val r sp.1 u)
      ∧ OnlyZoe z.val (useFree (modZoe z.val f (advanceTo d s))) u
      ∧ OnlyPassed (calFound r sp det nom elems kept tables x) (zoe u z.val)
      ∧ (zoe u z.val).trim.conv
        = (if passSince x (x.trim.since + 700000000) then x.trim.conv else passConverged r.pass) := by
  obtain ⟨det, nom, elems, kept, tables, run⟩ := exec_fullCalibrationDone (r := r) hx state cause light hsp
  have own : zoe (useFree (modZoe z.val (fun _ => calFound r sp det nom elems kept tables x)
      (advanceTo (x.trim.since + 1000000 * calTime r x sp.2) s))) z.val = calFound r sp det nom elems kept tables x := by
    rw [zoe_useFree, zoe_modZoe_same]
  obtain ⟨only, passed, conv, -⟩ := checkPass_spec (t := x.trim.since + 700000000) r.pass own pass
  have long : 800 ≤ calTime r x sp.2 := by unfold calTime; omega
  exact ⟨x.trim.since + 1000000 * calTime r x sp.2, _, _, det, nom, elems, kept, tables, by omega, run, only, passed, conv⟩

/-- A Show load's changes up to their findings. -/
theorem reconfig_passed (hx : zoe s z.val = x) (state : x.state = .trimming) (cause : x.trim.cause = 2) (light : x.trim.light = true)
    (hsp : mapSpares x.trim.failed x = sp) (pass : passSince x (x.trim.since + 38000000) = true ∨ tapBad x.trim.taps = []) :
    ∃ u det nom, exec (.zoeReconfigDone z r) s = .next (reconfigSettled z.val r sp.1 u) ∧ OnlyZoeAt z.val s u
      ∧ x.trim.since + 42000000 ≤ timeNs u ∧ OnlyPassed (reconfigFound r sp det nom x) (zoe u z.val)
      ∧ (zoe u z.val).trim.conv = (if passSince x (x.trim.since + 38000000) then x.trim.conv else passConverged r.pass)
      ∧ (zoe u z.val).trim.passes = x.trim.passes + (if passSince x (x.trim.since + 38000000) then 0 else 1)
      ∧ (passSince x (x.trim.since + 38000000) = false → (zoe u z.val).prec.lastPass = some (timeNs u)
        ∧ (zoe u z.val).trim.phRms = r.pass.phRms ∧ (zoe u z.val).trim.gapSym = x.trim.gapSym + 262144) := by
  obtain ⟨det, nom, run⟩ := exec_zoeReconfigDone (r := r) hx state cause light hsp
  obtain ⟨v, hv⟩ : ∃ v, modZoe z.val (fun _ => reconfigFound r sp det nom x) (advanceTo (x.trim.since + 42000000) s) = v := ⟨_, rfl⟩
  have own : zoe v z.val = reconfigFound r sp det nom x := by rw [← hv, zoe_modZoe_same]
  have time : x.trim.since + 42000000 ≤ timeNs v := by
    rw [← hv]
    exact advanceTo_time ..
  have at' : OnlyZoeAt z.val s v := hv ▸ (onlyZoeAt_advanceTo ..).trans (onlyZoe_modZoe ..).at
  rw [hv] at run
  obtain ⟨only, passed, conv, passes, new⟩ := checkPass_spec (t := x.trim.since + 38000000) r.pass own pass
  refine ⟨_, det, nom, run, at'.trans only.at, only.time_eq ▸ time, passed, conv, passes, ?_⟩
  rw [only.time_eq]
  exact new

end

theorem flashOk_of_pwr {s t : State} (h : t.pwr = s.pwr) : flashOk t = flashOk s := by
  unfold flashOk
  rw [h]

theorem commitRec_rest (r : CalRec) (t : ZoeTrim) : (commitRec r t).elems = t.elems ∧ (commitRec r t).failed = t.failed
    ∧ (commitRec r t).flashInB = !t.flashInB ∧ (commitRec r t).hpiPh = t.hpiPh ∧ (commitRec r t).hpiBal = t.hpiBal := by
  rw [(commitRec_spec r t).1]
  exact ⟨rfl, rfl, rfl, rfl, rfl⟩

/-- Findings that fence nothing (R30 to R32). -/
theorem calFindings_good {r : CalResult} {x : Zoe} (dead : r.dead.length ≤ 64) (spareOk : r.spareFailed = false)
    (refRow : noRefRow x.modeApplied x.badRefRows = false) (conv : x.trim.conv = true) (errorOk : r.errorOk = true) :
    calFindings [] r x = 0 := by
  simp [calFindings, calCause, Nat.not_lt.mpr dead, spareOk, refRow, conv, errorOk]

/-- Too many dead cells come before all else (R32). -/
theorem calFindings_dead {r : CalResult} {x : Zoe} (left : List Nat) (dead : 64 < r.dead.length) : calFindings left r x = 3 := if_pos dead

theorem reconfigCause_eq {r : CalResult} {twin : Bool} {bad : BitVec 4} (conv : Bool) (dead : r.dead.length ≤ 64)
    (refRow : noRefRow twin bad = false) : reconfigCause [] twin conv bad r = if conv then 0 else 4 := by
  cases conv <;> simp [reconfigCause, Nat.not_lt.mpr dead, refRow]

theorem calibrationEnds : Claims.CalibrationEnds := by
  intro z r s x twin holds' state
  have mode : twin = x.modeReq := applySettings_mode ..
  refine ⟨exec_calibration_dark, ?_, ?_⟩
  · intro light cause flash sp
    refine ⟨fun dead spares spareOk refRow pass errorOk fenceReq calDue => ?_, fun dead pass => ?_⟩
    · obtain ⟨pass', conv⟩ := conv_of_pass pass
      obtain ⟨d, f, u, det, nom, elems, kept, tables, long, run, only, passed, conv'⟩ :=
        fullCalibration_passed (r := r) (sp := sp) rfl state cause light rfl pass'
      obtain ⟨hstate, hmode, hrows, hreq, hcal, hdead, hspare, hst0, hst1⟩ := passed.rest
      obtain ⟨hfailed, hbank, hph, hbal⟩ := passed.trim
      have refRow' : noRefRow (zoe u z.val).modeApplied (zoe u z.val).badRefRows = false := by
        rw [hmode, hrows]
        rwa [mode] at refRow
      have none' : (zoe u z.val).trim.failed = [] := hfailed.trans spares
      have flash' : flashOk u = true := (flashOk_of_pwr (by rw [only.1]; rfl)).trans flash
      obtain ⟨settled, own⟩ := calSettled_ready (left := []) rfl flash' (hstate.trans state)
        (calFindings_good dead spareOk refRow' (conv'.trans conv) errorOk) (hreq.trans fenceReq) (hcal.trans calDue)
      obtain ⟨frame, time, others⟩ := calFrame (only.trans settled)
      obtain ⟨relems, rfailed, rbank, rph, rbal⟩ := commitRec_rest (calRec (zoe u z.val)) (zoe u z.val).trim
      have inForce := (commitRec_spec (calRec (zoe u z.val)) (zoe u z.val).trim).2
      have found : calRec (zoe u z.val) = ⟨(commitRec (calRec (zoe u z.val)) (zoe u z.val).trim).elems,
          some (zoe u z.val).predist, (zoe u z.val).spare, []⟩ := by
        rw [relems, calRec, none']
      rw [spares] at run
      refine ⟨_, run, frame, long.trans time, others, ?_⟩
      rw [own, settled.time_eq]
      refine ⟨rfl, rfl, hdead.trans (List.take_of_length_le dead), hrows, hspare, rfailed.trans none',
        rbank.trans (congrArg _ hbank), inForce.trans found, rfl, rph.trans hph, rbal.trans hbal, hmode.trans mode.symm, hst0, hst1⟩
    · obtain ⟨d, f, u, det, nom, elems, kept, tables, long, run, only, passed, _⟩ :=
        fullCalibration_passed (r := r) (sp := sp) rfl state cause light rfl pass
      obtain ⟨hstate, _, _, _, _, hdead, _⟩ := passed.rest
      have flash' : flashOk u = true := (flashOk_of_pwr (by rw [only.1]; rfl)).trans flash
      have three : calFindings sp.1 r (zoe u z.val) = 3 := calFindings_dead sp.1 dead
      have fenced := calSettled_fenced (left := sp.1) rfl flash' (hstate.trans state) (by rw [three]; decide)
      obtain ⟨frame, _, _⟩ := calFrame (only.trans (onlyZoe_modZoe z.val (fun y => { y with
        trim := commitRec (calRec (zoe u z.val)) y.trim }) u))
      refine ⟨_, _, run, fenced.trans (by rw [three]), frame, ?_⟩
      rw [zoe_modZoe_same]
      refine ⟨hstate.trans state, ?_⟩
      change (zoe u z.val).dead.length = 64
      rw [hdead]
      exact List.length_take_of_le dead.le
  · intro light cause sp dead spares refRow
    refine ⟨fun pass fenceReq calDue => ?_, fun pass => ?_⟩
    · obtain ⟨pass', conv⟩ := conv_of_pass pass
      obtain ⟨u, det, nom, run, only, time, passed, conv', passes, new⟩ :=
        reconfig_passed (r := r) (sp := sp) rfl state cause light rfl pass'
      obtain ⟨hstate, hmode, hrows, hreq, hcal, hdead, hspare, _⟩ := passed.rest
      have refRow' : noRefRow (zoe u z.val).modeApplied (zoe u z.val).badRefRows = false := by
        rw [hmode, hrows]
        rwa [mode] at refRow
      obtain ⟨settled, own⟩ := reconfigSettled_ready (left := []) (r := r) (z := z.val) (s := u) rfl (hstate.trans state)
        (by rw [reconfigCause_eq _ dead refRow', conv', conv]; rfl) (hreq.trans fenceReq) (hcal.trans calDue)
      rw [spares] at run
      refine ⟨_, run, only.trans settled.at, settled.time_eq ▸ time, ?_⟩
      rw [own, settled.time_eq]
      exact ⟨rfl, rfl, hdead.trans (if_pos dead), hspare, passed.trim.1.trans spares, hmode.trans mode.symm, hrows, passes, new⟩
    · obtain ⟨pass', conv⟩ := conv_of_pass pass
      obtain ⟨u, det, nom, run, only, time, passed, conv', _⟩ :=
        reconfig_passed (r := r) (sp := sp) rfl state cause light rfl pass'
      obtain ⟨hstate, hmode, hrows, _⟩ := passed.rest
      have refRow' : noRefRow (zoe u z.val).modeApplied (zoe u z.val).badRefRows = false := by
        rw [hmode, hrows]
        rwa [mode] at refRow
      have four : reconfigCause sp.1 (zoe u z.val).modeApplied (zoe u z.val).trim.conv (zoe u z.val).badRefRows r = 4 := by
        rw [spares, reconfigCause_eq _ dead refRow', conv', conv]
        rfl
      have fenced := reconfigSettled_fenced (left := sp.1) (r := r) (z := z.val) (s := u) rfl (hstate.trans state) (by rw [four]; decide)
      exact ⟨_, u, run, fenced.trans (by rw [four]), only, hstate.trans state⟩

/-- Settles O17: loss of light and a call to calibration by what a boundary finds before them, the ends of calibrations by the
pass that each of them ends with. -/
theorem startCalibration : Obligations.StartCalibration := ⟨lightAndWarming, calibrationCalls, calibrationEnds⟩

end Sys2Proof.Machine
end

section
/-! PROOFS. What queues, sessions and parking leave of the plant: power, resets, stacks, Shows and Zoetropes. -/

namespace Sys2Proof.Machine

open Sys2Proof Sys2Proof.Machine.Tables

/-- What the work of queues and sessions leaves alone. -/
def plant (s : State) : PwrSys × RstSys × SMap Stack × SMap ShowSt × SMap Zoe := (s.pwr, s.rst, s.hbm.hstacks, s.shows, s.zoes)

theorem plant_eq_iff {s t : State} : plant t = plant s ↔
    t.pwr = s.pwr ∧ t.rst = s.rst ∧ t.hbm.hstacks = s.hbm.hstacks ∧ t.shows = s.shows ∧ t.zoes = s.zoes := by
  simp [plant]

/-- A list of changes of which each leaves the plant alone leaves it alone. -/
theorem plant_forAll {α : Type} (ks : List α) {f : α → State → State} (h : ∀ k s, plant (f k s) = plant s) (s : State) :
    plant (forAll ks f s) = plant s := forAll_keeps plant ks f h s

/-! ### Vectors, faults and banks -/

@[simp] theorem plant_signalVec (f : Fn) (vec : Nat) (s : State) : plant (signalVec f vec s) = plant s := by simp [plant]

@[simp] theorem plant_settleAlert (s : State) : plant (settleAlert s) = plant s := by simp [plant]

/-- A fault that is not Fatal leaves the plant alone. -/
theorem plant_raiseFault {code : BitVec 16} (h : faultClass code ≠ 2) (kind index part detail : Nat) (s : State) :
    plant (raiseFault code kind index part detail s) = plant s := by
  rw [raiseFault_frame code kind index part detail s h]
  rfl

theorem OnlyBanks.plant_eq {s t : State} (h : OnlyBanks s t) : plant t = plant s := by
  rw [h]
  rfl

@[simp] theorem plant_mrtWrite (cells : List (Nat × Byte)) (s : State) : plant (mrtWrite cells s) = plant s := by
  refine plant_forAll _ (fun n u => ?_) s
  split
  · rfl
  · exact (dropAccess_onlyBanks ..).plant_eq

@[simp] theorem plant_zeroSlot (p : Nat) (x : Session) (s : State) : plant (zeroSlot p x s) = plant s := by
  unfold zeroSlot
  split
  · exact plant_mrtWrite ..
  · rfl

/-! ### Memory (R172, R175) -/

@[simp] theorem plant_modRlc (h : Nat) (f : Rlc → Rlc) (s : State) : plant (modRlc h f s) = plant s := by
  unfold modRlc
  split <;> rfl

@[simp] theorem plant_hbmWrite (c o : Nat) (bs : List Byte) (s : State) : plant (hbmWrite c o bs s) = plant s := by
  refine plant_forAll _ (fun _ u => ?_) s
  unfold hbmSet
  split <;> rfl

@[simp] theorem plant_healLine (c line : Nat) (s : State) : plant (healLine c line s) = plant s := by
  unfold healLine
  dsimp only
  repeat' split
  all_goals rfl

@[simp] theorem plant_countAct (c line : Nat) (s : State) : plant (countAct c line s) = plant s := by
  unfold countAct
  dsimp only
  split <;> rfl

@[simp] theorem plant_cacheDrop (h : Nat) (p : CacheLine → Bool) (s : State) : plant (cacheDrop h p s) = plant s := plant_modRlc ..

@[simp] theorem plant_writeLine (h z c line : Nat) (bytes : List Byte) (s : State) :
    plant (writeLine h z c line bytes s).2 = plant s := by
  unfold writeLine
  dsimp only
  repeat' split
  all_goals simp

@[simp] theorem plant_parkStore (p addr : Nat) (bs : List Byte) (s : State) : plant (parkStore p addr bs s) = plant s := by
  refine plant_forAll _ (fun i u => ?_) s
  split
  · rfl
  · exact plant_writeLine ..

theorem plant_parkFetch (p addr len : Nat) (s : State) : plant (parkFetch p addr len s).2 = plant s := by
  unfold parkFetch
  refine List.foldlRecOn (motive := fun acc : List Byte × State => plant acc.2 = plant s) _ _ rfl fun acc kept i _ => ?_
  split
  · exact kept
  · exact (plant_countAct ..).trans kept

/-! ### Completions (R205, R209) -/

@[simp] theorem plant_modQueue (q : Nat) (f : Queue → Queue) (s : State) : plant (modQueue q f s) = plant s := rfl

@[simp] theorem plant_writeCpl (q : Nat) (c : Cpl) (s : State) : plant (writeCpl q c s) = plant s := by
  unfold writeCpl signalQueue
  dsimp only
  split
  · simp only [plant_signalVec, plant_modQueue]
    rfl
  · rfl

@[simp] theorem plant_postCpl (q : Nat) (c : Cpl) (s : State) : plant (postCpl q c s) = plant s := by
  unfold postCpl postFormed
  dsimp only
  repeat' split
  all_goals simp

@[simp] theorem plant_endDesc (q id : Nat) (st : Byte) (data0 : Nat) (s : State) : plant (endDesc q id st data0 s) = plant s := by
  unfold endDesc
  dsimp only
  repeat' split
  all_goals simp

theorem plant_settleFences (n q : Nat) (s : State) : plant (settleFences n q s) = plant s := by
  induction n generalizing s with
  | zero => rfl
  | succ n ih =>
    unfold settleFences
    split
    · rfl
    · rw [ih, plant_endDesc]

theorem plant_flushBad (n q : Nat) (s : State) : plant (flushBad n q s) = plant s := by
  induction n generalizing s with
  | zero => rfl
  | succ n ih =>
    unfold flushBad
    split
    · rfl
    · split
      · rfl
      · rw [ih, plant_endDesc]
        rfl

@[simp] theorem plant_settleQueue (q : Nat) (s : State) : plant (settleQueue q s) = plant s :=
  (plant_flushBad ..).trans (plant_settleFences ..)

@[simp] theorem plant_finishDesc (q id : Nat) (st : Byte) (data0 : Nat) (s : State) : plant (finishDesc q id st data0 s) = plant s :=
  (plant_settleQueue ..).trans (plant_endDesc ..)

/-! ### Sessions (R157, R160 to R162) -/

@[simp] theorem plant_setSession (p : Nat) (sid : BitVec 24) (x : Session) (s : State) : plant (setSession p sid x s) = plant s := rfl

@[simp] theorem plant_sessionEvent (home : Nat) (sid : BitVec 24) (st : Byte) (step : Word) (ext : Bool) (s : State) :
    plant (sessionEvent home sid st step ext s) = plant s := plant_postCpl ..

@[simp] theorem plant_removeSession (p : Nat) (sid : BitVec 24) (s : State) : plant (removeSession p sid s) = plant s := by
  unfold removeSession
  split
  · rfl
  · exact (plant_parkStore ..).trans (plant_zeroSlot ..)

@[simp] theorem plant_forceClose (p : Nat) (sid : BitVec 24) (st : Byte) (s : State) : plant (forceClose p sid st s) = plant s := by
  unfold forceClose
  split
  · rfl
  · next x _ => cases hx : x.op <;> simp

@[simp] theorem plant_forcePark (p : Nat) (sid : BitVec 24) (st : Byte) (s : State) : plant (forcePark p sid st s) = plant s := by
  unfold forcePark
  repeat' split
  all_goals simp

@[simp] theorem plant_moveSession (p h : Nat) (e : Nat × Session) (s : State) : plant (moveSession p h e s) = plant s := by
  unfold moveSession
  dsimp only
  repeat' split
  all_goals simp [zeroPark, plant_parkFetch]

@[simp] theorem plant_abandonStep (p t : Nat) (s : State) : plant (abandonStep p t s) = plant s := by
  unfold abandonStep
  split
  · rfl
  · refine (plant_forAll _ plant_settleQueue _).trans (plant_forAll _ (fun e u => ?_) s)
    split <;> rfl

@[simp] theorem plant_endResumes (p : Nat) (s : State) : plant (endResumes p s) = plant s := by
  refine plant_forAll _ (fun e u => ?_) s
  split <;> simp

/-- The end of a command. -/
@[simp] theorem plant_endCmd (w : Fn) (st : Nat) (reply : List Byte) (s : State) : plant (endCmd w st reply s) = plant s := by
  unfold endCmd
  dsimp only
  split
  · rfl
  · split
    · rfl
    · split
      · rfl
      · exact plant_signalVec ..

end Sys2Proof.Machine
end

section
/-! PROOFS. Shows that stop and Zoetropes that are fenced: power, resets and stacks stay, and so does the state of every other
Zoetrope. -/

namespace Sys2Proof.Machine

open Sys2Proof Sys2Proof.Machine.Tables

/-- Power, resets, stacks, and the state that each Zoetrope is in. -/
def standing (s : State) : PwrSys × RstSys × SMap Stack × (Nat → ZState) :=
  (s.pwr, s.rst, s.hbm.hstacks, fun z => (zoe s z).state)

theorem standing_eq_iff {s t : State} : standing t = standing s ↔
    t.pwr = s.pwr ∧ t.rst = s.rst ∧ t.hbm.hstacks = s.hbm.hstacks ∧ ∀ z, (zoe t z).state = (zoe s z).state := by
  simp [standing, funext_iff]

/-- What leaves the plant alone leaves every Zoetrope in its state. -/
theorem standing_of_plant {s t : State} (h : plant t = plant s) : standing t = standing s := by
  obtain ⟨pwr, rst, hbm, -, zoes⟩ := plant_eq_iff.mp h
  exact standing_eq_iff.mpr ⟨pwr, rst, hbm, fun z => by unfold zoe; rw [zoes]⟩

theorem standing_forAll {α : Type} (ks : List α) {f : α → State → State} (h : ∀ k s, standing (f k s) = standing s) (s : State) :
    standing (forAll ks f s) = standing s := forAll_keeps standing ks f h s

/-- A change of a Zoetrope that leaves its state. -/
theorem standing_modZoe (z : Nat) {f : Zoe → Zoe} (h : ∀ x, (f x).state = x.state) (s : State) :
    standing (modZoe z f s) = standing s := by
  refine standing_eq_iff.mpr ⟨rfl, rfl, rfl, fun j => ?_⟩
  by_cases hj : j = z
  · rw [hj, zoe_modZoe_same, h]
  · rw [zoe_modZoe_ne _ _ hj]

theorem standing_modThread (z t : Nat) (f : ThreadSt → ThreadSt) (s : State) : standing (modThread z t f s) = standing s := by
  unfold modThread
  exact standing_modZoe z (fun _ => by rfl) s

/-! ### Shows that stop (R152, R157) -/

theorem standing_abandonIdle (p t : Nat) (s : State) : standing (abandonIdle p t s) = standing s := by
  unfold abandonIdle
  split
  · rfl
  · exact (standing_of_plant (plant_abandonStep ..)).trans (standing_forAll _ (fun z u => standing_modThread ..) s)

theorem standing_beginStop (p : Nat) (faulted : Bool) (s : State) : standing (beginStop p faulted s) = standing s := by
  unfold beginStop
  split
  · rfl
  · refine (standing_forAll _ (standing_abandonIdle p) _).trans ((standing_of_plant (plant_endResumes ..)).trans ?_)
    rfl

theorem standing_stopQuad (z : Nat) (s : State) : standing (stopQuad z s) = standing s := rfl

theorem standing_removeShow (p : Nat) (s : State) : standing (removeShow p s) = standing s := by
  unfold removeShow
  refine (standing_forAll _ (fun z u => (standing_stopQuad ..).trans ?_) _).trans rfl
  exact standing_modZoe z (fun _ => by rfl) u

theorem standing_settleStop (p : Nat) (s : State) : standing (settleStop p s) = standing s := by
  unfold settleStop
  split
  · exact standing_removeShow p s
  · rfl

theorem standing_faultEnd (p member : Nat) (s : State) : standing (faultEnd p member s) = standing s := by
  unfold faultEnd
  split
  · rfl
  · split
    · rfl
    · refine (standing_forAll _ (fun t u => standing_of_plant (plant_abandonStep p t u)) _).trans ?_
      exact (standing_beginStop ..).trans (standing_of_plant (plant_raiseFault (by decide) ..))

theorem standing_faultStop (p member : Nat) (st : Byte) (close : Bool) (s : State) :
    standing (faultStop p member st close s) = standing s := by
  unfold faultStop
  split
  · rfl
  · refine (standing_forAll _ (fun e u => standing_of_plant ?_) _).trans (standing_faultEnd ..)
    repeat' split
    all_goals simp

/-! ### Fencing (R25, R58, R61) -/

/-- What follows a fence in its partition. -/
theorem standing_fenceZoe {z : Nat} {s : State} (cause : Byte) (noff : (zoe s z).state ≠ .off) (nfenced : (zoe s z).state ≠ .fenced) :
    standing (fenceZoe z cause s) = standing (fenceOnly z cause s) := by
  rw [fenceZoe_eq cause noff nfenced]
  split
  · exact (standing_settleStop ..).trans (standing_faultStop ..)
  · rfl

/-- A fence leaves power, resets and stacks. -/
theorem fenceZoe_keeps (z : Nat) (cause : Byte) (s : State) :
    (fenceZoe z cause s).pwr = s.pwr ∧ (fenceZoe z cause s).rst = s.rst ∧ (fenceZoe z cause s).hbm.hstacks = s.hbm.hstacks := by
  by_cases still : (zoe s z).state = .off ∨ (zoe s z).state = .fenced
  · rw [fenceZoe_still cause still]
    exact ⟨rfl, rfl, rfl⟩
  · obtain ⟨noff, nfenced⟩ := not_or.mp still
    obtain ⟨pwr, rst, hbm, -⟩ := standing_eq_iff.mp (standing_fenceZoe cause noff nfenced)
    rw [pwr, rst, hbm, fenceOnly_frame]
    exact ⟨rfl, rfl, rfl⟩

/-- A Zoetrope that is not Off is Fenced after a fence. -/
theorem fenceZoe_fenced {z : Nat} {s : State} (cause : Byte) (noff : (zoe s z).state ≠ .off) :
    (zoe (fenceZoe z cause s) z).state = .fenced := by
  by_cases fenced : (zoe s z).state = .fenced
  · rw [fenceZoe_still cause (.inr fenced), zoe_modZoe_same]
    exact fenced
  · obtain ⟨-, -, -, states⟩ := standing_eq_iff.mp (standing_fenceZoe cause noff fenced)
    rw [states, zoe_fenceOnly_same]
    rfl

/-- The fence bits of a reset state, which an entry of Degraded leaves. -/
theorem halfFenced_setService (st : Service) (reason : Nat) (s : State) (h : Nat) :
    halfFenced (setService st reason s) h = halfFenced s h := by
  unfold setService
  split <;> rfl

/-- A half marked as fenced. -/
def markFenced (h : Nat) (s : State) : State := if h = 0 then { s with rst.fencedEast := true } else { s with rst.fencedWest := true }

theorem markFenced_spec (h : Nat) (s : State) : (markFenced h s).pwr = s.pwr ∧ halfFenced (markFenced h s) h = true := by
  unfold markFenced halfFenced
  split <;> exact ⟨rfl, rfl⟩

/-- The Show of a partition that owns a Quad in a half that is fenced stops, and its sessions move to half k (R25, R157). -/
def partLeaves (k p : Nat) (s : State) : State :=
  let s := faultEnd p s.fab.gid.toNat s
  settleStop p (forAll (sessionsOf s p) (moveSession p k) s)

theorem standing_partLeaves (k p : Nat) (s : State) : standing (partLeaves k p s) = standing s :=
  (standing_settleStop ..).trans
    ((standing_of_plant (plant_forAll _ (plant_moveSession p k) _)).trans (standing_faultEnd ..))

/-- The partitions of a half leave it, and its Zoetropes are Fenced with cause 8 (R25, R61). -/
def halfStopped (h : Nat) (s : State) : State :=
  forAll ((List.range 16).map (16 * h + ·)) (fun z => fenceZoe z 8) (forAll (halfParts s h) (partLeaves (1 - h)) s)

theorem halfStopped_keeps (h : Nat) (s : State) : (halfStopped h s).pwr = s.pwr ∧ (halfStopped h s).rst = s.rst := by
  obtain ⟨pwr, rst, -⟩ := standing_eq_iff.mp (standing_forAll (halfParts s h) (standing_partLeaves (1 - h)) s)
  exact ⟨(forAll_keeps (·.pwr) _ _ (fun z u => (fenceZoe_keeps z 8 u).1) _).trans pwr,
    (forAll_keeps (·.rst) _ _ (fun z u => (fenceZoe_keeps z 8 u).2.1) _).trans rst⟩

theorem fenceHalf_eq {h : Nat} {s : State} (whole : halfFenced s h = false) :
    let u := halfStopped h (markFenced h s)
    let v := cacheDrop (1 - h) (fun l => decide (pchHalf u l.pch = h)) u
    fenceHalf h s = if v.rst.service = .serving then setService .degraded (100 + h) v else v := by
  unfold fenceHalf
  rw [if_neg (by simp [whole])]
  rfl

/-- Fencing a half leaves power, and the half is fenced. -/
theorem fenceHalf_spec (h : Nat) (s : State) : (fenceHalf h s).pwr = s.pwr ∧ halfFenced (fenceHalf h s) h = true := by
  cases already : halfFenced s h with
  | true =>
    unfold fenceHalf
    rw [if_pos already]
    exact ⟨rfl, already⟩
  | false =>
    obtain ⟨markPwr, marked⟩ := markFenced_spec h s
    obtain ⟨stopPwr, stopRst⟩ := halfStopped_keeps h (markFenced h s)
    have fenced (t : State) (ht : t.rst = (markFenced h s).rst) : halfFenced t h = true := by
      rw [← marked, halfFenced, halfFenced, ht]
    rw [fenceHalf_eq already]
    generalize hv : cacheDrop _ _ _ = v
    obtain ⟨pwr, rst, -⟩ := plant_eq_iff.mp (hv ▸ plant_cacheDrop ..)
    have kept := fenced v (rst.trans stopRst)
    split
    · exact ⟨(setService_pwr ..).trans (pwr.trans (stopPwr.trans markPwr)), (halfFenced_setService ..).trans kept⟩
    · exact ⟨pwr.trans (stopPwr.trans markPwr), kept⟩

end Sys2Proof.Machine
end

section
/-! PROOFS. Lanes that are taken to Dark: what the pair's traffic leaves alone, and that the chiplet's other lanes stay. -/

namespace Sys2Proof.Machine

open Sys2Proof Sys2Proof.Machine.Tables

/-- Power, and the state of each lane with whether it is under test. -/
def laneStates (s : State) : PwrSys × (Nat → LState × Bool) := (s.pwr, fun l => ((lane s l).state, (lane s l).underTest))

theorem laneStates_eq_iff {s t : State} : laneStates t = laneStates s ↔
    t.pwr = s.pwr ∧ ∀ l, (lane t l).state = (lane s l).state ∧ (lane t l).underTest = (lane s l).underTest := by
  simp [laneStates, funext_iff]

theorem laneStates_congr {s t : State} (pwr : t.pwr = s.pwr) (lanes : t.fab.lanes = s.fab.lanes) : laneStates t = laneStates s :=
  laneStates_eq_iff.mpr ⟨pwr, fun l => by unfold lane; rw [lanes]; exact ⟨rfl, rfl⟩⟩

theorem laneStates_emit (o : Output) (s : State) : laneStates (emit o s) = laneStates s := rfl

theorem laneStates_modVc (m c : Nat) (f : VcCredit → VcCredit) (s : State) : laneStates (modVc m c f s) = laneStates s :=
  laneStates_congr rfl rfl

/-- The fabric with its lanes as they are. -/
theorem laneStates_fab {f : FabSys} {s : State} (lanes : f.lanes = s.fab.lanes) : laneStates { s with fab := f } = laneStates s :=
  laneStates_congr rfl lanes

/-- A change of a lane's traffic. -/
theorem laneStates_modLane {l : Nat} {f : Lane → Lane} {s : State}
    (h : ∀ x, (f x).state = x.state ∧ (f x).underTest = x.underTest) : laneStates (modLane l f s) = laneStates s := by
  refine laneStates_eq_iff.mpr ⟨rfl, fun j => ?_⟩
  by_cases hj : j = l
  · rw [hj, lane_modLane_same]
    exact h _
  · rw [lane_modLane_ne _ _ hj]
    exact ⟨rfl, rfl⟩

theorem OnlyBanks.laneStates_eq {s t : State} (h : OnlyBanks s t) : laneStates t = laneStates s := by
  rw [h]
  rfl

theorem laneStates_forAll {α : Type} (ks : List α) {f : α → State → State} (h : ∀ k s, laneStates (f k s) = laneStates s) (s : State) :
    laneStates (forAll ks f s) = laneStates s := forAll_keeps laneStates ks f h s

/-! ### What goes out on a pair (R271, R275, R277) -/

theorem laneStates_sendCtrl (m : Nat) (o : Output) (s : State) : laneStates (sendCtrl m o s) = laneStates s := by
  unfold sendCtrl
  split <;> rfl

theorem laneStates_completePost (n : Nat) (slot : BitVec 1) (seq : BitVec 16) (st attempts : Byte) (s : State) :
    laneStates (completePost n slot seq st attempts s) = laneStates s := by
  refine (routerWord_onlyBanks ..).laneStates_eq.trans ?_
  split <;> rfl

theorem laneStates_cutParcel (p : TxParcel) (s : State) : laneStates (cutParcel p s) = laneStates s :=
  (laneStates_sendCtrl ..).trans ((laneStates_completePost ..).trans
    (laneStates_forAll _ (fun _ _ => (dropAccess_onlyBanks ..).laneStates_eq) s))

theorem laneStates_sendOn (l : Nat) (p : TxParcel) (i : Nat) (s : State) : laneStates (sendOn l p i s) = laneStates s := by
  unfold sendOn
  rw [laneStates_emit, laneStates_modVc, laneStates_modLane fun _ => ?_]
  exact ⟨rfl, rfl⟩

theorem laneStates_pumpParcel (fuel : Nat) (p : TxParcel) (s : State) : laneStates (pumpParcel fuel p s).2 = laneStates s := by
  induction fuel generalizing p s with
  | zero => rfl
  | succ n ih =>
    unfold pumpParcel
    split
    · rfl
    · split
      · rfl
      · split
        · rfl
        · exact (ih ..).trans (laneStates_sendOn ..)

theorem laneStates_pump (m : Nat) (s : State) : laneStates (pump m s) = laneStates s := by
  unfold pump
  split
  · rfl
  · refine Eq.trans rfl (List.foldlRecOn (motive := fun acc : List TxParcel × State => laneStates acc.2 = laneStates s) _ _ rfl
      fun acc kept p _ => ?_)
    split
    · have sent := (laneStates_pumpParcel (p.hdr.payloads - p.sent) p acc.2).trans kept
      dsimp only
      split
      · exact (laneStates_cutParcel ..).trans sent
      · exact sent
    · exact kept

theorem laneStates_flushResend (m : Nat) (s : State) : laneStates (flushResend m s) = laneStates s := by
  refine laneStates_forAll _ (fun e u => ?_) s
  split
  · rfl
  · next l _ =>
    dsimp only
    rw [laneStates_emit]
    refine (laneStates_fab (s := modLane l _ u) rfl).trans (laneStates_modLane fun _ => ?_)
    exact ⟨rfl, rfl⟩

theorem laneStates_pumpPair (m : Nat) (s : State) : laneStates (pumpPair m s) = laneStates s :=
  (laneStates_pump ..).trans (laneStates_flushResend ..)

theorem laneStates_poolLeave (m : Nat) (s : State) : laneStates (poolLeave m s) = laneStates s :=
  laneStates_forAll [0, 1, 2] (fun _ _ => laneStates_modVc ..) s

theorem laneStates_laneLeave (l : Nat) (s : State) : laneStates (laneLeave l s) = laneStates s := by
  unfold laneLeave
  split
  · rfl
  · refine (laneStates_fab (s := modLane l _ s) rfl).trans (laneStates_modLane fun _ => ?_)
    exact ⟨rfl, rfl⟩

/-! ### A lane taken to Dark (R271, R295, R305) -/

/-- Power is as it was, and so is every lane but l in its state. -/
def OnlyLane (l : Nat) (s t : State) : Prop :=
  t.pwr = s.pwr ∧ ∀ j, j ≠ l → (lane t j).state = (lane s j).state ∧ (lane t j).underTest = (lane s j).underTest

theorem OnlyLane.trans {l : Nat} {s t u : State} (h : OnlyLane l s t) (k : OnlyLane l t u) : OnlyLane l s u :=
  ⟨k.1.trans h.1, fun j hj => ⟨(k.2 j hj).1.trans (h.2 j hj).1, (k.2 j hj).2.trans (h.2 j hj).2⟩⟩

theorem onlyLane_modLane (l : Nat) (f : Lane → Lane) (s : State) : OnlyLane l s (modLane l f s) :=
  ⟨rfl, fun j hj => by rw [lane_modLane_ne _ _ hj]; exact ⟨rfl, rfl⟩⟩

theorem onlyLane_of_laneStates {l : Nat} {s t : State} (h : laneStates t = laneStates s) : OnlyLane l s t :=
  ⟨(laneStates_eq_iff.mp h).1, fun j _ => (laneStates_eq_iff.mp h).2 j⟩

/-- A lane that leaves traffic is in its new state; the other lanes stay. -/
theorem laneOut_spec (l : Nat) (st : LState) (s : State) : OnlyLane l s (laneOut l st s) ∧ (lane (laneOut l st s) l).state = st := by
  unfold laneOut
  split
  · exact ⟨onlyLane_modLane .., by rw [lane_modLane_same]⟩
  · next m _ =>
    dsimp only
    generalize hu : (if inPool (lane s l) then poolLeave m (laneLeave l s) else s) = u
    have left : laneStates u = laneStates s := by
      rw [← hu]
      split
      · exact (laneStates_poolLeave ..).trans (laneStates_laneLeave ..)
      · rfl
    have sent := laneStates_pumpPair m (modLane l (fun x => { x with state := st }) u)
    refine ⟨(onlyLane_of_laneStates left).trans ((onlyLane_modLane ..).trans (onlyLane_of_laneStates sent)), ?_⟩
    rw [((laneStates_eq_iff.mp sent).2 l).1, lane_modLane_same]

/-- Whether a lane, not under test, carries no traffic: Dark or Spared. -/
def laneGone (s : State) (l : Nat) : Prop := (lane s l).underTest = false ∧ ((lane s l).state = .dark ∨ (lane s l).state = .spared)

theorem laneKill_only (l : Nat) (s : State) : OnlyLane l s (laneKill l s) := by
  unfold laneKill
  dsimp only
  split
  · exact onlyLane_modLane ..
  · split
    · exact ⟨rfl, fun _ _ => ⟨rfl, rfl⟩⟩
    · exact (laneOut_spec ..).1.trans (onlyLane_modLane ..)

theorem laneKill_gone {l : Nat} {s : State} (h : (lane s l).underTest = false) : laneGone (laneKill l s) l := by
  unfold laneKill
  dsimp only
  rw [if_neg (by simp [h])]
  split
  · next still => exact ⟨h, still⟩
  · unfold laneGone laneDark
    rw [lane_modLane_same]
    exact ⟨rfl, .inl (laneOut_spec ..).2⟩

/-- No lane taken to Dark brings another under test, or back. -/
theorem laneKill_keeps (k l : Nat) (s : State) : ((lane s l).underTest = false → (lane (laneKill k s) l).underTest = false)
    ∧ (laneGone s l → laneGone (laneKill k s) l) := by
  by_cases hl : l = k
  · subst hl
    exact ⟨fun h => (laneKill_gone h).1, fun h => laneKill_gone h.1⟩
  · obtain ⟨state, test⟩ := (laneKill_only k s).2 l hl
    unfold laneGone
    rw [state, test]
    exact ⟨id, id⟩

/-- After all lanes of a list were taken to Dark, each of them that was not under test is gone. -/
theorem forAll_laneKill {ks : List Nat} {l : Nat} (hl : l ∈ ks) {s : State} (h : (lane s l).underTest = false) :
    laneGone (forAll ks laneKill s) l := by
  obtain ⟨before, after, rfl⟩ := List.append_of_mem hl
  have still := forAll_inv (fun u => (lane u l).underTest = false) before laneKill (fun k u => (laneKill_keeps k l u).1) s h
  have later := forAll_inv (laneGone · l) after laneKill (fun k u => (laneKill_keeps k l u).2) _ (laneKill_gone still)
  simpa [forAll, List.foldl_append] using later

theorem forAll_laneKill_pwr (ks : List Nat) (s : State) : (forAll ks laneKill s).pwr = s.pwr :=
  forAll_keeps (·.pwr) ks laneKill (fun k u => (laneKill_only k u).1) s

end Sys2Proof.Machine
end

section
/-! PROOFS. A core domain that leaves regulation, and what goes with it. -/

namespace Sys2Proof.Machine

open Sys2Proof Sys2Proof.Machine.Tables

/-! ### What each kind of domain supplies (R349; log entry 62) -/

theorem mem_halfZoes {h z : Nat} : z ∈ halfZoes h ↔ z / 16 = h := by
  simp only [halfZoes, List.mem_map, List.mem_range]
  exact ⟨fun ⟨i, hi, e⟩ => by omega, fun e => ⟨z % 16, Nat.mod_lt _ (by decide), by omega⟩⟩

theorem halfZoes_nodup (h : Nat) : (halfZoes h).Nodup := List.nodup_range.map fun _ _ => Nat.add_left_cancel

/-- A half without rails on its light die: its Zoetropes are Off, and nothing else differs (R106). -/
theorem lightOff_spec (h : Nat) (s : State) : lightOff h s = { s with zoes := (lightOff h s).zoes }
    ∧ ∀ z, z / 16 = h → (zoe (lightOff h s) z).state = .off := by
  obtain ⟨frame, each⟩ := zoe_forAll_own (f := fun z => modZoe z zoeOff) (g := zoeOff) (now := timeNs s)
    (fun z u _ => ⟨onlyZoe_modZoe .., zoe_modZoe_same ..⟩) (halfZoes_nodup h) s rfl
  refine ⟨frame, fun z hz => ?_⟩
  have own := each z
  rw [if_pos (mem_halfZoes.mpr hz)] at own
  exact congrArg Zoe.state own

theorem lightOff_pwr (h : Nat) (s : State) : (lightOff h s).pwr = s.pwr := by rw [(lightOff_spec h s).1]

theorem dmaComplete_onlyBanks (op : DmaOp) (st : Byte) (s : State) : OnlyBanks s (dmaComplete op st s) := routerWord_onlyBanks ..

/-- Descriptors that are cut off at a port leave power and the stacks. -/
theorem cutDma_keeps (p : DmaOp → Bool) (z : Nat) (s : State) :
    (cutDma p z s).pwr = s.pwr ∧ (cutDma p z s).hbm.hstacks = s.hbm.hstacks := by
  have cut := plant_forAll ((dmaOpen (zoe s z)).filter p) (fun o u => (dmaComplete_onlyBanks o 5 u).plant_eq)
    (modZoe z (fun x => { x with dma := x.dma.filter (fun o => o.finished || !p o) }) s)
  obtain ⟨pwr, -, hbm, -⟩ := plant_eq_iff.mp cut
  exact ⟨pwr, hbm⟩

/-- A stack in block reset is not up; power stays (R369). -/
theorem resetHbm_spec (k : Nat) (s : State) : (resetHbm k s).pwr = s.pwr ∧ (hstack (resetHbm k s) k).up = false := by
  unfold resetHbm hstack
  dsimp only
  rw [forAll_keeps (·.pwr) _ _ (fun z u => (cutDma_keeps _ z u).1), forAll_keeps (·.hbm.hstacks) _ _ (fun z u => (cutDma_keeps _ z u).2)]
  exact ⟨rfl, congrArg Stack.up (hstack_modStack_same ..)⟩

/-- The reads of a guest site end: power stays (R256). -/
theorem endTrds_pwr (g : Nat) (s : State) : (endTrds g s).pwr = s.pwr := by
  unfold endTrds
  rw [modGuest_pwr]
  refine forAll_keeps (·.pwr) _ _ (fun _ u => ?_) s
  unfold onesToHost
  split <;> rfl

/-- A chiplet's modules fail after its lanes: power and lanes stay. -/
theorem kalModsFail_keeps (c : Nat) (s : State) :
    (forAll (kalMods c) (fun m => modUcie (c / 4) m (fun x => { x with state := 4 })) s).pwr = s.pwr
      ∧ (forAll (kalMods c) (fun m => modUcie (c / 4) m (fun x => { x with state := 4 })) s).fab = s.fab := by
  refine ⟨forAll_keeps (·.pwr) _ _ (fun _ _ => ?_) s, forAll_keeps (·.fab) _ _ (fun _ _ => ?_) s⟩ <;> rfl

/-! ### The blocks of a domain -/

/-- A domain that is removed stays on the list of those that are. -/
theorem dropDomain_domainsOff (d : Domain) (s : State) : (dropDomain d s).pwr.domainsOff = s.pwr.domainsOff := by
  cases d with
  | quad z => exact congrArg PwrSys.domainsOff (fenceZoe_keeps ..).1
  | uncore h => exact congrArg PwrSys.domainsOff (fenceHalf_spec ..).1
  | hubCore h => exact congrArg PwrSys.domainsOff (fenceHalf_spec ..).1
  | lightAnalogue h => exact congrArg PwrSys.domainsOff ((lightOff_pwr ..).trans (fenceHalf_spec ..).1)
  | lightDigital h => exact congrArg PwrSys.domainsOff ((lightOff_pwr ..).trans (fenceHalf_spec ..).1)
  | kaleidoscope c => exact congrArg PwrSys.domainsOff ((kalModsFail_keeps ..).1.trans (forAll_laneKill_pwr ..))
  | hbm k => exact congrArg PwrSys.domainsOff (resetHbm_spec ..).1
  | guest g => exact congrArg PwrSys.domainsOff ((modGuest_pwr ..).trans (endTrds_pwr ..))

theorem dropDomain_quad {z : ZoeId} {s : State} (on : (zoe s z.val).state ≠ .off) :
    (zoe (dropDomain (.quad z) s) z.val).state = .fenced := fenceZoe_fenced _ (s := stopQuad z.val s) on

theorem dropDomain_hub {d : Domain} {h : Half} (hd : d = .hubCore h ∨ d = .uncore h) (s : State) :
    halfFenced (dropDomain d s) (halfNo h) = true := by
  rcases hd with rfl | rfl <;> exact (fenceHalf_spec ..).2

theorem dropDomain_light {d : Domain} {h : Half} (hd : d = .lightAnalogue h ∨ d = .lightDigital h) {z : Nat}
    (hz : z / 16 = halfNo h) (s : State) : (zoe (dropDomain d s) z).state = .off := by
  rcases hd with rfl | rfl <;> exact (lightOff_spec ..).2 z hz

theorem dropDomain_kaleidoscope {c : Fin 8} {l : Nat} (hl : l / 128 = c.val) {s : State} (idle : (lane s l).underTest = false) :
    (lane (dropDomain (.kaleidoscope c) s) l).state = .dark ∨ (lane (dropDomain (.kaleidoscope c) s) l).state = .spared := by
  have listed : l ∈ chipLanes c.val :=
    List.mem_map.mpr ⟨l % 128, List.mem_range.mpr (Nat.mod_lt _ (by decide)), by omega⟩
  have same : lane (dropDomain (.kaleidoscope c) s) l = lane (forAll (chipLanes c.val) laneKill s) l :=
    congrArg (fun f : FabSys => look f.lanes l {}) (kalModsFail_keeps ..).2
  rw [same]
  exact (forAll_laneKill listed idle).2

theorem dropDomain_guest (g : Site) (s : State) : (guest (dropDomain (.guest g) s) (siteNo g)).isHeld = true
    ∧ (guest (dropDomain (.guest g) s) (siteNo g)).link = 0 := by
  unfold dropDomain
  rw [guest_modGuest_same]
  exact ⟨rfl, rfl⟩

/-! ### The row (R1, R349) -/

/-- The state in which a domain is noted as removed and its fault is raised. -/
def domainNoted (d : Domain) (s : State) : State :=
  raiseFault 0x0901 13 0 0xFF (domainNo d) { s with pwr.domainsOff := s.pwr.domainsOff ++ [domainNo d] }

theorem exec_domainOutOfRegulation_still {d : Domain} {s : State}
    (h : domainFitted s d = false ∨ s.pwr.railsOn = false ∨ domainNo d ∈ s.pwr.domainsOff) :
    exec (.domainOutOfRegulation d) s = .next s := congrArg Host.Outcome.next (if_pos (by simpa using h))

theorem exec_domainOutOfRegulation {d : Domain} {s : State} (fitted : domainFitted s d = true) (rails : s.pwr.railsOn = true)
    (there : domainNo d ∉ s.pwr.domainsOff) : exec (.domainOutOfRegulation d) s = .next (dropDomain d (domainNoted d s)) :=
  congrArg Host.Outcome.next (if_neg (by simp [fitted, rails, there]))

theorem domainNoted_spec (d : Domain) (s : State) : domainNo d ∈ (domainNoted d s).pwr.domainsOff
    ∧ (domainNoted d s).fab = s.fab ∧ ∀ z, zoe (domainNoted d s) z = zoe s z := by
  unfold domainNoted
  refine ⟨?_, raiseFault_fab .., fun z => zoe_raiseFault ..⟩
  rw [raiseFault_pwr]
  exact List.mem_append_right _ (List.mem_singleton_self _)

/-- A domain out of regulation is removed with the blocks that it supplies. -/
theorem domainRemoved (d : Domain) (s : State) :
    let t := dropDomain d (domainNoted d s)
    domainNo d ∈ t.pwr.domainsOff
      ∧ (∀ z, d = .quad z → (zoe s z.val).state ≠ .off → (zoe t z.val).state = .fenced)
      ∧ (∀ h, d = .hubCore h ∨ d = .uncore h → halfFenced t (halfNo h) = true)
      ∧ (∀ h z, d = .lightAnalogue h ∨ d = .lightDigital h → z / 16 = halfNo h → (zoe t z).state = .off)
      ∧ (∀ k, d = .hbm k → (hstack t k.val).up = false)
      ∧ (∀ c l, d = .kaleidoscope c → l / 128 = c.val → (lane s l).underTest = false →
        (lane t l).state = .dark ∨ (lane t l).state = .spared)
      ∧ (∀ g, d = .guest g → (guest t (siteNo g)).isHeld = true ∧ (guest t (siteNo g)).link = 0) := by
  intro t
  obtain ⟨noted, fab, zoes⟩ := domainNoted_spec d s
  refine ⟨(dropDomain_domainsOff ..).symm ▸ noted, ?_, fun h hd => dropDomain_hub hd _, fun h z hd hz => dropDomain_light hd hz _,
    ?_, ?_, ?_⟩
  · rintro z rfl on
    exact dropDomain_quad (by rwa [zoes])
  · rintro k rfl
    exact (resetHbm_spec ..).2
  · rintro c l rfl hl idle
    exact dropDomain_kaleidoscope hl (by rwa [lane, fab])
  · rintro g rfl
    exact dropDomain_guest g _

end Sys2Proof.Machine
end

section
/-! PROOFS. A sensor's reading: what it changes, and the trip and the stop that it can cause. -/

namespace Sys2Proof.Machine

open Sys2Proof Sys2Proof.Machine.Tables

/-! ### What a reading changes (R358) -/

/-- Nothing differs but the sensors, the fault collector and what it signals. -/
def OnlySensed (s t : State) : Prop :=
  t = { s with
    pwr.sensors := t.pwr.sensors, pwr.suspects := t.pwr.suspects, flt := t.flt, host.pf := t.host.pf, host.vfs := t.host.vfs
    out := t.out }

theorem OnlySensed.refl (s : State) : OnlySensed s s := rfl

theorem OnlySensed.trans {s t u : State} (h : OnlySensed s t) (k : OnlySensed t u) : OnlySensed s u :=
  Eq.trans k (by unfold OnlySensed at h; rw [h])

theorem onlySensed_of_faults {s t : State} (h : OnlyFaults s t) : OnlySensed s t := by
  unfold OnlyFaults at h
  unfold OnlySensed
  rw [h]

/-- Whether the readings themselves, of every sensor, are as they were. -/
def SameReadings (s t : State) : Prop := ∀ j, (sensor t j).sampled = (sensor s j).sampled ∧ (sensor t j).temp = (sensor s j).temp

theorem SameReadings.refl (s : State) : SameReadings s s := fun _ => ⟨rfl, rfl⟩

theorem SameReadings.trans {s t u : State} (h : SameReadings s t) (k : SameReadings t u) : SameReadings s u :=
  fun j => ⟨(k j).1.trans (h j).1, (k j).2.trans (h j).2⟩

theorem sameReadings_of_pwr {s t : State} (h : t.pwr = s.pwr) : SameReadings s t := by
  intro j
  unfold sensor
  rw [h]
  exact ⟨rfl, rfl⟩

theorem sameReadings_modSensor {k : Nat} {f : Sensor → Sensor} {s : State}
    (h : ∀ x, (f x).sampled = x.sampled ∧ (f x).temp = x.temp) : SameReadings s (modSensor k f s) := by
  intro j
  by_cases hj : j = k
  · rw [hj, sensor_modSensor_same]
    exact h _
  · rw [sensor_modSensor_ne _ _ hj]
    exact ⟨rfl, rfl⟩

/-- A sensor judged, not read: nothing but what the module thinks of its sensors, and the faults that this raises. -/
def Judged (s t : State) : Prop := OnlySensed s t ∧ SameReadings s t

theorem Judged.refl (s : State) : Judged s s := ⟨.refl s, .refl s⟩

theorem Judged.trans {s t u : State} (h : Judged s t) (k : Judged t u) : Judged s u := ⟨h.1.trans k.1, h.2.trans k.2⟩

theorem judged_modSensor {k : Nat} {f : Sensor → Sensor} {s : State} (h : ∀ x, (f x).sampled = x.sampled ∧ (f x).temp = x.temp) :
    Judged s (modSensor k f s) := ⟨rfl, sameReadings_modSensor h⟩

theorem judged_raiseFault {code : BitVec 16} (h : faultClass code ≠ 2) (kind index part detail : Nat) (s : State) :
    Judged s (raiseFault code kind index part detail s) :=
  ⟨onlySensed_of_faults (raiseFault_onlyFaults h ..), sameReadings_of_pwr (raiseFault_pwr ..)⟩

theorem judged_markSuspect (k : Nat) (s : State) : Judged s (markSuspect k s) := by
  unfold markSuspect
  split
  · exact .refl s
  · dsimp only
    have counted : Judged s { s with pwr.suspects := s.pwr.suspects + 1 } := ⟨rfl, fun _ => ⟨rfl, rfl⟩⟩
    have marked := counted.trans (judged_modSensor (k := k) (f := fun x => { x with suspect := true, since := none }) fun _ => ⟨rfl, rfl⟩)
    have noted := marked.trans (judged_raiseFault (code := 0x0903) (by decide) 8 k 0xFF k _)
    split
    · exact noted.trans (judged_raiseFault (by decide) ..)
    · exact noted

theorem judged_diodeSuspicion (k : Nat) (t m : Int) (s : State) : Judged s (diodeSuspicion k t m s) := by
  have since (a : Option DWord) : Judged s (modSensor k (fun x => { x with since := a }) s) := judged_modSensor fun _ => ⟨rfl, rfl⟩
  unfold diodeSuspicion
  dsimp only
  split
  · exact .refl s
  · split
    · split
      · exact judged_markSuspect ..
      · exact .refl s
    · split
      · exact since none
      · split
        · exact since _
        · split
          · exact judged_modSensor fun _ => ⟨rfl, rfl⟩
          · exact .refl s

/-- A reading leaves all but the sensors and the faults that it raises; sensor k has it. -/
theorem takeSample_spec (k : Nat) (t : Int) (s : State) : OnlySensed s (takeSample k t s)
    ∧ (sensor (takeSample k t s) k).sampled = true ∧ (sensor (takeSample k t s) k).temp = t := by
  unfold takeSample
  dsimp only
  generalize hr : modSensor k (fun x => { x with sampled := true, temp := t, failed := x.failed || openOrShort t }) s = r
  have read : OnlySensed s r ∧ (sensor r k).sampled = true ∧ (sensor r k).temp = t := by
    subst hr
    rw [sensor_modSensor_same]
    exact ⟨rfl, rfl, rfl⟩
  generalize hu : (if (sensor r k).failed = true then markSuspect k r else r) = u
  have failed : Judged r u := by
    subst hu
    split
    · exact judged_markSuspect ..
    · exact .refl r
  have valued {v : State} (judged : Judged u v) {f : Sensor → Sensor} (h : ∀ x, (f x).sampled = x.sampled ∧ (f x).temp = x.temp) :
      OnlySensed s (modSensor k f v) ∧ (sensor (modSensor k f v) k).sampled = true ∧ (sensor (modSensor k f v) k).temp = t := by
    obtain ⟨only, readings⟩ := failed.trans (judged.trans (judged_modSensor h))
    exact ⟨read.1.trans only, (readings k).1.trans read.2.1, (readings k).2.trans read.2.2⟩
  cases medianOf (goodReadings u (neighboursOf k)) with
  | none => exact valued (.refl u) fun _ => ⟨rfl, rfl⟩
  | some m => exact valued (judged_diodeSuspicion ..) fun _ => ⟨rfl, rfl⟩

/-- A stack's report changes its sensor and its stack. -/
theorem takeReport_spec (k : Nat) (t : Int) (s : State) :
    takeReport k t s = { s with pwr.sensors := (takeReport k t s).pwr.sensors, hbm.hstacks := (takeReport k t s).hbm.hstacks }
      ∧ hstack (takeReport k t s) k
        = { hstack s k with temp := BitVec.ofInt 8 (max 0 (min 255 (t / 16))), refx2 := decide (deg 85 < t) }
      ∧ (∀ j, j ≠ k → hstack (takeReport k t s) j = hstack s j)
      ∧ (sensor (takeReport k t s) (156 + k)).value = t := by
  refine ⟨rfl, hstack_modStack_same .., fun j hj => hstack_modStack_ne _ _ hj, ?_⟩
  exact congrArg Sensor.value (sensor_modSensor_same ..)

end Sys2Proof.Machine
end

section
/-! PROOFS. The hard trip and the orderly stop of a sensor. -/

namespace Sys2Proof.Machine

open Sys2Proof Sys2Proof.Machine.Tables

/-! ### The hard trip (R362, R367) -/

theorem setService_rst (st : Service) (reason : Nat) (s : State) :
    (setService st reason s).rst = { s.rst with service := st, cause := (setService st reason s).rst.cause } := by
  unfold setService
  split
  · next same => rw [← same]
  · rfl

/-- A Fatal fault puts the module into Fault-held (R375). -/
theorem raiseFault_fatal {code : BitVec 16} (h : faultClass code = 2) (kind index part detail : Nat) (s : State) :
    (raiseFault code kind index part detail s).rst
      = { s.rst with fatalHeld := true, service := .faultHeld, cause := (raiseFault code kind index part detail s).rst.cause } := by
  unfold raiseFault
  simp only [h, if_true, settleAlert_rst]
  rw [setService_rst]
  split <;> simp only [signalVec_rst]

/-- A module reset notes its source and its number, and turns the core rails off (R367, R401). -/
theorem resetNow_spec (src : BitVec 4) (s : State) : (resetNow src s).rst.last = src ∧ (resetNow src s).rst.number = s.rst.number + 1
    ∧ (resetNow src s).rst.resetDue = none ∧ (resetNow src s).pwr.railsOn = false := by
  unfold resetNow
  dsimp only
  split
  · obtain ⟨pwr, rst, -⟩ := plant_eq_iff.mp (plant_raiseFault (code := 0x0906) (by decide) 13 0 0xFF 1 _)
    rw [pwr, rst, setService_rst, setService_pwr]
    exact ⟨rfl, rfl, rfl, rfl⟩
  · rw [setService_rst, setService_pwr]
    exact ⟨rfl, rfl, rfl, rfl⟩

theorem hardTrip_spec (k : Nat) (s : State) : (hardTrip k s).rst.service = .faultHeld ∧ (hardTrip k s).rst.last = 3
    ∧ (hardTrip k s).pwr.tripped = true ∧ (hardTrip k s).pwr.railsOn = false
    ∧ (hardTrip k s).rst.number = s.rst.number + 1 ∧ (hardTrip k s).rst.resetDue = none := by
  obtain ⟨last, number, due, rails⟩ := resetNow_spec 3 s
  unfold hardTrip
  dsimp only
  rw [raiseFault_fatal (by decide), raiseFault_pwr]
  exact ⟨rfl, last, rfl, rails, number, due⟩

/-! ### The orderly stop (R361) -/

/-- Without Shows the end of a command in progress leaves the plant alone. -/
theorem plant_stopCommand (w : Fn) {s : State} (h : s.shows = []) : plant (stopCommand w s) = plant s := by
  unfold stopCommand failCmd
  split
  · rfl
  · next r _ =>
    dsimp only
    have noShow : find s.shows (cmdPart w (cmdParams s w)) = none := by rw [h]; rfl
    rw [noShow]
    split
    · exact plant_endCmd ..
    · split
      · exact plant_endCmd ..
      · rfl

theorem beginStop_none {p : Nat} {s : State} (h : find s.shows p = none) (faulted : Bool) : beginStop p faulted s = s := by
  unfold beginStop
  rw [h]

theorem settleStop_none {p : Nat} {s : State} (h : find s.shows p = none) : settleStop p s = s := by
  unfold settleStop stopDone
  rw [h]
  rfl

/-- Without Shows the stop of a partition's Show leaves the plant alone: its sessions are told, or forced to park. -/
theorem plant_stopShow (p : Nat) {s : State} (h : s.shows = []) : plant (stopShow p s) = plant s := by
  have noShow {u : State} (hu : plant u = plant s) : find u.shows p = none := by
    rw [(plant_eq_iff.mp hu).2.2.2.1, h]
    rfl
  unfold stopShow
  dsimp only
  generalize hu : forAll (sessionsOf s p) _ s = u
  have told : plant u = plant s := by
    rw [← hu]
    refine plant_forAll _ (fun e v => ?_) s
    split
    · rfl
    · exact plant_sessionEvent ..
  rw [beginStop_none (noShow told)]
  have ended := (plant_forAll (List.range 8) (plant_abandonStep p) u).trans told
  have parked (es : List (Nat × Session)) (v : State) :=
    plant_forAll es (fun e w => plant_forcePark p (sidOf e.1) 0x15 w) v
  rw [settleStop_none (noShow ((parked ..).trans ended))]
  exact (parked ..).trans ended

/-- Without Shows the end of the commands in progress, and of every Show, leaves the plant alone. -/
theorem plant_stopAll {s : State} (h : s.shows = []) (ws : List Fn) (ps : List Nat) :
    plant (forAll ps stopShow (forAll ws stopCommand s)) = plant s := by
  have shows {u : State} (hu : plant u = plant s) : u.shows = [] := (plant_eq_iff.mp hu).2.2.2.1.trans h
  exact forAll_inv (plant · = plant s) ps stopShow (fun p u hu => (plant_stopShow p (shows hu)).trans hu) _
    (forAll_inv (plant · = plant s) ws stopCommand (fun w u hu => (plant_stopCommand w (shows hu)).trans hu) s rfl)

theorem beginOrderly_spec (c : StopCause) {s : State} (shows : s.shows = []) (fatal : s.rst.fatalHeld = false) :
    (beginOrderly c s).rst.service = .stopping ∧ (beginOrderly c s).rst.resetDue = s.rst.resetDue
      ∧ (beginOrderly c s).pwr.stop = some c ∧ (beginOrderly c s).pwr.stopHeld = s.pwr.stopHeld
      ∧ (beginOrderly c s).hbm.hstacks = s.hbm.hstacks := by
  unfold beginOrderly
  dsimp only
  rw [if_neg (by simp [fatal])]
  generalize hu : setService .stopping 200 _ = u
  have noShow : u.shows = [] := by rw [← hu, setService_shows]; exact shows
  obtain ⟨pwr, rst, hbm, -⟩ := plant_eq_iff.mp ((plant_settleAlert _).trans (plant_stopAll noShow (Fn.pf :: allParts.map Fn.vf) (List.range 12)))
  rw [pwr, rst, hbm, ← hu, setService_rst, setService_pwr, setService_hbm]
  exact ⟨rfl, rfl, rfl, rfl, rfl⟩

/-- What the stop that a sensor asks for meets: rails, a Marionette that serves, and no stop, fault or Show in its way. -/
structure StopReady (s : State) : Prop where
  rails : s.pwr.railsOn = true
  serves : mrtServes s = true
  run : s.pwr.stopRun = false
  stop : s.pwr.stop = none
  stopped : s.pwr.stopped = false
  fatal : s.rst.fatalHeld = false
  shows : s.shows = []

/-- A reading leaves what a stop meets. -/
theorem StopReady.of_frame {s v : State} (h : StopReady s) (pwr : v.pwr = { s.pwr with sensors := v.pwr.sensors, suspects := v.pwr.suspects })
    (mrt : v.mrt = s.mrt) (rst : v.rst = s.rst) (shows : v.shows = s.shows) : StopReady v where
  rails := by rw [pwr]; exact h.rails
  serves := by rw [mrtServes, holderActive, mrt]; exact h.serves
  run := by rw [pwr]; exact h.run
  stop := by rw [pwr]; exact h.stop
  stopped := by rw [pwr]; exact h.stopped
  fatal := by rw [rst]; exact h.fatal
  shows := by rw [shows]; exact h.shows

/-- A sensor above its orderly-stop threshold starts the stop, as one of its causes (R361). -/
theorem stopBySensor_spec (k : Nat) {s : State} (h : StopReady s) :
    (stopBySensor k s).rst.service = .stopping ∧ (stopBySensor k s).rst.resetDue = s.rst.resetDue
      ∧ (stopBySensor k s).pwr.stop = some (.sensor k) ∧ k ∈ (stopBySensor k s).pwr.stopHeld
      ∧ (stopBySensor k s).hbm.hstacks = s.hbm.hstacks := by
  unfold stopBySensor
  generalize hu : (if s.pwr.stopHeld.contains k = true ∨ (!s.pwr.railsOn) = true then s
    else { s with pwr.stopHeld := s.pwr.stopHeld ++ [k] }) = u
  have held : k ∈ u.pwr.stopHeld ∧ u = { s with pwr.stopHeld := u.pwr.stopHeld } := by
    subst hu
    split
    · next c => exact ⟨by simpa [h.rails] using c, rfl⟩
    · exact ⟨List.mem_append_right _ (List.mem_singleton_self k), rfl⟩
  obtain ⟨mem, frame⟩ := held
  have asked : askStop (.sensor k) u = beginOrderly (.sensor k) u := by
    have serves : mrtServes u = true := by rw [frame]; exact h.serves
    unfold askStop
    rw [if_neg (by rw [frame]; simp [h.rails, h.run, h.stop, h.stopped]), if_pos serves]
  obtain ⟨service, due, stop, stopHeld, hbm⟩ :=
    beginOrderly_spec (.sensor k) (s := u) (by rw [frame]; exact h.shows) (by rw [frame]; exact h.fatal)
  rw [asked, service, due, stop, stopHeld, hbm]
  exact ⟨rfl, by rw [frame], rfl, mem, by rw [frame]⟩

theorem coolSensor_still (k : Nat) {s : State} (h : s.pwr.stopHeld = []) : coolSensor k s = s := by
  unfold coolSensor
  split
  · rfl
  · exact if_neg (by simp [h])

end Sys2Proof.Machine
end

section
/-! PROOFS. The row of a sensor's reading, and of a stack's report. -/

namespace Sys2Proof.Machine

open Sys2Proof Sys2Proof.Machine.Tables

/-- What a value of sensor k above or below its thresholds leads to (R361, R362). -/
def sensorActs (k : Nat) (s : State) : State :=
  if s.pwr.railsOn ∧ aboveDeg s k (tripThreshold k) then hardTrip k s
  else if aboveDeg s k (stopThreshold k) then stopBySensor k s
  else coolSensor k s

theorem exec_sensorSample_unread {k : Fin 162} {s : State} (temp : Int) (h : readable s k.val = false) :
    exec (.sensorSample k temp) s = .next s := congrArg Host.Outcome.next (if_pos (by simp [h]))

theorem exec_sensorSample {k : Fin 162} {s : State} (temp : Int) (h : readable s k.val = true) :
    exec (.sensorSample k temp) s = .next (dueReset (settleAlert (sensorActs k.val
      (if k.val < 156 then takeSample k.val temp s else takeReport (k.val - 156) temp s)))) :=
  congrArg Host.Outcome.next (if_neg (by simp [h]))

/-- With no reset due nothing but the alert line follows. -/
theorem settled_of_none {u : State} (h : u.rst.resetDue = none) : dueReset (settleAlert u) = settleAlert u := by
  unfold dueReset
  rw [settleAlert_rst, h]

/-! ### What a value leads to -/

theorem sensorActs_trip {k : Nat} {v : State} (rails : v.pwr.railsOn = true) (trip : aboveDeg v k (tripThreshold k) = true) :
    sensorActs k v = hardTrip k v := if_pos ⟨rails, trip⟩

theorem sensorActs_stop {k : Nat} {v : State} (trip : aboveDeg v k (tripThreshold k) = false)
    (stop : aboveDeg v k (stopThreshold k) = true) : sensorActs k v = stopBySensor k v := by
  unfold sensorActs
  rw [if_neg (by simp [trip]), if_pos stop]

theorem sensorActs_cool {k : Nat} {v : State} (trip : aboveDeg v k (tripThreshold k) = false)
    (stop : aboveDeg v k (stopThreshold k) = false) (held : v.pwr.stopHeld = []) : sensorActs k v = v := by
  unfold sensorActs
  rw [if_neg (by simp [trip]), if_neg (by simp [stop]), coolSensor_still k held]

/-- The end of a sample that starts an orderly stop. -/
theorem sample_stops {k : Nat} {v : State} (ready : StopReady v) (due : v.rst.resetDue = none)
    (trip : aboveDeg v k (tripThreshold k) = false) (stop : aboveDeg v k (stopThreshold k) = true) :
    let t := dueReset (settleAlert (sensorActs k v))
    t.rst.service = .stopping ∧ t.pwr.stop = some (.sensor k) ∧ k ∈ t.pwr.stopHeld ∧ t.hbm.hstacks = v.hbm.hstacks := by
  obtain ⟨service, kept, cause, held, hbm⟩ := stopBySensor_spec k ready
  intro t
  have ht : t = settleAlert (stopBySensor k v) := by
    rw [← settled_of_none (kept.trans due), ← sensorActs_stop trip stop]
  rw [ht, settleAlert_rst, settleAlert_pwr, settleAlert_hbm]
  exact ⟨service, cause, held, hbm⟩

/-- The end of a sample whose value is below the thresholds. -/
theorem sample_kept {k : Nat} {v : State} (due : v.rst.resetDue = none) (trip : aboveDeg v k (tripThreshold k) = false)
    (stop : aboveDeg v k (stopThreshold k) = false) (held : v.pwr.stopHeld = []) :
    dueReset (settleAlert (sensorActs k v)) = settleAlert v := by
  rw [sensorActs_cool trip stop held, settled_of_none due]

/-! ### Sensors of dies and boards (R357 to R362) -/

theorem readable_sensor {k : Nat} (h : k < 156) (s : State) : readable s k = s.pwr.auxOn := by
  unfold readable
  simp [h]

theorem sensorRow (k : Fin 162) (temp : Int) (s : State) (low : k.val < 156) :
    let v := takeSample k.val temp s
    (s.pwr.auxOn = false → exec (.sensorSample k temp) s = .next s)
    ∧ (s.pwr.auxOn = true → s.rst.resetDue = none →
      (v.pwr.railsOn = true → aboveDeg v k.val (tripThreshold k.val) = true → ∃ t, exec (.sensorSample k temp) s = .next t
        ∧ t.rst.service = .faultHeld ∧ t.rst.last = 3 ∧ t.pwr.tripped = true ∧ t.pwr.railsOn = false ∧ t.rst.number = s.rst.number + 1)
      ∧ (aboveDeg v k.val (tripThreshold k.val) = false → aboveDeg v k.val (stopThreshold k.val) = true → v.pwr.railsOn = true →
        mrtServes s = true → s.pwr.stopRun = false → s.pwr.stop = none → s.pwr.stopped = false → s.rst.fatalHeld = false → s.shows = [] →
        ∃ t, exec (.sensorSample k temp) s = .next t ∧ t.rst.service = .stopping ∧ t.pwr.stop = some (.sensor k.val) ∧ k.val ∈ t.pwr.stopHeld)
      ∧ (aboveDeg v k.val (tripThreshold k.val) = false → aboveDeg v k.val (stopThreshold k.val) = false → s.pwr.stopHeld = [] →
        ∃ t, exec (.sensorSample k temp) s = .next t ∧ sensor t k.val = sensor v k.val ∧ t.rst = s.rst ∧ t.pwr.stop = s.pwr.stop
          ∧ (sensor t k.val).sampled = true ∧ (sensor t k.val).temp = temp)) := by
  intro v
  obtain ⟨only, sampled, reading⟩ : OnlySensed s v ∧ (sensor v k.val).sampled = true ∧ (sensor v k.val).temp = temp :=
    takeSample_spec k.val temp s
  have rst : v.rst = s.rst := by rw [only]
  refine ⟨fun off => exec_sensorSample_unread temp ((readable_sensor low s).trans off), fun on due => ?_⟩
  have run := exec_sensorSample temp ((readable_sensor low s).trans on)
  rw [if_pos low] at run
  have vdue : v.rst.resetDue = none := by rw [rst]; exact due
  refine ⟨fun rails trip => ?_, fun trip stop rails serves run' noStop stopped fatal shows => ?_, fun trip stop held => ?_⟩
  · obtain ⟨service, last, tripped, off, number, clear⟩ := hardTrip_spec k.val v
    rw [sensorActs_trip rails trip, settled_of_none clear] at run
    refine ⟨_, run, ?_⟩
    rw [settleAlert_rst, settleAlert_pwr, ← rst]
    exact ⟨service, last, tripped, off, number⟩
  · have before : StopReady s := ⟨by rwa [only] at rails, serves, run', noStop, stopped, fatal, shows⟩
    have ready : StopReady v := before.of_frame (by rw [only]) (by rw [only]) rst (by rw [only])
    obtain ⟨service, cause, mem, -⟩ := sample_stops ready vdue trip stop
    exact ⟨_, run, service, cause, mem⟩
  · rw [sample_kept vdue trip stop (by rw [only]; exact held)] at run
    have same : sensor (settleAlert v) k.val = sensor v k.val := by unfold sensor; rw [settleAlert_pwr]
    refine ⟨_, run, same, ?_, ?_, ?_, ?_⟩
    · rw [settleAlert_rst, rst]
    · rw [settleAlert_pwr, only]
    · rw [same, sampled]
    · rw [same, reading]

/-! ### Stacks (R169, R188, R359; log entry 87) -/

theorem sensorPlace_stack (i : Nat) : sensorPlace (156 + i) = .hbm i := by
  unfold sensorPlace
  simp only [show ¬156 + i < 144 by omega, show ¬156 + i < 148 by omega, show ¬156 + i < 152 by omega, show ¬156 + i < 154 by omega,
    show ¬156 + i < 156 by omega, if_false, Nat.add_sub_cancel_left]

theorem stackThresholds (i : Nat) : tripThreshold (156 + i) = none ∧ stopThreshold (156 + i) = some 95 := by
  unfold tripThreshold stopThreshold
  rw [sensorPlace_stack]
  exact ⟨rfl, rfl⟩

theorem readable_stack (i : Fin 6) (s : State) :
    readable s (156 + i.val) = (s.pwr.auxOn && (decide (s.ident.ml = false ∨ i.val < 4) && (hstack s i.val).up)) := by
  have fitted : (156 + i.val < if s.ident.ml = true then 160 else 162) ↔ (s.ident.ml = false ∨ i.val < 4) := by
    have := i.isLt
    cases s.ident.ml <;> simp <;> omega
  unfold readable
  rw [Nat.add_sub_cancel_left, decide_eq_false (show ¬156 + i.val < 156 by omega), Bool.false_or, decide_eq_decide.mpr fitted]

/-- The temperature byte of a stack, in whole °C. -/
theorem reportByte {temp : Int} (low : 0 ≤ temp) (high : temp ≤ 1520) :
    ((BitVec.ofInt 8 (max 0 (min 255 (temp / 16)))).toNat : Int) = temp / 16 := by
  rw [BitVec.toNat_ofInt]
  omega

theorem stackRow (i : Fin 6) (k : Fin 162) (temp : Int) (s : State) (hk : k.val = 156 + i.val) (due : s.rst.resetDue = none) :
    (s.ident.ml = true → 4 ≤ i.val → exec (.sensorSample k temp) s = .next s)
    ∧ (s.ident.ml = false ∨ i.val < 4 →
      (s.pwr.auxOn = false ∨ (hstack s i.val).up = false → exec (.sensorSample k temp) s = .next s)
      ∧ (s.pwr.auxOn = true → (hstack s i.val).up = true →
        (temp ≤ 1520 → s.pwr.stopHeld = [] → ∃ t, exec (.sensorSample k temp) s = .next t ∧ (hstack t i.val).refx2 = decide (1360 < temp)
          ∧ (0 ≤ temp → ((hstack t i.val).temp.toNat : Int) = temp / 16) ∧ (∀ j, j ≠ i.val → hstack t j = hstack s j)
          ∧ t.rst = s.rst ∧ t.pwr.stop = s.pwr.stop)
        ∧ (1520 < temp → s.pwr.railsOn = true → mrtServes s = true → s.pwr.stopRun = false → s.pwr.stop = none → s.pwr.stopped = false →
          s.rst.fatalHeld = false → s.shows = [] → ∃ t, exec (.sensorSample k temp) s = .next t ∧ (hstack t i.val).refx2 = true
            ∧ t.rst.service = .stopping ∧ t.pwr.stop = some (.sensor k.val) ∧ k.val ∈ t.pwr.stopHeld))) := by
  have reads : readable s k.val = _ := hk ▸ readable_stack i s
  refine ⟨fun ml high => exec_sensorSample_unread temp (by rw [reads]; simp [ml]; omega), fun fitted => ⟨fun off => ?_, fun on up => ?_⟩⟩
  · refine exec_sensorSample_unread temp ?_
    rw [reads]
    rcases off with off | off <;> simp [off]
  · have run := exec_sensorSample temp (reads.trans (by simp [on, up, fitted]))
    rw [if_neg (by omega), hk, Nat.add_sub_cancel_left, ← hk] at run
    obtain ⟨frame, own, other, value⟩ := takeReport_spec i.val temp s
    generalize takeReport i.val temp s = v at run frame own other value
    rw [← hk] at value
    obtain ⟨tripTh, stopTh⟩ := stackThresholds i.val
    rw [← hk] at tripTh stopTh
    have trip : aboveDeg v k.val (tripThreshold k.val) = false := by rw [tripTh]; rfl
    have above : aboveDeg v k.val (stopThreshold k.val) = decide (1520 < temp) := by
      rw [stopTh, aboveDeg, value]
      rfl
    have vdue : v.rst.resetDue = none := by rw [frame]; exact due
    refine ⟨fun cool held => ?_, fun hot rails serves run' noStop stopped fatal shows => ?_⟩
    · rw [sample_kept vdue trip (above.trans (decide_eq_false (not_lt.mpr cool))) (by rw [frame]; exact held)] at run
      have same (j : Nat) : hstack (settleAlert v) j = hstack v j := by unfold hstack; rw [settleAlert_hbm]
      refine ⟨_, run, ?_, fun low => ?_, fun j hj => (same j).trans (other j hj), ?_, ?_⟩
      · rw [same, own]
        rfl
      · rw [same, own]
        exact reportByte low cool
      · rw [settleAlert_rst, frame]
      · rw [settleAlert_pwr, frame]
    · have before : StopReady s := ⟨rails, serves, run', noStop, stopped, fatal, shows⟩
      have ready : StopReady v := before.of_frame (by rw [frame]) (by rw [frame]) (by rw [frame]) (by rw [frame])
      obtain ⟨service, cause, mem, hbm⟩ := sample_stops ready vdue trip (above.trans (decide_eq_true hot))
      refine ⟨_, run, ?_, service, cause, mem⟩
      rw [hstack, hbm, ← hstack, own]
      exact decide_eq_true (show 1360 < temp by omega)

end Sys2Proof.Machine
end

section
/-! PROOFS. Power meters, thermal caps, input power, domains and sensors. -/

namespace Sys2Proof.Machine

open Sys2Proof Sys2Proof.Machine.Tables

/-! ### Quads' power (R354, R359, R360) -/

/-- Nothing differs but the power of Quads. -/
def OnlyQuads (s t : State) : Prop := t = { s with pwr.quads := t.pwr.quads }

theorem OnlyQuads.trans {s t u : State} (h : OnlyQuads s t) (k : OnlyQuads t u) : OnlyQuads s u :=
  Eq.trans k (by unfold OnlyQuads at h; rw [h])

theorem onlyQuads_modQuadPwr (z : Nat) (f : QuadPwr → QuadPwr) (s : State) : OnlyQuads s (modQuadPwr z f s) := rfl

theorem noteThrottle_onlyQuads (z : Nat) (s : State) : OnlyQuads s (noteThrottle z s) := by
  unfold noteThrottle
  split <;> rfl

/-- Noting a throttle leaves Quad z but for when it ran throttled. -/
theorem quadPwr_noteThrottle (z : Nat) (s : State) : ∃ a, quadPwr (noteThrottle z s) z = { quadPwr s z with thrAt := a } := by
  unfold noteThrottle
  split
  · exact ⟨_, quadPwr_modQuadPwr_same ..⟩
  · exact ⟨_, rfl⟩

/-- A Quad that its meter held counts 64 Marble cycles of pause (R354). -/
def pauseCounted (z : Nat) (s : State) : State :=
  if (quadPwr s z).paused then { s with pwr.mpause := s.pwr.mpause + 64 } else s

theorem pauseCounted_spec (z : Nat) (s : State) : pauseCounted z s = { s with pwr := (pauseCounted z s).pwr }
    ∧ (pauseCounted z s).pwr.mpause = s.pwr.mpause + (if (quadPwr s z).paused then 64 else 0)
    ∧ quadPwr (pauseCounted z s) z = quadPwr s z := by
  unfold pauseCounted
  split
  · exact ⟨rfl, rfl, rfl⟩
  · exact ⟨rfl, (BitVec.add_zero _).symm, rfl⟩

/-- A Quad's meter after 64 Marble cycles: its Marbles are held while the energy is over the cap (R354). -/
def meterRead (energy : Nat) (v : DWord) (x : QuadPwr) : QuadPwr :=
  { x with paused := decide (100 * marbleCap x < energy), metered := v.setWidth 8 }

theorem exec_marblePowerMeter (z : ZoeId) (energy : Nat) (s : State) : exec (.marblePowerMeter z energy) s
    = .next (noteThrottle z.val (useFree (modQuadPwr z.val (meterRead energy (freeVal s)) (noteThrottle z.val (pauseCounted z.val s))))) := rfl

theorem marbleMeterRow (z : ZoeId) (energy : Nat) (s : State) :
    let q := quadPwr s z.val
    ∃ t, exec (.marblePowerMeter z energy) s = .next t ∧ t = { s with pwr := t.pwr, free := s.free + 1 }
      ∧ ((quadPwr t z.val).paused = true ↔ 100 * Min.min (10 * q.marble) (Min.min q.ramp q.thermal) < energy)
      ∧ t.pwr.mpause = s.pwr.mpause + (if q.paused then 64 else 0) ∧ (quadPwr t z.val).thermal = q.thermal
      ∧ (quadPwr t z.val).marble = q.marble := by
  intro q
  obtain ⟨counted, mpause, quad⟩ := pauseCounted_spec z.val s
  obtain ⟨a, ha⟩ := quadPwr_noteThrottle z.val (pauseCounted z.val s)
  have metered : OnlyQuads _ (modQuadPwr z.val (meterRead energy (freeVal s)) (noteThrottle z.val (pauseCounted z.val s))) :=
    (noteThrottle_onlyQuads z.val (pauseCounted z.val s)).trans (onlyQuads_modQuadPwr ..)
  have read := quadPwr_modQuadPwr_same z.val (meterRead energy (freeVal s)) (noteThrottle z.val (pauseCounted z.val s))
  rw [ha, quad] at read
  rw [exec_marblePowerMeter]
  generalize modQuadPwr z.val (meterRead energy (freeVal s)) (noteThrottle z.val (pauseCounted z.val s)) = w at *
  generalize pauseCounted z.val s = p at *
  obtain ⟨b, hb⟩ := quadPwr_noteThrottle z.val (useFree w)
  have noted := noteThrottle_onlyQuads z.val (useFree w)
  have last : quadPwr (useFree w) z.val = quadPwr w z.val := rfl
  rw [last, read] at hb
  refine ⟨_, rfl, ?_, ?_, ?_, ?_, ?_⟩
  · rw [noted, metered, counted]
    rfl
  · rw [hb]
    exact decide_eq_true_iff
  · rw [← mpause, noted, metered]
    rfl
  · rw [hb]
    rfl
  · rw [hb]
    rfl

/-! ### Thermal caps (R359, R360) -/

/-- A vector of the PF leaves the VFs. -/
theorem signalVec_pf_vfs (vec : Nat) (s : State) : (signalVec .pf vec s).host.vfs = s.host.vfs := by
  unfold signalVec
  dsimp only
  repeat' split
  all_goals rfl

theorem settleAlert_pf (s : State) : settleAlert s
    = { s with side.alerts := (settleAlert s).side.alerts, host.pf := (settleAlert s).host.pf, out := (settleAlert s).out } := by
  have vfs : (settleAlert s).host.vfs = s.host.vfs := by
    unfold settleAlert
    dsimp only
    split
    · rfl
    · exact signalVec_pf_vfs ..
  have frame := settleAlert_frame s
  rw [vfs, ← settleAlert_alerts] at frame
  exact frame

/-- Whether a sensor of a list reads above a temperature. -/
theorem any_above (s : State) (ds : List Nat) (c : Int) :
    ds.any (fun k => decide (deg c < (sensor s k).value)) = true ↔ ∃ k ∈ ds, 16 * c < (sensor s k).value := by
  simp only [List.any_eq_true, decide_eq_true_eq]
  rfl

theorem not_any_above {s : State} {ds : List Nat} {c : Int} (h : ¬∃ k ∈ ds, 16 * c < (sensor s k).value) :
    ¬ds.any (fun k => decide (deg c < (sensor s k).value)) = true := fun any => h ((any_above ..).mp any)

/-- A sensor above a temperature is above each lower one. -/
theorem above_mono {s : State} {ds : List Nat} {c d : Int} (h : c ≤ d) (above : ∃ k ∈ ds, 16 * d < (sensor s k).value) :
    ∃ k ∈ ds, 16 * c < (sensor s k).value := by
  obtain ⟨k, hk, hot⟩ := above
  exact ⟨k, hk, by omega⟩

/-- Below its release point a throttle clears. -/
theorem throttle_clear {s : State} {ds : List Nat} {th : Int} (was : Bool) (h : ¬∃ k ∈ ds, 16 * (th - 2) < (sensor s k).value) :
    throttle s was ds th = false := by
  have low := Bool.eq_false_iff.mpr (not_any_above h)
  have off := Bool.eq_false_iff.mpr (not_any_above (c := th) (mt (above_mono (by omega)) h))
  unfold throttle
  rw [low, off, Bool.and_false, Bool.or_false]

theorem throttleFall_logic {s : State} {z : Nat} (h : ∃ k ∈ logicDiodes z, 16 * 95 < (sensor s k).value) : throttleFall s z = 10 := by
  unfold throttleFall
  dsimp only
  rw [if_pos ((any_above ..).mpr h)]
  split <;> rfl

theorem throttleFall_light {s : State} {z : Nat} (cool : ¬∃ k ∈ logicDiodes z, 16 * 95 < (sensor s k).value)
    (h : ∃ k ∈ lightDiodes z, 16 * 62 < (sensor s k).value) : throttleFall s z = 5 := by
  unfold throttleFall
  dsimp only
  rw [if_neg (not_any_above cool), if_pos ((any_above ..).mpr h)]
  rfl

theorem throttleFall_none {s : State} {z : Nat} (logic : ¬∃ k ∈ logicDiodes z, 16 * 95 < (sensor s k).value)
    (light : ¬∃ k ∈ lightDiodes z, 16 * 62 < (sensor s k).value) : throttleFall s z = 0 := by
  unfold throttleFall
  dsimp only
  rw [if_neg (not_any_above logic), if_neg (not_any_above light)]
  rfl

/-- The thermal cap of Quad z a millisecond later (R360). -/
def nextThermal (s : State) (z : Nat) : Nat :=
  let q := quadPwr s z
  if 0 < throttleFall s z then max 10 (q.thermal - throttleFall s z)
  else if throttle s q.thrLight (lightDiodes z) 62 || throttle s q.thrLogic (logicDiodes z) 95 then q.thermal
  else min 60 (q.thermal + 5)

theorem nextThermal_falls {s : State} {z n : Nat} (h : throttleFall s z = n) (fall : 0 < n) :
    nextThermal s z = max 10 ((quadPwr s z).thermal - n) := by
  subst h
  exact if_pos fall

theorem nextThermal_rises {s : State} {z : Nat} (logic : ¬∃ k ∈ logicDiodes z, 16 * 93 < (sensor s k).value)
    (light : ¬∃ k ∈ lightDiodes z, 16 * 60 < (sensor s k).value) : nextThermal s z = min 60 ((quadPwr s z).thermal + 5) := by
  have still := throttleFall_none (mt (above_mono (by decide)) logic) (mt (above_mono (by decide)) light)
  unfold nextThermal
  dsimp only
  rw [still, throttle_clear _ (by exact light), throttle_clear _ (by exact logic)]
  rfl

/-- A Quad's throttles and caps a millisecond later, from those of a state (R354, R359, R360). -/
def capsUpdated (s : State) (z : Nat) (x : QuadPwr) : QuadPwr :=
  { x with
    thrLight := throttle s (quadPwr s z).thrLight (lightDiodes z) 62, thrLogic := throttle s (quadPwr s z).thrLogic (logicDiodes z) 95
    thermal := nextThermal s z, ramp := min (10 * x.marble) (x.ramp + 5) }

theorem exec_thermalCapUpdate (z : ZoeId) (s : State) : exec (.thermalCapUpdate z) s
    = .next (settleAlert (noteThrottle z.val (modQuadPwr z.val (capsUpdated s z.val) (noteThrottle z.val s)))) := rfl

theorem thermalRow (z : ZoeId) (s : State) :
    let q := quadPwr s z.val
    let above (ds : List Nat) (c : Int) : Prop := ∃ k ∈ ds, 16 * c < (sensor s k).value
    ∃ t, exec (.thermalCapUpdate z) s = .next t ∧ (quadPwr t z.val).ramp = Min.min (10 * q.marble) (q.ramp + 5)
      ∧ (above (logicDiodes z.val) 95 → (quadPwr t z.val).thermal = Max.max 10 (q.thermal - 10))
      ∧ (¬above (logicDiodes z.val) 95 → above (lightDiodes z.val) 62 → (quadPwr t z.val).thermal = Max.max 10 (q.thermal - 5))
      ∧ (¬above (logicDiodes z.val) 93 → ¬above (lightDiodes z.val) 60 → (quadPwr t z.val).thermal = Min.min 60 (q.thermal + 5))
      ∧ t = { s with pwr.quads := t.pwr.quads, side.alerts := t.side.alerts, host.pf := t.host.pf, out := t.out } := by
  intro q above
  obtain ⟨a, ha⟩ := quadPwr_noteThrottle z.val s
  have updated := quadPwr_modQuadPwr_same z.val (capsUpdated s z.val) (noteThrottle z.val s)
  rw [ha] at updated
  rw [exec_thermalCapUpdate]
  generalize hw : modQuadPwr z.val (capsUpdated s z.val) (noteThrottle z.val s) = w at *
  obtain ⟨b, hb⟩ := quadPwr_noteThrottle z.val w
  have only : OnlyQuads s (noteThrottle z.val w) := by
    rw [← hw]
    exact (noteThrottle_onlyQuads ..).trans ((onlyQuads_modQuadPwr ..).trans (noteThrottle_onlyQuads ..))
  have settled : quadPwr (settleAlert (noteThrottle z.val w)) z.val = { capsUpdated s z.val { q with thrAt := a } with thrAt := b } := by
    rw [← updated, ← hb, quadPwr, settleAlert_pwr]
    rfl
  refine ⟨_, rfl, ?_, fun logic => ?_, fun cool light => ?_, fun logic light => ?_, ?_⟩
  · rw [settled]
    rfl
  · rw [settled]
    exact nextThermal_falls (throttleFall_logic logic) (by decide)
  · rw [settled]
    exact nextThermal_falls (throttleFall_light cool light) (by decide)
  · rw [settled]
    exact nextThermal_rises logic light
  · rw [settleAlert_pf, only]

/-! ### Input power (R355, R390) -/

theorem inputNow_spec (dv : Nat) (s : State) : (inputNow dv s).pwr
      = { s.pwr with inputDv := dv, mainOk := (inputNow dv s).pwr.mainOk, overAt := (inputNow dv s).pwr.overAt }
    ∧ (inputNow dv s).flt.nCorr = s.flt.nCorr := by
  unfold inputNow
  dsimp only
  split <;> exact ⟨rfl, rfl⟩

/-- The milliseconds above the envelope with this one (R355). -/
def msAbove (s : State) (watts : Nat) : Nat := if s.pwr.env.toNat < watts then s.pwr.overMs + 1 else 0

/-- The milliseconds below the envelope with this one (R355). -/
def msBelow (s : State) (watts : Nat) : Nat := if watts < s.pwr.env.toNat then s.pwr.underMs + 1 else 0

/-- The input as it was sampled, and the pool restored after a second below the envelope. -/
def inputSampled (watts dv : Nat) (s : State) : State :=
  let t := { s with
    pwr.pin := BitVec.ofNat 10 (min 1023 watts), pwr.volt := BitVec.ofNat 10 (min 1023 dv)
    pwr.overMs := msAbove s watts % 10, pwr.underMs := min 1000 (msBelow s watts) }
  let t := if s.pwr.holdup then t else inputNow dv t
  if 1000 ≤ msBelow s watts then { t with pwr.poolCut := 0 } else t

theorem exec_inputPowerSample (watts dv : Nat) (s : State) : exec (.inputPowerSample watts dv) s
    = .next (settleAlert (
      if msAbove s watts = 10 then
        raiseFault 0x0902 13 0 0xFF (watts - s.pwr.env.toNat) { inputSampled watts dv s with
          pwr.poolCut := (inputSampled watts dv s).pwr.poolCut
            + (100 * (watts - s.pwr.env.toNat) + s.pwr.conv.toNat - 1) / s.pwr.conv.toNat }
      else inputSampled watts dv s)) := rfl

theorem toNat_ofNat_min (n : Nat) : (BitVec.ofNat 10 (min 1023 n)).toNat = min 1023 n := by
  rw [BitVec.toNat_ofNat]
  omega

theorem inputSampled_spec (watts dv : Nat) (s : State) :
    let t := inputSampled watts dv s
    t.pwr.overMs = msAbove s watts % 10 ∧ t.pwr.poolCut = (if 1000 ≤ msBelow s watts then 0 else s.pwr.poolCut)
      ∧ t.pwr.pin.toNat = min 1023 watts ∧ t.pwr.volt.toNat = min 1023 dv ∧ t.flt.nCorr = s.flt.nCorr := by
  unfold inputSampled
  dsimp only
  generalize hu : ({ s with
    pwr.pin := BitVec.ofNat 10 (min 1023 watts), pwr.volt := BitVec.ofNat 10 (min 1023 dv)
    pwr.overMs := msAbove s watts % 10, pwr.underMs := min 1000 (msBelow s watts) } : State) = u
  have base : u.pwr.overMs = msAbove s watts % 10 ∧ u.pwr.poolCut = s.pwr.poolCut ∧ u.pwr.pin.toNat = min 1023 watts
      ∧ u.pwr.volt.toNat = min 1023 dv ∧ u.flt.nCorr = s.flt.nCorr := by
    subst hu
    exact ⟨rfl, rfl, toNat_ofNat_min _, toNat_ofNat_min _, rfl⟩
  generalize hv : (if s.pwr.holdup = true then u else inputNow dv u) = v
  have ranged : v.pwr.overMs = u.pwr.overMs ∧ v.pwr.poolCut = u.pwr.poolCut ∧ v.pwr.pin = u.pwr.pin ∧ v.pwr.volt = u.pwr.volt
      ∧ v.flt.nCorr = u.flt.nCorr := by
    subst hv
    split
    · exact ⟨rfl, rfl, rfl, rfl, rfl⟩
    · obtain ⟨pwr, count⟩ := inputNow_spec dv u
      rw [pwr]
      exact ⟨rfl, rfl, rfl, rfl, count⟩
  obtain ⟨ms, cut, pin, volt, count⟩ := ranged
  rw [← ms, ← cut, ← pin, ← volt, ← count] at base
  obtain ⟨ms, cut, pin, volt, count⟩ := base
  split
  · exact ⟨ms, rfl, pin, volt, count⟩
  · exact ⟨ms, cut, pin, volt, count⟩

/-- Where the tenth millisecond above the envelope has not come, the sample changes no more than was measured. -/
theorem exec_inputPowerSample_quiet {watts : Nat} {s : State} (dv : Nat) (h : msAbove s watts ≠ 10) :
    exec (.inputPowerSample watts dv) s = .next (settleAlert (inputSampled watts dv s)) := by
  rw [exec_inputPowerSample, if_neg h]

theorem inputPowerRow (watts dv : Nat) (s : State) :
    let env := s.pwr.env.toNat
    (watts ≤ env → s.pwr.underMs < 999 → ∃ t, exec (.inputPowerSample watts dv) s = .next t ∧ t.pwr.overMs = 0 ∧ t.pwr.poolCut = s.pwr.poolCut
      ∧ t.pwr.pin.toNat = Min.min 1023 watts ∧ t.pwr.volt.toNat = Min.min 1023 dv ∧ t.flt.nCorr = s.flt.nCorr)
    ∧ (env < watts → s.pwr.overMs < 9 → ∃ t, exec (.inputPowerSample watts dv) s = .next t ∧ t.pwr.overMs = s.pwr.overMs + 1
      ∧ t.pwr.poolCut = s.pwr.poolCut)
    ∧ (env < watts → s.pwr.overMs = 9 → ∃ t, exec (.inputPowerSample watts dv) s = .next t ∧ t.pwr.overMs = 0 ∧ t.flt.nCorr = s.flt.nCorr + 1
      ∧ t.pwr.poolCut = s.pwr.poolCut + (100 * (watts - env) + s.pwr.conv.toNat - 1) / s.pwr.conv.toNat)
    ∧ (watts < env → 999 ≤ s.pwr.underMs → ∃ t, exec (.inputPowerSample watts dv) s = .next t ∧ t.pwr.poolCut = 0) := by
  intro env
  obtain ⟨ms, cut, pin, volt, count⟩ := inputSampled_spec watts dv s
  have notBelow (h : env < watts) : msBelow s watts = 0 := if_neg (Nat.lt_asymm h)
  have notAbove (h : watts ≤ env) : msAbove s watts = 0 := if_neg (Nat.not_lt.mpr h)
  refine ⟨fun low short => ?_, fun high few => ?_, fun high nine => ?_, fun low long => ?_⟩
  · have below : ¬1000 ≤ msBelow s watts := by unfold msBelow; split <;> omega
    refine ⟨_, exec_inputPowerSample_quiet dv (by rw [notAbove low]; decide), ?_⟩
    rw [settleAlert_pwr, settleAlert_flt, ms, cut, if_neg below, notAbove low]
    exact ⟨rfl, rfl, pin, volt, count⟩
  · have above : msAbove s watts = s.pwr.overMs + 1 := if_pos high
    refine ⟨_, exec_inputPowerSample_quiet dv (by omega), ?_⟩
    rw [settleAlert_pwr, ms, cut, notBelow high, above]
    exact ⟨Nat.mod_eq_of_lt (by omega), rfl⟩
  · have above : msAbove s watts = 10 := (if_pos high).trans (congrArg (· + 1) nine)
    rw [exec_inputPowerSample, if_pos above]
    refine ⟨_, rfl, ?_⟩
    rw [settleAlert_pwr, settleAlert_flt, raiseFault_pwr, raiseFault_nCorr (by decide)]
    refine ⟨by rw [ms, above], by rw [count], ?_⟩
    rw [cut, notBelow high]
    rfl
  · have below : msBelow s watts = s.pwr.underMs + 1 := if_pos low
    refine ⟨_, exec_inputPowerSample_quiet dv (by rw [notAbove (Nat.le_of_lt low)]; decide), ?_⟩
    rw [settleAlert_pwr, cut, if_pos (by omega)]

/-! ### The obligation -/

/-- Settles O45: the meters and caps by what each changes on its Quad, domains by the blocks that they supply, samples by the trip, the
stop or neither that the sensor's value leads to. -/
theorem metersAndSensors : Obligations.MetersAndSensors := fun s =>
  ⟨fun z energy => marbleMeterRow z energy s, fun z => thermalRow z s, fun watts dv => inputPowerRow watts dv s,
    fun d => ⟨exec_domainOutOfRegulation_still, fun fitted rails there =>
      ⟨_, exec_domainOutOfRegulation fitted rails there, domainRemoved d s⟩⟩,
    fun k temp low => sensorRow k temp s low, fun i k temp hk due => stackRow i k temp s hk due⟩

end Sys2Proof.Machine
end
